-- ==== Sys2Proof/Word.lean ====
section
/-! DEFINITION. The word types of the model and their plainest arithmetic: bytes, the 32-bit words of the
host window (00 R8), and saturating counts. -/

namespace Sys2Proof

/-- A byte of a packet, a buffer or DRAM. -/
abbrev Byte := BitVec 8

/-- A register of the host window is 32 bits wide and accessed as a whole word (00 R8). -/
abbrev Word := BitVec 32

/-- A byte with a given value modulo 256. -/
def byte (n : Nat) : Byte := BitVec.ofNat 8 n

end Sys2Proof
end

