-- ==== Sys2Proof/Syntax/Operands.lean ====
section
/-! DEFINITION. The operand types of the commands: who sends a packet, the request a command packet carries
once steps 1 to 6 of 02 Table 2-8 have passed it, and the names of ports, domains, sensors and inputs. -/

namespace Sys2Proof

/-- A source of command packets: the host port, or an IPv4 address and UDP port pair (02 R53). -/
inductive Source where
  | host
  | net (ip : Nat) (port : Nat)
deriving DecidableEq, Repr, Inhabited

/-- The two network ports (03 R74). -/
inductive NetPort where
  | A
  | B
deriving DecidableEq, Repr, Inhabited

/-- A command packet's content after the checks of steps 1 to 6 of 02 Table 2-8: the header fields, the
schedule time when SCHED is set, and the parameter bytes (02 R46, Tables 2-4 and 2-5). -/
structure Req where
  src : Source
  tag : Nat
  auth : Bool
  alive : Bool
  replyReq : Bool
  broadcast : Bool
  sched : Option Nat
  target : BitVec 64
  params : List Byte
deriving DecidableEq, Repr, Inhabited

/-- The power domains (16 Table 16-4) that can be voted, or that hold a target block. `always` stands for
CORE, NET, NIGHTWATCH and SAFETY, which are never asleep while packets are executed (18 Table 18-1). -/
inductive Domain where
  | always
  | mem
  | meter
  | pixel
  | scan (group : Fin 6)
deriving DecidableEq, Repr, Inhabited

/-- The 13 safety inputs in the bit order of 15 Table 15-9, offset 4. -/
inductive SafetyInput where
  | estopA | estopB | doorNC | doorNO | leftNO | leftNC | rightNO | rightNC | lcA | lcB | srst | sfbLight | sfbMotion
deriving DecidableEq, Repr, Inhabited

/-- The input pairs that a discrepancy is judged on (15 R336). -/
inductive SafetyPair where
  | estop | door | left | right | lc
deriving DecidableEq, Repr, Inhabited

/-- The two output pairs (15 Table 15-6). -/
inductive OutPair where
  | light | motion
deriving DecidableEq, Repr, Inhabited

/-- The four safety outputs (15 R333). -/
inductive SafetyOut where
  | lightP | lightH | motionP | motionH
deriving DecidableEq, Repr, Inhabited

/-- The wake sources of 16 Table 16-9. -/
inductive WakeSource where
  | wakeN | hostPort | rtcAlarm | portA | safety
deriving DecidableEq, Repr, Inhabited

/-- Requesters of headroom (07 Table 7-4). Rail start-up and complement images have rules of their own. -/
inductive Requester where
  | twinkle | diagRun | calibration | bist | railStart | complement
deriving DecidableEq, Repr, Inhabited

/-- A request for headroom: requester, rail, window, current in 10 mA and duration in ns (07 R191). A window is
named by its scan position or gap, as a number. -/
structure HeadroomReq where
  who : Requester
  rail : Fin 4
  window : Nat
  current : Nat
  duration : Nat
deriving DecidableEq, Repr, Inhabited

/-- The dataset of a PTP master as an Announce message carries it (03 R89; the comparison order of IEEE 1588). -/
structure Announce where
  domain : Nat
  priority1 : Nat
  clockClass : Nat
  accuracy : Nat
  variance : Nat
  priority2 : Nat
  identity : Nat
  stepsRemoved : Nat
  leapSeconds : Nat
  logInterval : Int
  tlv : List Byte
deriving DecidableEq, Repr, Inhabited

/-- What the messages of one Sync and Delay_Req exchange bring: the master's two timestamps and the correction sums, in units of
2^-16 ns, the unit of a correctionField (03, pseudocode before R91), the logSyncInterval of its Sync and the
logMinDelayReqInterval of its Delay_Resp (03 Table 3-6). The tile's own timestamps stand in its state. -/
structure PtpTimes where
  t1 : Int
  t4 : Int
  cSync : Int
  cDreq : Int
  logSync : Int
  logDelayReq : Int
deriving DecidableEq, Repr, Inhabited

/-- The supply faults of 19 Table 19-7 that give BOR, rows 1 to 5. -/
inductive SupplyFault where
  | vinLow | vinHigh | regulation | short | dieTrip
deriving DecidableEq, Repr, Inhabited

/-- The regulators of 19 Table 19-3 that can be out of regulation or shorted. -/
inductive Buck where
  | vcore | vdram | vdramq | vio
deriving DecidableEq, Repr, Inhabited

/-- A measurement of one calibration slice (12 Table 12-2): the candidate codes that the measurement gives for
the item, one per port, diode, lane or rail as the item has them, or that a port did not drive. -/
structure CalMeasure where
  codes : List Int
  leftOut : List (Fin 48)
deriving DecidableEq, Repr, Inhabited

/-- What the boot finds by its own tests (16 R375): the blocks that fail the self-test with the failing slice of each, the
calibration measures, and whether the flash trains at 200 and at 133 MHz. -/
structure BootFindings where
  failedBlocks : List (Nat × Nat)
  calibration : List CalMeasure
  flash200 : Bool
  flash133 : Bool
deriving DecidableEq, Repr, Inhabited

end Sys2Proof
end

