-- ==== Sys2Proof/Syntax.lean ====
section
/-! DEFINITION. The commands of the block: one constructor per row of spec/opcode_table.json, in the table's
order, each docstring the row's rule. Rows NOP to TELEMETRY_READ are command-engine opcodes and carry the
request of their packet; a row that stands for one action of an opcode (RESET_COLD) forces that action byte. The
other rows are host-port transactions, register writes and events, with what they bring from outside. -/

namespace Sys2Proof

/-- The commands of Pevanak (spec/opcode_table.json). -/
inductive Instr where
  /-- R40, R41: a transaction without a served data phase; `code` is STATUS (0x00), or an instruction that 02 Table 2-2 lacks. -/
  | status (code : BitVec 8)
  /-- R40. -/
  | windowWrite (quad : Bool) (addr : BitVec 24) (words : List Word)
  /-- R71. -/
  | windowRead (quad : Bool) (addr : BitVec 24) (count : Nat)
  /-- R42. -/
  | packetWrite (quad : Bool) (addr : BitVec 24) (bytes : List Byte)
  /-- R42. -/
  | replyRead (quad : Bool) (offset : BitVec 24) (count : Nat)
  /-- R57. -/
  | nop (r : Req)
  /-- R400. -/
  | identify (r : Req)
  /-- R63. -/
  | query (r : Req)
  /-- R64. -/
  | fetchPartial (r : Req)
  /-- R65. -/
  | abort (r : Req)
  /-- R373. -/
  | resetCold (r : Req)
  /-- R373. -/
  | resetWarm (r : Req)
  /-- R68. -/
  | commit (r : Req)
  /-- R400. -/
  | regRead (r : Req)
  /-- R10. -/
  | regWrite (r : Req)
  /-- R406. -/
  | alertRead (r : Req)
  /-- R407. -/
  | keyProvision (r : Req)
  /-- R89. -/
  | timeConfig (r : Req)
  /-- R400. -/
  | timeStatus (r : Req)
  /-- R97. -/
  | scheduleList (r : Req)
  /-- R99. -/
  | scheduleCancel (r : Req)
  /-- R101. -/
  | snapshot (r : Req)
  /-- R408. -/
  | streamSubscribe (r : Req)
  /-- R130. -/
  | streamDrop (r : Req)
  /-- R105. -/
  | bufferAlloc (r : Req)
  /-- R109. -/
  | bufferRelease (r : Req)
  /-- R110. -/
  | bufferWrite (r : Req)
  /-- R119. -/
  | layerSet (r : Req)
  /-- R120. -/
  | layerClear (r : Req)
  /-- R120. -/
  | backgroundSet (r : Req)
  /-- R126. -/
  | writeback (r : Req)
  /-- R131. -/
  | bufferStatus (r : Req)
  /-- R142. -/
  | scalerCoeffLoad (r : Req)
  /-- R150. -/
  | scalerStatus (r : Req)
  /-- R161. -/
  | almanacLoad (r : Req)
  /-- R163. -/
  | almanacSwap (r : Req)
  /-- R166. -/
  | almanacVerify (r : Req)
  /-- R151. -/
  | colourSpaceSet (r : Req)
  /-- R165. -/
  | binTableLoad (r : Req)
  /-- R174. -/
  | agingRead (r : Req)
  /-- R172. -/
  | agingRecastSetSchedule (r : Req)
  /-- R173. -/
  | agingRecastNow (r : Req)
  /-- R172. -/
  | agingRecastSuspend (r : Req)
  /-- R179. -/
  | budgetSet (r : Req)
  /-- R194. -/
  | ledgerRead (r : Req)
  /-- R188. -/
  | ambientSet (r : Req)
  /-- R197. -/
  | programSet (r : Req)
  /-- R218. -/
  | programStatus (r : Req)
  /-- R206. -/
  | camsyncConfig (r : Req)
  /-- R216. -/
  | freeze (r : Req)
  /-- R217. -/
  | blank (r : Req)
  /-- R237. -/
  | chainEnumerate (r : Req)
  /-- R271. -/
  | chainStatus (r : Req)
  /-- R255. -/
  | meridianSet (r : Req)
  /-- R238. -/
  | cellConfig (r : Req)
  /-- R269. -/
  | faultMapRead (r : Req)
  /-- R260. -/
  | diagRunShort (r : Req)
  /-- R260. -/
  | diagRunAdjShort (r : Req)
  /-- R260. -/
  | diagRunOpen (r : Req)
  /-- R259. -/
  | diagRunBallTest (r : Req)
  /-- R267. -/
  | twinkleConfig (r : Req)
  /-- R240. -/
  | rasterSet (r : Req)
  /-- R288. -/
  | thermalConfig (r : Req)
  /-- R289. -/
  | thermalRead (r : Req)
  /-- R297. -/
  | calibrate (r : Req)
  /-- R302. -/
  | trimRead (r : Req)
  /-- R312. -/
  | bistConfig (r : Req)
  /-- R313. -/
  | bistRun (r : Req)
  /-- R314. -/
  | bistReport (r : Req)
  /-- R310. -/
  | blockRestore (r : Req)
  /-- R325. -/
  | checkConfig (r : Req)
  /-- R326. -/
  | checkRun (r : Req)
  /-- R325. -/
  | checkContextRead (r : Req)
  /-- R325. -/
  | checkContextWrite (r : Req)
  /-- R352. -/
  | safetyStatus (r : Req)
  /-- R349. -/
  | safetyConfig (r : Req)
  /-- R347. -/
  | safeOffRequest (r : Req)
  /-- R361. -/
  | powerVoteWithdraw (r : Req)
  /-- R361. -/
  | powerVoteAdd (r : Req)
  /-- R361. -/
  | powerVoteTakeOver (r : Req)
  /-- R364. -/
  | powerStateRun (r : Req)
  /-- R363. -/
  | powerStateTwilight (r : Req)
  /-- R365. -/
  | powerStateNadir (r : Req)
  /-- R365. -/
  | orderlyShutdown (r : Req)
  /-- R358. -/
  | plevelSet (r : Req)
  /-- R372. -/
  | wakeRecordRead (r : Req)
  /-- R412. -/
  | nvmRead (r : Req)
  /-- R385. -/
  | nvmWrite (r : Req)
  /-- R390. -/
  | imageStage (r : Req)
  /-- R392. -/
  | imageActivateStaged (r : Req)
  /-- R392. -/
  | imageActivateRevert (r : Req)
  /-- R392. -/
  | imageActivateEndProbation (r : Req)
  /-- R397. -/
  | journalStatus (r : Req)
  /-- R413. -/
  | telemetryConfig (r : Req)
  /-- R413. -/
  | telemetryRead (r : Req)
  /-- R56. -/
  | commandPolicyWrite (byRegWrite : Bool) (auth : Bool) (v : Word)
  /-- R75. -/
  | portConfigWrite (p : NetPort) (v : Word)
  /-- R244. -/
  | chainPortTrimWrite (p : Fin 48) (v : Word)
  /-- R244. -/
  | chainPortSkewWrite (p : Fin 48) (v : Word)
  /-- R320. -/
  | chkCtrlWrite (u : Fin 4) (v : Word)
  /-- R320. -/
  | chkRestart (u : Fin 4)
  /-- R320. -/
  | chkPolyWrite (u : Fin 4) (v : Word)
  /-- R320. -/
  | chkInitWrite (u : Fin 4) (v : Word)
  /-- R320. -/
  | chkValueWrite (u : Fin 4) (v : Word)
  /-- R321. -/
  | feed8 (u : Fin 4) (v : Word)
  /-- R321. -/
  | feed16 (u : Fin 4) (v : Word)
  /-- R321. -/
  | feed32 (u : Fin 4) (v : Word)
  /-- R324. -/
  | aliveCtrlWrite (u : Fin 4) (v : Word)
  /-- R324. -/
  | aliveFeed (u : Fin 4) (v : Word)
  /-- R10. -/
  | registerWrite (addr : Nat) (v : Word)
  /-- R78. -/
  | ethernetFrameReceive (p : NetPort) (frame : List Byte)
  /-- R76. -/
  | arpRequest (p : NetPort) (senderMac senderIp targetIp : Nat)
  /-- R76. -/
  | icmpEchoRequest (p : NetPort) (srcMac srcIp dstIp : Nat) (body : List Byte)
  /-- R84. -/
  | igmpQuery (p : NetPort) (version group robustness queryInterval : Nat)
  /-- R79. -/
  | igmpReportSnooped (p : NetPort) (group : Nat)
  /-- R79. -/
  | snoopMembershipExpiry (p : NetPort) (group : Nat)
  /-- R84. -/
  | igmpReportRepeat
  /-- R80. -/
  | ownMacFrame (p : NetPort)
  /-- R80. -/
  | loopAlertClear
  /-- R75. -/
  | portLinkChange (p : NetPort) (up : Bool)
  /-- R83. -/
  | st2110Packet (p : NetPort) (h : Fin 8) (payload : List Byte) (full : Bool)
  /-- R85. -/
  | nativePacket (p : NetPort) (h : Fin 8) (payload : List Byte) (full : Bool)
  /-- R404. -/
  | bulkBlock (srcIp : Nat) (payload : List Byte)
  /-- R404. -/
  | bulkOperationTimeout
  /-- R88. -/
  | ptpEventMessage (p : NetPort) (frame : List Byte) (ticks : Nat)
  /-- R89. -/
  | ptpAnnounce (p : NetPort) (a : Announce)
  /-- R89. -/
  | announceReceiptTimeout (p : NetPort)
  /-- R91. -/
  | offsetSample (t : PtpTimes)
  /-- R94. -/
  | holdoverEntry
  /-- R95. -/
  | holdover30s
  /-- R371. -/
  | rtcUpdate
  /-- R18. -/
  | frameBoundary
  /-- R99. -/
  | ephemerisLoad
  /-- R128. -/
  | streamLossTimeout (l : Fin 8)
  /-- R129. -/
  | streamReturn (l : Fin 8)
  /-- R186. -/
  | magnitudeFix
  /-- R209. -/
  | presentationFrameStart
  /-- R214. -/
  | prefetchStart
  /-- R199. -/
  | uploadStart
  /-- R215. -/
  | fifoUnderrun (p : Fin 48) (row : Fin 32)
  /-- R248. -/
  | latchWindowOpen
  /-- R235. -/
  | latchLaunch
  /-- R204. -/
  | transit
  /-- R207. -/
  | camSyncEdge (i : Fin 5) (t : Nat) (falling : Bool) (width : Nat)
  /-- R207. -/
  | syncEdgeMissing (i : Fin 5)
  /-- R207. -/
  | genlockCheck (i : Fin 5)
  /-- R68. -/
  | heldChangesDiscard
  /-- R63. -/
  | resultsExpiry
  /-- R72. -/
  | implicitVoteWithdraw
  /-- R72. -/
  | domainWakeComplete (d : Domain)
  /-- R191. -/
  | headroomRequest (h : HeadroomReq)
  /-- R192. -/
  | railStart
  /-- R192. -/
  | railStaggerExpiry
  /-- R192. -/
  | railInRegulation (r : Fin 4) (reported : Bool)
  /-- R190. -/
  | shuntMeasurement (r : Fin 4) (microamps : Nat)
  /-- R193. -/
  | inputCurrentSample (mean10ms mean1s : Nat)
  /-- R193. -/
  | inputOvercurrent1s
  /-- R188. -/
  | ambientSensorRead (lux : Option Nat)
  /-- R188. -/
  | ambientFallbackTimeout
  /-- R274. -/
  | diodeConversion (readings : List Int) (coreMilliwatts : Nat)
  /-- R275. -/
  | diodeBroken (d : Fin 6)
  /-- R275. -/
  | diodeReturn (d : Fin 6)
  /-- R276. -/
  | ntcConversion (input : Fin 16) (ratio : Nat)
  /-- R278. -/
  | zoneModelUpdate (millivolts : List (Option Nat))
  /-- R285. -/
  | sensorBroken (i : Fin 16)
  /-- R285. -/
  | sensorReturn (i : Fin 16)
  /-- R281. -/
  | throttleFactorUpdate
  /-- R283. -/
  | flashGraceWindowExpiry
  /-- R284. -/
  | thermalShutdownEnd
  /-- R231. -/
  | reportTrain (p : Fin 48) (errors : List (BitVec 16))
  /-- R233. -/
  | cellReadReply (p : Fin 48) (errors : List (BitVec 16))
  /-- R233. -/
  | cellReadTimeout (p : Fin 48)
  /-- R249. -/
  | localisation (p : Fin 48)
  /-- R251. -/
  | takeoverBurst (l : Fin 24)
  /-- R251. -/
  | takeoverCheck (l : Fin 24)
  /-- R252. -/
  | linkWatchTimeout (p : Fin 48)
  /-- R256. -/
  | restoreTrial (l : Fin 24)
  /-- R260. -/
  | diagSweep
  /-- R261. -/
  | diagMapRead (l : Fin 24) (cell : Fin 100)
  /-- R268. -/
  | cellFailed (l : Fin 24) (cell : Fin 100)
  /-- R263. -/
  | ageSweep
  /-- R265. -/
  | twinkleDispatch
  /-- R170. -/
  | stressSample
  /-- R173. -/
  | recastDue
  /-- R173. -/
  | recastSwap
  /-- R161. -/
  | almanacFileReceived
  /-- R311. -/
  | bistSlice (pass : Bool)
  /-- R309. -/
  | bistRetest (block : Nat) (pass : Bool)
  /-- R311. -/
  | bistCycleOverrun
  /-- R22. -/
  | dramCorrectedRead (addr : Nat) (flips : List (Fin 72))
  /-- R24. -/
  | dramRowRemap (die : Fin 2) (row : Nat)
  /-- R22. -/
  | dramScrub
  /-- R27. -/
  | selfRefreshEntry
  /-- R27. -/
  | selfRefreshExit
  /-- R373. -/
  | watchdogExpiry (core : Fin 4)
  /-- R30. -/
  | restoreHandshake
  /-- R31. -/
  | firmwareAbsent2s
  /-- R392. -/
  | probationHandshakeTimeout
  /-- R392. -/
  | probationEnd
  /-- R381. -/
  | journalCommit
  /-- R382. -/
  | journalScan
  /-- R384. -/
  | journalCompaction
  /-- R393. -/
  | checkpointWrite
  /-- R384. -/
  | checkpointErase
  /-- R393. -/
  | flashScrub (bad : List (Nat × Nat))
  /-- R413. -/
  | telemetrySend
  /-- R356. -/
  | levelChange
  /-- R358. -/
  | demandLevelLower
  /-- R366. -/
  | wakeEvent (w : WakeSource)
  /-- R368. -/
  | wakeStepTimeout
  /-- R374. -/
  | nrstAssert (width : Nat)
  /-- R374. -/
  | nrstRelease
  /-- R374. -/
  | nrstStuck
  /-- R373. -/
  | por
  /-- R419. -/
  | powerUpStep (ready : Bool)
  /-- R419. -/
  | powerUpStepTimeout
  /-- R375. -/
  | boot (f : BootFindings)
  /-- R418. -/
  | bor (vinMillivolts : Nat)
  /-- R421. -/
  | supplyFault (b : Buck) (shorted : Bool)
  /-- R421. -/
  | dieTrip
  /-- R423. -/
  | refinLost
  /-- R423. -/
  | refinRestored
  /-- R424. -/
  | crystalSourceChange (crystal : Bool)
  /-- R433. -/
  | i2cBusStuck (recovered : Bool)
  /-- R433. -/
  | pmbusVoltageTimeout (r : Fin 4)
  /-- R317. -/
  | scanEnter
  /-- R318. -/
  | scanExit
  /-- R331. -/
  | safetyInputChange (i : SafetyInput) (on : Bool)
  /-- R336. -/
  | discrepancyTimeout (p : SafetyPair)
  /-- R338. -/
  | inputTestPulse (fromB : Bool) (failed : List SafetyInput)
  /-- R339. -/
  | outputTestPulse (o : SafetyOut) (readbackOk : Bool)
  /-- R341. -/
  | edmTimeout (p : OutPair)
  /-- R344. -/
  | resetPress (milliseconds : Nat)
  /-- R345. -/
  | srstStuck
  /-- R345. -/
  | srstStuckClear
  /-- R335. -/
  | heartbeatLoss
  /-- R335. -/
  | channelDisagreement (p : OutPair)
  /-- R335. -/
  | safetyMemoryFault
  /-- R348. -/
  | networkSafetyTimeout
  /-- R349. -/
  | safetyConfigTimeout
  /-- R368. -/
  | wakeStepReady
  /-- R294. -/
  | calibrationSlice (m : CalMeasure)
  /-- R126. -/
  | compositeComplete
  /-- R105. -/
  | slideFillComplete
  /-- R326. -/
  | checkRunComplete (u : Fin 4)
  /-- R421. -/
  | borRelease
deriving DecidableEq, Repr, Inhabited

end Sys2Proof
end

