-- ==== Sys2Proof/Machine/Bytes.lean ====
section
/-! DEFINITION. Byte strings as packets, descriptors and files carry them: big-endian fields (00 R8), signed
codes, and the rounding and saturation of fixed-point results (00 R7). -/

namespace Sys2Proof.Machine

/-- The value of byte `i`, 0 past the end. -/
def getB (bs : List Byte) (i : Nat) : Nat := (bs.getD i 0).toNat

/-- `n` bytes of `bs` from offset `off`, fewer at the end of the string. -/
def slice (bs : List Byte) (off n : Nat) : List Byte := (bs.drop off).take n

/-- The big-endian value of a byte string (00 R8). -/
def beVal (bs : List Byte) : Nat := bs.foldl (fun a b => a * 256 + b.toNat) 0

/-- The big-endian field of `n` bytes at offset `off` (00 R8). -/
def be (bs : List Byte) (off n : Nat) : Nat := beVal (slice bs off n)

/-- `v` modulo 256^`n` as `n` big-endian bytes (00 R8). -/
def ube : Nat → Nat → List Byte
  | 0, _ => []
  | n + 1, v => byte (v / 256 ^ n) :: ube n v

/-- One, two, four and eight byte fields. -/
def u8 (v : Nat) : List Byte := ube 1 v
def u16 (v : Nat) : List Byte := ube 2 v
def u32 (v : Nat) : List Byte := ube 4 v
def u64 (v : Nat) : List Byte := ube 8 v

/-- `n` zero bytes. -/
def zeros (n : Nat) : List Byte := List.replicate n 0

/-- A list with `v` in place of the element at `i`; unchanged past the end. -/
def setAt {α : Type} (l : List α) (i : Nat) (v : α) : List α := l.set i v

/-- The list with `f` applied to the element at `i`. -/
def modAt {α : Type} (l : List α) (i : Nat) (f : α → α) : List α := l.modify i f

/-- The two's complement reading of a `bits`-wide code. -/
def signed (bits v : Nat) : Int := if v < 2 ^ (bits - 1) then (v : Int) else (v : Int) - 2 ^ bits

/-- The `bits`-wide two's complement code of `i`. -/
def unsigned (bits : Nat) (i : Int) : Nat := (i % (2 ^ bits : Int)).toNat

/-- Saturation at the ends of a range (00 R7). -/
def clampI (lo hi x : Int) : Int := if x < lo then lo else if hi < x then hi else x

/-- Saturation of an unsigned count at its largest value. -/
def satN (hi x : Nat) : Nat := if hi < x then hi else x

/-- The quotient to the nearest integer with ties away from zero (00 R7); the denominator is positive. -/
def roundDiv (num : Int) (den : Nat) : Int :=
  if 0 ≤ num then (2 * num + den) / (2 * den) else -((2 * (-num) + den) / (2 * den))

/-- The unsigned form of `roundDiv`. -/
def roundDivN (num den : Nat) : Nat := (2 * num + den) / (2 * den)

/-- The nearest integer to a rational, ties away from zero (00 R7). -/
def roundQ (q : Rat) : Int := roundDiv q.num q.den

/-- A signed value as an `n`-byte big-endian field, saturating (00 R7). -/
def sbe (n : Nat) (i : Int) : List Byte :=
  ube n (unsigned (8 * n) (clampI (-(2 ^ (8 * n - 1))) (2 ^ (8 * n - 1) - 1) i))

/-- Bit `k` of a value. -/
def bitN (v k : Nat) : Bool := v.testBit k

/-- The field `[hi:lo]` of a value. -/
def field (v hi lo : Nat) : Nat := v / 2 ^ lo % 2 ^ (hi - lo + 1)

/-- 1 for true and 0 for false. -/
def b2n (b : Bool) : Nat := if b then 1 else 0

/-- The bytes of a big-endian bit mask of `n` entries, bit 7 of the first byte for entry 0, pad bits 0 (02 R70). -/
def maskBytes : List Bool → List Byte
  | a :: b :: c :: d :: e :: f :: g :: h :: t =>
    byte (128 * b2n a + 64 * b2n b + 32 * b2n c + 16 * b2n d + 8 * b2n e + 4 * b2n f + 2 * b2n g + b2n h) :: maskBytes t
  | [] => []
  | [a] => [byte (128 * b2n a)]
  | [a, b] => [byte (128 * b2n a + 64 * b2n b)]
  | [a, b, c] => [byte (128 * b2n a + 64 * b2n b + 32 * b2n c)]
  | [a, b, c, d] => [byte (128 * b2n a + 64 * b2n b + 32 * b2n c + 16 * b2n d)]
  | [a, b, c, d, e] => [byte (128 * b2n a + 64 * b2n b + 32 * b2n c + 16 * b2n d + 8 * b2n e)]
  | [a, b, c, d, e, f] => [byte (128 * b2n a + 64 * b2n b + 32 * b2n c + 16 * b2n d + 8 * b2n e + 4 * b2n f)]
  | [a, b, c, d, e, f, g] =>
    [byte (128 * b2n a + 64 * b2n b + 32 * b2n c + 16 * b2n d + 8 * b2n e + 4 * b2n f + 2 * b2n g)]

/-- The list cut into pieces of `n`, the last one shorter; `fuel` bounds the pieces. -/
def chunksFuel {α : Type} (n : Nat) : Nat → List α → List (List α)
  | 0, _ => []
  | fuel + 1, l => if l.isEmpty then [] else l.take n :: chunksFuel n fuel (l.drop n)

/-- The list cut into pieces of `n`. -/
def chunks {α : Type} (n : Nat) (l : List α) : List (List α) := chunksFuel n (l.length + 1) l

/-- Whether a list repeats an element. -/
def hasDup {α : Type} [BEq α] : List α → Bool
  | [] => false
  | a :: t => t.contains a || hasDup t

/-- Pads a byte string with zeros, or cuts it, to `n` bytes. -/
def padTo (n : Nat) (bs : List Byte) : List Byte := bs.take n ++ zeros (n - bs.length)

end Sys2Proof.Machine
end

