-- ==== Sys2Proof/Machine/Crc.lean ====
section
/-! DEFINITION. Cyclic redundancy checks: the one bitwise engine of the check units (14 R319) and the named
checks that packets, files and tables carry. -/

namespace Sys2Proof.Machine

/-- The parameters of a CRC (14 R319): width 1 to 32, polynomial without its top term, initial value, input and
output reflection, and the final exclusive-or. -/
structure CrcAlg where
  width : Nat
  poly : Nat
  init : Nat
  refIn : Bool
  refOut : Bool
  xorOut : Nat
deriving DecidableEq, Repr, Inhabited

/-- The low `n` bits of `v` in reverse order. -/
def reflect (n v : Nat) : Nat :=
  (List.range n).foldl (fun a k => a * 2 + v / 2 ^ k % 2) 0

/-- One message bit into a register held most significant bit first. -/
def crcBit (width poly reg : Nat) (bit : Bool) : Nat :=
  let top := reg.testBit (width - 1)
  let shifted := reg * 2 % 2 ^ width
  if top != bit then shifted ^^^ poly else shifted

/-- The `n` low bits of `v`, most significant first. -/
def crcBitsMsb (width poly : Nat) : Nat → Nat → Nat → Nat
  | 0, _, reg => reg
  | n + 1, v, reg => crcBitsMsb width poly n v (crcBit width poly reg (v.testBit n))

/-- One message byte (14 R319): with input reflection its least significant bit goes first. -/
def crcByte (a : CrcAlg) (reg : Nat) (b : Nat) : Nat :=
  crcBitsMsb a.width a.poly 8 (if a.refIn then reflect 8 b else b) reg

/-- The register after a message. -/
def crcRun (a : CrcAlg) (reg : Nat) (msg : List Byte) : Nat := msg.foldl (fun r b => crcByte a r b.toNat) reg

/-- The result that a register gives (14 R319). -/
def crcOut (a : CrcAlg) (reg : Nat) : Nat :=
  (if a.refOut then reflect a.width reg else reg) ^^^ a.xorOut

/-- The check value of a message. -/
def crc (a : CrcAlg) (msg : List Byte) : Nat := crcOut a (crcRun a a.init msg)

/-- CRC-32 (14 Table 14-2): files, bulk data, objects. -/
def algCrc32 : CrcAlg := ⟨32, 0x04C11DB7, 0xFFFFFFFF, true, true, 0xFFFFFFFF⟩

/-- CRC-32C (14 Table 14-2): packet trailers (02 R47). -/
def algCrc32c : CrcAlg := ⟨32, 0x1EDC6F41, 0xFFFFFFFF, true, true, 0xFFFFFFFF⟩

/-- CRC-16/CCITT-FALSE (14 Table 14-2): the chain's messages and table rows. -/
def algCrc16 : CrcAlg := ⟨16, 0x1021, 0xFFFF, false, false, 0⟩

/-- CRC-8 with polynomial 0x2F (14 Table 14-2). -/
def algCrc8 : CrcAlg := ⟨8, 0x2F, 0xFF, false, false, 0xFF⟩

def crc32 (m : List Byte) : Nat := crc algCrc32 m
def crc32c (m : List Byte) : Nat := crc algCrc32c m
def crc16 (m : List Byte) : Nat := crc algCrc16 m
def crc8 (m : List Byte) : Nat := crc algCrc8 m

end Sys2Proof.Machine
end

