-- ==== Sys2Proof/Machine/Types/Chain.lean ====
section
/-! DEFINITION. The state of the Thaog chain, of loop healing and of emitter diagnosis (09, 10): ports, loops, the
committed cell configuration, the fault map, and the attached cells with their registers and image buffers, which the
spec describes. The default value of a field is its value after reset. -/

namespace Sys2Proof.Machine

/-- The end of a loop (09 R219). -/
inductive Side where
  | A | B
deriving DecidableEq, Repr, Inhabited

/-- CHAIN_PORT_TRIM and CHAIN_PORT_SKEW without the DRIVING bit (09 Tables 9-16, 9-17). -/
structure PortTrim where
  swing : Nat := 30
  preemph : Nat := 0
  term : Nat := 16
  skew : List Nat := [16, 16, 16, 16, 16]
deriving DecidableEq, Repr, Inhabited

/-- A command frame (09 Table 9-3), without its CRC. -/
structure CellCommand where
  op : Nat
  target : Nat
  reg : Nat
  count : Nat
  words : List Nat
deriving DecidableEq, Repr, Inhabited

/-- Why a READ is outstanding on a port (09 R233; 10 R249, R252, R261). -/
inductive ReadUse where
  | linkWatch
  | other
deriving DecidableEq, Repr, Inhabited

/-- A READ that waits for its reply (09 R233): what it serves, its hop, first register and count, and when it was sent. -/
structure PendingRead where
  use : ReadUse
  hop : Nat
  reg : Nat
  count : Nat
  sentAt : Nat
deriving DecidableEq, Repr, Inhabited

/-- One chain port (09 R219, R225, R227, R233, R244; 10 R248, R252, R258; 08 R214, R215). `segments` is the number of
cells of the upload in progress, `underran` the rows of it sent as eclipse fill, `waiting` the command frames that wait for
the gap after it, and `answer` the register words of the latest READ. -/
structure ChainPort where
  trim : PortTrim := {}
  nextTrim : Option PortTrim := none
  driving : Bool := false
  failed : Bool := false
  seq : Nat := 0
  uploading : Bool := false
  segments : Nat := 0
  prefetched : Bool := false
  underran : List Nat := []
  reports : List Nat := []
  trainEnded : Bool := false
  missed : Bool := false
  missingNow : Bool := false
  missingTrains : Nat := 0
  silentCount : Nat := 0
  staleCount : Nat := 0
  linkErrCount : Nat := 0
  lastTrainAt : Nat := 0
  read : Option PendingRead := none
  answer : List Nat := []
  waiting : List CellCommand := []
deriving DecidableEq, Repr, Inhabited

/-- A cell's committed configuration (09 R238, R239): currents, OUT_EN, and its placement: origin column and row,
and whether it is rotated by 180°. -/
structure CellCommitted where
  red : Nat := 10
  green : Nat := 10
  blue : Nat := 10
  hasCurrent : Bool := false
  outEn : Bool := false
  place : Option (Nat × Nat × Bool) := none
deriving DecidableEq, Repr, Inhabited

/-- What Pevanak knows of an enumerated cell (09 R237; 10 R248, R268; 18 Table 18-12). -/
structure CellRec where
  hopA : Nat
  hopB : Nat
  vendor : Nat
  model : Nat
  caps : Nat
  kappa : Nat
  serial : Nat
  failed : Bool := false
  dead : Bool := false
  replaced : Bool := false
  bOnly : Bool := false
  silent : Nat := 0
  stale : Nat := 0
  linkErrs : Nat := 0
  overtempSince : Option Nat := none
  incomplete : Bool := false
  faultBits : Bool := false
  diagReadAt : Option Nat := none
deriving DecidableEq, Repr, Inhabited

/-- A meridian move in progress (10 R250, R251): the new meridian, the side that gains cells, the broken link, and
whether the burst has been sent. -/
structure Move where
  m : Nat
  gaining : Side
  link : Nat
  sent : Bool
deriving DecidableEq, Repr, Inhabited

/-- One loop (09 R237, R239; 10 R246 to R257, Table 10-9). `enumerating` tells that an enumeration runs, `loadWait` that the
committed registers have not been loaded since the last one, and `moveDue` that a move to the configured meridian waits for
a gap. -/
structure LoopState where
  enumerated : Bool := false
  over100 : Bool := false
  mismatch : Bool := false
  notLevel2 : Bool := false
  blocked : Bool := false
  nA : Nat := 0
  nB : Nat := 0
  cells : List CellRec := []
  config : List (Nat × CellCommitted) := []
  configured : Option Nat := none
  m : Nat := 0
  healed : Bool := false
  doubleFault : Bool := false
  trial : Bool := false
  broken : List Nat := []
  move : Option Move := none
  heals : Nat := 0
  autoRestore : Bool := true
  restoreInterval : Nat := 60
  restoreNow : Bool := false
  lastTrial : Nat := 0
  enumerating : Bool := false
  loadWait : Bool := false
  moveDue : Bool := false
deriving DecidableEq, Repr, Inhabited

/-- A fault-map record (10 Table 10-8). -/
structure FaultRec where
  target : BitVec 64
  kind : Nat
  active : Bool
  confirmed : Bool
  suppressed : Bool
  double : Bool
  count : Nat
  firstSeen : Nat
  lastSeen : Nat
  detail : Nat
deriving DecidableEq, Repr, Inhabited

/-- The confirmation of an emitter's code (10 R261): the code of the last read, consecutive reads of it, and
consecutive clean reads. -/
structure Sensed where
  loop : Nat
  cell : Nat
  emitter : Nat
  code : Nat
  run : Nat
  clean : Nat
deriving DecidableEq, Repr, Inhabited

/-- The diagnosis configuration (10 Table 10-6). -/
structure TwinkleConfig where
  enable : Bool := true
  suppress : Bool := true
  avoid : Bool := true
  ageLimit : Nat := 1500
  sweepInterval : Nat := 60
deriving DecidableEq, Repr, Inhabited

/-- A CHAIN_ENUMERATE in progress (09 R237): its operation, the loops that it names, those still to do, and when the first of
them is done. -/
structure EnumRun where
  src : Source
  tag : Nat
  loops : List Nat
  left : List Nat
  until_ : Nat
deriving DecidableEq, Repr, Inhabited

/-- A DIAG_RUN in progress (10 R259, R260): its operation and mode, the cells or, in mode 4, the port that it tests, the rows
still to be tested, the time by which every entry sent has fired, the DIAG_MAP reads still to be made, since when none of its
pulses has been granted, and the active records of each kind before it. -/
structure DiagRun where
  src : Source
  tag : Nat
  mode : Nat
  port : Nat
  cells : List (Nat × Nat)
  rows : List (Nat × Nat × Nat)
  firedBy : Nat
  reads : List (Nat × Nat)
  refusedSince : Nat
  before : List Nat
deriving DecidableEq, Repr, Inhabited

/-- The chain as Pevanak runs it. `pulsed` holds the emitters that a Twinkle entry addresses, with the time of its pulse;
`sweepLeft` the entries of the short sweep in progress, as port, mode and row; `ageCount` counts the ages that have been written since
the boot, and `ageStart` is the age at which every other one stands. -/
structure ChainState where
  ports : List ChainPort := List.replicate 48 {}
  loops : List LoopState := List.replicate 24 {}
  width : Nat := 0
  height : Nat := 0
  twinkle : TwinkleConfig := {}
  faults : List FaultRec := []
  faultsDropped : Nat := 0
  sensed : List Sensed := []
  selected : List Nat := []
  pulsed : List (Nat × Nat) := []
  lastAgeSweep : Nat := 0
  lastShortSweep : Nat := 0
  loadPending : Bool := false
  loadAt : List Nat := []
  armedLoad : Bool := false
  enumRun : Option EnumRun := none
  diagRuns : List DiagRun := []
  ageCount : Nat := 0
  ageStart : Nat := 150
  sweepLeft : List (Nat × Nat × Nat) := []
  recordSerials : List ((Nat × Nat) × Nat) := []
deriving DecidableEq, Repr, Inhabited

/-- An image buffer of a cell (09 R228): its upload sequence, none before any upload, the rows it has, and those of them that
are eclipse fill. -/
structure CellImage where
  seq : Option Nat := none
  rows : List (Nat × List Nat) := []
  fills : List Nat := []
deriving DecidableEq, Repr, Inhabited

/-- An ARM payload (09 Table 9-9). -/
structure ArmPayload where
  refreshes : Nat
  rowTime : Nat
  dead : Nat
  load : Bool
  hold : Bool
  seq : Nat
deriving DecidableEq, Repr, Inhabited

/-- A TWINKLE or DIAG entry of a cell (09 R236): mode 0 is Twinkle with its channel mask. -/
structure CellEntry where
  mode : Nat
  refresh : Nat
  row : Nat
  mask : Nat
deriving DecidableEq, Repr, Inhabited

/-- The shadowed registers of a cell (09 Table 9-6). -/
structure CellRegs where
  red : Nat := 10
  green : Nat := 10
  blue : Nat := 10
  outEn : Bool := false
deriving DecidableEq, Repr, Inhabited

/-- An attached cell (09 R222 to R236): fixed registers, hop indices, meridian (none while it holds none), feed, whether it
leaves its away side quiet while it holds none, status, live and shadow registers, diagnosis codes of its emitters, image
buffers, the segments of this upload that it has rejected, ARM, the entries queued for the next latch, those of the slot in
progress with the time of its latch, and the defects its sensing finds. -/
structure PlantCell where
  vendor : Nat := 0x0B4D
  model : Nat := 0x4832
  caps : Nat := 0x2C20
  kappa : Nat := 0x7EC4
  serial : Nat := 0
  dead : Bool := false
  hopA : Nat := 0
  hopB : Nat := 0
  m : Option Nat := none
  feed : Option Side := none
  quietAway : Bool := false
  linkErr : Bool := false
  reject : Bool := false
  overtemp : Bool := false
  queueFull : Bool := false
  rejectCount : Nat := 0
  live : CellRegs := {}
  shadow : CellRegs := {}
  diag : List (Nat × Nat) := []
  defects : List (Nat × Nat) := []
  front : CellImage := {}
  back : CellImage := {}
  rejected : Nat := 0
  arm : Option ArmPayload := none
  timing : Option ArmPayload := none
  entries : List CellEntry := []
  firing : List CellEntry := []
  latchedAt : Nat := 0
  dark : Bool := false
  unfedAt : Option Nat := none
deriving DecidableEq, Repr, Inhabited

/-- A disturbance of a link (09 R221, R225, R228): the row frames of a scan row, the command frames (32) or the LATCH symbols
(33) that cross the link arrive with bits of the symbol, and of one byte, inverted. -/
structure Noise where
  link : Nat
  frame : Nat
  symbol : Byte
  at_ : Nat
  flips : Byte
deriving DecidableEq, Repr, Inhabited

/-- The cells attached to one loop, in order from port A, its cut links (10 R246) and its disturbed ones. -/
structure PlantLoop where
  cells : List PlantCell := []
  cuts : List Nat := []
  noise : List Noise := []
deriving DecidableEq, Repr, Inhabited

/-- A ball of the package by the index of its row and its column (20 R437). -/
structure Ball where
  row : Nat
  col : Nat
deriving DecidableEq, Repr, Inhabited

/-- A short on the board: a ball, and the ball that it is shorted to, none for a supply or ground (10 R259). -/
structure BallShort where
  ball : Ball
  other : Option Ball
deriving DecidableEq, Repr, Inhabited

/-- What is attached outside the package (notes/assumptions/7.md). -/
structure Plant where
  loops : List PlantLoop := List.replicate 24 {}
  eeprom : List Byte := []
  eepromAddr : Nat := 0
  shorts : List BallShort := []
deriving DecidableEq, Repr, Inhabited

end Sys2Proof.Machine
end

