-- ==== Sys2Proof/Machine/Lanes.lean ====
section
/-! DEFINITION. The lanes away from a chain port (09 R220, R221): frames as CK cycles on D0, D1 and LT, the LT symbols, and the
command frames and row segments that travel on them (09 R224, R227). -/

namespace Sys2Proof.Machine

/-! ## The lanes (09 R220, R221) -/

/-- One CK cycle: D0 and D1 on the rising and on the falling edge, and LT on the rising edge. -/
structure Cycle where
  d0 : Bool := false
  d1 : Bool := false
  d0f : Bool := false
  d1f : Bool := false
  lt : Bool := false
deriving DecidableEq, Repr, Inhabited

/-- A byte of a frame in two CK cycles: bits 7 and 6 on the rising edge, 5 and 4 on the falling edge, then bits 3 to 0. -/
def byteCycles (b : Byte) : List Cycle :=
  [{ d0 := b.getLsbD 7, d1 := b.getLsbD 6, d0f := b.getLsbD 5, d1f := b.getLsbD 4 },
   { d0 := b.getLsbD 3, d1 := b.getLsbD 2, d0f := b.getLsbD 1, d1f := b.getLsbD 0 }]

/-- The byte that two CK cycles carry. -/
def cyclesByte (x y : Cycle) : Byte :=
  byte (128 * b2n x.d0 + 64 * b2n x.d1 + 32 * b2n x.d0f + 16 * b2n x.d1f + 8 * b2n y.d0 + 4 * b2n y.d1 + 2 * b2n y.d0f + b2n y.d1f)

/-- The bytes that CK cycles carry. -/
def cyclesBytes : List Cycle → List Byte
  | x :: y :: t => cyclesByte x y :: cyclesBytes t
  | _ => []

/-- The symbols of LT (09 Table 9-2). -/
inductive LtSymbol where
  | row | cmd | latch
deriving DecidableEq, Repr, Inhabited

/-- The code of a symbol. -/
def LtSymbol.code : LtSymbol → Nat
  | .row => 0xB5
  | .cmd => 0xC6
  | .latch => 0xE9

/-- The symbol of a code, none for an unknown one. -/
def ltSymbol (c : Nat) : Option LtSymbol := [LtSymbol.row, .cmd, .latch].find? fun x => x.code == c

/-- The cycles of a symbol, most significant bit first; the D lanes carry 0. -/
def symbolCycles (c : Nat) : List Cycle := (List.range 8).map fun k => { lt := c.testBit (7 - k) }

/-- A frame with its symbol code. A LATCH has no bytes. -/
structure LaneFrame where
  code : Nat
  bytes : List Byte
deriving DecidableEq, Repr, Inhabited

/-- A frame on the lanes: idle zeros, the symbol, and the bytes from the rising edge after its last bit. -/
def LaneFrame.cycles (f : LaneFrame) : List Cycle :=
  List.replicate 8 ({} : Cycle) ++ symbolCycles f.code ++ f.bytes.flatMap byteCycles

/-- The frame that cycles bring: the symbol begins at the first 1 of LT after at least 8 zeros. -/
def receiveCycles : Nat → List Cycle → Option LaneFrame
  | _, [] => none
  | zeros, c :: t =>
    if c.lt then
      (if 8 ≤ zeros then
        some ⟨((c :: t).take 8).foldl (fun a x => 2 * a + b2n x.lt) 0, cyclesBytes (t.drop 7)⟩
      else receiveCycles 0 t)
    else receiveCycles (zeros + 1) t

/-- What the first receiver gets of a frame that a port sends. -/
def onLanes (f : LaneFrame) : Option LaneFrame := receiveCycles 0 f.cycles

/-! ## Command frames (09 R224, Tables 9-3 and 9-4) -/

/-- The opcodes of Table 9-4. -/
def opEnum : Nat := 1
def opRead : Nat := 2
def opWrite : Nat := 3
def opWriteShadow : Nat := 4
def opDiscard : Nat := 5
def opArm : Nat := 6
def opMeridian : Nat := 7
def opTwinkle : Nat := 8
def opDiag : Nat := 9

/-- A command whose payload is its words. -/
def command (op target reg : Nat) (words : List Nat) : CellCommand := ⟨op, target, reg, words.length, words⟩

/-- The frame of a command, with its CRC-16. -/
def CellCommand.bytes (c : CellCommand) : List Byte :=
  let b := u8 c.op ++ u8 c.target ++ u8 c.reg ++ u8 c.count ++ c.words.flatMap u16
  b ++ u16 (crc16 b)

/-- The words of a byte string. -/
def words16 : List Byte → List Nat
  | a :: b :: t => (256 * a.toNat + b.toNat) :: words16 t
  | _ => []

/-- The command of a frame, none where its CRC is bad. A READ has a count and no payload. -/
def readCommand (bs : List Byte) : Option CellCommand :=
  let n := bs.length
  if n < 6 || crc16 (bs.take (n - 2)) != be bs (n - 2) 2 then none
  else some ⟨getB bs 0, getB bs 1, getB bs 2, getB bs 3, words16 (slice bs 4 (n - 6))⟩

/-- A command on the lanes. -/
def CellCommand.frame (c : CellCommand) : LaneFrame := ⟨LtSymbol.cmd.code, c.bytes⟩

/-- The LATCH symbol. -/
def latchFrame_ : LaneFrame := ⟨LtSymbol.latch.code, []⟩

/-- The payload of ARM (09 Table 9-9). -/
def ArmPayload.words (a : ArmPayload) : List Nat :=
  [a.refreshes, a.rowTime / 65536 % 65536, a.rowTime % 65536, a.dead, 32768 * b2n a.load + 16384 * b2n a.hold, a.seq % 1024, 0]

/-- The ARM that payload words give. -/
def armOf (ws : List Nat) : ArmPayload :=
  { refreshes := ws.getD 0 0, rowTime := 65536 * ws.getD 1 0 + ws.getD 2 0, dead := ws.getD 3 0
    load := bitN (ws.getD 4 0) 15, hold := bitN (ws.getD 4 0) 14, seq := ws.getD 5 0 % 1024 }

/-- The words of a TWINKLE or DIAG entry (09 Table 9-4). -/
def CellEntry.command (target : Nat) (n : CellEntry) : CellCommand :=
  if n.mode = 0 then Machine.command opTwinkle target 0 [n.refresh, n.row, n.mask / 2 ^ 32 % 65536, n.mask / 65536 % 65536, n.mask % 65536]
  else Machine.command opDiag target 0 [n.mode, n.refresh, n.row]

/-! ## Row frames (09 R227, Table 9-5) -/

/-- A segment: scan row, FILL, upload sequence and 48 drive values. -/
structure Segment where
  row : Nat
  fill : Bool
  seq : Nat
  drives : List Nat
deriving DecidableEq, Repr, Inhabited

/-- The 100 bytes of a segment. -/
def Segment.bytes (g : Segment) : List Byte :=
  let b := u16 (2048 * g.row + 1024 * b2n g.fill + g.seq % 1024) ++ g.drives.flatMap u16
  b ++ u16 (crc16 b)

/-- The segment of 100 bytes, none where its CRC is bad. -/
def readSegment (bs : List Byte) : Option Segment :=
  if crc16 (bs.take 98) != be bs 98 2 then none
  else some ⟨be bs 0 2 / 2048, bitN (be bs 0 2) 10, be bs 0 2 % 1024, words16 (slice bs 2 96)⟩

/-- A row frame: its segments back to back. -/
def rowFrame (gs : List Segment) : LaneFrame := ⟨LtSymbol.row.code, gs.flatMap Segment.bytes⟩

end Sys2Proof.Machine
end

