-- ==== Sys2Proof/Machine/Cell.lean ====
section
/-! DEFINITION. The attached Thaog cells (09 R222 to R236): feeding, registers, the frames that travel along a loop and what
each cell does with them, the latch, the pulses of Twinkle and DIAG entries, and the words that a cell sends on Q. A frame's
propagation along the loop is one operation; flight times within t_DET and t_LOS are not modelled
(notes/assumptions/17.md). -/

namespace Sys2Proof.Machine

/-- The other end. -/
def Side.other : Side → Side
  | .A => .B
  | .B => .A

/-- The cells in hop order from an end. -/
def PlantLoop.from (l : PlantLoop) : Side → List PlantCell
  | .A => l.cells
  | .B => l.cells.reverse

/-- The loop with its cells given in hop order from an end. -/
def PlantLoop.setFrom (l : PlantLoop) (e : Side) (cs : List PlantCell) : PlantLoop :=
  match e with
  | .A => { l with cells := cs }
  | .B => { l with cells := cs.reverse }

/-- Whether the link before the cell at hop `k` (from 1) of an end is whole (10 R246). -/
def PlantLoop.linkWhole (l : PlantLoop) (e : Side) (k : Nat) : Bool :=
  match e with
  | .A => !l.cuts.contains (k - 1)
  | .B => !l.cuts.contains (l.cells.length + 1 - k)

/-- A cell's hop index from an end. -/
def PlantCell.hop (c : PlantCell) : Side → Nat
  | .A => c.hopA
  | .B => c.hopB

/-- The side that a cell's meridian names, none while it holds none (09 R222, R223). -/
def PlantCell.namedSide (c : PlantCell) : Option Side :=
  match c.m with
  | none => none
  | some m => some (if c.hopA ≤ m then .A else .B)

/-- Whether a cell fed from `e` drives its away side: every fed cell but those at the meridian, and, while it holds none, but
one whose away side had CK when ENUM reached it (09 R223, R226). -/
def PlantCell.drivesAway (c : PlantCell) (e : Side) : Bool :=
  c.feed == some e && (match c.m, e with
    | none, _ => !c.quietAway
    | some m, .A => c.hopA != m
    | some m, .B => c.hopA != m + 1)

/-- A cell that loses its feed (09 R223): it is unfed, its front image stays, and the loss is a link error. -/
def PlantCell.unfeed (c : PlantCell) (now : Nat) : PlantCell :=
  if c.feed.isSome then { c with feed := none, linkErr := true, unfedAt := some now } else c

/-- Whether a cell is dark: since its last latch it has been unfed for longer than t_HOLD (09 R223, Table 9-15). -/
def PlantCell.isDark (c : PlantCell) (now : Nat) : Bool :=
  c.dark || (match c.unfedAt with | some t => decide (t + 100000000 < now) | none => false)

/-- A cell that takes a feed side; one that has gone dark stays so until its next latch (09 R223). -/
def PlantCell.feedFrom (c : PlantCell) (e : Side) (now : Nat) : PlantCell :=
  { c with feed := some e, unfedAt := none, dark := c.isDark now }

/-- The cells from an end on, given whether valid CK stands at the first one: a fed cell without CK becomes unfed,
an unfed one adopts its named side, and each hands CK on as it drives (09 R223). -/
def feedWalk (l : PlantLoop) (e : Side) (now : Nat) : Nat → Bool → List PlantCell → List PlantCell
  | _, _, [] => []
  | k, ck, c :: cs =>
    let has := ck && l.linkWhole e k && !c.dead
    let c1 :=
      if c.feed == some e && !has then c.unfeed now
      else if c.feed.isNone && has && c.namedSide == some e then c.feedFrom e now else c
    c1 :: feedWalk l e now (k + 1) (has && c1.drivesAway e) cs

/-- The feed of a loop's cells settled, given which ports drive (09 R223). -/
def settle (driveA driveB : Bool) (now : Nat) (l : PlantLoop) : PlantLoop :=
  let l1 := l.setFrom .A (feedWalk l .A now 1 driveA (l.from .A))
  let l2 := l1.setFrom .B (feedWalk l1 .B now 1 driveB (l1.from .B))
  l2.setFrom .A (feedWalk l2 .A now 1 driveA (l2.from .A))

/-! ## Registers (09 R229, R230; Tables 9-6 to 9-8) -/

/-- FEED. -/
def PlantCell.feedWord (c : PlantCell) : Nat :=
  (match c.feed with | none => 0 | some .A => 0x8000 | some .B => 0xC000) + (c.m.getD 0x7F) % 128

/-- STATUS (09 Table 9-8). -/
def PlantCell.statusWord (c : PlantCell) : Nat :=
  32768 * b2n c.linkErr + 16384 * b2n c.reject + 8192 * b2n c.overtemp + 4096 * b2n c.queueFull

/-- The code of an emitter: only non-zero codes are listed. -/
def codeOf (codes : List (Nat × Nat)) (e : Nat) : Nat := ((codes.find? fun d => d.1 == e).map (·.2)).getD 0

/-- A DIAG_MAP word: two bits for each of eight emitters, the first one highest (09 R230). -/
def diagWord (codes : List (Nat × Nat)) (k : Nat) : Nat :=
  (List.range 8).foldl (fun a i => a + codeOf codes (8 * k + i) * 2 ^ (14 - 2 * i)) 0

/-- The non-zero codes that the 192 words of a DIAG_MAP hold. -/
def codesOfMap (ws : List Nat) : List (Nat × Nat) :=
  (List.range 1536).filterMap fun e =>
    let v := field (ws.getD (e / 8) 0) (15 - 2 * (e % 8)) (14 - 2 * (e % 8))
    if v = 0 then none else some (e, v)

/-- CELL_CTRL. -/
def ctrlWord (r : CellRegs) : Nat := 32768 * b2n r.outEn

/-- The live value of a register; an address without one reads 0. -/
def PlantCell.reg (c : PlantCell) (a : Nat) : Nat :=
  if 0x40 ≤ a then diagWord c.diag (a - 0x40)
  else match a with
    | 0x00 => c.vendor
    | 0x01 => c.model
    | 0x02 => c.caps
    | 0x03 => c.kappa
    | 0x04 => field c.serial 47 32
    | 0x05 => field c.serial 31 16
    | 0x06 => field c.serial 15 0
    | 0x08 => c.hopA
    | 0x09 => c.hopB
    | 0x0A => c.feedWord
    | 0x0B => c.statusWord
    | 0x0C => c.rejectCount
    | 0x10 => c.live.red
    | 0x11 => c.live.green
    | 0x12 => c.live.blue
    | 0x13 => ctrlWord c.live
    | _ => 0

/-- The shadowed registers after a word at an address, none where the address has no shadow copy or the code is out of
range (09 Table 9-6). -/
def CellRegs.write (r : CellRegs) (a v : Nat) : Option CellRegs :=
  let inRange := 10 ≤ v && v ≤ 400
  match a with
  | 0x10 => if inRange then some { r with red := v } else none
  | 0x11 => if inRange then some { r with green := v } else none
  | 0x12 => if inRange then some { r with blue := v } else none
  | 0x13 => some { r with outEn := bitN v 15 }
  | _ => none

/-- A WRITE of one word (09 R229): STATUS clears the bits written 1, REJECT_COUNT is cleared by 0, the shadowed registers take
codes in range at once, and everything else is ignored and sets REJECT. -/
def PlantCell.writeWord (c : PlantCell) (a v : Nat) : PlantCell :=
  if a = 0x0B then
    { c with linkErr := c.linkErr && !bitN v 15, reject := c.reject && !bitN v 14,
             overtemp := c.overtemp && !bitN v 13, queueFull := c.queueFull && !bitN v 12 }
  else if a = 0x0C && v = 0 then { c with rejectCount := 0 }
  else match c.live.write a v with
    | some r => { c with live := r }
    | none => { c with reject := true }

/-- A WRITE_SHADOW of one word (09 R226, R229). -/
def PlantCell.shadowWord (c : PlantCell) (a v : Nat) : PlantCell :=
  match c.shadow.write a v with
  | some r => { c with shadow := r }
  | none => { c with reject := true }

/-- The words of a command written from its register on. -/
def writeWords (f : PlantCell → Nat → Nat → PlantCell) (a : Nat) : List Nat → PlantCell → PlantCell
  | [], c => c
  | w :: t, c => writeWords f (a + 1) t (f c a w)

/-- The words that set the shadowed registers, from CUR_RED on. -/
def CellRegs.words (r : CellRegs) : List Nat := [r.red, r.green, r.blue, ctrlWord r]

/-! ## Sensing (09 R230, R236) -/

/-- What a sense of an emitter finds: the emitter, the kind sensed for, and whether it was found. -/
structure SenseResult where
  emitter : Nat
  kind : Nat
  found : Bool
deriving DecidableEq, Repr, Inhabited

/-- The results of a pulse on channels of a row (09 R230, R236): a Twinkle pulse senses the channels of its mask for open, a
DIAG test every channel of the row for its kind. -/
def PlantCell.sense (c : PlantCell) (n : CellEntry) : List SenseResult :=
  ((List.range 48).filter fun ch => n.mode != 0 || n.mask.testBit ch).map fun ch =>
    ⟨48 * n.row + ch, n.mode + 1, c.defects.contains (48 * n.row + ch, n.mode + 1)⟩

/-- The codes after a sense: what is found overwrites the pair, and a clean result overwrites the code of the kind sensed for with
0b00 (DEDUCED, log 48: a sense for open says nothing of a short). Only non-zero codes are listed. -/
def takeSense (codes : List (Nat × Nat)) (r : SenseResult) : List (Nat × Nat) :=
  if r.found then (codes.filter fun d => d.1 != r.emitter) ++ [(r.emitter, r.kind)]
  else codes.filter fun d => d != (r.emitter, r.kind)

/-- A channel lit for at least 500 ns is sensed for open (09 R230). -/
def PlantCell.senseLit (c : PlantCell) (emitters : List Nat) : PlantCell :=
  { c with diag := (emitters.map fun e => (⟨e, 1, c.defects.contains (e, 1)⟩ : SenseResult)).foldl takeSense c.diag }

/-- An entry added to a cell's queue of 16 (09 R236). -/
def PlantCell.addEntry (c : PlantCell) (n : CellEntry) : PlantCell :=
  if c.entries.length < 16 then { c with entries := c.entries ++ [n] } else { c with queueFull := true }

/-- When the pulse of an entry begins, in ns after the latch: 50 ns into the dead time of its row and refresh, by the cell's own
timing (09 R234, R236). -/
def ArmPayload.pulseAt (a : ArmPayload) (n : CellEntry) : Nat :=
  5 * ((32 * n.refresh + n.row + 1) * a.rowTime - a.dead) + 50

/-- The entries of the slot in progress whose pulse has begun by a time fire, in order. -/
def PlantCell.fire (c : PlantCell) (now : Nat) : PlantCell :=
  match c.timing with
  | none => c
  | some a =>
    let due (n : CellEntry) : Bool := c.latchedAt + a.pulseAt n ≤ now
    { c with
      diag := (c.firing.filter due).foldl (fun d n => (c.sense n).foldl takeSense d) c.diag
      firing := c.firing.filter fun n => !due n }

/-- The entries whose pulse has not begun are called back (01 R28). -/
def PlantCell.callBack (c : PlantCell) (now : Nat) : PlantCell := { (c.fire now) with entries := [], firing := [] }

/-! ## Segments and the latch (09 R227, R228, R234 to R236) -/

/-- A frame or segment is discarded: REJECT sets and the count rises (09 R225, R228). -/
def PlantCell.rejectFrame (c : PlantCell) : PlantCell :=
  { c with reject := true, rejectCount := satN 0xFFFF (c.rejectCount + 1) }

/-- A segment with a good CRC at its cell (09 R228): a new sequence first drops the rows that the back buffer had. -/
def PlantCell.takeSegment (c : PlantCell) (g : Segment) : PlantCell :=
  let b := if c.back.seq == some g.seq then c.back else { seq := some g.seq, rows := [], fills := [] }
  { c with back := { b with
      rows := (b.rows.filter fun r => r.1 != g.row) ++ [(g.row, g.drives)]
      fills := (b.fills.filter fun r => r != g.row) ++ (if g.fill then [g.row] else []) } }

/-- The bytes of a segment at its cell: with a bad CRC they are discarded and counted for the report. -/
def PlantCell.takeBytes (c : PlantCell) (bs : List Byte) : PlantCell :=
  match readSegment bs with
  | some g => c.takeSegment g
  | none => { c.rejectFrame with rejected := min 32 (c.rejected + 1) }

/-- Whether a buffer holds all 32 rows of a sequence (09 R228). -/
def CellImage.complete (b : CellImage) (seq : Nat) : Bool :=
  b.seq == some seq && (List.range 32).all fun r => b.rows.any fun x => x.1 == r

/-- The latch at a cell (09 R228, R229, R234, R236): what is left of the slot before it has fired by then or ends; the buffers
swap when the back one is complete with the ARM's sequence and HOLD is clear; LOAD takes the shadow registers; the queued
entries apply to the slot that begins, but for those with a refresh of N or more; a latch without ARM keeps the timing and
sets LINK_ERR; a dark cell that is fed lights again. -/
def PlantCell.latch (c0 : PlantCell) (now : Nat) : PlantCell :=
  let c := { (c0.fire now) with firing := [], entries := [], latchedAt := now, dark := false, rejected := 0, arm := none }
  match c0.arm with
  | none => { c with
      linkErr := true
      firing := match c0.timing with | some a => c0.entries.filter fun n => n.refresh < a.refreshes | none => [] }
  | some a =>
    let swap := !a.hold && c.back.complete a.seq
    { c with
      front := if swap then c.back else c.front
      back := if swap then c.front else c.back
      live := if a.load then c.shadow else c.live
      timing := some a
      firing := c0.entries.filter fun n => n.refresh < a.refreshes }

/-! ## Commands at a cell (09 R223, R225, R226) -/

/-- A MERIDIAN frame at one cell (09 R223): it takes the new m; a fed cell whose named side is the other one drops its feed, an
unfed one with CK adopts its named side. -/
def PlantCell.takeMeridian (c : PlantCell) (m : Nat) (e : Side) (now : Nat) : PlantCell :=
  let c1 := { c with m := some m, quietAway := false }
  if c1.feed == some e then (if c1.namedSide == some e then c1 else { c1 with feed := none, unfedAt := some now })
  else if c1.namedSide == some e then c1.feedFrom e now else c1

/-- A command that a cell executes; an unknown opcode is ignored, and a READ is answered on Q. -/
def PlantCell.run (c : PlantCell) (e : Side) (now : Nat) (f : CellCommand) : PlantCell :=
  let w (k : Nat) : Nat := f.words.getD k 0
  if f.op = opWrite then writeWords PlantCell.writeWord f.reg f.words c
  else if f.op = opWriteShadow then writeWords PlantCell.shadowWord f.reg f.words c
  else if f.op = opDiscard then { c with shadow := c.live }
  else if f.op = opArm then { c with arm := some (armOf f.words) }
  else if f.op = opMeridian then c.takeMeridian (w 0) e now
  else if f.op = opTwinkle then c.addEntry ⟨0, w 0, w 1, w 2 * 2 ^ 32 + w 3 * 65536 + w 4⟩
  else if f.op = opDiag then c.addEntry ⟨w 0, w 1, w 2, 0⟩
  else c

/-- ENUM at a cell (09 R226): the arrival side becomes the feed side and its hop index counter + 1, 0 from a counter of 100 on;
the meridian is cleared; with CK on the away side the cell leaves that side alone. -/
def PlantCell.takeEnum (c : PlantCell) (e : Side) (counter : Nat) (awayCk : Bool) (now : Nat) : PlantCell :=
  let hop := if 100 ≤ counter then 0 else counter + 1
  let c1 := match e with
    | .A => { c with hopA := hop, m := none, quietAway := awayCk }
    | .B => { c with hopB := hop, m := none, quietAway := awayCk }
  c1.feedFrom e now

/-- A command frame at a cell, and what it forwards (09 R223, R225, R226). A cell fed from the other side ignores it; an unfed
one accepts ENUM and MERIDIAN alone; every frame but ENUM is forwarded as received. -/
def PlantCell.takeCommand (c : PlantCell) (e : Side) (awayCk : Bool) (now : Nat) (f : LaneFrame) : PlantCell × Option LaneFrame :=
  let onward (x : PlantCell) : PlantCell × Option LaneFrame := (x, if c.drivesAway e then some f else none)
  match readCommand f.bytes with
  | none => if c.feed.isSome then (c.rejectFrame, if c.drivesAway e && getB f.bytes 0 != opEnum then some f else none) else (c, none)
  | some k =>
    if k.op = opEnum then
      (c.takeEnum e (k.words.getD 0 0) awayCk now,
        if awayCk then none else some (command opEnum 0xFF 0 [k.words.getD 0 0 + 1]).frame)
    else if c.feed.isNone && k.op != opMeridian then (c, none)
    else if k.target = 0xFF || (c.hop e != 0 && k.target = c.hop e) then onward (c.run e now k)
    else onward c

/-- A frame at a cell, and what it forwards (09 R221, R227, R235). An unknown symbol is ignored and is a link error. -/
def PlantCell.take (c : PlantCell) (e : Side) (awayCk : Bool) (now : Nat) (f : LaneFrame) : PlantCell × Option LaneFrame :=
  if c.dead || c.feed == some e.other then (c, none)
  else match ltSymbol f.code with
    | some .cmd => c.takeCommand e awayCk now f
    | some .latch => if c.feed.isNone then (c, none) else (c.latch now, if c.drivesAway e then some f else none)
    | some .row =>
      if c.feed.isNone || f.bytes.isEmpty then (c, none)
      else (c.takeBytes (f.bytes.take 100),
        if c.drivesAway e && !(f.bytes.drop 100).isEmpty then some { f with bytes := f.bytes.drop 100 } else none)
    | none => (if c.feed.isSome then { c with linkErr := true } else c, none)

/-! ## Frames along a loop -/

/-- The link before the cell at hop `k` of an end. -/
def PlantLoop.linkOf (l : PlantLoop) (e : Side) (k : Nat) : Nat :=
  match e with
  | .A => k - 1
  | .B => l.cells.length + 1 - k

/-- The kind by which a disturbance names a frame. -/
def LaneFrame.kind (f : LaneFrame) : Nat :=
  match ltSymbol f.code with
  | some .row => getB f.bytes 0 / 8
  | some .latch => 33
  | _ => 32

/-- A frame after it has crossed a link with its disturbances. -/
def crossLink (l : PlantLoop) (b : Nat) (f : LaneFrame) : LaneFrame :=
  (l.noise.filter fun n => n.link == b && n.frame == f.kind).foldl
    (fun g n => { g with code := g.code ^^^ n.symbol.toNat, bytes := g.bytes.modify n.at_ fun x => x ^^^ n.flips }) f

/-- A frame from an end through the cells from hop `k` on; `far` tells whether the other port drives. -/
def frameWalk (l : PlantLoop) (e : Side) (far : Bool) (now : Nat) : Nat → Option LaneFrame → List PlantCell → List PlantCell
  | _, _, [] => []
  | _, none, cs => cs
  | k, some f, c :: cs =>
    if !l.linkWhole e k then c :: cs
    else
      let ck := match cs with
        | [] => far && l.linkWhole e (k + 1)
        | d :: _ => l.linkWhole e (k + 1) && !d.dead && d.drivesAway e.other
      let r := c.take e ck now (crossLink l (l.linkOf e k) f)
      r.1 :: frameWalk l e far now (k + 1) r.2 cs

/-- A frame that the port of an end sends, and the feeds as they settle after it. -/
def sendFrame (driveA driveB : Bool) (now : Nat) (e : Side) (f : LaneFrame) (l : PlantLoop) : PlantLoop :=
  let far := match e with | .A => driveB | .B => driveA
  settle driveA driveB now (l.setFrom e (frameWalk l e far now 1 (onLanes f) (l.from e)))

/-- `n` MERIDIAN frames from an end, the feeds settling after each (10 R251). -/
def sendMeridian (driveA driveB : Bool) (now : Nat) (e : Side) (m : Nat) : Nat → PlantLoop → PlantLoop
  | 0, l => l
  | n + 1, l => sendMeridian driveA driveB now e m n (sendFrame driveA driveB now e (command opMeridian 0xFF 0 [m]).frame l)

/-! ## The Q lane (09 R231, R233) -/

/-- The words of a READ reply (09 R233): start code, hop, count, registers, CRC-16 and end code. -/
def PlantCell.reply (c : PlantCell) (hop reg count : Nat) : List Nat :=
  let body := [hop % 128, count] ++ (List.range count).map fun k => c.reg (reg + k)
  [0xA53C] ++ body ++ [crc16 (body.flatMap u16), 0xFFFF, 0xFFFF]

/-- The register words of a reply to a READ of a hop, none where the reply is not valid. -/
def replyWords (hop count : Nat) (ws : List Nat) : Option (List Nat) :=
  if ws.length == count + 6 && ws.getD 0 0 == 0xA53C && ws.getD 1 0 == hop && ws.getD 2 0 == count &&
      ws.getD (count + 3) 0 == crc16 (((ws.drop 1).take (count + 2)).flatMap u16) &&
      ws.getD (count + 4) 0 == 0xFFFF && ws.getD (count + 5) 0 == 0xFFFF
  then some ((ws.drop 3).take count) else none

/-- The cell that answers a READ of a hop from an end (09 R233): it is fed from there and the way to it is whole. -/
def readHop (l : PlantLoop) (e : Side) (h : Nat) : Option PlantCell :=
  (l.from e).find? fun c => c.feed == some e && !c.dead && c.hop e == h && h != 0

/-- The register words that a READ of a hop brings (09 R233): the command reaches the cell, and its reply is valid. -/
def readRegs (l : PlantLoop) (e : Side) (h reg count : Nat) : Option (List Nat) :=
  (readHop l e h).bind fun c => replyWords (h % 128) count (c.reply h reg count)

/-- The largest hop from 1 to `k` that answers READs from an end, as the binary search of 10 R249 finds it: the cells that
answer are those before the break. -/
def answeringHops (l : PlantLoop) (e : Side) : Nat → Nat
  | 0 => 0
  | k + 1 => if (readRegs l e (k + 1) (match e with | .A => 0x08 | .B => 0x09) 1).isSome then k + 1 else answeringHops l e k

/-- A cell's report of an upload (09 Table 9-10). -/
def PlantCell.report (c : PlantCell) (e : Side) (seq : Nat) : Nat :=
  let has (k : Nat) : Nat := b2n (c.diag.any fun d => d.2 == k)
  let w := c.hop e * 2 ^ 25 + (match e with | .A => 0 | .B => 2 ^ 24) + b2n (c.back.complete seq) * 2 ^ 23 + b2n c.reject * 2 ^ 22 +
    has 1 * 2 ^ 21 + has 2 * 2 ^ 20 + has 3 * 2 ^ 19 + b2n c.overtemp * 2 ^ 18 + b2n c.linkErr * 2 ^ 17 + c.rejected * 2 ^ 8
  w + crc8 (ube 3 (w / 256))

/-- The cells that a port reaches, in hop order: those before the first one that is not fed from there. -/
def reached (l : PlantLoop) (e : Side) : List PlantCell := (l.from e).takeWhile fun c => c.feed == some e && !c.dead

/-- The report train that reaches a port after an upload of `n` segments (09 R231), as words of 16 bits: the cell that got the
last segment starts it, and every cell on the way inserts its report before the end code; none where no cell got it. -/
def trainOf (l : PlantLoop) (e : Side) (seq n now : Nat) : List Nat :=
  let cs := (reached l e).take n
  if n = 0 || cs.length < n then []
  else [0xA5C3] ++ (cs.reverse.flatMap fun c => let w := (c.fire now).report e seq; [w / 65536, w % 65536]) ++ [0xFFFF, 0xFFFF]

/-- The reports of a train, far cell first, and whether it ended with its end code. -/
def readTrain : List Nat → List Nat × Bool
  | a :: b :: t =>
    if a = 0xFFFF && b = 0xFFFF then ([], true)
    else let r := readTrain t; ((65536 * a + b) :: r.1, r.2)
  | _ => ([], false)

/-- Words as they arrive with bits inverted on the way. -/
def disturbed (errors : List (BitVec 16)) (ws : List Nat) : List Nat :=
  ws.zipIdx.map fun (w, k) => (w ^^^ (errors.getD k 0).toNat) % 65536

end Sys2Proof.Machine
end

