-- ==== Sys2Proof/Config.lean ====
section
/-! DEFINITION. The values that the spec leaves open and the machine nevertheless has. Each is a constant without a
body, applied to the counter State.freeCount, so nothing can be proved about its value (notes/assumptions/13.md). -/

namespace Sys2Proof.Config

/-- Whether an NRST pulse of 200 ns to 1 µs gives a reset: it may do either (16 R374). -/
opaque nrstBetween : Nat → Bool

/-- Whether VIN between the least and the greatest value of a threshold of 19 Table 19-5 has crossed it (19 R418). -/
opaque borBetween : Nat → Bool

/-- Whether a sync pulse of more than 100 ns and less than 120 ns is accepted (19 Table 19-13). -/
opaque pulseBetween : Nat → Bool

/-- The pseudo-random threshold, below 1, of the stress sampler's rounding, in units of 2^-32 (06 R170). -/
opaque stressThreshold : Nat → Nat

/-- A DRAM byte whose place the spec gives no contents for: firmware and shadows, bank headers, view buffers and the
layer pool (01 Table 1-4; notes/assumptions/21.md). -/
opaque dramByte : Nat → Nat → Byte

/-- A flash byte of a region whose bytes the spec does not lay out: the boot headers (17 Table 17-1;
notes/assumptions/21.md). -/
opaque flashByte : Nat → Nat → Byte

/-- A coefficient of a conversion matrix whose chromaticities lie on one line, so that the derivation of 06 R152 gives
none; by the matrix's row and column. -/
opaque conversionCode : Nat → Nat → Nat → Int

/-- The luma weights of red and blue, in units of 2^-16, by which a 4:2:2 buffer of the tile's own working space becomes
RGB: 04 R115 names a matrix for the other colorimetries only. -/
opaque lumaWeight : Nat → Nat → Nat

/-- The identification of an IPv4 datagram that Pevanak sends: the spec gives none. -/
opaque ipIdent : Nat → Nat

/-- The MAC address of the next hop toward an IPv4 address, for the n-th frame (03 R76; notes/assumptions/26.md). -/
opaque nextHop : Nat → Nat → Nat

/-- How long the enumeration of a loop takes, in nanoseconds: at most 20 ms (09 R237; notes/assumptions/27.md). -/
opaque enumTime : Nat → Nat

/-- What a DRAM word with more than two errors gives: none where they are detected, else the data taken as corrected (01 R22). -/
opaque eccBeyond : Nat → Option (BitVec 64)

end Sys2Proof.Config
end

