-- ==== Sys2Proof/Machine/Types/Almanac.lean ====
section
/-! DEFINITION. The state of the Almanac and of wear (06). Bin tables, bin map, weight table, row checks and
matrices of the banks lie in DRAM (Table 6-4); this is what their headers hold, and the load and recast at work. The
default value of a field is its value after reset. -/

namespace Sys2Proof.Machine

/-- A bank header (06 Table 6-4), with the counts of its tables; `resetCells` are the cells whose stress counts a swap
to the bank resets (R175). -/
structure Bank where
  state : Nat := 0
  content : Nat := 0
  fileCrc : Nat := 0
  serial : Nat := 0
  space : List Byte := zeros 20
  refTemp : Int := 0
  wearCap : Nat := 0xA000
  width : Nat := 0
  height : Nat := 0
  builtAt : Nat := 0
  bins : Nat := 0
  cells : List (Nat × Nat) := []
  resetCells : List (Nat × Nat) := []
deriving DecidableEq, Repr, Inhabited

/-- An ALMANAC_LOAD that has received its file (06 R161, steps 3 to 5). -/
structure AlmanacBuild where
  src : Source
  tag : Nat
  bank : Nat
  file : List Byte
  gains : Bool
deriving DecidableEq, Repr, Inhabited

/-- A recast that runs (06 R173): the operation of AGING_RECAST, none for a scheduled one, and its bank. -/
structure Recast where
  op : Option (Source × Nat)
  bank : Nat
deriving DecidableEq, Repr, Inhabited

/-- The Almanac. Bank 0 is A, 1 is B, 2 the identity bank. `last` is the record of R450, `used` the bank that was
last in force since the last reset (R153), `sampleFrame` the frame whose stress sample is due (R170), and `recastAgain` tells that
a recast was lost and runs again (Table 6-6). -/
structure AlmanacState where
  space : List Byte := [1, 0, 3, 0xE8] ++ zeros 16
  banks : List Bank := [{}, {}]
  inForce : Option Nat := none
  last : Option Nat := none
  used : Option Nat := none
  serial : Nat := 0
  loading : Option AlmanacBuild := none
  recast : Option Recast := none
  swapDue : Option Nat := none
  scheduled : Bool := true
  balance : Bool := false
  interval : Nat := 24
  timeOfDay : Nat := 14400
  cap : Nat := 0xA000
  nextRecast : Option Nat := none
  lastSample : Nat := 0
  sampleFrame : Option Nat := none
  recastAgain : Bool := false
  abandoned : Nat := 0
  stressReset : List (Nat × Nat) := []
  worn : Nat := 0
  composites : List Nat := [0, 0, 0, 0]
deriving DecidableEq, Repr, Inhabited

end Sys2Proof.Machine
end

