-- ==== Sys2Proof/Machine/Types/Bist.lean ====
section
/-! DEFINITION. The state of background self-test (13). The default value of a field is its value after reset. -/

namespace Sys2Proof.Machine

/-- What self-test knows of a block (13 Table 13-4): failures of the current cycle, the failing slice, counts and times,
and the time from which a retest may run. -/
structure BlockRec where
  id : Nat
  state : Nat := 0
  failedNow : Bool := false
  restored : Bool := false
  failing : Nat := 0xFFFF
  failures : Nat := 0
  lastPass : Nat := 0
  lastFail : Nat := 0
  retestAt : Option Nat := none
deriving DecidableEq, Repr, Inhabited

/-- A BIST_RUN or BLOCK_RESTORE that runs (13 R310, R313): its blocks, the one at work and the slices of it done, and
whether a slice of it has failed. -/
structure BistOp where
  src : Source
  tag : Nat
  restore : Bool
  blocks : List Nat
  index : Nat := 0
  slice : Nat := 0
  failed : Bool := false
deriving DecidableEq, Repr, Inhabited

/-- Self-test: the descriptor in force, the block records that differ from a fresh one, the position and counts of
the cycle, and the operations that run. `restored` lists the blocks that return to use at the next frame boundary. -/
structure BistState where
  enable : Bool := true
  period : Nat := 480
  excluded : List Nat := []
  records : List BlockRec := []
  block : Nat := 0
  slice : Nat := 0
  done : Nat := 0
  cycles : Nat := 0
  cycleStart : Nat := 0
  paused : Nat := 0
  pausedSince : Option Nat := none
  lastSlice : Nat := 0
  window : Nat := 0
  inWindow : Nat := 0
  lastDuration : Nat := 0
  overruns : Nat := 0
  overrunLogged : Bool := false
  postponed : Nat := 0
  refused : Nat := 0
  ops : List BistOp := []
  returning : List Nat := []
deriving DecidableEq, Repr, Inhabited

end Sys2Proof.Machine
end

