-- ==== Sys2Proof/Machine/Types/Check.lean ====
section
/-! DEFINITION. The state of the four check units (14). The default value of a field is its value after reset. -/

namespace Sys2Proof.Machine

/-- The context of a check unit (14 Table 14-8 without the unit number and epoch). -/
structure CheckContext where
  width : Nat := 32
  refIn : Bool := true
  refOut : Bool := true
  poly : Nat := 0x04C11DB7
  init : Nat := 0xFFFFFFFF
  xorOut : Nat := 0xFFFFFFFF
  value : Nat := 0xFFFFFFFF
  step : Nat := 1
  maxGap : Nat := 8
  resync : Bool := false
deriving DecidableEq, Repr, Inhabited

/-- The outcomes of the alive-counter checker (14 R324), in the order of their codes. -/
inductive AliveOutcome where
  | none | start | ok | gap | repeat | outOfStep
deriving DecidableEq, Repr, Inhabited

/-- A CHECK_RUN that holds a unit (14 R326): its operation, the saved context and its parameters. -/
structure CheckRun where
  src : Source
  tag : Nat
  saved : CheckContext
  flash : Bool
  continue_ : Bool
  compare : Bool
  addr : Nat
  length : Nat
  expected : Nat
  began : Nat
deriving DecidableEq, Repr, Inhabited

/-- One check unit (14 Tables 14-3 to 14-6), with the time of its latest feed, which a BIST slice waits for (14 R329). -/
structure CheckUnit where
  ctx : CheckContext := {}
  epoch : BitVec 4 := 0
  collide : Bool := false
  queue : List (Nat × Nat) := []
  fedAt : Option Nat := none
  enable : Bool := false
  started : Bool := false
  last : BitVec 8 := 0
  outcome : AliveOutcome := .none
  gaps : Nat := 0
  faults : Nat := 0
  run : Option CheckRun := none
deriving DecidableEq, Repr, Inhabited

end Sys2Proof.Machine
end

