-- ==== Sys2Proof/Machine/Types/Trim.lean ====
section
/-! DEFINITION. The state of the trim converters and of CALIBRATE (12). The default value of a field is its value
after reset; the codes of items 0 to 4 are the fuses' (notes/assumptions/1.md). -/

namespace Sys2Proof.Machine

/-- The codes of items 0 to 4 and 9 (12 Table 12-1) and the set time (Table 12-6). -/
structure AnalogTrims where
  bandgap : Nat := 512
  meterOffset : Int := 0
  meterGain : Nat := 2048
  core : Int := 0
  diode : List Int := [0, 0, 0, 0, 0, 0]
  shunt : List Nat := [0x8000, 0x8000, 0x8000, 0x8000]
  setTime : Nat := 0
deriving DecidableEq, Repr, Inhabited

/-- A trim set (12 Table 12-6): the analogue codes and the port trims. -/
structure TrimSet where
  analog : AnalogTrims := {}
  ports : List PortTrim := List.replicate 48 {}
deriving DecidableEq, Repr, Inhabited

/-- A CALIBRATE that runs (12 R297 to R301, R303): its parameters, the item and slice at work, the item statuses of
Table 12-5, the ports left out, the candidates, since when item 9 has been refused, and the level at which item 3 is
read. -/
structure CalRun where
  src : Source
  tag : Nat
  apply : Nat
  wide : Bool
  items : Nat
  ports : Nat
  rails : Nat
  item : Nat := 0
  slice : Nat := 0
  status : List Nat := List.replicate 10 0
  firstFail : Nat := 0xFF
  failedPort : Nat := 0xFF
  leftOut : Nat := 0
  cand : TrimSet := {}
  refusedSince : Option Nat := none
  level : Nat := 3
deriving DecidableEq, Repr, Inhabited

/-- The trim side: the analogue codes in force (the port trims in force stand in the ports), the candidates of the
latest CALIBRATE, and the run. -/
structure TrimState where
  inForce : AnalogTrims := {}
  latest : Option TrimSet := none
  run : Option CalRun := none
deriving DecidableEq, Repr, Inhabited

end Sys2Proof.Machine
end

