-- ==== Sys2Proof/Machine/Types/Command.lean ====
section
/-! DEFINITION. The state of the command side (02, 18): the host port, the source table, long operations, the
Ephemeris, staged and held changes, the alert record and telemetry; with it the fuses and the firmware's own state.
The default value of a field is its value after reset. -/

namespace Sys2Proof.Machine

/-- The kinds of unit that commit as a whole (02, "Staging and commit"; 18 R402). -/
inductive UnitKind where
  | time | telemetry | stream | layer | background | scaler | almanac | colourSpace | binTables | rail | railMap
  | program | camsync | meridian | cell | twinkle | raster | thermal | trims | bist | record
deriving DecidableEq, Repr, Inhabited

/-- One unit: its kind and its number within the kind (cell units number loop × 100 + cell). -/
structure UnitRef where
  kind : UnitKind
  index : Nat
deriving DecidableEq, Repr, Inhabited

/-- A change staged in a unit: the packet's opcode, target and parameters, and the staging warning, 0 for none
(02 R66). -/
structure StagedUnit where
  ref : UnitRef
  code : Nat
  target : BitVec 64
  params : List Byte
  warning : Nat
deriving DecidableEq, Repr, Inhabited

/-- A change held for COMMIT (02 R67, R68), with the time at which it was staged. -/
structure HeldUnit where
  src : Source
  unit : StagedUnit
  at_ : Nat
deriving DecidableEq, Repr, Inhabited

/-- A set of units that commits at the next boundary, with the request that waits for its outcome (02 R66). -/
structure CommitJob where
  code : Nat
  req : Req
  units : List StagedUnit
  arrival : Nat
  viaQuery : Bool
deriving DecidableEq, Repr, Inhabited

/-- An Ephemeris entry that is not free (03 R97 to R100, Table 3-9), with the domains that its action needs and whether SCHED
votes for them (16 Table 16-5). -/
structure EphEntry where
  index : Nat
  code : Nat
  req : Req
  srcIndex : Nat
  time : Nat
  arrival : Nat
  boundary : Nat
  loaded : Bool
  state : Nat
  late : Bool
  units : List StagedUnit
  domains : List Domain := []
  voting : Bool := false
deriving DecidableEq, Repr, Inhabited

/-- An entry of the source table (02 R53 to R55, R59). -/
structure SourceEntry where
  slot : Nat
  src : Source
  last : Nat := 0
  extSeq : Nat := 0
  replySeq : Nat := 0
  tag : Nat := 0
  stored : Option (List Byte) := none
  executing : Bool := false
  replyWanted : Bool := false
  usesAuth : Bool := false
  used : Nat := 0
deriving DecidableEq, Repr, Inhabited

/-- Data that an operation takes in bulk blocks (18 R404): the length expected, the blocks held by number, the time
of the latest block, and the extended sequence of the packet that started the operation. -/
structure BulkIn where
  length : Nat
  blocks : List (Nat × List Byte)
  lastAt : Nat
  extSeq : Nat
  key : Option (List Byte)
deriving DecidableEq, Repr, Inhabited

/-- A long or scheduled operation, running or kept after completion (02 R62 to R65, Table 2-11). -/
structure LongOp where
  req : Req
  code : Nat
  state : Nat
  long : Bool
  final : Nat := 1
  progress : Nat := 0
  results : List Byte := []
  partials : List Byte := []
  fetched : Nat := 0
  doneAt : Nat := 0
  late : Bool := false
  abortOwed : Option Req := none
  bulk : Option BulkIn := none
deriving DecidableEq, Repr, Inhabited

/-- A request that waits for a domain's wake (02 R72). -/
structure WaitingReq where
  code : Nat
  req : Req
  domain : Domain
  entry : Option EphEntry
deriving DecidableEq, Repr, Inhabited

/-- An entry of the alert record (18 Table 18-4). -/
structure Alert where
  at_ : Nat
  target : BitVec 64
  cls : Nat
  event : Nat
  status : Nat
  active : Bool
  acked : Bool
  read : Bool
  faultN : Bool
  detail : Nat
deriving DecidableEq, Repr, Inhabited

/-- The telemetry configuration (18 R413), when the next datagram is due, and the counts of datagrams sent and
skipped (17 R393). -/
structure Telemetry where
  enable : Bool := false
  interval : Nat := 1000
  destIp : Nat := 0
  destPort : Nat := 0
  nextAt : Nat := 0
  count : Nat := 0
  skipped : Nat := 0
deriving DecidableEq, Repr, Inhabited

/-- COMMAND_POLICY (02 Table 2-7). -/
structure Policy where
  wakeAllow : Nat := 0xF
  maxGap : Nat := 8
  aliveHost : Bool := false
  aliveNet : Bool := true
  authHost : Bool := false
  authNet : Bool := true
deriving DecidableEq, Repr, Inhabited

/-- The command engine. -/
structure CmdState where
  policy : Policy := {}
  sources : List SourceEntry := []
  useClock : Nat := 0
  sessionKey : Option (List Byte) := none
  streamKeys : List ((Nat × Nat) × List Byte) := []
  nonces : List (List Byte) := []
  longOps : List LongOp := []
  ephemeris : List EphEntry := []
  held : List HeldUnit := []
  committing : List CommitJob := []
  waiting : List WaitingReq := []
  snapshots : List Req := []
  alerts : List Alert := []
  alertsDropped : Nat := 0
  owed : List Alert := []
  dropped : Nat := 0
  checkFails : List (Source × Nat) := []
  telemetry : Telemetry := {}
deriving DecidableEq, Repr, Inhabited

/-- The host port (02 R39 to R45): the flags of the status word that belong to it, the reply buffer, and the
model's record of what the latest transaction shifted out. -/
structure HostPort where
  busy : Bool := false
  done : Bool := false
  error : Bool := false
  gated : Bool := false
  wake : Bool := false
  lastTag : BitVec 8 := 0
  seq : BitVec 3 := 0
  reply : List Byte := []
  shiftedStatus : Word := 0
  shifted : List Byte := []
deriving DecidableEq, Repr, Inhabited

/-- The fuses (00 R1, 03 R76, 15 R351, 16 R357, 17 R391, 18 R407 and Table 18-3), and beside them the public key whose
digest they hold: the spec does not say where that key itself lies. `vhost33` is no fuse: it tells that the board wires
VHOST to V3P3 and not to VIO (20 R446; both DESIGN CHOICE; notes/assumptions/1.md). -/
structure Fuses where
  pv8208 : Bool := false
  siliconRev : Nat := 0
  serial : Nat := 0
  mac : Nat := 0
  rootKey : List Byte := zeros 32
  transportKey : List Byte := zeros 32
  imageKeyDigest : List Byte := zeros 32
  imageKey : List Byte := zeros 64
  secVersion : Nat := 0
  commissioned : Bool := false
  vhost33 : Bool := false
  vcoreCode : List Nat := [150, 110, 75, 50]
  bias : List Nat := [0, 0, 0, 0]
  assist : List Nat := [0, 0, 0, 0]
  trims : AnalogTrims := {}
deriving DecidableEq, Repr, Inhabited

/-- A probation in progress (17 R392): when it began, whether the handshake has come, the slot it reverts to, and
the security version that PROBATION_END may burn. -/
structure Probation where
  since : Nat
  handshake : Bool
  previous : Nat
  secVersion : Nat
deriving DecidableEq, Repr, Inhabited

/-- The firmware-run side and its restarts (01 R30, R31; 16 R373; 17 R392). -/
structure Firmware where
  running : Bool := false
  major : Nat := 3
  minor : Nat := 0
  patch : Nat := 0
  restartAt : Option Nat := none
  frozen : Bool := false
  probation : Option Probation := none
  resetCold : Option Nat := none
  resetWarm : Option Nat := none
deriving DecidableEq, Repr, Inhabited

end Sys2Proof.Machine
end

