-- ==== Sys2Proof/Machine/Types/Flash.lean ====
section
/-! DEFINITION. The state of the flash store (17), of DRAM (01) and of the I2C bus (19). The default value of a field is
its value after reset; the flash is erased (notes/assumptions/11.md). -/

namespace Sys2Proof.Machine

/-- A journal entry (17 Tables 17-2, 17-3): its place, data, the flags of its commit record, and whether it is
committed or torn. -/
structure JEntry where
  block : Nat
  page : Nat
  type : Nat
  key : Nat
  seq : Nat
  data : List Byte
  committed : Bool
  fresh : Bool
  torn : Bool
deriving DecidableEq, Repr, Inhabited

/-- What a flash operation is for, which decides what follows its commit. -/
inductive FlashUse where
  | config
  | nvmWrite
  | trims
  | safety
  | slide (handle : Nat)
  | almanacFile
  | gainsOfLoad
  | gainsOfRecast
  | checkpoint
  | orderly
  | image
deriving DecidableEq, Repr, Inhabited

/-- A queued flash write (17 R381, R385): object, data, what it is for, and the operation that waits for it; `begun`
tells that its pages are being programmed. -/
structure FlashWrite where
  type : Nat
  key : Nat
  data : List Byte
  use : FlashUse
  op : Option (Source × Nat)
  begun : Bool := false
deriving DecidableEq, Repr, Inhabited

/-- The version in the header of a firmware image (17 Table 17-6). -/
structure FwVersion where
  major : Nat
  minor : Nat
  patch : Nat
deriving DecidableEq, Repr, Inhabited

/-- The state of a firmware slot. -/
inductive SlotState where
  | empty | valid | failed
deriving DecidableEq, Repr, Inhabited

/-- The flash store. `region` holds the bytes outside the journal, each as the complement of the stored byte, so that an
erased byte 0xFF is not listed; `dirty` the checkpoint generation that waits for its erase; `recordDue` tells that a setting of
the tile configuration record has changed since it was last queued, `reload` that the next frame boundary reloads the
checkpoint (17 R386, R387). -/
structure FlashState where
  sizeMiB : Nat := 128
  clock : Nat := 200
  entries : List JEntry := []
  seq : Nat := 0
  headBlock : Nat := 0
  headPage : Nat := 0
  usedBlocks : List Nat := []
  region : Memory := []
  queue : List FlashWrite := []
  eraseCounts : List (Nat × Nat) := []
  slots : List SlotState := [.valid, .empty]
  versions : List FwVersion := [⟨3, 0, 0⟩, ⟨0, 0, 0⟩]
  active : Nat := 0
  defaultSlot : Nat := 0
  staged : Bool := false
  dirty : Option Nat := none
  torn : Nat := 0
  missing : Nat := 0
  lastCheckpoint : Nat := 0
  overrun : Bool := false
  mapChanged : Bool := false
  scrubbedAt : Nat := 0
  recordDue : Bool := false
  reload : Bool := false
deriving DecidableEq, Repr, Inhabited

/-- DRAM (01 R22 to R27): contents, the rows remapped and withdrawn per die, spare rows found bad, corrected-error
addresses of the last hour, counts, scrub time and refresh state. -/
structure DramState where
  mem : Memory := []
  remapped : List (Nat × Nat) := []
  withdrawn : List (Nat × Nat) := []
  corrections : List (Nat × Nat) := []
  corrected : Nat := 0
  uncorrectable : List Nat := []
  selfRefresh : Bool := false
  scrubbedAt : Nat := 0
deriving DecidableEq, Repr, Inhabited

/-- The I2C controller (19 R433). -/
structure I2cState where
  kilohertz : Nat := 400
  stuck : Bool := false
  faults : Nat := 0
deriving DecidableEq, Repr, Inhabited

end Sys2Proof.Machine
end

