-- ==== Sys2Proof/Machine/Types/Presentation.lean ====
section
/-! DEFINITION. The state of presentation (08): the program table, the scan position, images, camera sync inputs,
freeze and blank. The default value of a field is its value after reset. -/

namespace Sys2Proof.Machine

/-- A slot record (08 Table 8-3). -/
structure Slot where
  view : Nat := 0
  refreshes : Nat := 32
  duration : Nat := 0
deriving DecidableEq, Repr, Inhabited

/-- A program of the table (08 Table 8-2). -/
structure Program where
  complement : Bool := false
  rate : Nat := 9
  latency : Nat := 2
  fallback : Nat := 0
  divisor : Nat := 1
  dead : Nat := 1000
  ceiling : Nat := 0xA000
  residueThreshold : Nat := 0x0200
  eclipse : List Nat := [0, 0, 0]
  phase0 : Nat := 0
  slots : List Slot := [{}]
deriving DecidableEq, Repr, Inhabited

/-- An image: one view's composite of one frame, or black (08 R199, R217). -/
structure ImageId where
  view : Nat
  frame : Nat
  blank : Bool
deriving DecidableEq, Repr, Inhabited

/-- The µA of every rail, loop and scan row (07 R182). -/
abbrev Sums := List (List (List Rat))

/-- What stage 3 notes of a complement image (07 R184; 08 R213): the sums of the house view's own composite, the greatest
error as a part of reference white, the largest complement drive target of each loop and colour, the share of the house view
in the lit time, and the count of clamped pixels. -/
structure HouseNote where
  content : Sums
  error : Rat := 0
  max : List (List Nat) := []
  share : Rat := 0
  clamped : Nat := 0
deriving DecidableEq, Repr, Inhabited

/-- A finished composite in the view buffers (01 R21): unscaled drive values, three per pixel in row-major order, the
stage-2 composite in U1.19 from which a complement subtracts a frozen view (08 R212), the sums of its drives, what stage 3
noted of a complement, and the cells' configuration and the rail map by which it was made (09 R238). -/
structure ViewImage where
  view : Nat
  frame : Nat
  width : Nat
  drives : List (List Nat)
  composite : List (List Nat) := []
  sums : Sums := []
  house : Option HouseNote := none
  cells : List (List (Nat × CellCommitted)) := []
  map : List Nat := []
deriving DecidableEq, Repr, Inhabited

/-- What is fixed for a frame (07 R185, R189): the magnitude and the house factor of each rail, and the views that counted as
blanked. -/
structure Fixed where
  frame : Nat
  m : List Nat
  house : List Nat
  blank : List Bool
deriving DecidableEq, Repr, Inhabited

/-- What an upload sent: an image, the sequence of each port, what scan-out applied on reading it (07 R185, R189), the
rows that a port sent as eclipse fill, and the drive values of the fill (08 R215). -/
structure Sent where
  id : ImageId
  seqs : List Nat
  fixed : Fixed
  image : Option ViewImage := none
  fills : List (Nat × Nat) := []
  eclipse : List Nat := [0, 0, 0]
deriving DecidableEq, Repr, Inhabited

/-- A slot in time (08 R195, R209): its frame and index, and the latency and the phase with which its presentation frame
was placed. -/
structure SlotAt where
  frame : Nat
  slot : Nat
  latency : Nat
  phase : Nat
deriving DecidableEq, Repr, Inhabited

/-- The states of a sync input (08 R207), in the order of the codes of Table 8-7. -/
inductive SyncLock where
  | disabled | acquiring | locked | lost
deriving DecidableEq, Repr, Inhabited

/-- A sync input (08 R206, R207): its record and its estimate. Phases count units of 2^-16 ns; `relocking` tells that the
input acquires again after it was lost. -/
structure SyncInput where
  enable : Bool := false
  falling : Bool := false
  anchor : Bool := false
  commanded : Bool := false
  view : Nat := 0
  divisor : Nat := 1
  offset : Int := 0
  length : Nat := 0
  phase : Nat := 0
  guard_ : Nat := 50000
  state : SyncLock := .disabled
  psi : Nat := 0
  good : Nat := 0
  bad : Nat := 0
  missing : Nat := 0
  lastEdge : Nat := 0
  lastSeen : Option Nat := none
  glitches : Nat := 0
  driftAt : Nat := 0
  driftPsi : Nat := 0
  relocking : Bool := false
  notGenlocked : Bool := false
deriving DecidableEq, Repr, Inhabited

/-- The scan side of presentation. `held` and `shown` are the images in the cells' back and front buffers, as they were
sent; `plans` holds the program that each frame in work follows, and `fitSince` the time from which each entry of the
table has fitted. `presented` is the composite that each view presented last, `lastSent` the
upload that brought what the view showed last, and `fill` the FIFO fill of each port in bytes (R214). -/
structure PresState where
  programs : List (Option Program) := [some {}, none, none, none, none, none, none, none]
  inForce : Nat := 0
  running : Nat := 0
  plans : List (Nat × Program) := []
  fitSince : List (Option Nat) := List.replicate 8 none
  started : Bool := false
  waitSample : Bool := false
  position : Option SlotAt := none
  frameStarted : Nat := 0
  next : Option SlotAt := none
  phase : Nat := 0
  phaseKnown : Bool := false
  phaseSteps : Nat := 0
  frozen : List Bool := [false, false, false, false]
  blanked : List Bool := [true, true, true, true]
  freezeNext : List (Option Bool) := [none, none, none, none]
  blankNext : List (Option Bool) := [none, none, none, none]
  unfreezeAt : List Nat := [0, 0, 0, 0]
  images : List ViewImage := []
  presented : List (Option ViewImage) := [none, none, none, none]
  lastSent : List (Option Sent) := [none, none, none, none]
  shown : Option Sent := none
  held : Option Sent := none
  upload : Option Sent := none
  armed : Bool := false
  launched : Bool := false
  late : List Nat := [0, 0, 0, 0]
  eclipse : List Nat := List.replicate 48 0
  fill : List Nat := List.replicate 48 0
  sync : List SyncInput := List.replicate 5 {}
  overlap : Bool := false
  residue : Nat := 0
  clamped : Nat := 0
  residueRun : Nat := 0
  residueLow : Nat := 0
  residueAlert : Bool := false
deriving DecidableEq, Repr, Inhabited

end Sys2Proof.Machine
end

