-- ==== Sys2Proof/Machine/Types/Ledger.lean ====
section
/-! DEFINITION. The state of the current ledger (07): rails, the rail map, the sums of composites, magnitudes, the
ambient ceiling, headroom grants and the input current. The default value of a field is its value after reset. -/

namespace Sys2Proof.Machine

/-- The start-up of a rail (07 R192). -/
inductive RailPhase where
  /-- LED_EN is low. -/
  | off
  /-- LED_EN is high since the given time and the supply has not reported regulation. -/
  | starting (since : Nat)
  /-- In regulation; the magnitude rises from 0. -/
  | rising
  | on
deriving DecidableEq, Repr, Inhabited

/-- A rail: its record (07 Table 7-1), its start-up, and what the ledger keeps of it (R186 to R190, Table 7-7).
`peak` is in µA. The counts `above`, `within` and `under` run over consecutive shunt measurements. -/
structure Rail where
  enable : Bool := false
  budget : Nat := 1
  attack : Nat := 512
  release : Nat := 32
  theta : Nat := 10
  shunt : Nat := 0xFF
  resistance : Nat := 0
  stagger : Nat := 20
  phase : RailPhase := .off
  k : Nat := 0x8000
  m : Nat := 0x8000
  mReq : Nat := 0x8000
  peak : Rat := 0
  house : Nat := 0x8000
  measured : Nat := 0xFFFF
  above : Nat := 0
  within : Nat := 0
  under : Nat := 0
  mismatch : Bool := false
  underAlert : Bool := false
  shuntLost : Bool := false
  mismatches : Nat := 0
  hardSteps : Nat := 0
deriving DecidableEq, Repr, Inhabited

/-- AMBIENT_SET in force (07 R188) and the ceiling a that follows from it. -/
structure Ambient where
  mode : Nat := 0
  address : Nat := 0
  gain : Nat := 0x8000
  curve : List (Nat × Nat) := []
  a : Nat := 0x8000
  lastRead : Nat := 0
  lastGood : Nat := 0
  failed : Bool := false
deriving DecidableEq, Repr, Inhabited

/-- The sums of one frame's composites (07 R182, R184): for each view, the µA of every rail, loop and scan row, of its
content, and of the written image where a complement changed it; and of the complement (08 R213) the greatest error, as
a part of reference white, the largest complement drive target of each loop and colour, the share of the house
view in the lit time, and the count of clamped pixels. -/
structure FrameSums where
  frame : Nat
  content : List (Nat × Sums)
  written : List (Nat × Sums)
  error : Rat := 0
  houseMax : List (List Nat) := []
  houseShare : Rat := 0
  clamped : Nat := 0
deriving DecidableEq, Repr, Inhabited

/-- The current granted in a window of a rail, in 10 mA, and who holds it (07 R191). -/
structure Grant where
  who : Requester
  rail : Nat
  window : Nat
  current : Nat
deriving DecidableEq, Repr, Inhabited

/-- The ledger. `magnitudes` holds what is fixed for the frames in work; `started` is the rail whose LED_EN rose last in a
start-up, and when; `offAt` the time at which a LED_EN last went low. -/
structure LedgerState where
  rails : List Rail := List.replicate 4 {}
  map : List Nat := List.replicate 72 0
  ambient : Ambient := {}
  sums : List FrameSums := []
  latest : Option FrameSums := none
  magnitudes : List Fixed := []
  started : Option (Nat × Nat) := none
  offAt : Nat := 0
  retryAt : Nat := 0
  grants : List Grant := []
  limit : Nat := 400
  inputLevel : Nat := 0
  lastStep : Nat := 0
  vinCurrent : Nat := 0
  vinVoltage : Nat := 0
  overSince : Option Nat := none
  overAlert : Bool := false
  refuseWork : Bool := false
deriving DecidableEq, Repr, Inhabited

end Sys2Proof.Machine
end

