-- ==== Sys2Proof/Machine/Types/Network.lean ====
section
/-! DEFINITION. The state of the network ports and of house time (03). The default value of a field is its value
after reset. -/

namespace Sys2Proof.Machine

/-- PORT_CONFIG of one port (03 Table 3-1), its LINK bit, and the time until which an IGMPv2 querier counts as present
on it (03 R84). -/
structure PortState where
  vlan : Nat := 0
  pcp : Nat := 5
  snoop : Bool := true
  fec : Nat := 2
  mode : Nat := 2
  link : Bool := false
  v2Until : Option Nat := none
deriving DecidableEq, Repr, Inhabited

/-- A frame or datagram that Pevanak sends (the model's own record). -/
inductive Tx where
  /-- A UDP datagram of its own. -/
  | datagram (dstIp dstPort srcPort : Nat) (payload : List Byte)
  /-- A frame of its own on one port. -/
  | frame (p : NetPort) (bytes : List Byte)
  /-- A frame forwarded out of a port. -/
  | forwarded (p : NetPort) (bytes : List Byte)
  /-- A frame cut short and ended with an invalid FCS (03 Table 3-2). -/
  | truncated (p : NetPort) (bytes : List Byte)
  /-- An IGMP membership report; `v2` for the compatibility mode. -/
  | igmpReport (p : NetPort) (group source : Nat) (join v2 : Bool)
deriving DecidableEq, Repr, Inhabited

/-- A group that an IGMP report opened for forwarding out of a port (03 R79). -/
structure Membership where
  port : NetPort
  group : Nat
  reportAt : Nat
deriving DecidableEq, Repr, Inhabited

/-- A group that a subscription joined (03 R84); source 0 is EXCLUDE mode with an empty list. -/
structure Joined where
  port : NetPort
  group : Nat
  source : Nat
  stream : Nat
deriving DecidableEq, Repr, Inhabited

/-- The second copy of a state-change report, due 1 s after the first (03 R84). -/
structure ReportRepeat where
  dueAt : Nat
  port : NetPort
  group : Nat
  source : Nat
  join : Bool
deriving DecidableEq, Repr, Inhabited

/-- The tile configuration record's identity (03 R77). -/
structure TileIdentity where
  ip : Nat
  prefixLen : Nat
  gateway : Nat
  screen : Nat
  tile : Nat
deriving DecidableEq, Repr, Inhabited

/-- An IPv4 fragment held for reassembly (02 R38, 18 R404): its datagram (source, identification, destination,
protocol), offset, whether more follow, and payload. -/
structure Fragment where
  src : Nat
  ident : Nat
  dst : Nat
  offset : Nat
  more : Bool
  data : List Byte
deriving DecidableEq, Repr, Inhabited

/-- The network ports and the switch. `interval` is the membership interval in nanoseconds (03 R79); `wire` the frames that
carried the datagrams of `tx` (03 R76). -/
structure NetState where
  portA : PortState := {}
  portB : PortState := {}
  identity : Option TileIdentity := none
  memberships : List Membership := []
  interval : Nat := 260000000000
  reportRepeats : List ReportRepeat := []
  joined : List Joined := []
  loopSince : Option Nat := none
  fragments : List Fragment := []
  badFcs : Nat := 0
  tooLong : Nat := 0
  uncorrected : Nat := 0
  tx : List Tx := []
  wire : List (NetPort × List Byte) := []
deriving DecidableEq, Repr, Inhabited

/-- The servo states (03 Table 3-8). -/
inductive Servo where
  | locked | acquiring | holdover | neverLocked
deriving DecidableEq, Repr, Inhabited

/-- A PTP master heard on a port, with the time of its latest Announce (03 R89). -/
structure Master where
  port : NetPort
  ann : Announce
  at_ : Nat
deriving DecidableEq, Repr, Inhabited

/-- A hardware timestamp in nanoseconds: the latest PTP event message of a type received or sent on a port (03 R88). -/
structure PtpStamp where
  port : NetPort
  sent : Bool
  kind : Nat
  at_ : Nat
deriving DecidableEq, Repr, Inhabited

/-- House time (03 R87 to R95). The counter counts units of 2^-48 ns, of which 16 fraction bits show. -/
structure TimeState where
  counter : Nat := 0
  rate : Int := 0
  servo : Servo := .neverLocked
  integral : Rat := 0
  alpha : Nat := 0x2000
  beta : Nat := 0x0200
  goodRun : Nat := 0
  badRun : Nat := 0
  discardRun : Nat := 0
  rateHistory : List (Nat × Int) := []
  pendingStep : Option Int := none
  lastSample : Option Nat := none
  holdoverSince : Option Nat := none
  holdoverAlerted : Bool := false
  steps : Nat := 0
  discarded : Nat := 0
  late : Nat := 0
  offset : Rat := 0
  delays : List Rat := []
  domain : Nat := 127
  preferB : Bool := false
  dreqUnicast : Bool := false
  announceTimeout : Nat := 3
  logSync : Int := -3
  masterAddr : Nat := 0
  stamps : List PtpStamp := []
  dreqSequence : Nat := 0
  logDelayReq : Option Int := none
  masters : List Master := []
  selected : Option Master := none
  tlv : List Byte := []
  frame : Nat := 0
  bootAt : Nat := 0
deriving DecidableEq, Repr, Inhabited

end Sys2Proof.Machine
end

