-- ==== Sys2Proof/Machine/Types/Pixel.lean ====
section
/-! DEFINITION. The state of the layer pool, the layers, the streams, write-back and the scalers (04, 05). The
default value of a field is its value after reset. -/

namespace Sys2Proof.Machine

/-- The buffer states (04 Table 4-2), in the order of the codes of Table 4-9. -/
inductive BufState where
  | free | filling | ready | onScreen | retiring
deriving DecidableEq, Repr, Inhabited

/-- What fills a FILLING buffer (04 R107). -/
inductive Filler where
  | none | stream | bulkWrite | slide | writeback
deriving DecidableEq, Repr, Inhabited

/-- A layer buffer (04 R103 to R113). `places` are its granules of the pool in order, `mem` holds the bytes that are not 0, by
offset, `bad` the offsets of the words that DRAM has lost (01 Table 1-5); `got` the columns received of each row of the frame
being filled; `readFrame` the latest frame whose composites read it, `readBefore` the one before. -/
structure Buffer where
  handle : Nat
  format : Nat
  stored : Bool := false
  fromSlide : Bool := false
  fullRange : Bool := false
  width : Nat := 1
  height : Nat := 1
  colorimetry : Nat := 0
  transfer : Nat := 0
  slide : Nat := 0
  state : BufState := .free
  filler : Filler := .none
  releasePending : Bool := false
  places : List Nat := []
  mem : List Host.Cell := []
  bad : List Nat := []
  got : List (Nat × List Nat) := []
  incomplete : List Nat := []
  key : Option Nat := none
  order : Nat := 0
  stray : Nat := 0
  readFrame : Nat := 0
  readBefore : Nat := 0
  opSrc : Source := .host
  opTag : Nat := 0
deriving DecidableEq, Repr, Inhabited

/-- A layer descriptor (04 Table 4-6); disabled after reset. -/
structure Layer where
  enable : Bool := false
  isStream : Bool := false
  z : Nat := 0
  views : Nat := 0
  source : Nat := 0
  fallback : Nat := 0
  srcX : Nat := 0
  srcY : Nat := 0
  srcW : Nat := 1
  srcH : Nat := 1
  dstX : Int := 0
  dstY : Int := 0
  dstW : Nat := 1
  dstH : Nat := 1
  scaler : Nat := 0xFF
  loss : Nat := 0
  alpha : Nat := 0x8000
  colour : List Nat := [0, 0, 0]
  shedRank : Nat := 0
deriving DecidableEq, Repr, Inhabited

/-- A layer's run state (04 R114, R123, R128, R129; 05 R146, R149): the buffers composed at the latest and the
previous latch, the loss and return counts, and the scaler and vertical taps in use. `fresh` tells whether the latest
latch selected a newly completed stream frame. -/
structure LayerRun where
  selected : Option Nat := none
  previous : Option Nat := none
  lossCount : Nat := 0
  returnCount : Nat := 0
  sinceNew : Nat := 0
  lost : Bool := false
  dropped : Bool := false
  transparent : Bool := false
  notReady : Nat := 0
  fresh : Bool := false
  seenOrder : Nat := 0
  shed : Bool := false
  vtaps : Nat := 8
  movedTo : Option Nat := none
  noScaler : Bool := false
deriving DecidableEq, Repr, Inhabited

/-- A path of a subscription (18 Table 18-10): whether it is used, group, source and UDP port. -/
structure Path where
  used : Bool := false
  group : Nat := 0
  source : Nat := 0
  port : Nat := 0
deriving DecidableEq, Repr, Inhabited

/-- A subscribed stream with its binding and its ingest state (03 R82 to R86; 04 R111, R112). `openKey` is the RTP
timestamp or frame number of the frame being written, and `openHandle` its buffer, none while its packets are
dropped. -/
structure Stream where
  native : Bool
  sealed : Bool
  fullRange : Bool
  payloadType : Nat
  sampling : Nat
  colorimetry : Nat
  transfer : Nat
  width : Nat
  height : Nat
  streamId : Nat
  pathA : Path
  pathB : Path
  ring : List Nat
  cropX : Nat
  cropY : Nat
  cropW : Nat
  cropH : Nat
  lossTimeout : Nat
  returnCount : Nat
  openKey : Option Nat := none
  openHandle : Option Nat := none
  newest : Option Nat := none
  seen : List Nat := []
  nextRing : Nat := 0
  skipped : Nat := 0
  malformed : Nat := 0
  drops : Nat := 0
deriving DecidableEq, Repr, Inhabited

/-- A write-back in progress (04 R126): its operation, view, tap, rectangle, target, and the frame it captures. -/
structure Writeback where
  src : Source
  tag : Nat
  view : Nat
  tap : Nat
  handle : Nat
  x : Nat
  y : Nat
  width : Nat
  height : Nat
  frame : Option Nat
deriving DecidableEq, Repr, Inhabited

/-- A coefficient set (05 Table 5-2): tap counts, edge mode, name, the two tables of 64 phases of 8 codes, and its
source as SCALER_STATUS reports it. -/
structure CoeffSet where
  hTaps : Nat
  vTaps : Nat
  edge : Nat
  name : List Byte
  h : List (List Int)
  v : List (List Int)
  source : Nat
deriving DecidableEq, Repr, Inhabited

/-- A scaler's banks: none stands for built-in set 0 (05 R142, R143). -/
structure ScalerState where
  bankA : Option CoeffSet := none
  bankB : Option CoeffSet := none
  activeB : Bool := false
  unusable : Bool := false
deriving DecidableEq, Repr, Inhabited

/-- The configuration latched for a frame (01 R18; 04 R114; 05 R142; 06 R163, R165, R178; 08 R195), until its composites are
finished: with the layers, the scaler banks, the Almanac bank in force with its header and bin tables, the working space, the
bypass, the raster, the cells' committed configuration by loop, and the rail map. -/
structure Latched where
  frame : Nat
  prog : Program
  layers : List Layer
  runs : List LayerRun
  background : List (List Nat)
  scalers : List ScalerState
  bank : Option Nat
  banks : List Bank
  bins : List Byte
  space : List Byte
  bypass : Bool
  width : Nat
  height : Nat
  cells : List (List (Nat × CellCommitted))
  map : List Nat
deriving DecidableEq, Repr, Inhabited

/-- The layer side of the pixel engine. -/
structure LayerState where
  buffers : List Buffer := []
  layer : List Layer := List.replicate 8 {}
  run : List LayerRun := List.replicate 8 {}
  background : List (List Nat) := List.replicate 4 [0, 0, 0]
  streams : List (Option Stream) := List.replicate 8 none
  scaler : List ScalerState := List.replicate 4 {}
  writeback : List Writeback := []
  latched : List Latched := []
  occulted : Nat := 0
  shedding : Bool := false
  orderClock : Nat := 0
deriving DecidableEq, Repr, Inhabited

end Sys2Proof.Machine
end

