-- ==== Sys2Proof/Machine/Types/Power.lean ====
section
/-! DEFINITION. The state of the power controller and Nightwatch (16), of the supplies and clocks (19), of the
flash-independent pins and of the I2C bus. The default value of a field is its value after reset. -/

namespace Sys2Proof.Machine

/-- The states of the device as the power controller knows them (16 R359 to R374; 13 R317; 19 R419, R421). -/
inductive PowerMode where
  /-- Supplies are coming up (19 R419). -/
  | poweringUp
  /-- The supplies stand and the boot has not completed (16 R375). -/
  | booting
  | run
  | enteringTwilight
  | twilight
  /-- Leaving TWILIGHT (16 R364). -/
  | leavingTwilight
  | enteringNadir
  | nadir
  /-- A wake from NADIR (16 R368). -/
  | waking
  /-- The wake and its retry failed (16 R369). -/
  | wakeFailed
  /-- NRST holds the reset (16 R374). -/
  | heldInReset
  /-- A BOR holds the device (19 R418, R421). -/
  | heldInBor
  /-- Scan test (13 R317). -/
  | scan
deriving DecidableEq, Repr, Inhabited

/-- An implicit vote (02 R72): its domain, source, operation and, once that has completed, the time of withdrawal. -/
structure ImplicitVote where
  domain : Domain
  src : Source
  tag : Nat
  withdrawAt : Option Nat
deriving DecidableEq, Repr, Inhabited

/-- The wake record (16 Table 16-12). -/
structure WakeRecord where
  status : Nat := 0
  source : Nat := 0
  attempts : Nat := 0
  firstStep : Nat := 0
  finalStep : Nat := 0
  latched : Nat := 0
  entryTime : Nat := 0
  wakeTime : Nat := 0
  duration : Nat := 0
deriving DecidableEq, Repr, Inhabited

/-- A reset history entry (16 Table 16-13). -/
structure ResetEntry where
  kind : Nat
  stuck : Bool
  endedWakeFailure : Bool
  time : Nat
deriving DecidableEq, Repr, Inhabited

/-- What holds a BOR (19 R418, R421). -/
inductive BorCause where
  | vinLow | vinHigh | regulation | short | dieTrip
deriving DecidableEq, Repr, Inhabited

/-- An operation that a power change reports to: its source and tag. -/
structure PowerOp where
  src : Source
  tag : Nat
deriving DecidableEq, Repr, Inhabited

/-- The power controller and Nightwatch. `rtc` is the reading in units of 2^-15 s at the counter time `rtcSetAt`; `awake` the domains on
in TWILIGHT; `wakeStep` the step of Table 16-10 at work since `wakeStepAt`; `upFrom` the counter time of the last POR; `porBoot` tells that no
boot has completed since then; `supplyStep` the one of 19 Table 19-6, 0 once the
supplies have failed three times; `bootFaults` the rows of 19 Table 19-7 to log at the next boot;
`vsafeLow` tells that VIN stands below 2.7 V, so that the safety supply has failed (19 Table 19-16). -/
structure PowerState where
  mode : PowerMode := .poweringUp
  level : Fin 4 := 3
  ceiling : Fin 4 := 0
  auto : Bool := true
  slowSince : Option Nat := none
  votes : List Nat := [0, 0, 0, 0, 2, 0]
  implicit : List ImplicitVote := []
  alarm : Option Nat := none
  portAWake : Bool := false
  awake : List Domain := []
  rtc : Nat := 0
  rtcSetAt : Nat := 0
  rtcCrystal : Bool := false
  crystalChanged : Bool := false
  record : WakeRecord := {}
  history : List ResetEntry := [⟨1, false, false, 0⟩]
  wakeStep : Nat := 0
  wakeAttempt : Nat := 0
  wakeStepAt : Nat := 0
  wakeStart : Nat := 0
  wakePause : Option Nat := none
  latchedWakes : List Nat := []
  fromTwilight : Bool := false
  op : Option PowerOp := none
  shutdown : Bool := false
  supplyStep : Nat := 1
  supplyStepAt : Nat := 0
  supplyFailures : Nat := 0
  borCauses : List BorCause := []
  bootFaults : List Nat := []
  nrstLowSince : Option Nat := none
  nrstIgnored : Bool := false
  nrstHighSince : Nat := 0
  refinLost : Bool := false
  vsafeLow : Bool := false
  upFrom : Int := 0
  porBoot : Bool := true
deriving DecidableEq, Repr, Inhabited

/-- The causes that hold FAULT_N low (16 Table 16-14 and the rules it gathers; 20 R447). -/
inductive FaultCause where
  | notBooted | frozen | wakeFailed | supply | essentialBlock | inputOvercurrent | thermalShutdown | almanac
  | scan | flash | refin
deriving DecidableEq, Repr, Inhabited

end Sys2Proof.Machine
end

