-- ==== Sys2Proof/Machine/Types/Safety.lean ====
section
/-! DEFINITION. The state of the safety block (15). The default value of a field is its value after reset. -/

namespace Sys2Proof.Machine

/-- A safety configuration (15 Table 15-10); the default is the one of an uncommissioned block (R351). -/
structure SafetyCfg where
  functions : Nat := 0
  lightSrc : Nat := 0
  motionSrc : Nat := 0
  flags : Nat := 0
  filter : Nat := 10
  estopTime : Nat := 500
  doorTime : Nat := 500
  lcTime : Nat := 100
  edmTime : Nat := 100
  netTimeout : Nat := 5000
  connection : Nat := 0
  ident : Nat := 0
deriving DecidableEq, Repr, Inhabited

/-- The states of an output pair in the order of the codes of 15 Table 15-9. -/
inductive PairState where
  | run | demand | lockout | interlock | unused
deriving DecidableEq, Repr, Inhabited

/-- An output pair (15 Table 15-6): its state, the sources whose demand is latched, and the time at which EDM
began to wait. -/
structure Pair where
  state : PairState := .unused
  latched : Nat := 0
  edmSince : Option Nat := none
deriving DecidableEq, Repr, Inhabited

/-- A configuration change that waits for its confirming press (15 R349). -/
structure SafetyChange where
  cfg : SafetyCfg
  src : Source
  tag : Nat
  since : Nat
deriving DecidableEq, Repr, Inhabited

/-- The safety block. `levels` are the filtered inputs in the order of SafetyInput; `discrepancy` since when each pair
disagrees; `mend` the pairs of a discrepancy lockout with whether both inputs have been seen together at the demand
level and then at the healthy level; `pulseFails` the inputs that failed their last test pulse. -/
structure SafetyState where
  cfg : SafetyCfg := {}
  noRecord : Bool := true
  levels : List Bool := List.replicate 13 false
  light : Pair := { state := .interlock }
  motion : Pair := { state := .interlock }
  cause : Nat := 0
  discrepancy : List (SafetyPair × Nat) := []
  mend : List (SafetyPair × Bool × Bool) := []
  pulseFails : List SafetyInput := []
  leftAt : Option Nat := none
  rightAt : Option Nat := none
  armed : Bool := false
  valid2h : Bool := false
  pressSince : Option Nat := none
  stuck : Bool := false
  offSince : Nat := 0
  pending : Option SafetyChange := none
  alive : Option Nat := none
  netAt : Option Nat := none
  netDemand : Bool := false
  demands : Nat := 0
  refused : Nat := 0
  pulseFaults : Nat := 0
  discarded : Nat := 0
  lastChange : Nat := 0
deriving DecidableEq, Repr, Inhabited

end Sys2Proof.Machine
end

