-- ==== Sys2Proof/Machine/Types/Thermal.lean ====
section
/-! DEFINITION. The state of the thermal model (11). Temperatures are rationals in °C, thresholds S8.7 codes. The
default value of a field is its value after reset. -/

namespace Sys2Proof.Machine

/-- A sensor record (11 Table 11-7). -/
structure SensorCfg where
  input : Nat
  enable : Bool
  col : Nat
  row : Nat
  nominal : Nat
  pullUp : Nat
  beta : Nat
deriving DecidableEq, Repr, Inhabited

/-- The thermal descriptor in force (11 Table 11-6, Table 11-2). -/
structure ThermalDesc where
  bypass : Bool := false
  sensors : List SensorCfg := []
  die : List Int := [14080, 15360, 17280]
  dieHyst : Int := 640
  led : List Int := [10880, 12160, 14080]
  ledHyst : Int := 640
  u0 : Nat := 0x7000
  g : Nat := 1024
  uMin : Nat := 0x2000
  fall : Nat := 16
  rise : Nat := 2
  theta : Nat := 0x2000
  tau : Nat := 120
  thetaHs : Nat := 0x80
  ambient : Int := 0x0C80
  idle : Nat := 50
deriving DecidableEq, Repr, Inhabited

/-- A die diode (11 R274, R275): its reading in S8.7 after its offset, whether it is broken, consecutive updates of
disagreement, and since when a broken one has been in range and in agreement. -/
structure Diode where
  reading : Int := 0x0C80
  broken : Bool := false
  disagree : Nat := 0
  inRangeSince : Option Nat := none
  agreeSince : Option Nat := none
deriving DecidableEq, Repr, Inhabited

/-- The states of a sensor in the order of the codes after 11 Table 11-8. -/
inductive SensorStatus where
  | valid | heldOut | brokenElectrically | brokenByCheck | outside
deriving DecidableEq, Repr, Inhabited

/-- A sensor's run state (11 R276, R285, R286): whether it has been converted, its ratio in units of 2^-16, reading,
status, consecutive and total held-out frames, since when it has agreed, and the value used. -/
structure Sensor where
  converted : Bool := false
  ratio : Nat := 0
  reading : Rat := 25
  status : SensorStatus := .valid
  held : Nat := 0
  heldTotal : Nat := 0
  agreeSince : Option Nat := none
  used : Rat := 25
deriving DecidableEq, Repr, Inhabited

/-- A zone (11 R278, R279, R286): its rise, the temperature for colour and stress, the temperature for thresholds, and its
state. -/
structure Zone where
  rise : Rat := 0
  temp : Rat := 25
  judged : Rat := 25
  state : Nat := 0
deriving DecidableEq, Repr, Inhabited

/-- A rail voltage as its supply reports it (07 R183, 19 R433). -/
structure RailVolt where
  millivolts : Nat := 0
  goodAt : Nat := 0
  failedSince : Option Nat := none
deriving DecidableEq, Repr, Inhabited

/-- The thermal model. `u` holds the throttle factors, `latched` the zone temperatures that the layer latch of each
frame in work took, `shutdownAt` the time of a shutdown in force, and `diodesAt` and `factorsAt` the times of the latest conversion
of the diodes and of the latest step of the factors. -/
structure ThermState where
  desc : ThermalDesc := {}
  diodes : List Diode := List.replicate 6 {}
  coreFiltered : Rat := 0
  die : Rat := 25
  dieState : Nat := 0
  reported : Nat := 0
  sensors : List Sensor := []
  cols : Nat := 0
  rows : Nat := 0
  zones : List Zone := []
  u : List Nat := [0x8000, 0x8000, 0x8000, 0x8000]
  volts : List RailVolt := List.replicate 4 {}
  shutdownAt : Option Nat := none
  graceFrom : Option Nat := none
  doubled : Bool := false
  diodesAt : Option Nat := none
  factorsAt : Option Nat := none
  latched : List (Nat × List Rat) := []
  lastZone : Nat := 0
deriving DecidableEq, Repr, Inhabited

end Sys2Proof.Machine
end

