-- ==== Sys2Proof/Machine/State.lean ====
section
/-! DEFINITION. The state of the block: every register, table, buffer, mode and pin that the spec gives Pevanak, the
queue of waiting commands, the outcomes of a command, and the state after reset. The parts are declared in
Machine/Types; the default value of a field is its value after reset, with the mark of the assumption log where the
spec gives none. -/

namespace Sys2Proof.Machine

/-- The machine never stops with a fault: every report the spec describes is an effect on the state. -/
inductive Fault where
deriving DecidableEq, Repr

/-- Why a command has no meaning. -/
inductive Refusal where
  /-- Raised by exec alone, for a command whose meaning is not written yet; safe, for nothing is claimed. -/
  | notModelled (mnemonic : String)
deriving DecidableEq, Repr

/-- The state. -/
structure State where
  fuse : Fuses := {}
  fw : Firmware := {}
  time : TimeState := {}
  net : NetState := {}
  host : HostPort := {}
  cmd : CmdState := {}
  check : List CheckUnit := List.replicate 4 {}
  layers : LayerState := {}
  pres : PresState := {}
  chain : ChainState := {}
  plant : Plant := {}
  power : PowerState := {}
  flash : FlashState := {}
  dram : DramState := {}
  i2c : I2cState := {}
  almanac : AlmanacState := {}
  ledger : LedgerState := {}
  therm : ThermState := {}
  trim : TrimState := {}
  bist : BistState := {}
  safety : SafetyState := {}
  faults : List FaultCause := [.notBooted]
  pending : List Instr := []
  freeCount : Nat := 0
deriving DecidableEq, Repr, Inhabited

/-- The state right after reset: every field at its default (INVENTORY.md lists each with its rule or log entry). -/
def State.reset : State := {}

end Sys2Proof.Machine
end

