-- ==== Sys2Proof/Machine/Clock.lean ====
section
/-! DEFINITION. The sidereal counter (03 R90): its reading in nanoseconds and its advance on one tick of the
500 MHz time clock. -/

namespace Sys2Proof.Machine

/-- The counter's integer nanoseconds. -/
def nowNs (s : State) : Nat := s.time.counter / 2 ^ 48

/-- The counter's shown 16-bit fraction (03 R90). -/
def nowFraction (s : State) : Nat := s.time.counter / 2 ^ 32 % 2 ^ 16

/-- The advance of one tick, 2 × (1 + r) ns in units of 2^-48 ns (03 R90). -/
def tickAdvance (r : Int) : Nat := (2 * (2 ^ 48 + r)).toNat

/-- One tick: the counter advances modulo the 64-bit range of its integer part. -/
def clockTick (s : State) : State :=
  { s with time.counter := (s.time.counter + tickAdvance s.time.rate) % 2 ^ 112 }

end Sys2Proof.Machine
end

