-- ==== Sys2Proof/Machine/Packet.lean ====
section
/-! DEFINITION. The frames that Pevanak sends (03 R75, R76): Ethernet, IPv4 and UDP as their standards lay them out
(notes/assumptions/26.md), each frame at most 1,518 bytes long. -/

namespace Sys2Proof.Machine

def getNet (s : State) : NetPort → PortState
  | .A => s.net.portA
  | .B => s.net.portB

def setNet (p : NetPort) (f : PortState → PortState) (s : State) : State :=
  match p with
  | .A => { s with net.portA := f s.net.portA }
  | .B => { s with net.portB := f s.net.portB }

def otherPort : NetPort → NetPort
  | .A => .B
  | .B => .A

/-- The tile's IPv4 address: the record's, or a link-local address of RFC 3927 taken from the MAC (03 R77). -/
def ownIp (s : State) : Nat :=
  (s.net.identity.map (·.ip)).getD (0xA9FE0100 + s.fuse.mac % 0xFDFF)

/-- The frame check sequence, least significant byte first (IEEE 802.3). -/
def fcsBytes (m : List Byte) : List Byte := (u32 (crc32 m)).reverse

/-- The sum of 16-bit words with its carries folded in (RFC 1071). -/
def wordSum (m : List Byte) : Nat :=
  let t := ((chunks 2 m).map fun c => be (c ++ [0]) 0 2).foldl (· + ·) 0
  let t1 := t % 65536 + t / 65536
  t1 % 65536 + t1 / 65536

/-- The checksum of a header or message whose checksum field is 0. -/
def checksum (m : List Byte) : Nat := 0xFFFF - wordSum m

/-- A header of an IPv4 datagram that Pevanak sends. -/
def ipHeader (src dst proto ident offset : Nat) (more : Bool) (length : Nat) : List Byte :=
  let h (sum : Nat) : List Byte := u8 0x45 ++ u8 0 ++ u16 (20 + length) ++ u16 ident ++ u16 (8192 * b2n more + offset / 8) ++
    u8 64 ++ u8 proto ++ u16 sum ++ u32 src ++ u32 dst
  h (checksum (h 0))

/-- A frame of Pevanak's own on a port, tagged where the port has a VLAN, padded and with its FCS. -/
def ownFrame (p : NetPort) (dst etherType : Nat) (payload : List Byte) (s : State) : List Byte :=
  let x := getNet s p
  let tag := if x.vlan = 0 then [] else u16 0x8100 ++ u16 (x.pcp * 8192 + x.vlan)
  let m := ube 6 dst ++ ube 6 s.fuse.mac ++ tag ++ u16 etherType ++ payload
  let m1 := if m.length < 60 then padTo 60 m else m
  m1 ++ fcsBytes m1

/-- The IPv4 payload that fits in a frame of 1,518 bytes, in units of 8. -/
def ipRoom (p : NetPort) (s : State) : Nat := if (getNet s p).vlan = 0 then 1480 else 1472

/-- The frames that carry an IPv4 datagram on a port, its fragments where it is too long for one frame. -/
def ipFrames (p : NetPort) (mac ident dst proto : Nat) (data : List Byte) (s : State) : List (List Byte) :=
  let parts := chunks (ipRoom p s) data
  parts.zipIdx.map fun (d, k) =>
    ownFrame p mac 0x0800 (ipHeader (ownIp s) dst proto ident (ipRoom p s * k) (k + 1 != parts.length : Bool) d.length ++ d) s

/-- A UDP datagram with its checksum, 0xFFFF standing for a sum of 0 (RFC 768). -/
def udpBytes (src dst sport dport : Nat) (payload : List Byte) : List Byte :=
  let h (sum : Nat) : List Byte := u16 sport ++ u16 dport ++ u16 (8 + payload.length) ++ u16 sum
  let sum := checksum (u32 src ++ u32 dst ++ u8 0 ++ u8 17 ++ u16 (8 + payload.length) ++ h 0 ++ payload)
  h (if sum = 0 then 0xFFFF else sum) ++ payload

/-- The port that Pevanak's own datagrams leave by: A while its link is up, else B; none with both down (DESIGN CHOICE: both
ports share the address and the spec names no port; notes/assumptions/26.md). -/
def ownPort (s : State) : Option NetPort := if s.net.portA.link then some .A else if s.net.portB.link then some .B else none

/-- The state after sending. -/
def send (t : Tx) (s : State) : State := { s with net.tx := s.net.tx ++ [t] }

/-- A UDP datagram of Pevanak's own, and the frames that carry it. The next hop's MAC is a free value (`Config.nextHop`), and so
is the identification (notes/assumptions/26.md). -/
def sendUdp (dst dport sport : Nat) (payload : List Byte) (s : State) : State :=
  let t := send (.datagram dst dport sport payload) s
  match ownPort s with
  | some p =>
    let n := s.net.wire.length
    { t with net.wire := s.net.wire ++ (ipFrames p (Config.nextHop dst n % 2 ^ 48) (Config.ipIdent n % 65536) dst 17
        (udpBytes (ownIp s) dst sport dport payload) s).map fun f => (p, f) }
  | none => t

end Sys2Proof.Machine
end

