-- ==== Sys2Proof/Machine/Status.lean ====
section
/-! DEFINITION. The status codes of 02 Table 2-10. -/

namespace Sys2Proof.Machine.St

def ok : Nat := 0x0000
def accepted : Nat := 0x0001
def deferred : Nat := 0x0002
def partialResults : Nat := 0x0003
def badOpcode : Nat := 0x0010
def badParam : Nat := 0x0011
def badLength : Nat := 0x0012
def checkFail : Nat := 0x0013
def aliveRepeat : Nat := 0x0014
def aliveGap : Nat := 0x0015
def authFail : Nat := 0x0016
def busy : Nat := 0x0020
def blockAsleep : Nat := 0x0021
def blockUnusable : Nat := 0x0022
def late : Nat := 0x0023
def notCommitted : Nat := 0x0024
def linebufShort : Nat := 0x0030
def tapsReduced : Nat := 0x0031
def plausibilityFail : Nat := 0x0040
def locked : Nat := 0x0041
def checkRepaired : Nat := 0x0042
def thermalRefused : Nat := 0x0050
def budgetRefused : Nat := 0x0051
def nvmBusy : Nat := 0x0060
def nvmTorn : Nat := 0x0061
def wakeFail : Nat := 0x0070

/-- Whether a status refuses the packet: every code but the done, accepted, deferred and partial ones and the two
warnings, LATE and TAPS_REDUCED (02 R60). -/
def refusal (st : Nat) : Bool :=
  !(st == ok || st == accepted || st == deferred || st == partialResults || st == late || st == tapsReduced)

end Sys2Proof.Machine.St
end

