-- ==== Sys2Proof/Machine/Ops.lean ====
section
/-! DEFINITION. Operations that many commands share: free values, datagrams, the alert record, replies, the source
table, and long operations (02, 18). -/

namespace Sys2Proof.Machine

/-- Saturation of the 32-bit counts of 18 Table 18-13. -/
def inc32 (n : Nat) : Nat := satN 0xFFFFFFFF (n + 1)

/-- Saturation of 8-bit counts. -/
def inc8 (n : Nat) : Nat := satN 255 (n + 1)

/-- Saturation of 16-bit counts. -/
def inc16 (n : Nat) : Nat := satN 0xFFFF (n + 1)

/-! ## Addresses -/

/-- The tile's screen number, 0xFFFE without an identity (03 R77). -/
def screenNo (s : State) : Nat := (s.net.identity.map (·.screen)).getD 0xFFFE

/-- The tile's number, 0xFFFE without an identity (03 R77). -/
def tileNo (s : State) : Nat := (s.net.identity.map (·.tile)).getD 0xFFFE

/-- Restricted mode holds until the tile configuration record is written (03 R77). -/
def restricted (s : State) : Bool := s.net.identity.isNone

/-- The fields of a target address (02 Table 2-5). -/
def tgtScreen (t : BitVec 64) : Nat := field t.toNat 63 48
def tgtTile (t : BitVec 64) : Nat := field t.toNat 47 32
def tgtLoop (t : BitVec 64) : Nat := field t.toNat 31 27
def tgtCell (t : BitVec 64) : Nat := field t.toNat 26 20
def tgtPixel (t : BitVec 64) : Nat := field t.toNat 19 10
def tgtEmitter (t : BitVec 64) : Nat := field t.toNat 9 8
def tgtReserved (t : BitVec 64) : Nat := field t.toNat 7 0

/-- A target address of this tile with the given lower fields (18 Table 18-4). -/
def ownTarget (s : State) (loop cell pixel emitter : Nat) : BitVec 64 :=
  BitVec.ofNat 64 (screenNo s * 2 ^ 48 + tileNo s * 2 ^ 32 + loop * 2 ^ 27 + cell * 2 ^ 20 + pixel * 2 ^ 10 + emitter * 2 ^ 8)

/-- The tile itself as the target of an event. -/
def tileTarget (s : State) : BitVec 64 := ownTarget s 0 0 0 0

/-- The responder address of a reply: this tile's numbers, lower fields echoed (02 Table 2-9). -/
def responder (s : State) (t : BitVec 64) : Nat :=
  screenNo s * 2 ^ 48 + tileNo s * 2 ^ 32 + t.toNat % 2 ^ 32

/-! ## Sending -/

/-- The bytes of a reply (02 Table 2-9): header, results, authenticator where a key is given, CRC-32C. The
authenticator's input ends in the 4-byte reply sequence (02 R59). -/
def replyBytes (key : Option (List Byte)) (alive : Bool) (seq code tag addr status : Nat) (results : List Byte) :
    List Byte :=
  let flags := 4 + 32 * b2n alive + 64 * b2n key.isSome
  let body := u8 1 ++ u8 flags ++ u16 code ++ u16 tag ++ u8 (if alive then seq % 256 else 0) ++ u8 0 ++ u64 addr ++
    u16 status ++ u16 results.length ++ results
  let authed := match key with
    | some k => body ++ authenticator k (body ++ u32 seq)
    | none => body
  authed ++ u32 (crc32c authed)

/-! ## The alert record (18 R406) -/

/-- The bytes of an alert entry (18 Table 18-4). -/
def alertBytes (a : Alert) : List Byte :=
  u32 (a.at_ / 1000000000) ++ u32 (a.at_ % 1000000000) ++ u64 a.target.toNat ++ u8 a.cls ++ u8 a.event ++
    u16 a.status ++ u8 (128 * b2n a.active + 64 * b2n a.acked + 32 * b2n a.read + 16 * b2n a.faultN) ++ u8 0 ++
    u16 a.detail

/-- The number of entries of the record (18 R406). -/
def alertCapacity : Nat := 1024

/-- The record after the first entry that satisfies `p` is removed, none where no entry does. -/
def dropFirst (p : Alert → Bool) : List Alert → Option (List Alert)
  | [] => none
  | a :: t => if p a then some t else (dropFirst p t).map (a :: ·)

/-- The record with room for one more entry: of a full record the oldest read and inactive entry goes, else the
oldest read one; none where neither exists (18 R406). -/
def alertRoom (l : List Alert) : Option (List Alert) :=
  if l.length < alertCapacity then some l
  else match dropFirst (fun a => a.read && !a.active) l with
    | some t => some t
    | none => dropFirst (fun a => a.read) l

/-- The number of unread entries. -/
def unread (l : List Alert) : Nat := (l.filter fun a => !a.read).length

/-- The datagram that carries a new entry to the telemetry destination, where one is set (18 R406). -/
def sendAlert (a : Alert) (s : State) : State :=
  if s.cmd.telemetry.destIp = 0 then s
  else sendUdp s.cmd.telemetry.destIp s.cmd.telemetry.destPort 49411
    (replyBytes none false 0 0x000A 0 (responder s 0) 0 (u16 1 ++ u16 (unread s.cmd.alerts) ++ zeros 4 ++ alertBytes a)) s

/-- A new entry: recorded and sent, or dropped and counted (18 R406). -/
def recordAlert (a : Alert) (s : State) : State :=
  match alertRoom s.cmd.alerts with
  | some l => sendAlert a { s with cmd.alerts := l ++ [a] }
  | none => { s with cmd.alertsDropped := inc16 s.cmd.alertsDropped }

/-- An event's entry. Alerts stop while no firmware runs (01 Table 1-11): the entry is owed until firmware is back
(DESIGN CHOICE, notes/assumptions/61.md). -/
def addAlert (a : Alert) (s : State) : State :=
  if s.fw.running then recordAlert a s else { s with cmd.owed := s.cmd.owed ++ [a] }

/-- The entries owed from the time without firmware are recorded once it is back. -/
def settleAlerts (s : State) : State :=
  s.cmd.owed.foldl (fun t a => recordAlert a t) { s with cmd.owed := [] }

/-- An entry for an event whose cause does not last: it is inactive (notes/assumptions/15.md). -/
def logAlert (cls event : Nat) (target : BitVec 64) (status detail : Nat) (s : State) : State :=
  addAlert ⟨nowNs s, target, cls, event, status, false, false, false, false, detail⟩ s

/-- An entry whose cause lasts: it is active until the cause has gone (18 R406). -/
def raiseAlert (cls event : Nat) (target : BitVec 64) (status detail : Nat) (faultN : Bool) (s : State) : State :=
  addAlert ⟨nowNs s, target, cls, event, status, true, false, false, faultN, detail⟩ s

/-- Whether an entry is an active one of the event for the target. -/
def isCause (cls event : Nat) (target : BitVec 64) (a : Alert) : Bool :=
  a.active && a.cls == cls && a.event == event && a.target == target

/-- The cause of an event has gone: its entries become inactive (18 R406). -/
def clearAlert (cls event : Nat) (target : BitVec 64) (s : State) : State :=
  let f (a : Alert) : Alert := if isCause cls event target a then { a with active := false } else a
  { s with cmd.alerts := s.cmd.alerts.map f, cmd.owed := s.cmd.owed.map f }

/-- The cause of an event with the given detail has gone. -/
def clearAlertDetail (cls event detail : Nat) (s : State) : State :=
  let f (a : Alert) : Alert := if a.active && a.cls == cls && a.event == event && a.detail == detail then { a with active := false } else a
  { s with cmd.alerts := s.cmd.alerts.map f, cmd.owed := s.cmd.owed.map f }

/-- The cause of an event for the target with the given detail has gone. -/
def clearAlertOf (cls event : Nat) (target : BitVec 64) (detail : Nat) (s : State) : State :=
  let f (a : Alert) : Alert := if isCause cls event target a && a.detail == detail then { a with active := false } else a
  { s with cmd.alerts := s.cmd.alerts.map f, cmd.owed := s.cmd.owed.map f }

/-- ALERT_N is low while an entry is active and not acknowledged (18 R406). -/
def alertNLow (s : State) : Bool := s.cmd.alerts.any fun a => a.active && !a.acked

/-- The ALERT bit: an entry is unread (18 R406). -/
def alertBit (s : State) : Bool := s.cmd.alerts.any fun a => !a.read

/-! ## FAULT_N -/

/-- A cause asserts FAULT_N. -/
def assertFault (c : FaultCause) (s : State) : State :=
  { s with faults := if s.faults.contains c then s.faults else s.faults ++ [c] }

/-- A cause of FAULT_N has gone. -/
def releaseFault (c : FaultCause) (s : State) : State := { s with faults := s.faults.filter (· != c) }

/-- FAULT_N is low while a cause holds it. -/
def faultNLow (s : State) : Bool := !s.faults.isEmpty

/-! ## The source table (02 R53) -/

/-- The entry of a source. -/
def findSource (src : Source) (s : State) : Option SourceEntry := s.cmd.sources.find? (·.src == src)

/-- The table with an entry changed. -/
def modSource (src : Source) (f : SourceEntry → SourceEntry) (s : State) : State :=
  { s with cmd.sources := s.cmd.sources.map fun e => if e.src == src then f e else e }

/-- The source index that SCHEDULE_LIST reports; 0xFF for a source without an entry (notes/assumptions/16.md). -/
def sourceIndex (src : Source) (s : State) : Nat := ((findSource src s).map (·.slot)).getD 0xFF

/-! ## Replies (02 R59) -/

/-- A reply's delivery: into the reply buffer of the host port (02 R42), or as a datagram from UDP 49410 (02 R37). -/
def deliver (src : Source) (tag : Nat) (bytes : List Byte) (s : State) : State :=
  match src with
  | .host => { s with
      host.reply := bytes
      host.busy := false
      host.done := true
      host.lastTag := BitVec.ofNat 8 tag
      host.seq := s.host.seq + 1 }
  | .net ip port => sendUdp ip port 49410 bytes s

/-- The end of a packet that gets no reply: its source entry no longer executes. -/
def noReply (src : Source) (s : State) : State := modSource src (fun e => { e with executing := false }) s

/-- The log entry of a refused broadcast packet (02 R50). -/
def logBroadcast (target : BitVec 64) (status : Nat) (s : State) : State :=
  if St.refusal status then logAlert 0x00 0x01 target status 0 s else s

/-- The key that authenticates a reply: the session key, when the request carried AUTH (02 R59). -/
def replyKey (auth : Bool) (s : State) : Option (List Byte) := if auth then s.cmd.sessionKey else none

/-- The reply of a request that wants one: its counter advances the source's reply sequence, and the source entry
stores it for resending (02 R54, R59). -/
def sendReply (code : Nat) (r : Req) (status : Nat) (results : List Byte) (s : State) : State :=
  match findSource r.src s with
  | some e =>
    let seq := if r.alive then e.replySeq + 1 else e.replySeq
    let bytes := replyBytes (replyKey r.auth s) r.alive seq code r.tag (responder s r.target) status results
    deliver r.src r.tag bytes (modSource r.src (fun e => { e with
      replySeq := seq
      stored := if e.executing && e.tag == r.tag then some bytes else e.stored
      executing := if e.tag == r.tag then false else e.executing }) s)
  | none => deliver r.src r.tag (replyBytes (replyKey r.auth s) false 0 code r.tag (responder s r.target) status results) s

/-- The outcome of a request told to its sender: a broadcast packet is never answered and its refusal is logged
(02 R50), a packet without REPLY_REQ is not answered (02 R59). -/
def answer (code : Nat) (r : Req) (status : Nat) (results : List Byte) (s : State) : State :=
  if r.broadcast then noReply r.src (logBroadcast r.target status s)
  else if r.replyReq then sendReply code r status results s
  else noReply r.src s

/-! ## Long operations (02 R62 to R65) -/

/-- Whether a long operation is the one of a source and tag. -/
def isOp (src : Source) (tag : Nat) (o : LongOp) : Bool := o.req.src == src && o.req.tag == tag

/-- The operation of a source and tag. -/
def findOp (src : Source) (tag : Nat) (s : State) : Option LongOp := s.cmd.longOps.find? (isOp src tag)

/-- The operation of a source and tag, changed. -/
def modOp (src : Source) (tag : Nat) (f : LongOp → LongOp) (s : State) : State :=
  { s with cmd.longOps := s.cmd.longOps.map fun o => if isOp src tag o then f o else o }

/-- The list without a source's operation of a tag. -/
def dropOp (src : Source) (tag : Nat) (s : State) : State :=
  { s with cmd.longOps := s.cmd.longOps.filter fun o => !isOp src tag o }

/-- Whether an operation runs or waits (02 Table 2-11, states 0 and 3). -/
def opLive (o : LongOp) : Bool := o.state == 0 || o.state == 3

/-- The number of long operations that run or wait (02 R62). -/
def longCount (s : State) : Nat := (s.cmd.longOps.filter fun o => o.long && opLive o).length

/-- The implicit votes of an operation that has ended are withdrawn 10 s later (02 R72). -/
def endImplicit (src : Source) (tag : Nat) (s : State) : State :=
  { s with power.implicit := s.power.implicit.map fun v =>
      if v.src == src && v.tag == tag && v.withdrawAt.isNone then { v with withdrawAt := some (nowNs s + 10000000000) } else v }

/-- Completion with a final status and results: kept for 60 s (02 R63). A scheduled operation that ran late reports LATE in
place of OK (03 R98); a warning such as TAPS_REDUCED stands and LATE is not reported (DESIGN CHOICE: there is one final
status, and 02 R48 and R66 name both; notes/assumptions/62.md). -/
def finishOp (src : Source) (tag : Nat) (status : Nat) (results : List Byte) (s : State) : State :=
  endImplicit src tag (modOp src tag (fun o => if opLive o then { o with
    state := 1
    final := if o.late && status == St.ok then St.late else status
    progress := 1000
    results := results
    doneAt := nowNs s
    bulk := none } else o) s)

/-- A new record of a long or scheduled operation; a completed one of the same tag is replaced (02 R62). -/
def addOp (o : LongOp) (s : State) : State :=
  let s1 := dropOp o.req.src o.req.tag s
  { s1 with cmd.longOps := s1.cmd.longOps ++ [o] }

/-- The partial results of a running operation (02 R64). -/
def setPartials (src : Source) (tag : Nat) (bytes : List Byte) (s : State) : State :=
  modOp src tag (fun o => { o with partials := bytes }) s

/-- The PARTIAL bit: a host-port operation has results not yet fetched (02 R64, 18 R405). -/
def partialBit (s : State) : Bool :=
  s.cmd.longOps.any fun o => o.req.src == .host &&
    ((o.state == 0 && o.fetched < o.partials.length) ||
     (o.state == 1 && 8192 < o.results.length && o.fetched < o.results.length))

/-! ## Results above 8,192 bytes (18 R404, R405) -/

/-- The 8-byte summary that stands for large results. -/
def summary (results : List Byte) : List Byte := u32 results.length ++ u32 (crc32 results)

/-- One bulk block from the device (18 Table 18-2). -/
def deviceBlock (key : Option (List Byte)) (extSeq tag code k : Nat) (last : Bool) (data : List Byte) : List Byte :=
  let flags := 32 + 128 * b2n last + 64 * b2n key.isSome
  let body := u16 0xC7B5 ++ u8 1 ++ u8 flags ++ u16 tag ++ u16 code ++ u32 k ++ u32 (k * 8192) ++ u16 data.length ++ u16 0 ++ data
  let authed := match key with
    | some kk => body ++ authenticator kk (body ++ u32 extSeq)
    | none => body
  authed ++ u32 (crc32c authed)

/-- The blocks of large results to the request's source address, port 49412 (18 R404). -/
def sendBlocks (r : Req) (code : Nat) (results : List Byte) (s : State) : State :=
  match r.src with
  | .host => s
  | .net ip _ =>
    let parts := chunks 8192 results
    let ext := ((findSource r.src s).map (·.extSeq)).getD 0
    parts.zipIdx.foldl (fun t (d, k) =>
      sendUdp ip 49412 49412 (deviceBlock (replyKey r.auth s) ext r.tag code k (k + 1 == parts.length) d) t) s

/-- Large results kept as those of a completed operation, for FETCH_PARTIAL (02 R63, 18 R404, R405). -/
def keepResults (code : Nat) (r : Req) (status : Nat) (results : List Byte) (s : State) : State :=
  addOp { req := r, code := code, state := 1, long := false, final := status, progress := 1000, results := results, doneAt := nowNs s } s

/-- The outcome of a request, large results delivered as 18 R404 and R405 decide. -/
def answerLarge (code : Nat) (r : Req) (status : Nat) (results : List Byte) (s : State) : State :=
  if results.length ≤ 8192 then answer code r status results s
  else
    let s1 := keepResults code r status results s
    match r.src with
    | .host => answer code r St.accepted (summary results) s1
    | .net _ _ => sendBlocks r code results (answer code r status (summary results) s1)

/-! ## Free values -/

/-- The counter that picks the next free value advances (notes/assumptions/13.md). -/
def nextFree (s : State) : State := { s with freeCount := s.freeCount + 1 }

end Sys2Proof.Machine
end

