-- ==== Sys2Proof/Machine/PowerOps.lean ====
section
/-! DEFINITION. Power domains and votes, as the command engine and the register window need them (16 R359 to R362,
02 R72). -/

namespace Sys2Proof.Machine

/-- The SCAN groups that the grade has (00 Table 0-1). -/
def scanGroups (s : State) : Nat := if s.fuse.pv8208 then 2 else 6

/-- A domain permanently off on the grade (16 R359). -/
def domainAbsent (s : State) : Domain → Bool
  | .scan g => scanGroups s ≤ g.val
  | _ => false

/-- A domain's bit in the vote masks (16 Table 16-6). -/
def domainBit : Domain → Nat
  | .pixel => 0
  | .meter => 1
  | .mem => 2
  | .scan g => 3 + g.val
  | .always => 9

/-- The domains that votes concern. -/
def votedDomains : List Domain :=
  [.pixel, .meter, .mem, .scan 0, .scan 1, .scan 2, .scan 3, .scan 4, .scan 5]

/-- The SCAN group of a port (09 R219). -/
def portGroup (p : Nat) : Fin 6 := ⟨p / 8 % 6, Nat.mod_lt _ (by decide)⟩

/-- The class and the instance of a block ID. -/
def blockClass (id : Nat) : Nat := id / 256
def blockInst (id : Nat) : Nat := id % 256

/-- The domain that holds a block (01 Table 1-1). -/
def blockDomain (id : Nat) : Domain :=
  match blockClass id with
  | 0x01 => .scan (portGroup (blockInst id))
  | 0x02 | 0x03 | 0x04 => .pixel
  | 0x0A | 0x0B | 0x0C => .meter
  | 0x0F => .mem
  | _ => .always

/-- The mask of a list of domains (16 Table 16-6). -/
def domainsMask (ds : List Domain) : Nat := votedDomains.foldl (fun a d => if ds.contains d then a + 2 ^ domainBit d else a) 0

/-- BIST's votes: the domains of the blocks of running operations (16 Table 16-5, 13 R313). -/
def bistVote (s : State) : Nat := domainsMask (s.bist.ops.flatMap fun o => o.blocks.map blockDomain)

/-- CALIB's votes: METER and the SCAN groups of the ports of a running CALIBRATE (16 Table 16-5). -/
def calibVote (s : State) : Nat :=
  match s.trim.run with
  | some x => domainsMask (.meter :: ((List.range 48).filter fun p => x.ports.testBit p).map fun p => .scan (portGroup p))
  | none => 0

/-- SCHED's votes: the domains of the Ephemeris entries whose time is near (16 Table 16-5). -/
def schedVote (s : State) : Nat := domainsMask ((s.cmd.ephemeris.filter (·.voting)).flatMap (·.domains))

/-- A voter's own votes: the register's, with those that SCHED, BIST and CALIB cast by their work. -/
def ownVotes (s : State) (v : Nat) : Nat :=
  let m := s.power.votes.getD v 0
  m ||| (if v = 2 then schedVote s else if v = 3 then bistVote s else if v = 5 then calibVote s else 0)

/-- Whether a voter holds a vote, or an implicit vote stands, for a domain (16 R359, 02 R72). -/
def domainVoted (s : State) (d : Domain) : Bool :=
  ((List.range 6).any fun v => (ownVotes s v).testBit (domainBit d)) || s.power.implicit.any fun v => v.domain == d

/-- Whether a domain is on (16 Table 16-4): held in RUN, voted and woken in TWILIGHT, off in NADIR. -/
def domainOn (s : State) (d : Domain) : Bool :=
  if domainAbsent s d then false
  else match s.power.mode with
    | .run | .booting | .leavingTwilight | .enteringTwilight => true
    | .twilight => d == .always || s.power.awake.contains d
    | .enteringNadir => !s.power.fromTwilight || d == .always || s.power.awake.contains d
    | _ => false

/-- The rails fade for TWILIGHT or NADIR (16 R363, step 2). -/
def goingDark (s : State) : Bool := s.power.mode == .enteringTwilight || (s.power.mode == .enteringNadir && !s.power.fromTwilight)

/-- The mask of domains now on, in the layout of 16 Table 16-6. -/
def domainMask (s : State) : Nat :=
  (votedDomains.filter (domainOn s)).foldl (fun a d => a + 2 ^ domainBit d) 0

/-- The wake latency of a domain in microseconds (16 Table 16-7). -/
def wakeLatency : Domain → Nat
  | .mem => 50
  | .always => 0
  | _ => 25

/-- The largest wake latency of the domains that are asleep (16 R362). -/
def packetLatency (s : State) (ds : List Domain) : Nat :=
  (ds.filter fun d => !domainOn s d).foldl (fun a d => max a (wakeLatency d)) 0

/-- The WAKE_ALLOW bit of a domain (02 Table 2-7). -/
def wakeAllowed (s : State) : Domain → Bool
  | .pixel => s.cmd.policy.wakeAllow.testBit 3
  | .meter => s.cmd.policy.wakeAllow.testBit 2
  | .mem => s.cmd.policy.wakeAllow.testBit 1
  | .scan _ => s.cmd.policy.wakeAllow.testBit 0
  | .always => true

/-- An implicit vote for a domain on behalf of an operation (02 R72). -/
def addImplicit (r : Req) (d : Domain) (s : State) : State :=
  if s.power.implicit.any fun v => v.domain == d && v.src == r.src && v.tag == r.tag then s
  else { s with power.implicit := s.power.implicit ++ [⟨d, r.src, r.tag, none⟩] }

/-- The domains that have lost their last vote drop in TWILIGHT (16 R359). -/
def dropUnvoted (s : State) : State :=
  { s with power.awake := s.power.awake.filter fun d => domainVoted s d }

/-- The POWER_VOTES mask of a voter: its own votes, and for HOST and NETFW the implicit ones (16 Table 16-5). -/
def voterMask (s : State) (v : Nat) : Nat :=
  let own := ownVotes s v
  let ofHost (x : ImplicitVote) : Bool := match x.src with | .host => v == 0 | .net _ _ => v == 1
  votedDomains.foldl (fun a d =>
    if !a.testBit (domainBit d) && s.power.implicit.any (fun x => x.domain == d && ofHost x) then a + 2 ^ domainBit d else a) own

end Sys2Proof.Machine
end

