-- ==== Sys2Proof/Machine/Opcode.lean ====
section
/-! DEFINITION. The command engine's steps 7 to 12 (02 Table 2-8), shared by every opcode: restricted modes, target
addresses, schedule times, sleeping domains, staging, long operations, and the delivery of the outcome. An opcode is
a row of 18 Table 18-1. -/

namespace Sys2Proof.Machine

/-- The address levels of 02 R51. -/
inductive Level where
  | tile | loop | cell | emitter
deriving DecidableEq, Repr

/-- What executing an opcode answers: a status with results, ACCEPTED with the operation going on, or a reply that
comes later (02 R62, R66). -/
inductive Ans where
  | done (status : Nat) (results : List Byte)
  | accepted
  | later

/-- A row of 18 Table 18-1, with the meaning of each of its columns; `staged` is what a staging without failure does
outside the command engine. -/
structure OpSpec where
  code : Nat
  level : Level := .tile
  sched : Bool := false
  apply : Bool := false
  broadcastOk : Bool := true
  long : Req → Bool := fun _ => false
  domains : Req → State → List Domain := fun _ _ => []
  unusable : Req → State → Bool := fun _ _ => false
  check : Req → State → Nat := fun _ _ => 0
  units : Req → State → List (UnitRef × Nat) := fun _ _ => []
  staged : Req → State → State := fun _ s => s
  run : Req → State → State × Ans := fun _ s => (s, .done 0 [])

/-! ## Parameters -/

/-- A parameter field of `n` bytes. -/
def prm (r : Req) (off n : Nat) : Nat := be r.params off n

/-- The request with its parameter byte `i` set, for the rows that stand for one action of an opcode. -/
def withByte (r : Req) (i v : Nat) : Req := { r with params := setAt r.params i (byte v) }

/-- BAD_LENGTH where the parameter length differs from the layout's (18 R400). -/
def lenIs (n : Nat) (r : Req) : Nat := if r.params.length = n then St.ok else St.badLength

/-- The first status that is not OK. -/
def firstFail : List Nat → Nat
  | [] => St.ok
  | a :: t => if a = St.ok then firstFail t else a

/-- BAD_PARAM unless the condition holds. -/
def need (c : Bool) : Nat := if c then St.ok else St.badParam

/-! ## Target addresses (02 R51) -/

/-- The loops of the grade (00 Table 0-1). -/
def gradeLoops (s : State) : Nat := if s.fuse.pv8208 then 8 else 24

/-- The cells of a loop's last enumeration. -/
def loopCells (s : State) (l : Nat) : Nat := ((s.chain.loops.getD l {}).cells).length

/-- The loops that a target's loop field names (00 R2). -/
def targetLoops (s : State) (t : BitVec 64) : List Nat :=
  if tgtLoop t = 31 then List.range (gradeLoops s) else [tgtLoop t]

/-- The cells that a target covers, by ascending loop and cell (02 R51). -/
def targetCells (s : State) (t : BitVec 64) : List (Nat × Nat) :=
  (targetLoops s t).flatMap fun l =>
    if tgtCell t = 127 then (List.range (loopCells s l)).map fun c => (l, c)
    else if tgtCell t < loopCells s l then [(l, tgtCell t)] else []

/-- Whether a target address is allowed for a level (02 R51, 00 R2). -/
def targetOk (lv : Level) (t : BitVec 64) (s : State) : Bool :=
  let loopOk := tgtLoop t = 31 || tgtLoop t < gradeLoops s
  let cellOk := tgtCell t = 127 || tgtCell t < 100
  let pixelOk := tgtPixel t = 1023 || tgtPixel t < 512
  tgtReserved t = 0 && match lv with
    | .tile => tgtLoop t = 0 && tgtCell t = 0 && tgtPixel t = 0 && tgtEmitter t = 0
    | .loop => loopOk && tgtCell t = 0 && tgtPixel t = 0 && tgtEmitter t = 0
    | .cell => loopOk && cellOk && tgtPixel t = 0 && tgtEmitter t = 0 && !(targetCells s t).isEmpty
    | .emitter => loopOk && cellOk && pixelOk && !(targetCells s t).isEmpty

/-! ## Steps 7 to 11 -/

/-- Flash restricted mode: a flash part of a size that the grade does not allow (17 R378). -/
def flashRestricted (s : State) : Bool :=
  !(s.flash.sizeMiB == 128 || (s.flash.sizeMiB == 64 && s.fuse.pv8208))

/-- The opcodes of flash restricted mode (17 R378): IMAGE_STAGE, IMAGE_ACTIVATE, NOP, IDENTIFY and RESET. -/
def flashRestrictedOk (code : Nat) : Bool := [0x0E02, 0x0E03, 0x0000, 0x0001, 0x0005].contains code

/-- The opcodes of restricted mode (03 R77): NOP, IDENTIFY, KEY_PROVISION, NVM_WRITE and RESET. -/
def restrictedOk (code : Nat) : Bool := [0x0000, 0x0001, 0x000C, 0x0E01, 0x0005].contains code

/-- Step 7 (02 Table 2-8; 03 R77, 17 R378, 18 R401, R403): the restricted modes, then SCHED and BROADCAST. -/
def step7 (o : OpSpec) (r : Req) (s : State) : Nat :=
  if flashRestricted s then
    (if flashRestrictedOk o.code then need ((o.sched || r.sched.isNone) && (o.broadcastOk || !r.broadcast)) else St.locked)
  else if restricted s && !restrictedOk o.code then St.locked
  else need ((o.sched || r.sched.isNone) && (o.broadcastOk || !r.broadcast))

/-- The apply mode of a packet that changes committed configuration: 0 or 1, and 0 when scheduled (02 R67,
18 R401). -/
def applyModeOk (o : OpSpec) (r : Req) : Nat :=
  if o.apply then need (prm r 0 1 ≤ 1 && (r.sched.isNone || prm r 0 1 = 0)) else St.ok

/-- BUSY for a tag of the source's running or scheduled operations (02 R62; notes/assumptions/18.md). -/
def tagFree (r : Req) (s : State) : Nat :=
  match findOp r.src r.tag s with
  | some op => if opLive op then St.busy else St.ok
  | none => St.ok

/-- Step 10 (02 R48): the schedule time and a free Ephemeris entry. -/
def step10 (r : Req) (s : State) : Nat :=
  match r.sched with
  | none => St.ok
  | some t =>
    if nowNs s + 86400000000000 < t then St.badParam
    else if 256 ≤ s.cmd.ephemeris.length then St.busy else St.ok

/-- The domains of a request that are asleep. -/
def asleep (o : OpSpec) (r : Req) (s : State) : List Domain := (o.domains r s).filter fun d => !domainOn s d

/-- Step 11 (02 R72): a block that is unusable or permanently off, then a sleeping domain that no wake is allowed
for. -/
def step11 (o : OpSpec) (r : Req) (s : State) : Nat :=
  if o.unusable r s || (o.domains r s).any (domainAbsent s) then St.blockUnusable
  else if (asleep o r s).any fun d => !wakeAllowed s d then St.blockAsleep else St.ok

/-- Steps 7 to 11 in order (02 R57). -/
def preChecks (o : OpSpec) (r : Req) (s : State) : Nat :=
  firstFail [step7 o r s, need (targetOk o.level r.target s), o.check r s, applyModeOk o r, tagFree r s,
    step10 r s, step11 o r s]

/-! ## Staging (02 R66 to R70) -/

/-- A staging status that counts as a failure: any but OK and the warning TAPS_REDUCED (02 R66). -/
def failed (st : Nat) : Bool := !(st == St.ok || st == St.tapsReduced)

/-- The results of NOT_COMMITTED (02 Table 2-12). -/
def notCommittedResults (sts : List Nat) : List Byte :=
  u16 sts.length ++ u16 (sts.findIdx failed) ++ u16 ((sts.find? failed).getD 0) ++ u16 0 ++
    maskBytes (sts.map fun st => !failed st)

/-- The statuses of staged units: a unit that another source holds fails with BUSY (02 R68). -/
def lockUnits (src : Source) (us : List (UnitRef × Nat)) (s : State) : List (UnitRef × Nat) :=
  us.map fun (u, st) =>
    if !failed st && s.cmd.held.any (fun h => h.src != src && h.unit.ref == u) then (u, St.busy) else (u, st)

/-- The staged changes of a request. -/
def stagedOf (code : Nat) (r : Req) (us : List (UnitRef × Nat)) : List StagedUnit :=
  us.map fun (u, st) => ⟨u, code, r.target, r.params, if failed st then 0 else st⟩

/-- The held changes after a request's are held: a later change of a unit replaces the earlier one (02 R68). -/
def holdUnits (src : Source) (us : List StagedUnit) (s : State) : State :=
  let kept := s.cmd.held.filter fun h => !(h.src == src && us.any fun u => u.ref == h.unit.ref)
  { s with cmd.held := (kept.map fun h => if h.src == src then { h with at_ := nowNs s } else h) ++
      us.map fun u => ⟨src, u, nowNs s⟩ }

/-- A set of units that commits at the next frame boundary; its reply is owed until then (02 R66, R67;
notes/assumptions/19.md). -/
def queueCommit (code : Nat) (r : Req) (us : List StagedUnit) (viaQuery : Bool) (s : State) : State :=
  { s with cmd.committing := s.cmd.committing ++ [⟨code, r, us, nowNs s, viaQuery⟩] }

/-- A unit holds one staged change at a time: a later change of the same source takes the place of the one it holds
(02 R68). -/
def replaceHeld (src : Source) (us : List StagedUnit) (s : State) : State :=
  { s with cmd.held := s.cmd.held.filter fun h => !(h.src == src && us.any fun u => u.ref == h.unit.ref) }

/-- Staging an opcode that changes committed configuration (02 R66, R67). -/
def stageOp (o : OpSpec) (r : Req) (viaQuery : Bool) (s : State) : State × Ans :=
  let us := lockUnits r.src (o.units r s) s
  if us.any fun u => failed u.2 then (s, .done St.notCommitted (notCommittedResults (us.map (·.2))))
  else
    let s1 := o.staged r s
    let new := stagedOf o.code r us
    if prm r 0 1 = 1 then (holdUnits r.src new s1, .done St.deferred [])
    else (queueCommit o.code r new viaQuery (replaceHeld r.src new s1), .later)

/-! ## Outcomes -/

/-- An ABORT that waited for the operation's end is answered with its final status (02 R65). -/
def answerAbort (o : LongOp) (s : State) : State :=
  match o.abortOwed, findOp o.req.src o.req.tag s with
  | some q, some done => answer 0x0004 q done.final [] s
  | _, _ => s

/-- Completion of an operation, its large results also sent as bulk blocks (18 R404). -/
def completeOp (src : Source) (tag : Nat) (status : Nat) (results : List Byte) (s : State) : State :=
  let s1 := finishOp src tag status results s
  match findOp src tag s with
  | some o => answerAbort o (if 8192 < results.length then sendBlocks o.req o.code results s1 else s1)
  | none => s1

/-- The outcome of a request: to its reply, or to QUERY for one that was answered ACCEPTED before. -/
def conclude (code : Nat) (r : Req) (viaQuery : Bool) (a : Ans) (s : State) : State :=
  match a with
  | .done st res => if viaQuery then completeOp r.src r.tag st res s else answerLarge code r st res s
  | .accepted =>
    if viaQuery then modOp r.src r.tag (fun o => if o.state == 3 then { o with state := 0 } else o) s
    else answer code r St.accepted [] s
  | .later => s

/-- A long operation begins (02 R62): a 17th is refused with BUSY; one that its own execution refuses leaves no
record. -/
def beginLong (o : OpSpec) (r : Req) (s : State) : State :=
  if 16 ≤ longCount s then answer o.code r St.busy [] s
  else
    let x := o.run r (addOp { req := r, code := o.code, state := 0, long := true } s)
    match x.2 with
    | .done st res => answer o.code r st res (dropOp r.src r.tag x.1)
    | .accepted => answer o.code r St.accepted [] x.1
    | .later => x.1

/-- Step 12: the opcode executes or stages (02 Table 2-8). -/
def begin_ (o : OpSpec) (r : Req) (viaQuery : Bool) (s : State) : State :=
  let x := if o.apply && !o.long r then stageOp o r viaQuery s else o.run r s
  conclude o.code r viaQuery x.2 x.1

/-- A packet that needs a sleeping domain: implicit votes are added, the reply is ACCEPTED with the wake latency in
microseconds, and the operation waits (02 R72); a 17th long operation is refused with BUSY (02 R62). -/
def awaitWake (o : OpSpec) (r : Req) (s : State) : State :=
  if o.long r && 16 ≤ longCount s then answer o.code r St.busy [] s else
  let ds := asleep o r s
  let s1 := ds.foldl (fun t d => addImplicit r d t) s
  let s2 := addOp { req := r, code := o.code, state := 3, long := o.long r } s1
  let s3 := { s2 with cmd.waiting := s2.cmd.waiting ++ [⟨o.code, r, ds.headD .always, none⟩] }
  answer o.code r St.accepted (u32 (packetLatency s ds)) s3

/-! ## The Ephemeris (03 R97 to R99) -/

/-- The lowest free index of the Ephemeris. -/
def freeIndex (s : State) : Nat :=
  ((List.range 256).find? fun i => !(s.cmd.ephemeris.any fun e => e.index == i)).getD 0

/-- The exact frame period as a fraction of nanoseconds, numerator then denominator, set by the program in force. -/
structure Period where
  num : Nat
  den : Nat
deriving DecidableEq, Repr, Inhabited

/-- The frame count of a time: floor(t ÷ T) (00 R13). -/
def Period.frameOf (p : Period) (t : Nat) : Nat := t * p.den / p.num

/-- The first boundary at or after a time (03 R97). -/
def Period.boundaryAfter (p : Period) (t : Nat) : Nat := (t * p.den + p.num - 1) / p.num

/-- The first whole nanosecond at or past a boundary. -/
def Period.timeOf (p : Period) (n : Nat) : Nat := (n * p.num + p.den - 1) / p.den

/-- The ready time of a boundary in nanoseconds, with `k` packets due at it (03 R98). -/
def readyTime (k : Nat) : Nat := 600000 + 40000 * (k - 16)

/-- The number of scheduled packets due at a boundary. -/
def dueAt (s : State) (n : Nat) : Nat := (s.cmd.ephemeris.filter fun e => e.boundary == n).length

/-- The first boundary from `n` on whose ready time, the new packet counted, has not begun; `fuel` bounds the
search (03 R98). -/
def readyBoundary (p : Period) (s : State) : Nat → Nat → Nat
  | 0, n => n
  | fuel + 1, n =>
    if nowNs s + readyTime (dueAt s n + 1) ≤ p.timeOf n then n else readyBoundary p s fuel (n + 1)

/-- A scheduled packet enters the Ephemeris (02 R48, 03 R97, R98): a change is staged now and a staging failure
refuses the packet; a packet too late for its boundary takes the first one it is in time for and is late. One that needs a
sleeping domain is answered with the wake latency (02 R72). -/
def schedule (p : Period) (o : OpSpec) (r : Req) (t : Nat) (s : State) : State :=
  let us := if o.apply && !o.long r then lockUnits r.src (o.units r s) s else []
  if us.any fun u => failed u.2 then answer o.code r St.notCommitted (notCommittedResults (us.map (·.2))) s
  else if o.long r && 16 ≤ longCount s then answer o.code r St.busy [] s
  else
    let want := p.boundaryAfter t
    let first := max want (p.frameOf (nowNs s))
    let n := readyBoundary p s 65536 first
    let ds := asleep o r s
    let late := n != want
    let e : EphEntry := { index := freeIndex s, code := o.code, req := r, srcIndex := sourceIndex r.src s, time := t, arrival := nowNs s, boundary := n, loaded := false, state := if ds.isEmpty then 1 else 2, late := late, units := stagedOf o.code r us, domains := o.domains r s }
    let kept := if o.apply && !o.long r then replaceHeld r.src e.units (o.staged r s) else s
    let s1 := ds.foldl (fun x d => addImplicit r d x) kept
    let s2 := addOp { req := r, code := o.code, state := 3, long := o.long r, late := late } s1
    answer o.code r St.accepted (if ds.isEmpty then [] else u32 (packetLatency s ds)) { s2 with
      cmd.ephemeris := s2.cmd.ephemeris ++ [e]
      cmd.waiting := if ds.isEmpty then s2.cmd.waiting else s2.cmd.waiting ++ [⟨o.code, r, ds.headD .always, some e⟩] }

/-! ## The engine -/

/-- A packet that has passed steps 7 to 11. -/
def acceptOp (p : Period) (o : OpSpec) (r : Req) (s : State) : State :=
  match r.sched with
  | some t => schedule p o r t s
  | none =>
    if !(asleep o r s).isEmpty then awaitWake o r s
    else if o.long r then beginLong o r s
    else begin_ o r false (dropOp r.src r.tag s)

/-- Steps 7 to 12 of 02 Table 2-8 on a packet that has passed steps 1 to 6. Without firmware no command is executed
(01 R30, 02 R44). -/
def runPacket (p : Period) (o : OpSpec) (r : Req) (s : State) : State :=
  if !s.fw.running then s
  else if preChecks o r s = St.ok then acceptOp p o r s
  else answer o.code r (preChecks o r s) [] s

end Sys2Proof.Machine
end

