-- ==== Sys2Proof/Machine/Chain.lean ====
section
/-! DEFINITION. The chain as Pevanak runs it (09): ports, enumeration, the fault map, report trains, and the cell
configuration, raster and meridian units. -/

namespace Sys2Proof.Machine

/-! ## Ports and loops (09 R219) -/

/-- The port index of an end of a loop. -/
def portOf (l : Nat) : Side → Nat
  | .A => 2 * l
  | .B => 2 * l + 1

/-- The loop and the end of a port. -/
def portLoop (p : Nat) : Nat := p / 2
def portSide (p : Nat) : Side := if p % 2 = 0 then .A else .B

/-- The ports of the grade (00 Table 0-1). -/
def gradePorts (s : State) : Nat := 2 * gradeLoops s

/-- The SCAN groups of the loops that a target names. -/
def targetGroups (s : State) (t : BitVec 64) : List Domain :=
  ((targetLoops s t).map fun l => Domain.scan (portGroup (2 * l))).eraseDups

def getPort (s : State) (p : Nat) : ChainPort := s.chain.ports.getD p {}
def getLoop (s : State) (l : Nat) : LoopState := s.chain.loops.getD l {}
def modPort (p : Nat) (f : ChainPort → ChainPort) (s : State) : State :=
  { s with chain.ports := modAt s.chain.ports p f }
def modLoop (l : Nat) (f : LoopState → LoopState) (s : State) : State :=
  { s with chain.loops := modAt s.chain.loops l f }
def getPlant (s : State) (l : Nat) : PlantLoop := s.plant.loops.getD l {}
def modPlant (l : Nat) (f : PlantLoop → PlantLoop) (s : State) : State :=
  { s with plant.loops := modAt s.plant.loops l f }

/-- A cell of a loop changed, by its position. -/
def LoopState.modCell (l : LoopState) (c : Nat) (f : CellRec → CellRec) : LoopState :=
  { l with cells := modAt l.cells c f }

/-- Whether the ports of a loop drive. -/
def drives (s : State) (l : Nat) (e : Side) : Bool := (getPort s (portOf l e)).driving

/-- The feeds of a loop's cells settled with its ports as they drive (09 R223). -/
def settleLoop (l : Nat) (s : State) : State :=
  modPlant l (settle (drives s l .A) (drives s l .B) (nowNs s)) s

/-- A port that cannot drive: a failed one (10 R258), and any while REFIN is lost (19 R423). -/
def portMute (s : State) (p : Nat) : Bool := (getPort s p).failed || s.power.refinLost

/-- A port starts or stops driving; one that cannot drive never does. -/
def setDriving (p : Nat) (on : Bool) (s : State) : State :=
  settleLoop (portLoop p) (modPort p (fun q => { q with driving := on && !portMute s p }) s)

/-- The meridian that a loop's configuration asks for (10 R255): at most n, floor(n ÷ 2) by default. -/
def LoopState.wantM (l : LoopState) : Nat := min (l.configured.getD (l.cells.length / 2)) l.cells.length

/-- The positions of the live cells that a port feeds, in hop order (10 R247). A cell without a hop index from that
port takes no segments (09 R237). -/
def LoopState.fedCells (l : LoopState) (e : Side) : List Nat :=
  let n := l.cells.length
  let live (c : Nat) : Bool := (l.cells[c]?.map fun r => !r.dead).getD false
  if l.blocked then [] else match e with
    | .A => (List.range n).filter fun c => c < l.m && live c && ((l.cells[c]?.map (·.hopA)).getD 0) != 0
    | .B => ((List.range n).filter fun c => l.m ≤ c && live c && ((l.cells[c]?.map (·.hopB)).getD 0) != 0).reverse

/-- The positions of the cells that a port feeds. -/
def portCells (s : State) (p : Nat) : List Nat := (getLoop s (portLoop p)).fedCells (portSide p)

/-- The committed configuration of the cell at a position. -/
def LoopState.configOf (l : LoopState) (c : Nat) : Option CellCommitted := (l.config.find? fun x => x.1 == c).map (·.2)

/-- The side and hop through which Pevanak reaches the cell at a position. -/
def LoopState.reach (l : LoopState) (c : Nat) : Side × Nat :=
  let r := l.cells.getD c ⟨0, 0, 0, 0, 0, 0, 0, false, false, false, false, 0, 0, 0, none, false, false, none⟩
  if c < l.m then (.A, r.hopA) else (.B, r.hopB)

/-- The attached cell at a position, when it answers a READ. -/
def plantCellAt (s : State) (l c : Nat) : Option PlantCell :=
  let x := (getLoop s l).reach c
  readHop (getPlant s l) x.1 x.2

/-- The register words that a READ of the cell at a position brings. -/
def cellRegs (s : State) (l c reg count : Nat) : Option (List Nat) :=
  let x := (getLoop s l).reach c
  readRegs (getPlant s l) x.1 x.2 reg count

/-! ## Frames on a port (09 R220, R225) -/

/-- A frame on the lanes of a port that drives. -/
def portSend (p : Nat) (f : LaneFrame) (s : State) : State :=
  let l := portLoop p
  if (getPort s p).driving then modPlant l (sendFrame (drives s l .A) (drives s l .B) (nowNs s) (portSide p) f) s else s

/-- A command frame on a port: between uploads, so that during one it waits for the gap. -/
def sendCommand (p : Nat) (c : CellCommand) (s : State) : State :=
  if (getPort s p).uploading then modPort p (fun q => { q with waiting := q.waiting ++ [c] }) s else portSend p c.frame s

/-- The command frames that have waited, once the port is between uploads. -/
def sendWaiting (p : Nat) (s : State) : State :=
  (getPort s p).waiting.foldl (fun t c => portSend p c.frame t) (modPort p (fun q => { q with waiting := [] }) s)

/-- A command frame to the cell at a position. -/
def commandTo (l c op reg : Nat) (words : List Nat) (s : State) : State :=
  let x := (getLoop s l).reach c
  sendCommand (portOf l x.1) (command op x.2 reg words) s

/-- The trim that the next gap brings into force (09 R244). -/
def ChainPort.coming (q : ChainPort) : PortTrim := q.nextTrim.getD q.trim

/-- A port whose upload has ended: its waiting trim takes effect in the gap. -/
def ChainPort.ended (q : ChainPort) : ChainPort := { q with uploading := false, trim := q.coming, nextTrim := none }

/-! ## The fault map (10 R269, R270) -/

/-- The seconds of the counter that the fault map records. -/
def nowSeconds (s : State) : Nat := nowNs s / 1000000000 % 2 ^ 32

/-- The target of a loop's link, port and ball records (10 Table 10-8). -/
def loopTarget (s : State) (l : Nat) : BitVec 64 := ownTarget s l 127 0 0

/-- The target of a cell's records. -/
def cellTarget (s : State) (l c : Nat) : BitVec 64 := ownTarget s l c 0 0

/-- Whether a record is that of a fault. -/
def FaultRec.isFor (f : FaultRec) (target : BitVec 64) (kind detail : Nat) : Bool :=
  f.target == target && f.kind == kind && (f.detail == detail || kind == 3)

/-- Whether the map has a place for a new record of a kind: the last 1,024 places are kept for kinds 4 to 8. -/
def faultRoom (l : List FaultRec) (kind : Nat) : Bool :=
  if 4 ≤ kind then l.length < 65536 else l.length < 64512

/-- A fault is sensed: its record counts it and is active, or a new record enters the map with an alert, or the map is
full and the fault is dropped, counted and logged (10 R269, R270). -/
def addFault (target : BitVec 64) (kind detail : Nat) (suppressed double : Bool) (s : State) : State :=
  let now := nowSeconds s
  let alert (t : State) : State := raiseAlert 0x07 0x03 target 0 kind false t
  match s.chain.faults.find? (fun f => f.isFor target kind detail) with
  | some f =>
    let again (g : FaultRec) : FaultRec :=
      { g with active := true, count := inc16 g.count, lastSeen := now, double := double, suppressed := suppressed }
    let l := s.chain.faults.map fun g => if g.isFor target kind detail then again g else g
    let s1 := { s with chain.faults := l }
    if f.active then s1 else alert s1
  | none =>
    if faultRoom s.chain.faults kind then
      alert { s with chain.faults := s.chain.faults ++ [⟨target, kind, true, true, suppressed, double, 1, now, now, detail⟩] }
    else logAlert 0x07 0x09 (tileTarget s) 0 0 { s with chain.faultsDropped := inc32 s.chain.faultsDropped }

/-- A fault's cause has gone: its record becomes inactive, and with the last active one of its target and kind their alerts. -/
def clearFault (target : BitVec 64) (kind detail : Nat) (s : State) : State :=
  let l := s.chain.faults.map fun g => if g.isFor target kind detail then { g with active := false } else g
  let s1 := { s with chain.faults := l }
  if l.any fun g => g.active && g.target == target && g.kind == kind then s1 else clearAlertOf 0x07 0x03 target kind s1

/-- The bytes of a record (10 Table 10-8). -/
def faultBytes (f : FaultRec) : List Byte :=
  u64 f.target.toNat ++ u8 f.kind ++ u8 (128 * b2n f.active + 64 * b2n f.confirmed + 32 * b2n f.suppressed + 16 * b2n f.double) ++
    u16 f.count ++ u32 f.firstSeen ++ u32 f.lastSeen ++ u16 f.detail ++ u16 0

/-! ## Enumeration (09 R237, 10 R257) -/

/-- What a pass reads of a cell (09 Table 9-11, step 4). -/
structure CellIdent where
  vendor : Nat
  model : Nat
  caps : Nat
  kappa : Nat
  serial : Nat
deriving DecidableEq, Repr, Inhabited

/-- The identity in registers 0x00 to 0x06 (09 Table 9-6). -/
def identOf (ws : List Nat) : CellIdent :=
  ⟨ws.getD 0 0, ws.getD 1 0, ws.getD 2 0, ws.getD 3 0, (ws.getD 4 0 * 65536 + ws.getD 5 0) * 65536 + ws.getD 6 0⟩

/-- The record of a cell that a pass has read. -/
def recordOf (c : CellIdent) (hopA hopB : Nat) (bOnly : Bool) : CellRec :=
  { hopA := hopA, hopB := hopB, vendor := c.vendor, model := c.model, caps := c.caps, kappa := c.kappa,
    serial := c.serial, bOnly := bOnly }

/-- A position that no pass reached. -/
def unreached (hopA hopB : Nat) : CellRec :=
  { hopA := hopA, hopB := hopB, vendor := 0, model := 0, caps := 0, kappa := 0, serial := 0, dead := true, failed := true }

/-- One pass from an end: both ports quiet, then ENUM, then rising READs of the hops and of the identity registers; the loop and
the cells that answer, in hop order (09 Table 9-11, steps 1 to 6). A failed port makes no pass. -/
def enumPass (e : Side) (portMute : Bool) (now : Nat) (l : PlantLoop) : PlantLoop × List CellIdent :=
  let quiet := settle false false now l
  if portMute then (quiet, [])
  else
    let l1 := sendFrame (e == .A) (e == .B) now e (command opEnum 0xFF 0 [0]).frame quiet
    let k := answeringHops l1 e 100
    (l1, (List.range k).filterMap fun i => (readRegs l1 e (i + 1) 0 7).map identOf)

/-- A CAPS that reports Thaog level 2 (09 R245). -/
def level2 (caps : Nat) : Bool := caps == 0x2C20

/-- The loop's state that two passes give (09 R237, 10 Table 10-5), before the cells are fed again. -/
def judgePasses (old : LoopState) (a b : List CellIdent) : LoopState :=
  let nA := a.length
  let nB := b.length
  let sa := a.map (·.serial)
  let sb := (b.map (·.serial)).reverse
  let same := nA == nB && sa == sb
  let disjoint := !(sa.any fun x => sb.contains x)
  let tooMany := nA == 100 && nB == 100 && !same
  let placed := (old.config.filter fun c => c.2.place.isSome).length
  let nP := if placed = 0 then nA + nB else placed
  let base : LoopState := { old with
    over100 := tooMany, nA := nA, nB := nB, mismatch := !same, blocked := false, enumerated := same
    healed := false, doubleFault := false, trial := false, broken := [], move := none, restoreNow := false, moveDue := false, enumerating := false
    notLevel2 := (a ++ b).any fun c => !level2 c.caps }
  let fromA (n : Nat) := (a.zipIdx).map fun (c, i) => recordOf c (i + 1) (if n = 0 then 0 else n - i) false
  let fromB (n : Nat) := ((b.reverse).zipIdx).map fun (c, i) => recordOf c 0 (nB - i) (n != 0)
  if same then
    let cells := fromA nA
    { base with cells := cells, m := min (old.configured.getD (nA / 2)) nA }
  else if !disjoint then { base with cells := fromA 0, blocked := true, m := 0 }
  else if nA + nB + 1 = nP then
    { base with cells := fromA 0 ++ [unreached (nA + 1) (nB + 1)] ++ fromB 1, healed := true, broken := [nA, nA + 1], m := nA + 1 }
  else if nA + nB + 2 ≤ nP then
    { base with
      cells := fromA 0 ++ ((List.range (nP - nA - nB)).map fun i => unreached (nA + 1 + i) 0) ++ fromB 1
      healed := true, doubleFault := true, broken := [nA, nP - nB], m := nA }
  else { base with cells := fromA 0 ++ fromB 1, healed := true, broken := [nA], m := nA }

/-- The cells fed again after the passes (09 Table 9-11, step 7; 10 R257). -/
def refeed (l : Nat) (s : State) : State :=
  let lp := getLoop s l
  let drive (e : Side) : Bool := !portMute s (portOf l e)
  let s1 := modPort (portOf l .A) (fun q => { q with driving := drive .A }) (modPort (portOf l .B) (fun q => { q with driving := drive .B }) s)
  modPlant l (fun pl =>
    if lp.enumerated then
      settle (drive .A) (drive .B) (nowNs s)
        (if drive .B then sendMeridian false true (nowNs s) .B lp.m 1 pl else sendMeridian true false (nowNs s) .A lp.m (lp.m + 1) pl)
    else if lp.blocked then settle false false (nowNs s) pl
    else sendMeridian (drive .A) (drive .B) (nowNs s) .A lp.m (lp.nA + 1) pl) s1

/-- The committed registers of a cell: power-up values without a committed configuration, OUT_EN clear for a failed
cell (09 R239). -/
def committedRegs (cfg : Option CellCommitted) (failed : Bool) : CellRegs :=
  match cfg with
  | none => {}
  | some c => { red := c.red, green := c.green, blue := c.blue, outEn := c.outEn && !failed }

/-- After an enumeration the committed currents and CELL_CTRL of each enumerated level-2 cell go to its shadow
registers, and the next latch loads them, before the loop's first upload (09 R239). -/
def writeCommitted (l : Nat) (s : State) : State :=
  let lp := getLoop s l
  let s1 := (List.range lp.cells.length).foldl (fun t c =>
    match lp.cells[c]? with
    | some r => if level2 r.caps && (lp.configOf c).isSome then
        commandTo l c opWriteShadow 0x10 (committedRegs (lp.configOf c) r.failed).words t else t
    | none => t) s
  modLoop l (fun x => { x with loadWait := true }) { s1 with chain.loadPending := true }

/-- The failed cells of an enumeration: a cell that is not level 2, or unreached, is failed; a cell found level 2 and
answering returns to service (10 R268). -/
def judgeCells (l : Nat) (s : State) : State :=
  let lp := getLoop s l
  let lp1 := { lp with cells := lp.cells.map fun r => { r with failed := r.dead || !level2 r.caps } }
  (List.range lp1.cells.length).foldl (fun t c =>
    if ((lp1.cells[c]?).map (·.failed)).getD false then
      logAlert 0x07 0x05 (cellTarget t l c) 0 0 (addFault (cellTarget t l c) 4 0 false false t)
    else clearFault (cellTarget t l c) 4 0 t) (modLoop l (fun _ => lp1) s)

/-- A replaced cell: it is logged, and its records of the fault map become inactive (17 R395). -/
def reportReplaced (l c : Nat) (s : State) : State :=
  let mine := s.chain.faults.filter fun f => f.active && tgtLoop f.target == l && tgtCell f.target == c
  logAlert 0x07 0x08 (cellTarget s l c) 0 0 (mine.foldl (fun t f => clearFault f.target f.kind f.detail t) s)

/-- A cell whose serial number differs from the tile configuration record's is reported replaced (17 R395). -/
def markReplaced (l : Nat) (s : State) : State :=
  let lp := getLoop s l
  let known (c : Nat) : Option Nat := (s.chain.recordSerials.find? fun x => x.1 == (l, c)).map (·.2)
  let lp1 := { lp with cells := lp.cells.zipIdx.map fun (r, c) =>
    { r with replaced := !r.dead && ((known c).map fun k => k != r.serial).getD false } }
  (List.range lp1.cells.length).foldl (fun t c =>
    if ((lp1.cells[c]?).map (·.replaced)).getD false then reportReplaced l c t else t)
    (modLoop l (fun _ => lp1) s)

/-- The records and alerts of an enumeration's outcome (10 R257, R269): a mismatch, a broken link, a double fault;
an enumeration without them clears them. -/
def recordEnumeration (l : Nat) (s : State) : State :=
  let lp := getLoop s l
  let t := loopTarget s l
  let s0 := s.chain.faults.foldl (fun x f => if f.target == t && (f.kind == 5 || f.kind == 8) then clearFault t f.kind f.detail x else x) s
  let s1 := clearAlert 0x07 0x07 t (clearAlert 0x07 0x01 t s0)
  let s2 := if lp.mismatch then raiseAlert 0x07 0x07 t 0 0 false s1 else s1
  let s3 := if lp.blocked then addFault t 8 0 false false s2 else s2
  lp.broken.foldl (fun x b => raiseAlert 0x07 0x01 t 0 b false (addFault t 5 b false lp.doubleFault x)) s3

/-- The serial numbers that the tile configuration record holds for a loop's cells (17 R386). -/
def loopSerials (s : State) (l : Nat) : List ((Nat × Nat) × Nat) :=
  ((getLoop s l).cells.zipIdx.filter fun x => !x.1.dead).map fun (r, c) => ((l, c), r.serial)

/-- The record is due where an enumeration has found other serial numbers than it holds. -/
def noteSerials (l : Nat) (s : State) : State :=
  { s with flash.recordDue := s.flash.recordDue || loopSerials s l != s.chain.recordSerials.filter fun x => x.1.1 == l }

/-- One loop enumerated (09 R237). -/
def enumerateLoop (l : Nat) (s : State) : State :=
  let a := enumPass .A (portMute s (portOf l .A)) (nowNs s) (getPlant s l)
  let b := enumPass .B (portMute s (portOf l .B)) (nowNs s) a.1
  let s1 := modPlant l (fun _ => b.1) (modLoop l (fun old => judgePasses old a.2 b.2) s)
  let clear (q : ChainPort) : ChainPort := { q.ended with reports := [], trainEnded := false, missed := false, missingNow := false, read := none, waiting := [] }
  let s2 := modPort (portOf l .A) clear (modPort (portOf l .B) clear s1)
  noteSerials l (writeCommitted l (recordEnumeration l (markReplaced l (judgeCells l (refeed l s2)))))

/-- Loops enumerated in ascending number. -/
def enumerateLoops (ls : List Nat) (s : State) : State := ls.foldl (fun t l => enumerateLoop l t) s

/-- The results of one loop's enumeration (18 Table 18-12). -/
def enumBytes (s : State) (l : Nat) : List Byte :=
  let lp := getLoop s l
  u8 l ++ u8 (128 * b2n lp.enumerated + 64 * b2n lp.over100 + 32 * b2n lp.mismatch + 16 * b2n lp.notLevel2) ++
    u8 lp.nA ++ u8 lp.nB ++
    (lp.cells.filter fun r => !r.dead || r.serial != 0).flatMap fun r =>
      u8 r.hopA ++ u8 (128 * b2n r.failed + 64 * b2n r.replaced + 32 * b2n r.bOnly) ++ u16 r.caps ++ u16 r.kappa ++
        u16 r.vendor ++ u16 r.model ++ ube 6 r.serial

/-- HEAL: a loop runs with its meridian moved from the configured position (02 Table 2-3). -/
def healBit (s : State) : Bool := s.chain.loops.any (·.healed)

/-- The 16-byte status record of a loop (10 Table 10-9). -/
def loopBytes (s : State) (l : Nat) : List Byte :=
  let lp := getLoop s l
  let fa := (getPort s (portOf l .A)).failed
  let fb := (getPort s (portOf l .B)).failed
  let trains := (getPort s (portOf l .A)).missingTrains + (getPort s (portOf l .B)).missingTrains
  u8 l ++ u8 (128 * b2n lp.enumerated + 64 * b2n lp.healed + 32 * b2n lp.doubleFault + 16 * b2n lp.trial +
      8 * b2n fa + 4 * b2n fb + 2 * b2n lp.mismatch) ++
    u8 lp.cells.length ++ u8 lp.wantM ++ u8 lp.m ++ u8 (lp.fedCells .A).length ++ u8 (lp.fedCells .B).length ++
    u8 (lp.cells.filter (·.failed)).length ++ u8 (lp.broken.getD 0 0xFF) ++ u8 (lp.broken.getD 1 0xFF) ++
    u16 (satN 0xFFFF trains) ++ u16 lp.heals ++ u16 0

/-! ## Report trains (09 R231, 10 Table 10-1) -/

/-- Whether a report's CRC-8 over bits [31:8] is good (09 Table 9-10, R232). -/
def reportGood (w : Nat) : Bool := crc8 (ube 3 (w / 256)) == w % 256

/-- Whether a report is that of a hop of an end: its CRC-8 is good, and HOP and SIDE name the cell. One that names another is no
report of the cell, which counts as silent (DEDUCED, log 47). -/
def reportOf (e : Side) (hop w : Nat) : Bool := reportGood w && field w 31 25 == hop && (w.testBit 24 == (e == .B))

/-- A cell's record after its report, or without one (10 Table 10-1). -/
def takeReport (now : Nat) (good : Bool) (w : Nat) (r : CellRec) : CellRec :=
  if !good then { r with silent := r.silent + 1 }
  else
    let complete := w.testBit 23
    { r with
      silent := 0
      stale := if complete then 0 else r.stale + 1
      incomplete := !complete
      faultBits := r.faultBits || w.testBit 21 || w.testBit 20 || w.testBit 19
      linkErrs := if w.testBit 17 then r.linkErrs + 1 else r.linkErrs
      overtempSince := if w.testBit 18 then (if r.overtempSince.isSome then r.overtempSince else some now) else none }

/-- The alert of a cell's over-temperature follows its report bit, and a link error is cleared in the cell by a WRITE
(10 Table 10-1). -/
def reportEffects (l c : Nat) (good : Bool) (w : Nat) (before : CellRec) (s : State) : State :=
  if !good then s
  else
    let s1 := if w.testBit 18 && before.overtempSince.isNone then raiseAlert 0x07 0x06 (cellTarget s l c) 0 0 false s
      else if !w.testBit 18 && before.overtempSince.isSome then clearAlert 0x07 0x06 (cellTarget s l c) s else s
    if w.testBit 17 then commandTo l c opWrite 0x0B [0x8000] s1 else s1

/-- One report of a train judged. -/
def judgeReport (l c w : Nat) (s : State) : State :=
  match (getLoop s l).cells[c]? with
  | none => s
  | some r =>
    let x := (getLoop s l).reach c
    let good := reportOf x.1 x.2 w
    modLoop l (fun lp => lp.modCell c (takeReport (nowNs s) good w)) (reportEffects l c good w r s)

/-- The port's counts of silent, stale and link-error reports (10 R248). -/
def countReports (ws : List Nat) (q : ChainPort) : ChainPort :=
  { q with
    silentCount := satN 0xFFFF (q.silentCount + (ws.filter fun w => !reportGood w).length)
    staleCount := satN 0xFFFF (q.staleCount + (ws.filter fun w => reportGood w && (!w.testBit 23 || 0 < field w 14 8)).length)
    linkErrCount := satN 0xFFFF (q.linkErrCount + (ws.filter fun w => reportGood w && w.testBit 17).length) }

/-- A port judged by its report train when the latch window opens (10 R248, Table 10-1): a missing or short train counts and
asks for localisation, every report of a complete one is judged, far cell first. The command frames that have waited follow. -/
def judgePort (p : Nat) (s : State) : State :=
  let q := getPort s p
  let n := q.segments
  let s0 := modPort p ChainPort.ended s
  if !q.uploading then s
  else if !q.trainEnded || q.reports.length < n then
    sendWaiting p (modPort p (fun x => { x with missingTrains := inc16 x.missingTrains, missed := true }) s0)
  else
    let s1 := (((portCells s p).take n).reverse.zip q.reports).foldl (fun t x => judgeReport (portLoop p) x.1 x.2 t) s0
    sendWaiting p (modPort p (fun x => countReports x.reports x) s1)

/-! ## Cell configuration, raster and meridian units (09 R238 to R240, 10 R255) -/

/-- The flags of CELL_CONFIG (09 Table 9-12). -/
def cfgSetCurrent (ps : List Byte) : Bool := bitN (getB ps 1) 7
def cfgSetPlace (ps : List Byte) : Bool := bitN (getB ps 1) 6
def cfgOutEn (ps : List Byte) : Bool := bitN (getB ps 1) 5

/-- A channel current in range (09 Table 9-12). -/
def currentOk (v : Nat) : Bool := 10 ≤ v && v ≤ 400

/-- Whether a cell placed at an origin lies inside a raster (09 R239). -/
def placeInside (w h oc orow : Nat) : Bool := 16 * (oc + 1) ≤ w && 32 * (orow + 1) ≤ h

/-- The unit of a cell. -/
def cellUnit (l c : Nat) : UnitRef := ⟨.cell, 100 * l + c⟩

/-- A committed configuration after a descriptor (09 R238, R239). -/
def newCommitted (ps : List Byte) (old : CellCommitted) : CellCommitted :=
  { old with
    red := if cfgSetCurrent ps then be ps 4 2 else old.red
    green := if cfgSetCurrent ps then be ps 6 2 else old.green
    blue := if cfgSetCurrent ps then be ps 8 2 else old.blue
    hasCurrent := old.hasCurrent || cfgSetCurrent ps
    outEn := cfgOutEn ps
    place := if cfgSetPlace ps then some (getB ps 10, getB ps 11, getB ps 12 = 1) else old.place }

/-- Whether a cell is failed (10 R268). -/
def cellFailed (s : State) (l c : Nat) : Bool := (((getLoop s l).cells[c]?).map (·.failed)).getD false

/-- The registers that a descriptor asks of a cell. -/
def wantedRegs (ps : List Byte) (l c : Nat) (s : State) : CellRegs :=
  committedRegs (some (newCommitted ps (((getLoop s l).configOf c).getD {}))) (cellFailed s l c)

/-- Whether a cell answers and its shadow copies, read back, hold what was written (09 R238); other values are no answer
(DESIGN CHOICE, log 46). -/
def shadowTaken (ps : List Byte) (l c : Nat) (s : State) : Bool :=
  let regs := wantedRegs ps l c s
  let x := (getLoop s l).reach c
  match plantCellAt (portSend (portOf l x.1) (command opWriteShadow x.2 0x10 regs.words).frame s) l c with
  | some q => q.shadow == regs
  | none => false

/-- The staging status of one cell (09 R238, R239). -/
def cellUnitStatus (t : BitVec 64) (ps : List Byte) (l c : Nat) (s : State) : Nat :=
  if cfgSetCurrent ps && !(currentOk (be ps 4 2) && currentOk (be ps 6 2) && currentOk (be ps 8 2)) then St.badParam
  else if cfgSetPlace ps && (tgtCell t = 127 || 1 < getB ps 12 || 127 < getB ps 10 || 63 < getB ps 11 ||
      !placeInside s.chain.width s.chain.height (getB ps 10) (getB ps 11)) then St.badParam
  else if shadowTaken ps l c s then St.ok else St.blockUnusable

/-- The loop's configuration with one cell's replaced. -/
def LoopState.setConfig (l : LoopState) (c : Nat) (cfg : CellCommitted) : LoopState :=
  { l with config := (l.config.filter fun x => x.1 != c) ++ [(c, cfg)] }

/-- WRITE_SHADOW of a staged descriptor to the addressed cells (09 R238). -/
def stageCells (r : Req) (s : State) : State :=
  (targetCells s r.target).foldl (fun t (l, c) => commandTo l c opWriteShadow 0x10 (wantedRegs r.params l c t).words t) s

/-- DISCARD to a cell (09 R238). -/
def discardCell (l c : Nat) (s : State) : State := commandTo l c opDiscard 0 [] s

/-- A cell's configuration commits (09 R238): LOAD goes with the first latch of the presentation frame that shows the
commit frame's composites. -/
def applyCell (ps : List Byte) (l c frame : Nat) (s : State) : State :=
  let regs := wantedRegs ps l c s
  let s1 := modLoop l (fun lp => lp.setConfig c (newCommitted ps ((lp.configOf c).getD {}))) s
  let s2 := commandTo l c opWriteShadow 0x10 regs.words s1
  { s2 with chain.loadAt := s2.chain.loadAt ++ [frame] }

/-- All committed placements of the tile. -/
def placements (s : State) : List (Nat × Nat × Bool) :=
  s.chain.loops.flatMap fun l => l.config.filterMap fun c => c.2.place

/-- Distinct cell origins (09 R239). -/
def originsDistinct (s : State) : Bool := !hasDup ((placements s).map fun p => (p.1, p.2.1))

/-- Every committed placement lies inside the raster (09 R240); the empty raster removes them instead. -/
def placementsInside (s : State) : Bool :=
  (s.chain.width == 0 && s.chain.height == 0) ||
    (placements s).all fun p => placeInside s.chain.width s.chain.height p.1 p.2.1

/-- A raster that is valid (00 R5): no loop of the tile holds more than 100 cells. -/
def rasterValid (s : State) (w h : Nat) : Bool :=
  (w == 0 && h == 0) ||
    (1 ≤ w && w ≤ 2048 && 1 ≤ h && h ≤ 2048 && w % 16 == 0 && h % 32 == 0 &&
      (s.chain.loops.all fun l => l.cells.length ≤ 100) &&
      w * h ≤ (if s.fuse.pv8208 then 409600 else 1228800))

/-- The raster commits; the empty raster removes every committed placement (09 R240). -/
def applyRaster (w h : Nat) (s : State) : State :=
  let s1 := { s with chain.width := w, chain.height := h }
  if w = 0 && h = 0 then
    { s1 with chain.loops := s1.chain.loops.map fun l =>
        { l with config := l.config.map fun c => (c.1, { c.2 with place := none }) } }
  else s1

/-- The staging status of a loop's meridian (10 R255). -/
def meridianStatus (ps : List Byte) (l : Nat) (s : State) : Nat :=
  need (getB ps 2 = 0xFF || getB ps 2 ≤ loopCells s l)

/-- A MERIDIAN burst that moves a whole loop to a meridian (10 R251): the gaining port sends one frame for each cell
that it takes over and one more, the other port one. -/
def burst (l : Nat) (m : Nat) (s : State) : State :=
  let old := (getLoop s l).m
  let gaining : Side := if old < m then .A else .B
  let count := (if old < m then m - old else old - m) + 1
  let go (e : Side) (k : Nat) (t : State) : State :=
    if drives t l e then modPlant l (sendMeridian (drives t l .A) (drives t l .B) (nowNs t) e m k) t else t
  modLoop l (fun lp => { lp with m := m, moveDue := false }) (go gaining count (go gaining.other 1 s))

/-- A loop's meridian configuration commits (10 R255): on a loop that is not healed the meridian in force moves with it, in
the first gap that is long enough. -/
def applyMeridian (ps : List Byte) (l : Nat) (s : State) : State :=
  let f := getB ps 1
  let s1 := modLoop l (fun lp => { lp with
    configured := if getB ps 2 = 0xFF then lp.configured else some (getB ps 2)
    autoRestore := bitN f 6
    restoreNow := lp.restoreNow || (bitN f 7 && lp.healed)
    restoreInterval := be ps 4 2 }) s
  modLoop l (fun lp => { lp with moveDue := !lp.healed && !lp.blocked && lp.m != lp.wantM }) s1

/-- How long the burst of a waiting move takes, its check included (10 R251). -/
def LoopState.moveTime (l : LoopState) : Nat := 2500 * (if l.m < l.wantM then l.wantM - l.m else l.m - l.wantM) + 30000

end Sys2Proof.Machine
end

