-- ==== Sys2Proof/Machine/Blocks.lean ====
section
/-! DEFINITION. The blocks of background self-test (13 Table 13-1) and their records, as every family that meets an
unusable block needs them. -/

namespace Sys2Proof.Machine

/-- The instances of a class on the grade (13 Table 13-1; 00 Table 0-1). -/
def blockInstances (s : State) : Nat → Nat
  | 0x01 => gradePorts s
  | 0x02 => 4
  | 0x03 => 2
  | 0x04 => 1
  | 0x05 => 16
  | 0x06 => 12
  | 0x07 => 2
  | 0x08 => 4
  | 0x09 => 8
  | 0x0A => 1
  | 0x0B => 17
  | 0x0C => 6
  | 0x0D => 4
  | 0x0E => 4
  | 0x0F => 32
  | 0x10 => 1
  | _ => 0

/-- The slices of each block of a class. -/
def blockSlices (id : Nat) : Nat :=
  [0, 6, 66, 520, 132, 32, 32, 2, 260, 32, 64, 1, 1, 1, 2, 1, 192].getD (blockClass id) 0

/-- The blocks of the grade in ascending ID. -/
def allBlocks (s : State) : List Nat :=
  (List.range 17).flatMap fun c => (List.range (blockInstances s c)).map fun i => 256 * c + i

/-- Whether an ID names a block of the grade. -/
def blockExists (s : State) (id : Nat) : Bool := blockInst id < blockInstances s (blockClass id)

/-- A chain port of the larger grade that this grade never drives (00 R3, 16 R359). -/
def blockAbsent (s : State) (id : Nat) : Bool :=
  blockClass id == 1 && gradePorts s ≤ blockInst id && blockInst id < 48

/-- The essential blocks (13 R309): command memory, thermal state, controller and clocks, and the save area. -/
def essential (id : Nat) : Bool := [0x09, 0x0A, 0x0E, 0x10].contains (blockClass id)

/-- The record of a block. -/
def blockRec (s : State) (id : Nat) : BlockRec := (s.bist.records.find? (·.id == id)).getD { id := id }

/-- The records with one changed. -/
def modBlock (id : Nat) (f : BlockRec → BlockRec) (s : State) : State :=
  { s with bist.records := (s.bist.records.filter (·.id != id)) ++ [f (blockRec s id)] }

/-- Whether a block is marked unusable (13 Table 13-4, state 2). -/
def blockUnusable (s : State) (id : Nat) : Bool := (blockRec s id).state == 2

/-- Both engine lanes are lost: every view freezes (13 R308). -/
def lanesLost (s : State) : Bool := blockUnusable s 0x0300 && blockUnusable s 0x0301

/-- Whether a meter input, or the converter behind every input, is lost (13 Table 13-1, class 0x0B). -/
def inputLost (s : State) (k : Nat) : Bool := blockUnusable s (0x0B00 + k) || blockUnusable s 0x0B10

/-- Whether any block is marked unusable, for the status word (02 Table 2-3). -/
def anyUnusable (s : State) : Bool := s.bist.records.any (·.state == 2)

end Sys2Proof.Machine
end

