-- ==== Sys2Proof/Machine/Program.lean ====
section
/-! DEFINITION. Presentation programs (08 R195 to R203): frame periods, slots, upload periods and capacity, fitting,
the fallback chain, the unit of PROGRAM_SET, and the sync inputs' unit and procedure (R206 to R211). -/

namespace Sys2Proof.Machine

/-! ## Frame rates and slots -/

/-- The periods of 08 Table 8-1 in seconds, numerator and denominator, by code. -/
def periodTable : List (Nat × Nat) :=
  [(1001, 24000), (1, 24), (1, 25), (1001, 30000), (1, 30), (1001, 48000), (1, 48), (1, 50), (1001, 60000), (1, 60),
   (1, 72), (1, 90), (1, 96), (1, 100), (1001, 120000), (1, 120), (1, 144), (1, 200), (1001, 240000), (1, 240)]

/-- The frame period of a rate code, in nanoseconds. -/
def periodOfRate (code : Nat) : Period :=
  let x := periodTable.getD code (1, 60)
  ⟨x.1 * 1000000000, x.2⟩

/-- A period as a rational number of nanoseconds. -/
def Period.q (p : Period) : Rat := mkRat p.num p.den

/-- A program of the table; an empty entry counts as the default program. -/
def getProgram (s : State) (k : Nat) : Program := ((s.pres.programs.getD k none)).getD {}

/-- The program that runs (08 R202). -/
def runningProgram (s : State) : Program := getProgram s s.pres.running

/-- The program that the slots of a frame follow: the one that ran at its boundary (08 R202). -/
def planOf (s : State) (f : Nat) : Program := ((s.pres.plans.find? fun x => x.1 == f).map (·.2)).getD (runningProgram s)

/-- The frame period of the program in force (00 R13). -/
def period (s : State) : Period := periodOfRate (getProgram s s.pres.inForce).rate

/-- The frame number of a frame count (00 R13). -/
def frameNo (n : Nat) : Nat := n % 2 ^ 32

/-- Whether frame number `a` is later than `b` (00 R14): the difference as a signed 32-bit value is positive. -/
def frameLater (a b : Nat) : Bool := 0 < signed 32 ((a + 2 ^ 32 - b % 2 ^ 32) % 2 ^ 32)

/-- The sum of the durations before slot `i`. -/
def Program.offset (g : Program) (i : Nat) : Nat := ((g.slots.take i).map (·.duration)).foldl (· + ·) 0

/-- The duration of slot `i`; the last slot takes the rest of the frame period exactly (08 Table 8-3). -/
def Program.slotDur (g : Program) (i : Nat) : Rat :=
  if i + 1 = g.slots.length then (periodOfRate g.rate).q - (g.offset i : Nat)
  else ((g.slots.getD i {}).duration : Nat)

/-- The view of slot `i`. -/
def Program.view (g : Program) (i : Nat) : Nat := (g.slots.getD i {}).view

/-- The refresh count of slot `i`. -/
def Program.refreshes (g : Program) (i : Nat) : Nat := (g.slots.getD i {}).refreshes

/-- The views that a program shows. -/
def Program.views (g : Program) : List Nat := (g.slots.map (·.view)).eraseDups

/-- The row time of slot `i` (08 R196). -/
def Program.rowTime (g : Program) (i : Nat) : Rat := g.slotDur i / ((32 * g.refreshes i : Nat) : Rat)

/-- The lit time of a view (08 R196): the sum of S × (1 − 32 × N × D ÷ S) over its slots. -/
def Program.litTime (g : Program) (v : Nat) : Rat :=
  ((List.range g.slots.length).filter fun i => g.view i == v).foldl
    (fun a i => a + (g.slotDur i - ((32 * g.refreshes i * g.dead : Nat) : Rat))) 0

/-- The lit time of a whole presentation frame (08 R212). -/
def Program.litTotal (g : Program) : Rat := (g.views).foldl (fun a v => a + g.litTime v) 0

/-- The share f of a view that the stress sampler uses (08 R196). -/
def Program.share (g : Program) (v : Nat) : Rat := g.litTime v / (periodOfRate g.rate).q

/-! ## Uploads and capacity (08 R199, R200) -/

/-- Whether slot `i` needs an upload in an uploaded frame: its image is not the one shown two slots earlier. -/
def Program.needsUpload (g : Program) (i : Nat) : Bool := i < 2 || g.view i != g.view (i - 2)

/-- The uploads of an uploaded frame. -/
def Program.uploads (g : Program) : Nat := ((List.range g.slots.length).filter g.needsUpload).length

/-- The upload period in nanoseconds for `n` cells on the fullest port: n × 32.6 µs + 73.3 µs. -/
def uploadPeriod (n : Nat) : Nat := n * 32600 + 73300

/-- The upload capacity for `n` cells: min(480, floor(1 ÷ t_U)). -/
def uploadCapacity (n : Nat) : Nat := min 480 (1000000000 / uploadPeriod n)

/-- The greatest number of cells that any one port feeds with the meridians in force. -/
def fullestPort (s : State) : Nat := ((List.range 48).map fun p => (portCells s p).length).foldl max 0

/-- The greatest number of cells on a port with every loop balanced. -/
def balancedPort (s : State) : Nat := (s.chain.loops.map fun l => (l.cells.length + 1) / 2).foldl max 0

/-- The upload limit of a performance level (16 Table 16-1), none at P0. -/
def levelUploads (level : Nat) : Option Nat :=
  match level with
  | 0 => none
  | 1 => some 300
  | 2 => some 150
  | _ => some 60

/-- The upload rate of a program per second (08 R200). -/
def Program.uploadRate (g : Program) : Rat :=
  ((g.uploads : Nat) : Rat) * 1000000000 / (periodOfRate g.rate).q / ((max g.divisor 1 : Nat) : Rat)

/-- Whether a program fits with `n` cells on the fullest port at a performance level (08 R200). -/
def Program.fits (g : Program) (n level : Nat) : Bool :=
  let c := g.slots.length
  ((List.range c).all fun i => !g.needsUpload ((i + 1) % c) || ((uploadPeriod n : Nat) : Rat) ≤ g.slotDur i) &&
    decide (g.uploadRate ≤ ((uploadCapacity n : Nat) : Rat)) &&
    (match levelUploads level with | none => true | some u => decide (g.uploadRate ≤ ((u : Nat) : Rat)))

/-! ## The fallback chain (08 R201, R202) -/

/-- The chain from an entry: it ends at the first entry that names itself or one already visited. -/
def chainFrom (table : List (Option Program)) : Nat → Nat → List Nat → List Nat
  | 0, _, seen => seen
  | fuel + 1, k, seen =>
    if seen.contains k then seen
    else match table.getD k none with
      | none => seen ++ [k]
      | some g => chainFrom table fuel g.fallback (seen ++ [k])

/-- The fallback chain of an entry in a table. -/
def fallbackChain (table : List (Option Program)) (k : Nat) : List Nat := chainFrom table 9 k []

/-- Whether a chain meets the conditions of 08 R201. -/
def chainOk (table : List (Option Program)) (k : Nat) : Bool :=
  let c := fallbackChain table k
  match table.getD k none with
  | none => false
  | some first =>
    (c.all fun i => match table.getD i none with | none => false | some g => g.rate == first.rate) &&
    ((c.zip (c.drop 1)).all fun (a, b) =>
      (((table.getD b none).getD {}).views).all fun v => (((table.getD a none).getD {}).views).contains v) &&
    (c.take 8).any fun i => match table.getD i none with | none => false | some g => g.fits 100 3

/-! ## PROGRAM_SET (08 R197, R198) -/

/-- The program that a descriptor states (08 Tables 8-2 and 8-3). -/
def programOf (ps : List Byte) : Program :=
  { complement := bitN (getB ps 2) 6, rate := getB ps 3, latency := getB ps 4, fallback := getB ps 6
    divisor := getB ps 7, dead := be ps 8 2, ceiling := be ps 10 2, residueThreshold := be ps 12 2
    eclipse := [be ps 16 2, be ps 18 2, be ps 20 2], phase0 := be ps 24 4
    slots := (List.range (getB ps 5)).map fun i => ⟨getB ps (32 + 8 * i), getB ps (33 + 8 * i), be ps (36 + 8 * i) 4⟩ }

/-- Whether a descriptor's fields are in range and its reserved bytes 0 (08 R198). -/
def programFieldsOk (ps : List Byte) : Bool :=
  let count := getB ps 5
  getB ps 1 ≤ 7 && field (getB ps 2) 5 0 = 0 && getB ps 3 ≤ 0x13 && 1 ≤ getB ps 4 && getB ps 4 ≤ 4 &&
    1 ≤ count && count ≤ 16 && getB ps 6 ≤ 7 && 1 ≤ getB ps 7 && getB ps 7 ≤ 8 &&
    600 ≤ be ps 8 2 && be ps 8 2 ≤ 4000 && 0x8000 ≤ be ps 10 2 && 1 ≤ be ps 12 2 && be ps 12 2 ≤ 0x8000 &&
    be ps 14 2 = 0 && be ps 16 2 ≤ 0x1000 && be ps 18 2 ≤ 0x1000 && be ps 20 2 ≤ 0x1000 && be ps 22 2 = 0 &&
    be ps 24 4 < (periodOfRate (getB ps 3)).num / (periodOfRate (getB ps 3)).den && be ps 28 4 = 0 &&
    ((List.range 16).all fun i =>
      if i < count then getB ps (32 + 8 * i) ≤ 3 && 1 ≤ getB ps (33 + 8 * i) && getB ps (33 + 8 * i) ≤ 64 && be ps (34 + 8 * i) 2 = 0
      else be ps (32 + 8 * i) 8 = 0)

/-- Whether the slots keep their minima (08 R198): a refresh of at least 64 µs, D at most half a row time, the last
slot at least 64 µs × its N, and no two adjacent slots of one view. -/
def programSlotsOk (g : Program) : Bool :=
  let c := g.slots.length
  ((List.range c).all fun i =>
    decide ((((64000 * g.refreshes i : Nat) : Rat)) ≤ g.slotDur i) && decide (((2 * g.dead : Nat) : Rat) ≤ g.rowTime i)) &&
    (c == 1 || (List.range c).all fun i => g.view i != g.view ((i + 1) % c))

/-- The staging status of PROGRAM_SET (08 R198). -/
def programStatus (ps : List Byte) (s : State) : Nat :=
  let g := programOf ps
  let k := getB ps 1
  let table := setAt s.pres.programs k (some g)
  if !programFieldsOk ps then St.badParam
  else need (programSlotsOk g &&
    (!g.complement || (g.views.contains 0 && g.views.any fun v => v != 0)) &&
    (g.divisor ≤ 1 || g.views.length ≤ 2) &&
    g.fits (balancedPort s) 0 &&
    ((List.range 8).all fun e => !((table.getD e none).isSome && (fallbackChain table e).contains k) || chainOk table e))

/-- The schedule against the boundaries of a new frame period (08 R203, 03 R97). -/
def reschedule (p : Period) (s : State) : State :=
  { s with
    cmd.ephemeris := s.cmd.ephemeris.map fun e => { e with boundary := p.boundaryAfter e.time }
    time.frame := p.frameOf (nowNs s) }

/-- PROGRAM_SET commits (08 R197, R203): the entry is written and, with ACTIVATE, comes into force; a new frame rate
discards the composites that have not reached their transit and renumbers the frames. -/
def applyProgram (ps : List Byte) (s : State) : State :=
  let k := getB ps 1
  let g := programOf ps
  let s1 := { s with pres.programs := setAt s.pres.programs k (some g), pres.fitSince := setAt s.pres.fitSince k none }
  let active := bitN (getB ps 2) 7
  let s2 := if active then clearAlert 0x06 0x01 (tileTarget s1) { s1 with pres.inForce := k, pres.running := k } else s1
  if (period s2) = (period s) then s2
  else reschedule (period s2) { s2 with pres.images := [], pres.next := none }

/-- Whether an entry fits the state in force. -/
def programFits (s : State) (k : Nat) : Bool := (getProgram s k).fits (fullestPort s) s.power.level.val

/-- The time from which each entry has fitted without a break, judged at a boundary. -/
def noteFits (s : State) : State :=
  { s with pres.fitSince := s.pres.fitSince.zipIdx.map fun (x, k) => if programFits s k then some (x.getD (nowNs s)) else none }

/-- Whether an entry has fitted for 1 s without a break. -/
def fitsOneSecond (s : State) (k : Nat) : Bool :=
  match s.pres.fitSince.getD k none with
  | some t => decide (t + 1000000000 ≤ nowNs s)
  | none => false

/-- The entry to run (08 R202): the first of the chain that fits, where a return toward the program in force waits until the
earlier entry has fitted for 1 s; the end of the chain is its terminal program. -/
def wantedProgram (s : State) : Nat :=
  let chain := fallbackChain s.pres.programs s.pres.inForce
  let later (k : Nat) : Bool := !chain.contains s.pres.running || decide (chain.idxOf s.pres.running ≤ chain.idxOf k)
  ((chain.find? fun k => programFits s k && (later k || fitsOneSecond s k)).orElse fun _ => chain.find? (programFits s)).getD
    (chain.getLastD s.pres.inForce)

/-- A change of the running program is logged; while a fallback runs, its alert is active. -/
def runProgram (k : Nat) (s : State) : State :=
  if k = s.pres.running then s
  else
    let s1 := clearAlert 0x06 0x01 (tileTarget s) { s with pres.running := k }
    if k = s.pres.inForce then logAlert 0x06 0x01 (tileTarget s1) 0 k s1 else raiseAlert 0x06 0x01 (tileTarget s1) 0 k false s1

/-- The program to run is chosen at a boundary (08 R202). -/
def chooseProgram (s : State) : State :=
  let s1 := noteFits s
  runProgram (wantedProgram s1) s1

/-! ## Sync inputs (08 R206 to R211) -/

/-- The records of CAMSYNC_CONFIG. -/
def syncRecord (ps : List Byte) (i : Nat) : List Byte := slice ps (4 + 20 * i) 20

/-- The staging status of one record (08 R206). -/
def syncStatus (ps : List Byte) (i : Nat) (s : State) : Nat :=
  let r := syncRecord ps i
  let input := getB r 0
  let fl := getB r 1
  let count := getB ps 1
  let anchors := ((List.range count).filter fun k => bitN (getB (syncRecord ps k) 1) 5).length
  let off := signed 32 (be r 4 4)
  let T := (period s).q
  need (input ≤ 4 && field fl 3 0 = 0 && (if input = 4 then getB r 2 = 0 && be r 8 4 = 0 else 1 ≤ getB r 2 && getB r 2 ≤ 3) &&
    1 ≤ getB r 3 && getB r 3 ≤ 4 && decide ((off : Rat) ≤ T) && decide (-T ≤ (off : Rat)) &&
    decide (anchors ≤ 1) && (!bitN fl 4 || bitN fl 5) &&
    (input = 4 || (getProgram s s.pres.inForce).views.contains (getB r 2)))

/-- A sync input after its record commits: enabled inputs start acquiring. -/
def applySync (ps : List Byte) (i : Nat) (s : State) : State :=
  let r := syncRecord ps i
  let fl := getB r 1
  let x : SyncInput := { enable := bitN fl 7, falling := bitN fl 6, anchor := bitN fl 5, commanded := bitN fl 4, view := getB r 2, divisor := getB r 3, offset := signed 32 (be r 4 4), length := be r 8 4, phase := be r 12 4, guard_ := be r 16 2, state := if bitN fl 7 then .acquiring else .disabled, driftAt := nowNs s }
  let others := if bitN fl 5 then s.pres.sync.map fun y => { y with anchor := false } else s.pres.sync
  { s with pres.sync := setAt others (getB r 0) x }

/-- A difference of phases wrapped into (−period ÷ 2, period ÷ 2] (08 R207). -/
def wrapQ (x period : Rat) : Rat :=
  let y := x - period * ((x / period).floor : Int)
  if 2 * y ≤ period then y else y - period

/-- A phase modulo a period. -/
def modQ (x period : Rat) : Rat := x - period * ((x / period).floor : Int)

/-- A phase held in units of 2^-16 ns as a rational, and back. -/
def phaseQ (n : Nat) : Rat := mkRat n 65536
def phaseOf (q : Rat) : Nat := (roundQ (q * 65536)).toNat

/-- The procedure of 08 R207 on one edge at time `t`. The window of the drift starts anew at lock. -/
def syncEdge (T : Rat) (t : Nat) (x : SyncInput) : SyncInput :=
  let x := if x.state == .lost then { x with state := .acquiring, good := 0, bad := 0, relocking := true } else x
  let psiE := modQ ((t : Nat) + x.offset) T
  let err := wrapQ (psiE - phaseQ x.psi) T
  let big := decide ((50000 : Rat) < err) || decide (err < -50000)
  let jump := x.state == .acquiring && (x.good == 0 || big)
  let psi := if jump then phaseOf psiE
    else phaseOf (modQ (phaseQ x.psi + mkRat (roundQ (err * 65536 / 8)) 65536) T)
  let good0 := if jump then 0 else x.good
  let good := if decide (err < 2000) && decide (-2000 < err) then good0 + 1 else 0
  let bad := if big then x.bad + 1 else 0
  let locks := x.state == .acquiring && 8 ≤ good
  let drops := !locks && x.state == .locked && 8 ≤ bad
  { x with
    psi := psi
    good := if drops then 0 else good
    bad := bad
    missing := 0
    lastEdge := t
    driftAt := if locks then t else x.driftAt
    driftPsi := if locks then psi else x.driftPsi
    relocking := x.relocking && !locks
    state := if locks then .locked else if drops then .acquiring else x.state }

/-- The start of the first slot of a view and its duration in a program. -/
def Program.firstSlot (g : Program) (v : Nat) : Option (Nat × Rat) :=
  ((List.range g.slots.length).find? fun i => g.view i == v).map fun i => (g.offset i, g.slotDur i)

/-- A phase rounded to whole nanoseconds (00 R7) and taken into 0 ≤ φ < T. -/
def phaseIn (T q : Rat) : Nat :=
  let n := (roundQ (modQ q T)).toNat
  if decide (((n : Nat) : Rat) < T) then n else 0

/-- Whether a camera input is lost, or acquires again after a loss: φ stays as it stands (08 R211). -/
def SyncInput.away (x : SyncInput) : Bool := x.enable && (x.state == .lost || x.relocking)

/-- The program phase chosen in the order of 08 R208. A commanded phase needs no enabled input. DESIGN CHOICE (log 44): a lost
anchor camera holds φ by R211, whatever step 3 would give. -/
def choosePhase (s : State) : Nat :=
  let g := runningProgram s
  let T := (periodOfRate g.rate).q
  let ref := s.pres.sync.getD 4 {}
  let last := phaseIn T ((if s.pres.phaseKnown then s.pres.phase else g.phase0 : Nat) : Rat)
  let fromRef := if ref.enable && ref.state == .locked then phaseIn T (phaseQ ref.psi) else last
  match s.pres.sync.find? fun x => x.anchor && x.commanded with
  | some a => phaseIn T ((a.phase : Nat) : Rat)
  | none =>
    match (s.pres.sync.take 4).find? fun x => x.anchor && x.enable with
    | none => fromRef
    | some a =>
      if a.away then last
      else if a.state == .locked then
        match g.firstSlot a.view with
        | some (o, S) => phaseIn T (phaseQ a.psi - (o : Nat) - (S - (a.length : Nat)) / 2)
        | none => fromRef
      else fromRef

/-- Whether a locked camera's shutter window lies inside a slot of its view with its guard to spare (08 R210). -/
def windowInside (g : Program) (phase : Nat) (x : SyncInput) : Bool :=
  let T := (periodOfRate g.rate).q
  let pos := modQ (phaseQ x.psi - (phase : Nat)) T
  (List.range g.slots.length).any fun i =>
    g.view i == x.view && decide (((g.offset i + x.guard_ : Nat) : Rat) ≤ pos) &&
      decide (pos + ((x.length + x.guard_ : Nat) : Rat) ≤ (g.offset i : Nat) + g.slotDur i)

/-- Whether two shutter windows overlap. -/
def windowsOverlap (T : Rat) (x y : SyncInput) : Bool :=
  let d := modQ (phaseQ y.psi - phaseQ x.psi) T
  decide (d < (x.length : Nat)) || decide (T < d + (y.length : Nat))

/-- The OVERLAP condition (08 R210). -/
def overlapNow (s : State) : Bool :=
  let g := runningProgram s
  let cams := (s.pres.sync.take 4).filter fun x => x.enable && x.state == .locked
  (cams.any fun x => !windowInside g s.pres.phase x) ||
    (cams.zipIdx).any fun (x, i) => (cams.drop (i + 1)).any fun y => windowsOverlap (periodOfRate g.rate).q x y

/-- The OVERLAP flag and its warning follow the condition. -/
def judgeOverlap (s : State) : State :=
  let o := overlapNow s
  if o && !s.pres.overlap then raiseAlert 0x06 0x02 (tileTarget s) 0 0 false { s with pres.overlap := true }
  else if !o && s.pres.overlap then clearAlert 0x06 0x02 (tileTarget s) { s with pres.overlap := false }
  else s

/-- An input's state change is logged (08 R211): lost, or returned to locked. -/
def logSync (i : Nat) (old new : SyncLock) (s : State) : State :=
  if old == new then s
  else match new with
    | .lost => raiseAlert 0x06 0x05 (tileTarget s) 0 (256 * i + 3) false s
    | .locked => logAlert 0x06 0x05 (tileTarget s) 0 (256 * i + 2) (clearAlertDetail 0x06 0x05 (256 * i + 3) s)
    | _ => s

def getSync (s : State) (i : Nat) : SyncInput := s.pres.sync.getD i {}
def setSync (i : Nat) (x : SyncInput) (s : State) : State := { s with pres.sync := setAt s.pres.sync i x }

/-- Whether an input heeds an edge: it is enabled, the edge is of its polarity, and its pulse is longer than the 100 ns that
are ignored (19 Table 19-13). -/
def edgeCounts (x : SyncInput) (falling : Bool) (width : Nat) : Bool := x.enable && x.falling == falling && 100 < width

/-- An edge less than 10 µs after the previous edge of its input is a glitch (19 R430). -/
def isGlitch (t : Nat) (x : SyncInput) : Bool := match x.lastSeen with | some u => decide (t < u + 10000) | none => false

/-- A glitch is dropped and counted; it is no missing edge. -/
def dropEdge (t : Nat) (x : SyncInput) : SyncInput := { x with lastSeen := some t, glitches := min (x.glitches + 1) 0xFFFFFFFF }

/-- CAM_SYNC_EDGE (08 R207, 19 R430). -/
def takeEdge (i t : Nat) (s : State) : State :=
  let x := getSync s i
  if isGlitch t x then setSync i (dropEdge t x) s
  else
    let y := { syncEdge (period s).q t x with lastSeen := some t }
    judgeOverlap (logSync i x.state y.state (setSync i y s))

/-- A pulse from 120 ns on is accepted; a shorter one of more than 100 ns may be or not. -/
def execCamSyncEdge (i : Fin 5) (t : Nat) (falling : Bool) (width : Nat) (s : State) : Host.Outcome State Fault Refusal :=
  .next (if !edgeCounts (getSync s i) falling width then s
    else if 120 ≤ width then takeEdge i t s
    else if Config.pulseBetween s.freeCount then takeEdge i t (nextFree s) else nextFree s)

/-- The time past which an edge is missing: 50 µs after its expected time. -/
def edgeDeadline (s : State) (x : SyncInput) : Rat :=
  (x.lastEdge : Nat) + (period s).q * ((x.divisor * (x.missing + 1) : Nat) : Rat) + 50000

/-- One missing edge; four in a row make the input lost (08 R207). -/
def missEdge (i : Nat) (s : State) : State :=
  let x := getSync s i
  let y := { x with missing := x.missing + 1, state := if 4 ≤ x.missing + 1 then .lost else x.state }
  judgeOverlap (logSync i x.state y.state (setSync i y s))

/-- Whether an enabled input has had an edge and its next one is overdue. -/
def edgeMissing (s : State) (i : Nat) : Bool :=
  let x := getSync s i
  x.enable && 0 < x.lastEdge && x.state != .lost && decide (edgeDeadline s x < ((nowNs s : Nat) : Rat))

def execSyncEdgeMissing (i : Fin 5) (s : State) : Host.Outcome State Fault Refusal :=
  .next (if edgeMissing s i then missEdge i s else s)

/-- The drift of an input over its 10 s window judged (08 R207): more than 1 µs per second raises NOT_GENLOCKED. -/
def judgeGenlock (i : Nat) (s : State) : State :=
  let x := getSync s i
  let d := wrapQ (phaseQ x.psi - phaseQ x.driftPsi) (period s).q
  let off := decide ((10000 : Rat) < d) || decide (d < -10000)
  let s1 := setSync i { x with notGenlocked := off, driftAt := nowNs s, driftPsi := x.psi } s
  if off && !x.notGenlocked then raiseAlert 0x06 0x04 (tileTarget s) 0 i false s1
  else if !off && x.notGenlocked then clearAlertDetail 0x06 0x04 i s1 else s1

/-- Whether an input's 10 s window has passed. -/
def genlockDue (s : State) (i : Nat) : Bool :=
  let x := getSync s i
  x.enable && x.state == .locked && x.driftAt + 10000000000 ≤ nowNs s

def execGenlockCheck (i : Fin 5) (s : State) : Host.Outcome State Fault Refusal :=
  .next (if genlockDue s i then judgeGenlock i s else s)

end Sys2Proof.Machine
end

