-- ==== Sys2Proof/Machine/Ledger.lean ====
section
/-! DEFINITION. The current ledger (07): budgets, predictions, magnitudes, mismatch, headroom, rail start-up, the ambient
ceiling and the input current. -/

namespace Sys2Proof.Machine

def getRail (s : State) (r : Nat) : Rail := s.ledger.rails.getD r {}
def modRail (r : Nat) (f : Rail → Rail) (s : State) : State := { s with ledger.rails := modAt s.ledger.rails r f }
def modRails (f : Rail → Rail) (s : State) : State := { s with ledger.rails := s.ledger.rails.map f }

/-- The rail that the map assigns to a loop's colour (07 Table 7-1). -/
def railOf (s : State) (loop colour : Nat) : Nat := s.ledger.map.getD (3 * loop + colour) 0

/-! ## Budgets (07 R179, R181) -/

/-- The throttle budget of a rail in 10 mA (11 R281). -/
def throttleBudget (s : State) (r : Nat) : Nat := (getRail s r).budget * s.therm.u.getD r 0x8000 / 32768

/-- The effective budget of a rail in 10 mA (07 R181). -/
def effectiveBudget (s : State) (r : Nat) : Rat :=
  (min (getRail s r).budget (throttleBudget s r) : Nat) * mkRat (getRail s r).k 32768

/-- The rail records of a BUDGET_SET in ascending rail number. -/
def railRecords (ps : List Byte) : List (Nat × List Byte) :=
  let rs := (List.range (getB ps 1)).map fun i => slice ps (4 + 16 * i) 16
  (List.range 256).filterMap fun k => (rs.find? fun d => getB d 0 == k).map fun d => (k, d)

def budgetHasMap (ps : List Byte) : Bool := bitN (getB ps 2) 7

/-- The map of a BUDGET_SET, its bytes in loop and colour order. -/
def budgetMap (ps : List Byte) : List Nat := (slice ps (4 + 16 * getB ps 1) 72).map (·.toNat)

/-- The rail map that results from a BUDGET_SET. -/
def resultMap (ps : List Byte) (s : State) : List Nat := if budgetHasMap ps then budgetMap ps else s.ledger.map

/-- Whether a rail is enabled after a BUDGET_SET. -/
def resultEnabled (ps : List Byte) (s : State) (r : Nat) : Bool :=
  match (railRecords ps).find? (·.1 == r) with
  | some (_, d) => bitN (getB d 1) 7
  | none => (getRail s r).enable

/-- Whether a rail record's fields are in range (07 Table 7-1). -/
def railRecordOk (d : List Byte) : Bool :=
  getB d 0 ≤ 3 && field (getB d 1) 6 0 = 0 && 1 ≤ be d 2 2 && be d 2 2 ≤ 40000 && 1 ≤ be d 4 2 && be d 4 2 ≤ 32768 &&
    1 ≤ be d 6 2 && be d 6 2 ≤ 32768 && 1 ≤ getB d 8 && getB d 8 ≤ 100 &&
    (getB d 9 = 0xFF || (getB d 9 ≤ 15 && 100 ≤ be d 10 2)) && be d 12 2 ≤ 10000 && be d 14 2 = 0

/-- The staging status of a rail (07 R179): with no map in the operation, the committed one must name only rails that are
enabled after it. -/
def railStatus (ps : List Byte) (k : Nat) (d : List Byte) (s : State) : Nat :=
  need (railRecordOk d && (bitN (getB d 1) 7 || !(resultMap ps s).contains k) &&
    (budgetHasMap ps || (resultMap ps s).all (resultEnabled ps s)))

/-- The staging status of the rail map (07 R179). -/
def railMapStatus (ps : List Byte) (s : State) : Nat :=
  need ((budgetMap ps).all fun r => r ≤ 3 && resultEnabled ps s r)

/-- LED_EN of a rail. -/
def ledEnHigh (r : Rail) : Bool := match r.phase with | .off => false | _ => true

/-- A rail after its record commits; a rail that is disabled is off with its magnitude at 1.0. -/
def applyRail (ps : List Byte) (k : Nat) (s : State) : State :=
  match (railRecords ps).find? (·.1 == k) with
  | none => s
  | some (_, d) =>
    let lowers := ledEnHigh (getRail s k) && !bitN (getB d 1) 7
    modRail k (fun r =>
      let x := { r with enable := bitN (getB d 1) 7, budget := be d 2 2, attack := be d 4 2, release := be d 6 2, theta := getB d 8, shunt := getB d 9, resistance := be d 10 2, stagger := be d 12 2 }
      if x.enable then (if r.enable then x else { x with m := 0 }) else { x with phase := .off, m := 0x8000 })
      { s with ledger.offAt := if lowers then nowNs s else s.ledger.offAt }

def applyRailMap (ps : List Byte) (s : State) : State := { s with ledger.map := budgetMap ps }

/-- BUDGET_SET (07 R179). -/
def budgetSetSpec : OpSpec where
  code := 0x0500
  sched := true
  apply := true
  domains := fun _ _ => [.pixel]
  check := fun r _ => firstFail [lenIs (4 + 16 * prm r 1 1 + (if budgetHasMap r.params then 72 else 0)) r,
    need (1 ≤ prm r 1 1 && prm r 1 1 ≤ 4 && field (prm r 2 1) 6 0 = 0 && prm r 3 1 = 0 &&
      !hasDup ((List.range (prm r 1 1)).map fun i => prm r (4 + 16 * i) 1))]
  units := fun r s => (railRecords r.params).map (fun (k, d) => (⟨.rail, k⟩, railStatus r.params k d s)) ++
    (if budgetHasMap r.params then [(⟨.railMap, 0⟩, railMapStatus r.params s)] else [])

def execBudgetSet (r : Req) (s : State) : Host.Outcome State Fault Refusal := .next (runPacket (period s) budgetSetSpec r s)

/-! ## Rails on and off (07 R192, 01 R29) -/

/-- The LED rails are off: none is raised. -/
def railsOff (s : State) : Bool := s.ledger.rails.all fun r => !ledEnHigh r

/-- The LED rails are in regulation: every enabled one has reached it, and one at least is enabled. -/
def railsOn (s : State) : Bool :=
  (s.ledger.rails.any (·.enable)) && s.ledger.rails.all fun r => !r.enable || r.phase == .rising || r.phase == .on

/-- LED_EN0 to LED_EN3 go low, and a start-up in progress stops. -/
def dropRails (s : State) : State :=
  modRails (fun r => { r with phase := .off, m := if r.enable then 0 else r.m })
    { s with ledger.started := none, ledger.offAt := if railsOff s then s.ledger.offAt else nowNs s }

/-- The conditions of a start-up (07 R192, 15 R342, 16 R363, 19 R423): RUN, the light pair in run, no thermal shutdown, REFIN
present, and the boot completed. -/
def railsMayStart (s : State) : Bool :=
  s.power.mode == .run && s.therm.shutdownAt.isNone && !s.power.refinLost &&
    (s.safety.light.state == .run || s.safety.light.state == .unused)

/-- The enabled rails that are off, ascending. -/
def railsWaiting (s : State) : List Nat := (List.range 4).filter fun r => (getRail s r).enable && (getRail s r).phase == .off

/-- A rail's LED_EN rises; the enabled rails above it wait their staggers from there. -/
def raiseRail (r : Nat) (s : State) : State :=
  modRail r (fun x => { x with phase := .starting (nowNs s), m := 0 }) { s with ledger.started := some (r, nowNs s) }

/-- The next rail of the start-up in progress: the lowest that waits above the one raised last (07 R192). -/
def nextInStart (s : State) : Option Nat :=
  match s.ledger.started with
  | some (r, _) => (railsWaiting s).find? fun k => r < k
  | none => none

/-- RAIL_START is due: the conditions hold, a rail waits, no start-up has a rail in its stagger, and a second has passed since
a refusal (07 R191). -/
def railStartDue (s : State) : Bool :=
  railsMayStart s && (nextInStart s).isNone && !(railsWaiting s).isEmpty && s.ledger.retryAt ≤ nowNs s

/-- RAIL_START (07 R192). -/
def execRailStart (s : State) : Host.Outcome State Fault Refusal :=
  .next (if railStartDue s then raiseRail ((railsWaiting s).headD 0) s else s)

/-- The rail whose stagger has passed. -/
def staggerDue (s : State) : Option Nat :=
  match s.ledger.started, nextInStart s with
  | some (_, t), some k => if railsMayStart s && t + (getRail s k).stagger * 1000000 ≤ nowNs s then some k else none
  | _, _ => none

/-- RAIL_STAGGER_EXPIRY (07 R192). -/
def execRailStaggerExpiry (s : State) : Host.Outcome State Fault Refusal :=
  .next (match staggerDue s with | some r => raiseRail r s | none => s)

/-- A rail's start is over once its supply reports regulation, or 100 ms after LED_EN rose. -/
def regulationDue (s : State) (r : Nat) (reported : Bool) : Bool :=
  match (getRail s r).phase with
  | .starting t => reported || t + 100000000 ≤ nowNs s
  | _ => false

/-- A rail is back in regulation: its magnitude starts from 0, and diagnosis ages count from here (07 R192; 01 R29). -/
def enterRegulation (r : Nat) (s : State) : State :=
  modRail r (fun x => { x with phase := .rising, m := 0 }) { s with chain.lastAgeSweep := nowNs s }

/-- RAIL_IN_REGULATION (07 R192). -/
def execRailInRegulation (r : Fin 4) (reported : Bool) (s : State) : Host.Outcome State Fault Refusal :=
  .next (if regulationDue s r reported then enterRegulation r s else s)

/-! ## Predictions (07 R182, R184) -/

/-- Where a placed cell stands: loop, position, origin column and row, rotation. -/
structure Placed where
  loop : Nat
  cell : Nat
  col : Nat
  row : Nat
  rot : Bool
deriving DecidableEq, Repr

/-- The placed and enumerated cells of the configuration in force. -/
def placedCells (s : State) : List Placed :=
  (List.range (gradeLoops s)).flatMap fun l =>
    (List.range (loopCells s l)).filterMap fun c =>
      ((((getLoop s l).configOf c).bind (·.place))).map fun p => ⟨l, c, p.1, p.2.1, p.2.2⟩

/-- The raster pixel of a placed cell's column and scan row (09 R239). -/
def Placed.pixel (p : Placed) (col row : Nat) : Nat × Nat :=
  if p.rot then (16 * p.col + (15 - col), 32 * p.row + (31 - row)) else (16 * p.col + col, 32 * p.row + row)

/-- The drive value of a channel of an image; outside it 0. -/
def ViewImage.drive (v : ViewImage) (x y c : Nat) : Nat := (v.drives.getD (y * v.width + x) []).getD c 0

/-- A channel's current in µA (09 Table 9-12): the committed code, else the power-up one, in steps of 50 µA. -/
def channelCurrent (s : State) (l c colour : Nat) : Nat :=
  let cfg := ((getLoop s l).configOf c).getD {}
  50 * (match colour with | 0 => cfg.red | 1 => cfg.green | _ => cfg.blue)

/-- A cell's duty κ in units of 2^-15. -/
def cellKappa (s : State) (l c : Nat) : Nat := (((getLoop s l).cells[c]?).map (·.kappa)).getD 0

/-- The µA of one rail that a placed cell draws in one of its scan rows. -/
def cellRow (s : State) (img : ViewImage) (rail row : Nat) (p : Placed) : Rat :=
  let colour (c : Nat) : Rat :=
    if railOf s p.loop c != rail then 0
    else
      let d := (List.range 16).foldl (fun a k => a + img.drive (p.pixel k row).1 (p.pixel k row).2 c) 0
      mkRat (channelCurrent s p.loop p.cell c * d) 65535
  mkRat (cellKappa s p.loop p.cell) 32768 * (colour 0 + colour 1 + colour 2)

/-- P(ρ, ℓ, r, v) for every rail, loop and row of an image (07 R182). -/
def sumsOf (s : State) (img : ViewImage) : Sums :=
  let ps := placedCells s
  (List.range 4).map fun rail => (List.range 24).map fun l =>
    let mine := ps.filter fun p => p.loop == l
    (List.range 32).map fun row => mine.foldl (fun a p => a + cellRow s img rail row p) 0

/-- The sums of an image that draws nothing. -/
def noSums : Sums := List.replicate 4 (List.replicate 24 (List.replicate 32 0))

/-- The sums of the image that a view shows: the written one where a complement changed it. -/
def FrameSums.shown (f : FrameSums) (v : Nat) : Sums :=
  match f.written.find? (fun x => x.1 == v) with
  | some x => x.2
  | none => match f.content.find? (fun x => x.1 == v) with
    | some x => x.2
    | none => noSums

/-- A rail's row currents P_R. -/
def rowCurrents (x : Sums) (rail : Nat) : List Rat :=
  (List.range 32).map fun row => ((x.getD rail []).map fun l => l.getD row 0).foldl (· + ·) 0

def maxQ (l : List Rat) : Rat := l.foldl (fun a b => if a < b then b else a) 0

/-- A rail's peak P̂ of one view. -/
def peakOf (x : Sums) (rail : Nat) : Rat := maxQ (rowCurrents x rail)

/-- A rail's prediction with every channel at full drive, P_full of 13 R308. -/
def fullPeak (s : State) (rail : Nat) : Rat :=
  let n := fun (p : Placed) => mkRat (cellKappa s p.loop p.cell) 32768 *
    (((List.range 3).foldl (fun a c => if railOf s p.loop c == rail then a + 16 * channelCurrent s p.loop p.cell c else a) 0 : Nat) : Rat)
  (placedCells s).foldl (fun a p => a + n p) 0

/-! ## Magnitudes (07 R185 to R187, R189) -/

/-- Whether a view is blanked, or frozen, now (08 R216, R217). -/
def viewBlanked (s : State) (v : Nat) : Bool := s.pres.blanked.getD v true
def viewFrozen (s : State) (v : Nat) : Bool := s.pres.frozen.getD v false || s.fw.frozen || lanesLost s

/-- Freeze and blank as they will stand at the next transit. -/
def blankNow (s : State) (v : Nat) : Bool := (s.pres.blankNext.getD v none).getD (viewBlanked s v)
def frozenNow (s : State) (v : Nat) : Bool := (s.pres.freezeNext.getD v none).getD (s.pres.frozen.getD v false) || s.fw.frozen || lanesLost s

/-- Whether a view counts as frozen for the composites of a frame: an unfreeze that waits for its transit composes the first
frame latched at or after its boundary (08 R216). -/
def frozenFor (s : State) (f v : Nat) : Bool :=
  (s.pres.frozen.getD v false && !(s.pres.freezeNext.getD v none == some false && s.pres.unfreezeAt.getD v 0 ≤ f)) ||
    s.fw.frozen || lanesLost s

/-- The content peak of a frame on a rail: a blanked view counts as 0 (08 R217). -/
def contentPeak (s : State) (f : FrameSums) (rail : Nat) : Rat :=
  maxQ (f.content.map fun (v, x) => if blankNow s v then 0 else peakOf x rail)

/-- floor(B × 32,768 ÷ P) for a budget in 10 mA and a peak in µA, at most `top`; `top` where the peak is 0. -/
def gainFor (budget peak : Rat) (top : Nat) : Nat :=
  if peak = 0 then top else min top (budget * 10000 * 32768 / peak).floor.toNat

/-- m_req of a frame (07 R186); with the ledger unusable, the level that full drive would need (13 R308). -/
def requiredMagnitude (s : State) (f : FrameSums) (rail : Nat) : Nat :=
  if blockUnusable s 0x0400 then gainFor (effectiveBudget s rail) (fullPeak s rail) 0x8000
  else gainFor (effectiveBudget s rail) (contentPeak s f rail) s.ledger.ambient.a

/-- A rate in codes per ms as codes per frame, floored. -/
def perFrame (s : State) (rate : Nat) : Nat := ((rate : Nat) * (period s).q / 1000000).floor.toNat

/-- The target of the procedure of 07 R186 for the frame and the later frames whose sums are complete. -/
def lookahead (s : State) (r : Rail) (rail : Nat) (f : FrameSums) (later : List FrameSums) : Nat :=
  later.zipIdx.foldl (fun t (g, j) => min t (requiredMagnitude s g rail + (j + 1) * perFrame s r.attack)) (requiredMagnitude s f rail)

/-- The house factor h of a rail at a magnitude (07 R189). -/
def houseFactor (s : State) (f : FrameSums) (rail m : Nat) : Nat :=
  match f.written.find? (·.1 == 0) with
  | none => 0x8000
  | some (_, x) =>
    let p := peakOf x rail
    if blankNow s 0 || m = 0 then 0x8000
    else gainFor (effectiveBudget s rail) (p * mkRat m 32768) 0x8000

/-- k for a frame (07 R190): it rises at the release rate after 64 good measurements, and holds while the shunt channel is
unusable. -/
def nextK (s : State) (r : Rail) : Nat :=
  if 64 ≤ r.within && r.k < 0x8000 && !inputLost s r.shunt then min 0x8000 (r.k + perFrame s r.release) else r.k

/-- One rail's magnitude for a frame (07 R186, R187): a rail that is not past its start-up stands at 0, a disabled one at 1.0,
and while the tile goes dark the magnitude only falls. -/
def fixRail (s : State) (f : FrameSums) (later : List FrameSums) (rail : Nat) : Rail :=
  let r := getRail s rail
  let req := requiredMagnitude s f rail
  let target := lookahead s r rail f later
  let m := if goingDark s then min req r.m else min target (r.m + perFrame s r.release)
  let base := { r with mReq := req, peak := contentPeak s f rail, k := nextK s r }
  let moved := { base with
    m := m
    hardSteps := if m + perFrame s r.attack < r.m then inc16 r.hardSteps else r.hardSteps
    house := houseFactor s f rail m }
  match r.phase with
  | .rising => { moved with phase := if m = target then .on else .rising }
  | .on => moved
  | _ => base

/-- The residue of a frame in U1.15 (08 R213). -/
def residueOf (s : State) (f : FrameSums) : Nat :=
  let cut (rail : Nat) : Rat :=
    let x := f.houseMax.zipIdx.foldl (fun a (cs, l) => cs.zipIdx.foldl (fun b (v, c) => if railOf s l c == rail then max b v else b) a) 0
    (1 - mkRat (getRail s rail).house 32768) * f.houseShare * mkRat x 524288
  satN 0xFFFF (roundQ ((f.error + maxQ ((List.range 4).map cut)) * 32768)).toNat

/-- The residue alert (08 R213): after 16 frames above the threshold it is raised, after 16 below it clears. -/
def judgeResidue (s : State) : State :=
  let g := runningProgram s
  let above := g.residueThreshold < s.pres.residue
  let s1 := { s with
    pres.residueRun := if above then s.pres.residueRun + 1 else 0
    pres.residueLow := if above then 0 else s.pres.residueLow + 1 }
  if 16 ≤ s1.pres.residueRun && !s1.pres.residueAlert then
    raiseAlert 0x06 0x03 (tileTarget s) 0 0 false { s1 with pres.residueAlert := true }
  else if 16 ≤ s1.pres.residueLow && s1.pres.residueAlert then
    clearAlert 0x06 0x03 (tileTarget s) { s1 with pres.residueAlert := false }
  else s1

/-- A mismatch alert clears when k has returned to 1.0 (07 Table 7-3). -/
def clearMismatch (s : State) : State :=
  (List.range 4).foldl (fun t r =>
    if (getRail t r).mismatch && (getRail t r).k = 0x8000 then
      clearAlertDetail 0x05 0x01 r (modRail r (fun x => { x with mismatch := false }) t)
    else t) s

/-- What stands fixed for a frame; with nothing fixed, the magnitudes in force. -/
def fixedFor (s : State) (f : Nat) : Fixed :=
  (s.ledger.magnitudes.find? fun x => x.frame == f).getD ⟨f, s.ledger.rails.map (·.m), s.ledger.rails.map (·.house), []⟩

/-- D_out of a drive value at a magnitude (07 R185). -/
def scaleDrive (d m : Nat) : Nat := (d * m + 16384) / 32768

/-- D_out of a drive value on a rail, by what is fixed for its frame: a complement takes the house factor too (07 R185,
R189). -/
def Fixed.drive (x : Fixed) (complement : Bool) (rail d : Nat) : Nat :=
  let out := scaleDrive d (x.m.getD rail 0)
  if complement then scaleDrive out (x.house.getD rail 0x8000) else out

/-- The magnitudes of a frame fixed, given the sums of it and of the later frames. -/
def fixFrame (f : FrameSums) (later : List FrameSums) (s : State) : State :=
  let s1 := { s with ledger.rails := (List.range s.ledger.rails.length).map (fixRail s f later) }
  let s2 := { s1 with
    ledger.magnitudes := s1.ledger.magnitudes ++
      [Fixed.mk f.frame (s1.ledger.rails.map Rail.m) (s1.ledger.rails.map Rail.house) ((List.range 4).map (blankNow s))]
    ledger.latest := some f
    pres.clamped := f.clamped }
  judgeResidue (clearMismatch { s2 with pres.residue := residueOf s2 f })

/-- The frames whose sums are complete and that come after every frame with a magnitude. -/
def unfixed (s : State) : List FrameSums :=
  s.ledger.sums.filter fun f => s.ledger.magnitudes.all fun x => x.frame < f.frame

/-- MAGNITUDE_FIX (07 R186): the first frame whose sums are complete and whose magnitude is not fixed. -/
def execMagnitudeFix (s : State) : Host.Outcome State Fault Refusal :=
  .next (match unfixed s with
    | f :: later => fixFrame f later s
    | [] => s)

/-- The magnitudes of the frames before `f` fixed in order, and then that of `f`, where its sums are complete. -/
def fixUpTo (f : Nat) : List FrameSums → State → State
  | [], s => s
  | x :: later, s => if x.frame ≤ f then fixUpTo f later (fixFrame x later s) else s

/-- The sums of a frame whose views show the given images (07 R184): a complement is charged beside the content. -/
def frameSums (f : Nat) (images : List ViewImage) : FrameSums :=
  let house := (images.find? fun i => i.view == 0).bind (·.house)
  { frame := f
    content := images.map fun i => (i.view, (i.house.map (·.content)).getD i.sums)
    written := images.filterMap fun i => i.house.map fun _ => (i.view, i.sums)
    error := (house.map (·.error)).getD 0
    houseMax := (house.map (·.max)).getD []
    houseShare := (house.map (·.share)).getD 0
    clamped := (house.map (·.clamped)).getD 0 }

/-- The sums of a frame whose composites are late: each view's last presented image stands for it (08 R204). -/
def lateSums (s : State) (f : Nat) : FrameSums := frameSums f (s.pres.presented.filterMap id)

/-- The magnitude of a frame is fixed before its first upload (07 R185; 08 R205), with its composites or without. -/
def ensureFixed (f : Nat) (s : State) : State :=
  let s1 := fixUpTo f (unfixed s) s
  if s1.ledger.magnitudes.any fun x => f ≤ x.frame then s1 else fixFrame (lateSums s1 f) (unfixed s1) s1

/-- The magnitudes of a frame lowered for a view that was unblanked after they were fixed, so that no upload exceeds the budget
(DESIGN CHOICE, log 42). -/
def refix (f v : Nat) (img : ViewImage) (s : State) : State :=
  let peak (r : Nat) : Rat := peakOf ((img.house.map (·.content)).getD img.sums) r
  let low (x : Fixed) : Fixed :=
    if x.frame == f && x.blank.getD v false then
      { x with
        m := x.m.zipIdx.map fun (m, r) => min m (gainFor (effectiveBudget s r) (peak r) 0x8000)
        blank := setAt x.blank v false }
    else x
  { s with ledger.magnitudes := s.ledger.magnitudes.map low }

/-- MAG: a magnitude is below 1.0, or a rail is starting (02 Table 2-3; 07 R187, R192). -/
def magBit (s : State) : Bool := s.ledger.rails.any fun r => r.m < 0x8000

/-! ## Measured against predicted (07 R190) -/

/-- The mean of P_R over the rows of an image, in µA. -/
def meanCurrent (x : Sums) (rail : Nat) : Rat := ((rowCurrents x rail).foldl (· + ·) 0) / 32

/-- The expected current of a rail in µA: the mean of P_R over the rows of the image that is shown, at the magnitude, and the
house factor, with which it was sent (07 R189, R190). -/
def expectedCurrent (s : State) (rail : Nat) : Rat :=
  match s.pres.shown with
  | some u =>
    match u.image with
    | some i =>
      let e := mkRat (u.fixed.m.getD rail 0) 32768 * meanCurrent i.sums rail
      if i.house.isSome then e * mkRat (u.fixed.house.getD rail 0x8000) 32768 else e
    | none => 0
  | none => 0

/-- A mismatch: k = E ÷ M, at least 0.5, and the alert. -/
def takeMismatch (rail : Nat) (m e : Rat) (s : State) : State :=
  let k := max 0x4000 (min 0x8000 (roundQ (e / m * 32768)).toNat)
  let r := getRail s rail
  let s1 := modRail rail (fun x => { x with k := k, above := 0, mismatch := true, mismatches := if r.mismatch then x.mismatches else inc16 x.mismatches }) s
  if r.mismatch then s1 else raiseAlert 0x05 0x01 (tileTarget s) 0 rail false s1

/-- One measurement judged (07 Table 7-3); below 0.5 A none is. -/
def judgeShunt (rail : Nat) (m : Rat) (s : State) : State :=
  let e := expectedCurrent s rail
  let r := getRail s rail
  let hi := e * mkRat (100 + r.theta) 100
  let lo := e * mkRat (100 - r.theta) 100
  if m < 500000 then s
  else if hi < m then
    if 8 ≤ r.above + 1 then takeMismatch rail m e (modRail rail (fun x => { x with within := 0, under := 0 }) s)
    else modRail rail (fun x => { x with above := x.above + 1, within := 0, under := 0 }) s
  else if m < lo then
    let s1 := modRail rail (fun x => { x with under := x.under + 1, above := 0, within := 0 }) s
    if r.under + 1 = 8 then logAlert 0x05 0x02 (tileTarget s) 0 rail s1 else s1
  else modRail rail (fun x => { x with within := x.within + 1, above := 0, under := 0 }) s

/-- SHUNT_MEASUREMENT (07 R190; 12 R293): the shunt scale applies first; with the channel unusable nothing is compared
and the loss is logged once. -/
def measureShunt (rail microamps : Nat) (s : State) : State :=
  let r := getRail s rail
  if inputLost s r.shunt then
    if r.shuntLost then s
    else raiseAlert 0x05 0x03 (tileTarget s) 0 rail false (modRail rail (fun x => { x with shuntLost := true, above := 0, within := 0, under := 0 }) s)
  else
    let m : Rat := mkRat (microamps * s.trim.inForce.shunt.getD rail 0x8000) 32768
    let s1 := if r.shuntLost then clearAlertDetail 0x05 0x03 rail (modRail rail (fun x => { x with shuntLost := false }) s) else s
    judgeShunt rail m (modRail rail (fun x => { x with measured := satN 0xFFFE (roundQ (m / 10000)).toNat }) s1)

def execShuntMeasurement (r : Fin 4) (microamps : Nat) (s : State) : Host.Outcome State Fault Refusal :=
  .next (if (getRail s r).shunt ≤ 15 then measureShunt r microamps s else s)

/-! ## Headroom (07 R191) -/

/-- The current already granted in a window of a rail. -/
def granted (s : State) (rail window : Nat) : Nat :=
  ((s.ledger.grants.filter fun g => g.rail == rail && g.window == window).map (·.current)).foldl (· + ·) 0

/-- Whether a request is granted: rail start-up under R192, self-test slices against the input limit, and the rest within
the effective budget of a rail that is on, while the ledger works (13 R308). -/
def headroomOk (s : State) (h : HeadroomReq) : Bool :=
  match h.who with
  | .railStart => railsMayStart s
  | .bist => !s.ledger.refuseWork
  | .complement => !blockUnusable s 0x0400
  | _ => !blockUnusable s 0x0400 && s.therm.shutdownAt.isNone && railsOn s &&
      decide (((granted s h.rail h.window + h.current : Nat) : Rat) ≤ effectiveBudget s h.rail)

/-- The 10 s of refusal of a CALIBRATE's pulses begin, or end with a grant (07 Table 7-4). -/
def noteRefusal (h : HeadroomReq) (ok : Bool) (s : State) : State :=
  match h.who with
  | .calibration => { s with trim.run := s.trim.run.map fun x => { x with
      refusedSince := if ok then none else some (x.refusedSince.getD (nowNs s)) } }
  | .railStart => if ok then s else { s with ledger.retryAt := nowNs s + 1000000000 }
  | _ => s

/-- HEADROOM_REQUEST (07 R191). -/
def askHeadroom (h : HeadroomReq) (s : State) : State :=
  if headroomOk s h then
    noteRefusal h true { s with ledger.grants := s.ledger.grants ++ [⟨h.who, h.rail, h.window, h.current⟩] }
  else noteRefusal h false s

def execHeadroomRequest (h : HeadroomReq) (s : State) : Host.Outcome State Fault Refusal := .next (askHeadroom h s)

/-- The rows of cells that a DIAG_RUN tests. -/
def diagRows (cells : List (Nat × Nat)) : List (Nat × Nat × Nat) :=
  cells.flatMap fun x => (List.range 32).map fun row => (x.1, x.2, row)

/-- The entries of a short sweep of all ports: one for each mode and row (10 R260). -/
def sweepEntries (ports : Nat) : List (Nat × Nat × Nat) :=
  (List.range ports).flatMap fun p => [1, 2].flatMap fun m => (List.range 32).map fun r => (p, m, r)

/-- An event of higher rank withdraws the headroom that activities hold (01 R28): pulses that have begun end, no other one fires,
and what was to be tested or diagnosed waits for headroom again. -/
def withdrawGrants (s : State) : State :=
  let unfired := s.chain.pulsed.filter fun x => nowNs s < x.2
  let again (d : DiagRun) : DiagRun := if nowNs s < d.firedBy then { d with rows := diagRows d.cells, firedBy := 0 } else d
  { s with
    ledger.grants := []
    plant.loops := s.plant.loops.map fun l => { l with cells := l.cells.map (·.callBack (nowNs s)) }
    chain.selected := s.chain.selected ++ unfired.map (·.1)
    chain.pulsed := s.chain.pulsed.filter fun x => x.2 ≤ nowNs s
    chain.diagRuns := s.chain.diagRuns.map again
    chain.sweepLeft := if s.chain.sweepLeft.isEmpty then [] else sweepEntries (gradePorts s) }

/-! ## The ambient ceiling (07 R188) -/

/-- Linear interpolation on a curve that holds its end values (06 R157), rounded. -/
def curveAt : List (Int × Int) → Rat → Rat
  | [], _ => 0
  | [p], _ => (p.2 : Rat)
  | p :: q :: t, x =>
    if x ≤ (p.1 : Rat) then (p.2 : Rat)
    else if x < (q.1 : Rat) then (p.2 : Rat) + (x - p.1) * ((q.2 - p.2 : Int) : Rat) / ((q.1 - p.1 : Int) : Rat)
    else curveAt (q :: t) x

/-- The value of a curve as a code (06 R157, 00 R7). -/
def curveEval (c : List (Int × Int)) (x : Rat) : Int := roundQ (curveAt c x)

/-- The curve of AMBIENT_SET. -/
def ambientCurve (ps : List Byte) : List (Nat × Nat) :=
  (List.range 8).map fun i => (be ps (4 + 4 * i) 2, be ps (6 + 4 * i) 2)

/-- Strictly ascending abscissas. -/
def ascending : List Nat → Bool
  | a :: b :: t => a < b && ascending (b :: t)
  | _ => true

/-- AMBIENT_SET takes effect (07 R188). -/
def setAmbient (ps : List Byte) (s : State) : State :=
  { s with ledger.ambient := { mode := getB ps 0, address := getB ps 1, gain := be ps 2 2, curve := ambientCurve ps, a := if getB ps 0 = 0 then be ps 2 2 else s.ledger.ambient.a, lastRead := 0, lastGood := nowNs s }, flash.recordDue := true }

/-- AMBIENT_SET. -/
def ambientSetSpec : OpSpec where
  code := 0x0502
  sched := true
  domains := fun _ _ => [.pixel]
  check := fun r _ => firstFail [lenIs 36 r,
    need (prm r 0 1 ≤ 1 && prm r 1 1 ≤ 127 && prm r 2 2 ≤ 0x8000 && ((ambientCurve r.params).all fun p => p.2 ≤ 0x8000) &&
      ascending ((ambientCurve r.params).map (·.1)))]
  run := fun r s =>
    let s1 := if s.ledger.ambient.failed then clearAlert 0x05 0x06 (tileTarget s) s else s
    (setAmbient r.params s1, .done St.ok [])

def execAmbientSet (r : Req) (s : State) : Host.Outcome State Fault Refusal := .next (runPacket (period s) ambientSetSpec r s)

/-- A read of the sensor is due: mode 1, once a second, and firmware runs. -/
def ambientReadDue (s : State) : Bool :=
  s.fw.running && s.ledger.ambient.mode == 1 && s.ledger.ambient.lastRead + 1000000000 ≤ nowNs s

/-- A read of the sensor: a good one takes a from the curve and clears the alert (07 R188). -/
def readAmbient (lux : Option Nat) (s : State) : State :=
  let s1 := { s with ledger.ambient.lastRead := nowNs s }
  match lux with
  | none => s1
  | some x =>
    let a := (curveEval (s.ledger.ambient.curve.map fun p => ((p.1 : Int), (p.2 : Int))) (x : Nat)).toNat
    let s2 := { s1 with ledger.ambient.a := a, ledger.ambient.lastGood := nowNs s, ledger.ambient.failed := false }
    if s.ledger.ambient.failed then clearAlert 0x05 0x06 (tileTarget s) s2 else s2

def execAmbientSensorRead (lux : Option Nat) (s : State) : Host.Outcome State Fault Refusal :=
  .next (if ambientReadDue s then readAmbient lux s else s)

/-- 10 s without a good read. -/
def ambientFallbackDue (s : State) : Bool :=
  s.ledger.ambient.mode == 1 && !s.ledger.ambient.failed && s.ledger.ambient.lastGood + 10000000000 ≤ nowNs s

def execAmbientFallbackTimeout (s : State) : Host.Outcome State Fault Refusal :=
  .next (if ambientFallbackDue s then
    raiseAlert 0x05 0x06 (tileTarget s) 0 0 false { s with ledger.ambient.a := s.ledger.ambient.gain, ledger.ambient.failed := true }
   else s)

/-! ## The input current (07 R193) -/

/-- A level lowered, or raised, by the input limit (07 Table 7-6), at most one step in 10 ms. -/
def judgeInput (mean10ms mean1s : Nat) (s : State) : State :=
  let limit := s.ledger.limit
  let high := decide (95 * limit < 100 * mean10ms)
  let lvl := s.power.level.val
  if high && lvl < 3 && s.ledger.lastStep + 10000000 ≤ nowNs s then
    { s with ledger.inputLevel := max s.ledger.inputLevel (lvl + 1), ledger.lastStep := nowNs s }
  else if !high && 100 * mean1s < 80 * limit && 0 < s.ledger.inputLevel then
    { s with ledger.inputLevel := s.ledger.inputLevel - 1, ledger.lastStep := nowNs s }
  else s

/-- At P3 above 95 %, slices and calibration measurements are refused and an alert is logged. -/
def judgeRefusals (mean10ms : Nat) (s : State) : State :=
  let on := decide (95 * s.ledger.limit < 100 * mean10ms) && s.power.level.val == 3
  let s1 := { s with ledger.refuseWork := on }
  if on && !s.ledger.refuseWork then raiseAlert 0x05 0x04 (tileTarget s) 0 0 false s1
  else if !on && s.ledger.refuseWork then clearAlert 0x05 0x04 (tileTarget s) s1 else s1

/-- Above 110 %: an alert, and FAULT_N after 1 s; both end when the current falls. -/
def judgeOver (mean10ms : Nat) (s : State) : State :=
  if 110 * s.ledger.limit < 100 * mean10ms then
    if s.ledger.overSince.isSome then s
    else raiseAlert 0x05 0x05 (tileTarget s) 0 0 false { s with ledger.overSince := some (nowNs s) }
  else if s.ledger.overSince.isSome then
    releaseFault .inputOvercurrent (clearAlert 0x05 0x05 (tileTarget s) { s with ledger.overSince := none })
  else s

def execInputCurrentSample (mean10ms mean1s : Nat) (s : State) : Host.Outcome State Fault Refusal :=
  .next (judgeOver mean10ms (judgeRefusals mean10ms (judgeInput mean10ms mean1s { s with ledger.vinCurrent := mean10ms })))

def overcurrentDue (s : State) : Bool := match s.ledger.overSince with | some t => decide (t + 1000000000 ≤ nowNs s) | none => false

def execInputOvercurrent1s (s : State) : Host.Outcome State Fault Refusal :=
  .next (if overcurrentDue s then assertFault .inputOvercurrent s else s)

/-! ## LEDGER_READ (07 R194) -/

/-- A rail's record (07 Table 7-7). -/
def railBytes (s : State) (k : Nat) : List Byte :=
  let r := getRail s k
  let starting := match r.phase with | .starting _ | .rising => true | _ => false
  u8 k ++ u8 (128 * b2n r.enable + 64 * b2n (r.m < 0x8000) + 32 * b2n r.mismatch + 16 * b2n starting + 8 * b2n (r.phase == .off)) ++
    u16 r.budget ++ u16 (roundQ (effectiveBudget s k)).toNat ++ u16 r.m ++ u16 r.mReq ++ u16 s.ledger.ambient.a ++
    u16 (satN 0xFFFF (roundQ (r.peak / 10000)).toNat) ++ u16 (if r.shunt = 0xFF then 0xFFFF else r.measured) ++ u16 r.k ++
    u16 r.hardSteps ++ u16 r.mismatches ++ u16 r.house

/-- The detail of a rail: the 24 × 32 values of V0 in 10 mA. -/
def railDetail (s : State) (k : Nat) : List Byte :=
  let x := match s.ledger.latest with | some f => f.shown 0 | none => noSums
  (List.range 24).flatMap fun l => (List.range 32).flatMap fun row =>
    u16 (satN 0xFFFF (roundQ ((((x.getD k []).getD l []).getD row 0) / 10000)).toNat)

def enabledRails (s : State) : List Nat := (List.range 4).filter fun k => (getRail s k).enable

/-- LEDGER_READ. -/
def ledgerReadSpec : OpSpec where
  code := 0x0501
  domains := fun _ _ => [.pixel]
  check := fun r _ => firstFail [lenIs 4 r, need (prm r 0 1 ≤ 1)]
  run := fun r s => (s, .done St.ok ((enabledRails s).flatMap (railBytes s) ++
    (if prm r 0 1 = 1 then (enabledRails s).flatMap (railDetail s) else [])))

def execLedgerRead (r : Req) (s : State) : Host.Outcome State Fault Refusal := .next (runPacket (period s) ledgerReadSpec r s)

end Sys2Proof.Machine
end

