-- ==== Sys2Proof/Machine/Storage.lean ====
section
/-! DEFINITION. The bytes of DRAM and of the flash as checks read them (01 Table 1-4; 17 Tables 17-1 to 17-3). -/

namespace Sys2Proof.Machine

/-! ## DRAM -/

/-- The number of data bytes of DRAM (01 R22). -/
def dramSize : Nat := 0x0E000000

/-- The base of bank A or B (01 Table 1-4). -/
def bankBase (k : Nat) : Nat := if k = 0 then 0x01000000 else 0x02800000

/-- The base of the fault map in DRAM (10 R269). -/
def faultBase : Nat := 0x05520000

/-- Whether an address lies in a part of DRAM whose bytes the spec lays out. -/
def dramLaidOut (a : Nat) : Bool :=
  (0x01001000 ≤ a && a < 0x02800000) || (0x02801000 ≤ a && a < 0x04000000) || (0x04000000 ≤ a && a < 0x05800000)

/-- A bank's header (06 Table 6-4): 64 bytes, its fields in the table's order (DESIGN CHOICE, notes/assumptions/21.md: the table
gives them no offsets). -/
def headerBytes (b : Bank) : List Byte :=
  let h := u32 0xC7A1BA4C ++ u8 b.state ++ u8 b.content ++ u16 0 ++ u32 b.fileCrc ++ u32 b.serial ++ b.space ++ sbe 2 b.refTemp ++
    u16 b.wearCap ++ u16 b.width ++ u16 b.height ++ u32 b.builtAt ++ zeros 12
  h ++ u32 (crc32 h)

/-- The bank whose header holds an address, where a header has been written: with it stand a raster, or the mark of a build. -/
def headerAt (s : State) (a : Nat) : Option (Bank × Nat) :=
  (([0, 1].find? fun k => bankBase k ≤ a && a < bankBase k + 64).bind fun k =>
    (s.almanac.banks[k]?.map fun b => (b, a - bankBase k))).filter fun x => x.1.width != 0 || x.1.state != 0

/-- A byte of DRAM: of the fault map from its records, of a bank's header from its fields, of the laid-out regions from the contents,
and elsewhere a free value. -/
def dramByte (s : State) (a : Nat) : Byte :=
  if let some x := headerAt s a then (headerBytes x.1).getD x.2 0
  else if faultBase ≤ a && a < faultBase + 1572864 then
    match s.chain.faults[(a - faultBase) / 24]? with
    | some f => (faultBytes f).getD ((a - faultBase) % 24) 0
    | none => 0
  else if dramLaidOut a then s.dram.mem.read a
  else Config.dramByte s.freeCount a

/-- DRAM bytes from an address. -/
def dramBytes (s : State) (a n : Nat) : List Byte := (List.range n).map fun i => dramByte s (a + i)

/-- DRAM with a byte string written. -/
def dramWrite (a : Nat) (bs : List Byte) (s : State) : State := { s with dram.mem := s.dram.mem.write a bs }

/-- Whether an uncorrectable word lies in a region (01 R22). -/
def dramUncorrectable (s : State) (a n : Nat) : Bool := s.dram.uncorrectable.any fun w => a ≤ w + 7 && w < a + n

/-! ## Flash -/

/-- The flash size in bytes. -/
def flashSize (s : State) : Nat := s.flash.sizeMiB * 1048576

/-- Whether the small region plan applies (17 Table 17-1). -/
def smallFlash (s : State) : Bool := s.flash.sizeMiB == 64

/-- Bases and sizes of the regions (17 Table 17-1). -/
def slotBase (k : Nat) : Nat := 0x00100000 + 0x00600000 * k
def journalBase : Nat := 0x00D00000
def fileBase (s : State) (g : Nat) : Nat := 0x01100000 + g * (if smallFlash s then 0x00800000 else 0x01600000)
def fileSize (s : State) : Nat := if smallFlash s then 0x00800000 else 0x01600000
def gainsBase (s : State) (k : Nat) : Nat :=
  if smallFlash s then 0x02100000 + k * 0x00400000 else 0x03D00000 + k * 0x00800000
def gainsSize (s : State) : Nat := if smallFlash s then 0x00400000 else 0x00800000
def checkpointBase (s : State) (g : Nat) : Nat :=
  if smallFlash s then 0x02900000 + g * 0x00800000 else 0x04D00000 + g * 0x01000000
def checkpointSize (s : State) : Nat := if smallFlash s then 0x00800000 else 0x01000000
def slideBase (s : State) : Nat := if smallFlash s then 0x03900000 else 0x06D00000
def slideSize (s : State) : Nat := if smallFlash s then 0x00700000 else 0x01300000

/-- A journal entry's header (17 Table 17-2). -/
def JEntry.header (e : JEntry) : List Byte :=
  let h := u16 0xE17A ++ u8 1 ++ u8 e.type ++ u32 e.key ++ u64 e.seq ++ u32 e.data.length ++ u32 (crc32 e.data) ++ u32 0
  h ++ u32 (crc32 h)

/-- The pages of an entry's header and data, and the whole of its pages with the commit record's. -/
def JEntry.dataPages (e : JEntry) : Nat := (32 + e.data.length + 255) / 256
def JEntry.pages (e : JEntry) : Nat := e.dataPages + 1

/-- A commit record (17 Table 17-3). -/
def JEntry.commit (e : JEntry) : List Byte :=
  let c := u16 0xC3C3 ++ u8 (128 * b2n e.fresh) ++ u8 0 ++ u64 e.seq
  c ++ u32 (crc32 c)

/-- A byte of an entry, by its offset from the entry's first page; padding is left erased. -/
def JEntry.byteAt (e : JEntry) (o : Nat) : Byte :=
  if o < 32 + e.data.length then (e.header ++ e.data).getD o 0xFF
  else if e.committed && 256 * e.dataPages ≤ o then e.commit.getD (o - 256 * e.dataPages) 0xFF
  else 0xFF

/-- A byte of the flash. -/
def flashByte (s : State) (a : Nat) : Byte :=
  if a < 0x00100000 then Config.flashByte s.freeCount a
  else if journalBase ≤ a && a < journalBase + 0x00400000 then
    let o := a - journalBase
    match s.flash.entries.find? (fun e => e.block == o / 65536 && e.page ≤ o % 65536 / 256 && o % 65536 / 256 < e.page + e.pages) with
    | some e => e.byteAt (o % 65536 - 256 * e.page)
    | none => 0xFF
  else ~~~(s.flash.region.read a)

/-- Flash bytes from an address. -/
def flashBytes (s : State) (a n : Nat) : List Byte := (List.range n).map fun i => flashByte s (a + i)

/-- The flash region with a byte string programmed. -/
def flashProgram (a : Nat) (bs : List Byte) (s : State) : State :=
  { s with flash.region := s.flash.region.write a (bs.map fun b => ~~~b) }

/-- The flash region with a range erased. -/
def flashErase (a n : Nat) (s : State) : State := { s with flash.region := s.flash.region.clear a (a + n) }

end Sys2Proof.Machine
end

