-- ==== Sys2Proof/Machine/Store.lean ====
section
/-! DEFINITION. The flash store as the other families use it (17 R380 to R385): objects, the write queue, the placing of
journal entries, and the commit of a write. -/

namespace Sys2Proof.Machine

/-! ## Objects (17 Table 17-4) -/

/-- Objects that lie in a region of their own: Almanac file, wear gains, checkpoint, slide. -/
def isLarge (type : Nat) : Bool := [4, 5, 6, 7].contains type

/-- Objects that are written as two entries in two erase blocks (17 R383). -/
def isDouble (type : Nat) : Bool := [1, 2, 3].contains type

/-- The entry in force of an object: committed, not torn, with the highest sequence (17 R382). -/
def entryOf (s : State) (type key : Nat) : Option JEntry :=
  (s.flash.entries.filter fun e => e.type == type && e.key == key && e.committed && !e.torn).foldl
    (fun a e => match a with
      | none => some e
      | some b => if b.seq < e.seq then some e else some b) none

/-- The descriptor that stands in the entry of a large object: region and generation, length, CRC-32 (17 R380;
notes/assumptions/22.md). -/
def descriptor (type place : Nat) (data : List Byte) : List Byte :=
  u8 type ++ u8 place ++ u16 0 ++ u32 data.length ++ u32 (crc32 data)

/-- Where a large object's bytes lie, by generation or bank. -/
def objectBase (s : State) (type place : Nat) : Nat :=
  match type with
  | 4 => fileBase s place
  | 5 => gainsBase s place
  | _ => checkpointBase s place

def entryPlace (e : JEntry) : Nat := getB e.data 1
def entryLength (e : JEntry) : Nat := be e.data 4 4

def blocksFor (n : Nat) : Nat := (n + 65535) / 65536

/-- The descriptor of a slide ends in the numbers of its pool blocks, two bytes each. -/
def slideDescriptor (blocks : List Nat) (data : List Byte) : List Byte := descriptor 7 0 data ++ blocks.flatMap u16
def slidePlaces (e : JEntry) : List Nat := (List.range (blocksFor (entryLength e))).map fun i => be e.data (12 + 2 * i) 2

/-- The bytes of a large object as they stand in the flash. -/
def largeBytes (s : State) (e : JEntry) : List Byte :=
  if e.type = 7 then (((slidePlaces e).flatMap fun b => flashBytes s (slideBase s + 65536 * b) 65536).take (entryLength e))
  else flashBytes s (objectBase s e.type (entryPlace e)) (entryLength e)

/-- An object's bytes, none where it is missing or its CRC fails. -/
def objectData (s : State) (type key : Nat) : Option (List Byte) :=
  match entryOf s type key with
  | none => none
  | some e =>
    if isLarge type then
      let d := largeBytes s e
      if crc32 d = be e.data 8 4 then some d else none
    else some e.data

/-- The generation that holds the object in force, and the one that a new write takes. -/
def generationOf (s : State) (type : Nat) : Option Nat := (entryOf s type 0).map entryPlace
def nextGeneration (s : State) (type : Nat) : Nat := match generationOf s type with | some 0 => 1 | _ => 0

/-! ## The slide pool (17 R388) -/

def poolBlocks (s : State) : Nat := slideSize s / 65536
/-- The blocks that the stored slides occupy. -/
def slideBlocks (s : State) : List Nat :=
  (List.range 64).flatMap fun k => match entryOf s 7 k with
    | some e => slidePlaces e
    | none => []

/-- The free blocks of the pool, and with them those of a slide that would be replaced. -/
def freePoolBlocks (s : State) : List Nat := (List.range (poolBlocks s)).filter fun b => !(slideBlocks s).contains b
def slideRoom (s : State) (k : Nat) : Nat :=
  (freePoolBlocks s).length + (match entryOf s 7 k with | some e => (slidePlaces e).length | none => 0)

/-- The blocks that a slide takes: free ones first, then those of the slide that it replaces. -/
def slideTarget (s : State) (k n : Nat) : List Nat :=
  (freePoolBlocks s ++ (match entryOf s 7 k with | some e => slidePlaces e | none => [])).take n

/-! ## The journal ring (17 R380, R384) -/

/-- The journal blocks that are erased. -/
def erasedBlocks (s : State) : Nat := 64 - s.flash.usedBlocks.length

/-- The pages of an entry of `n` data bytes. -/
def entryPages (n : Nat) : Nat := (32 + n + 255) / 256 + 1

/-- The head after it has room for an entry, in another block than `avoid`. -/
def advanceHead (n : Nat) (avoid : Option Nat) (s : State) : State :=
  let f := s.flash
  if !f.usedBlocks.isEmpty && avoid != some f.headBlock && f.headPage + entryPages n ≤ 256 then s
  else
    let b := match f.usedBlocks.getLast? with | some k => (k + 1) % 64 | none => 0
    { s with flash.headBlock := b, flash.headPage := 0, flash.usedBlocks := f.usedBlocks ++ [b] }

/-- One entry written at the head. -/
def putEntry (type key : Nat) (data : List Byte) (committed fresh : Bool) (avoid : Option Nat) (s : State) : State :=
  let s1 := advanceHead data.length avoid s
  let f := s1.flash
  let e : JEntry := { block := f.headBlock, page := f.headPage, type := type, key := key, seq := f.seq + 1, data := data, committed := committed, fresh := fresh, torn := false }
  { s1 with
    flash.entries := f.entries ++ [e]
    flash.seq := f.seq + 1
    flash.headPage := f.headPage + entryPages data.length }

/-- An object's entry or entries. -/
def putObject (type key : Nat) (data : List Byte) (committed fresh : Bool) (s : State) : State :=
  let s1 := putEntry type key data committed fresh none s
  if isDouble type && committed then putEntry type key data committed fresh (some s1.flash.headBlock) s1 else s1

/-- Erase counts of the blocks of a range (17 R384). -/
def countErase (a n : Nat) (s : State) : State :=
  let blocks := (List.range (blocksFor n)).map fun i => a / 65536 + i
  let bump (l : List (Nat × Nat)) (b : Nat) : List (Nat × Nat) :=
    if l.any (fun x => x.1 == b) then l.map fun x => if x.1 == b then (b, inc32 x.2) else x else l ++ [(b, 1)]
  { s with flash.eraseCounts := blocks.foldl bump s.flash.eraseCounts }

/-- A region erased, and counted. -/
def eraseRegion (a n : Nat) (s : State) : State := countErase a n (flashErase a n s)

/-- The place that a write of a large object takes. -/
def writePlace (w : FlashWrite) (s : State) : Nat :=
  match w.type with
  | 4 | 6 => nextGeneration s w.type
  | _ => w.key

/-- A slide written into its blocks. -/
def programSlide (blocks : List Nat) (data : List Byte) (s : State) : State :=
  (blocks.zip (chunks 65536 data)).foldl (fun t x =>
    flashProgram (slideBase s + 65536 * x.1) x.2 (eraseRegion (slideBase s + 65536 * x.1) 65536 t)) s

/-- A checkpoint generation erased: what its entry described is gone. -/
def eraseCheckpoint (g : Nat) (s : State) : State :=
  let s1 := eraseRegion (checkpointBase s g) (checkpointSize s) s
  { s1 with
    flash.entries := s1.flash.entries.filter fun e => !(e.type == 6 && entryPlace e == g)
    flash.dirty := none }

/-- A checkpoint generation is erased before it is programmed only where the background erase has not come first
(17 R384). -/
def cleanCheckpoint (g : Nat) (s : State) : State := if s.flash.dirty = some g then eraseCheckpoint g s else s

/-- A write brought to its commit record (17 R381): the object's region first, then the entry. -/
def commitObject (w : FlashWrite) (s : State) : State :=
  if w.type = 7 then
    let blocks := slideTarget s w.key (blocksFor w.data.length)
    putObject 7 w.key (slideDescriptor blocks w.data) true false (programSlide blocks w.data s)
  else if isLarge w.type then
    let place := writePlace w s
    let base := objectBase s w.type place
    let erased := if w.type = 6 then cleanCheckpoint place s else eraseRegion base w.data.length s
    putObject w.type w.key (descriptor w.type place w.data) true (w.use == .orderly) (flashProgram base w.data erased)
  else putObject w.type w.key w.data true false s

/-- The front of the queue begins, unless a thermal shutdown holds new flash work back (11 R282). -/
def beginFlash (s : State) : State :=
  if s.therm.shutdownAt.isSome then s
  else match s.flash.queue with
    | w :: t => { s with flash.queue := { w with begun := true } :: t }
    | [] => s

/-- A write queued. A second write of a configuration object that waits, not begun, replaces the first. -/
def enqueueFlash (w : FlashWrite) (s : State) : State :=
  let q := s.flash.queue.filter fun x => !(!x.begun && x.type == w.type && x.key == w.key && x.use == w.use && x.op.isNone && w.op.isNone)
  beginFlash { s with flash.queue := q ++ [w] }

/-- Whether the flash takes new work of an operation: at most four queued, and a journal block erased (17 R385, R393). -/
def flashFree (s : State) : Bool := s.flash.queue.length < 4 && 0 < erasedBlocks s

/-- New flash work is refused in a thermal shutdown (11 R282). -/
def flashStatus (s : State) : Nat :=
  if s.therm.shutdownAt.isSome then St.thermalRefused else if flashFree s then St.ok else St.nvmBusy

end Sys2Proof.Machine
end

