-- ==== Sys2Proof/Machine/AlmanacFile.lean ====
section
/-! DEFINITION. Almanac files and banks (06 R157 to R160, R169): curves, the sections of a file, the bytes of a bank in
DRAM, stress counts, and wear gains. -/

namespace Sys2Proof.Machine

/-! ## Curves (06 R157, R158) -/

/-- The points of a curve of a bin table: `wide` points have a 4-byte stress count, the others a temperature. -/
def thermalCurve (bs : List Byte) : List (Int × Int) :=
  (List.range 16).map fun i => (signed 16 (be bs (4 * i) 2), (be bs (4 * i + 2) 2 : Nat))
def agingCurve (bs : List Byte) : List (Int × Int) :=
  (List.range 16).map fun i => ((be bs (6 * i) 4 : Nat), (be bs (6 * i + 4) 2 : Nat))

/-- Strictly ascending abscissas. -/
def ascendingI : List (Int × Int) → Bool
  | a :: b :: t => decide (a.1 < b.1) && ascendingI (b :: t)
  | _ => true

/-- The curves of one colour of a bin table (06 Table 6-2). -/
def binThermal (table : List Byte) (c : Nat) : List (Int × Int) := thermalCurve (slice table (160 * c) 64)
def binAging (table : List Byte) (c : Nat) : List (Int × Int) := agingCurve (slice table (160 * c + 64) 96)

/-- The rules of 06 R157 on a bin table. -/
def binTableOk (table : List Byte) : Bool :=
  (List.range 3).all fun c =>
    let t := binThermal table c
    let a := binAging table c
    ascendingI t && ascendingI a && (t.all fun p => p.2 != 0) && a.head? == some (0, 0x8000)

/-- The default weight table (06 R158): −25 + 10k °C, and a weight of 2^(k − 5). -/
def defaultWeights : List Byte := (List.range 16).flatMap fun (k : Nat) => sbe 2 ((10 * (k : Int) - 25) * 128) ++ u16 (2 ^ k)

/-- The rule of 06 R158 on a weight table. -/
def weightTableOk (table : List Byte) : Bool := ascendingI (thermalCurve table)

/-! ## Files (06 R159) -/

def fileMagic : Nat := 0xC7A1A7AC
def fileKind (f : List Byte) : Nat := getB f 5
def fileCells (f : List Byte) : Nat := be f 10 2
def fileBins (f : List Byte) : Nat := getB f 12
def fileSpace (f : List Byte) : List Byte := setAt (slice f 16 20) 1 0
def fileRefTemp (f : List Byte) : Int := signed 16 (be f 14 2)
/-- The offsets of a file's sections, from its header. -/
def mapAt (f : List Byte) : Nat := 64 + (if fileKind f = 1 then 2 * fileCells f else 0)
def matricesAt (f : List Byte) : Nat := mapAt f + 3 * fileCells f
def binsAt (f : List Byte) : Nat := matricesAt f + 9216 * fileCells f
def weightsAt (f : List Byte) : Nat := binsAt f + 480 * fileBins f
/-- The length of a file by its own header fields (18 R411). -/
def fileLength (f : List Byte) : Nat := weightsAt f + (if fileKind f = 0 then 64 else 0) + 4
/-- A file's CRC-32, as its trailer states it. -/
def fileCrcOf (f : List Byte) : Nat := be f (f.length - 4) 4
def fileCrcOk (f : List Byte) : Bool := 4 ≤ f.length && crc32 (f.take (f.length - 4)) == fileCrcOf f

/-- Every enumerated cell by ascending loop and cell. -/
def enumeratedCells (s : State) : List (Nat × Nat) :=
  (List.range (gradeLoops s)).flatMap fun l => (List.range (loopCells s l)).map fun c => (l, c)

/-- The cells that a file covers: a partial file's list, a full file's every enumerated cell. -/
def cellsOf (s : State) (f : List Byte) : List (Nat × Nat) :=
  if fileKind f = 1 then (List.range (fileCells f)).map fun i => (getB f (64 + 2 * i), getB f (65 + 2 * i))
  else enumeratedCells s

/-- The three bins and the 9,216 matrix bytes of the i-th cell of a file. -/
def fileCellBins (f : List Byte) (i : Nat) : List Byte := slice f (mapAt f + 3 * i) 3
def fileCellMatrices (f : List Byte) (i : Nat) : List Byte := slice f (matricesAt f + 9216 * i) 9216

/-! ## Banks (06 R160) -/

def getBank (s : State) (k : Nat) : Bank := s.almanac.banks.getD k {}
def modBank (k : Nat) (f : Bank → Bank) (s : State) : State := { s with almanac.banks := modAt s.almanac.banks k f }
def bankValid (s : State) (k : Nat) : Bool := k ≤ 1 && (getBank s k).state == 2

/-- The bank that counts as active (06 R164, R450). -/
def activeBank (s : State) : Nat :=
  match s.almanac.inForce with
  | some 0 => 0
  | some 1 => 1
  | _ => s.almanac.last.getD 0
/-- The bank that a load or a recast writes (06 R161). -/
def inactiveBank (s : State) : Nat := 1 - activeBank s

def bankBin (s : State) (k b : Nat) : List Byte := s.dram.mem.bytes (bankBase k + 0x1000 + 480 * b) 480
/-- The weight table of a bank, the default one where none has been loaded (06 R158). -/
def bankWeights (s : State) (k : Nat) : List Byte :=
  if (getBank s k).width = 0 then defaultWeights else s.dram.mem.bytes (bankBase k + 0xB000) 64
/-- The bin of a cell's colour in a bank's map, in ascending loop and cell. -/
def binAddr (k l c colour : Nat) : Nat := bankBase k + 0x9000 + 3 * (100 * l + c) + colour
def bankMap (s : State) (k l c colour : Nat) : Nat := (s.dram.mem.read (binAddr k l c colour)).toNat
def rowCheckAddr (k y : Nat) : Nat := bankBase k + 0xC000 + 4 * y
def matrixAddr (k width x y : Nat) : Nat := bankBase k + 0xE000 + (y * width + x) * 18
/-- The coefficient m[c][j] of a pixel, S2.13. -/
def coefficient (s : State) (k width x y c j : Nat) : Int :=
  signed 16 (s.dram.mem.be (matrixAddr k width x y + 6 * c + 2 * j) 2)
/-- The bytes of a raster row of a bank. -/
def bankRow (s : State) (k y : Nat) : List Byte :=
  s.dram.mem.bytes (matrixAddr k (getBank s k).width 0 y) ((getBank s k).width * 18)

/-! ## Emitters (06 R169) -/

/-- The index of an emitter. -/
def emitterIndex (s : State) (x y c : Nat) : Nat := (y * s.chain.width + x) * 3 + c
def stressAddr (e : Nat) : Nat := 0x04000000 + 4 * e
def stressOf (s : State) (e : Nat) : Nat := s.dram.mem.be (stressAddr e) 4
def setStress (e v : Nat) (s : State) : State := dramWrite (stressAddr e) (u32 v) s
/-- The raster place of pixel `p` of a placed cell. -/
def Placed.at (q : Placed) (p : Nat) : Nat × Nat := q.pixel (p % 16) (p / 16)
/-- The emitters of a placed cell in its own order: index, pixel, colour. -/
def cellEmitters (s : State) (q : Placed) : List (Nat × Nat × Nat) :=
  (List.range 512).flatMap fun p => (List.range 3).map fun c => (emitterIndex s (q.at p).1 (q.at p).2 c, p, c)
/-- The placed cell at a raster pixel. -/
def cellAt (s : State) (x y : Nat) : Option Placed := (placedCells s).find? fun q => q.col == x / 16 && q.row == y / 32

/-! ## Wear gains (06 R171) -/

/-- The stored wear gain of an emitter in a bank; 1.0 where none is stored. -/
def gainOf (s : State) (k e : Nat) : Nat :=
  match entryOf s 5 k with
  | some d => if 2 * e + 2 ≤ entryLength d then beVal (flashBytes s (gainsBase s k + 2 * e) 2) else 0x8000
  | none => 0x8000

/-- The required gain r of an aging curve at a stress count, in U1.15 and exact; an efficiency of 0 asks for more than any
cap. -/
def requiredGain (curve : List (Int × Int)) (stress : Nat) : Option Rat :=
  let e := curveEval curve (stress : Nat)
  if e ≤ 0 then none else some ((1073741824 : Rat) / (e : Rat))

/-- The wear cap ÷ r of a worn emitter, 1 of any other. -/
def wornFactor (cap : Nat) (r : Option Rat) : Rat :=
  match r with
  | none => 0
  | some q => if ((cap : Nat) : Rat) < q then ((cap : Nat) : Rat) / q else 1
def isWorn (cap : Nat) (r : Option Rat) : Bool :=
  match r with
  | none => true
  | some q => decide (((cap : Nat) : Rat) < q)
/-- The smaller of r and the cap. -/
def cappedGain (cap : Nat) (r : Option Rat) : Rat :=
  match r with
  | none => (cap : Nat)
  | some q => if ((cap : Nat) : Rat) < q then (cap : Nat) else q

/-- The targets of a pixel's three wear gains in U1.15; with WORN_BALANCE each worn emitter scales the other two. -/
def gainTargets (cap : Nat) (balance : Bool) (rs : List (Option Rat)) : List Nat :=
  (List.range 3).map fun c =>
    let others := (List.range 3).filter (· != c)
    let f := if balance then others.foldl (fun a o => a * wornFactor cap (rs.getD o none)) 1 else 1
    (roundQ (cappedGain cap (rs.getD c none) * f)).toNat

/-- One recast's move of a gain toward its target, at most 0x0080. -/
def stepGain (old target : Nat) : Nat :=
  if old + 0x80 < target then old + 0x80 else if target + 0x80 < old then old - 0x80 else target

/-- A matrix with a pixel's gains folded into its rows. -/
def foldMatrix (cal : List Byte) (gains : List Nat) : List Byte :=
  (List.range 3).flatMap fun c => (List.range 3).flatMap fun j =>
    sbe 2 (roundDiv ((gains.getD c 0x8000 : Nat) * signed 16 (be cal (6 * c + 2 * j) 2)) 32768)

/-! ## Building a bank (06 R161, R171) -/

/-- How the wear gains of a build follow: by the aging curves at once, moved by a recast's step, or kept from the active
bank. -/
inductive GainRule where
  | full
  | step
  | keep
deriving DecidableEq, Repr

/-- The gains of the three emitters of a pixel, given the curves of its bins. -/
def pixelGains (s : State) (rule : GainRule) (aging : Nat → List (Int × Int)) (e0 : Nat) : List Nat :=
  let old (c : Nat) : Nat := gainOf s (activeBank s) (e0 + c)
  let rs := (List.range 3).map fun c => requiredGain (aging c) (stressOf s (e0 + c))
  let target := gainTargets s.almanac.cap s.almanac.balance rs
  match rule with
  | .full => target
  | .step => (List.range 3).map fun c => stepGain (old c) (target.getD c 0x8000)
  | .keep => (List.range 3).map old

/-- A cell's pixels written into a bank, and its gains into a table of gains: matrices from the file's cell bytes. -/
def buildCell (k width : Nat) (rule : Option GainRule) (aging : Nat → List (Int × Int)) (matrices : List Byte) (q : Placed)
    (x : State × Memory) : State × Memory :=
  (List.range 512).foldl (fun y p =>
    let at_ := q.at p
    let e0 := (at_.2 * width + at_.1) * 3
    let gains := match rule with
      | some r => pixelGains y.1 r aging e0
      | none => [0x8000, 0x8000, 0x8000]
    (dramWrite (matrixAddr k width at_.1 at_.2) (foldMatrix (slice matrices (18 * p) 18) gains) y.1,
     y.2.write (2 * e0) (gains.flatMap u16))) x

/-- The row checks of a bank written from its rows. -/
def writeRowChecks (k : Nat) (s : State) : State :=
  (List.range (getBank s k).height).foldl (fun t y => dramWrite (rowCheckAddr k y) (u32 (crc32 (bankRow t k y))) t) s

/-- The wear gains of a bank as they go to the flash store: two bytes per emitter of the raster. -/
def gainBytes (s : State) (k : Nat) (m : Memory) : List Byte := m.bytes 0 (6 * ((getBank s k).width * (getBank s k).height))

/-- A bank built from a full calibration file (06 R161 step 4, R173); what is returned beside is its gains. -/
def buildFull (k : Nat) (f : List Byte) (rule : GainRule) (content : Nat) (s : State) : State × List Byte :=
  let w := be f 6 2
  let h := be f 8 2
  let cells := enumeratedCells s
  let clear (t : State) : State := { t with dram.mem := t.dram.mem.clear (bankBase k + 0x1000) (bankBase k + 0x01800000) }
  let s1 := modBank k (fun b => { b with state := 1, content := content, fileCrc := fileCrcOf f, serial := s.almanac.serial + 1, space := fileSpace f, refTemp := fileRefTemp f, wearCap := s.almanac.cap, width := w, height := h, builtAt := nowNs s / 1000000000, bins := fileBins f, cells := cells, resetCells := [] }) { clear s with almanac.serial := s.almanac.serial + 1 }
  let s2 := dramWrite (bankBase k + 0xB000) (slice f (weightsAt f) 64) (dramWrite (bankBase k + 0x1000) (slice f (binsAt f) (480 * fileBins f)) s1)
  let s3 := cells.zipIdx.foldl (fun t (c, i) => dramWrite (binAddr k c.1 c.2 0) (fileCellBins f i) t) s2
  let one (x : State × Memory) (q : Placed) : State × Memory :=
    let i := cells.idxOf (q.loop, q.cell)
    let bins := fileCellBins f i
    buildCell k w (some rule) (fun c => binAging (slice f (binsAt f + 480 * getB bins c) 480) c) (fileCellMatrices f i) q x
  let built := (placedCells s).foldl one (s3, [])
  (writeRowChecks k built.1, gainBytes built.1 k built.2)

/-- A bank built from the active one with the cells of a partial file replaced (06 R161 step 4). -/
def buildPartial (k : Nat) (f : List Byte) (crc : Nat) (s : State) : State × List Byte :=
  let a := activeBank s
  let b := getBank s a
  let cells := cellsOf s f
  let reset := bitN (getB f 13) 7
  let moved := s.dram.mem.bytes (bankBase a + 0x1000) (0xE000 - 0x1000 + b.width * b.height * 18)
  let s0 := { s with dram.mem := s.dram.mem.clear (bankBase k + 0x1000) (bankBase k + 0x01800000) }
  let s1 := dramWrite (bankBase k + 0x1000) moved s0
  let s2 := modBank k (fun _ => { b with state := 1, content := 2, fileCrc := crc, serial := s.almanac.serial + 1, builtAt := nowNs s / 1000000000, resetCells := if reset then cells else [] }) { s1 with almanac.serial := s.almanac.serial + 1 }
  let s3 := cells.zipIdx.foldl (fun t (c, i) => dramWrite (binAddr k c.1 c.2 0) (fileCellBins f i) t) s2
  let old : Memory := (List.range (3 * (b.width * b.height))).foldl (fun m e => m.write (2 * e) (u16 (gainOf s a e))) []
  let one (x : State × Memory) (q : Placed) : State × Memory :=
    if cells.contains (q.loop, q.cell) then
      buildCell k b.width (if reset then none else some .keep) (fun _ => []) (fileCellMatrices f (cells.idxOf (q.loop, q.cell))) q x
    else x
  let built := (placedCells s).foldl one (s3, old)
  (writeRowChecks k built.1, gainBytes built.1 k built.2)

/-! ## The stored calibration file (06 R160, R166; 17 Table 17-4) -/

/-- The whole files in the flash store, the newest first. -/
def flashFiles (s : State) : List (List Byte) :=
  let es := s.flash.entries.filter fun e => e.type == 4 && e.committed && !e.torn
  (es.reverse.map fun e => flashBytes s (fileBase s (entryPlace e)) (entryLength e)).filter fileCrcOk

/-- The stored file whose CRC a bank's header records: the generation in force, or the other one. -/
def fileWith (s : State) (crc : Nat) : Option (List Byte) := (flashFiles s).find? fun f => fileCrcOf f == crc

/-- The stored file in force. -/
def storedFile (s : State) : Option (List Byte) :=
  match objectData s 4 0 with
  | some f => if fileCrcOk f then some f else none
  | none => none

/-- The flash copy of a bank (06 R160, R167): the file that its header records, or where none is recorded the newest one, and the
wear gains; none where either is missing. -/
def flashCopy (s : State) (k : Nat) : Option (List Byte) :=
  if (entryOf s 5 k).isNone then none
  else (fileWith s (getBank s k).fileCrc).orElse fun _ => if (getBank s k).width = 0 then (flashFiles s).head? else none

/-- A full file with the cells of a partial one replaced and its CRC formed again (06 R161 step 3). -/
def mergeFile (s : State) (full part : List Byte) : List Byte :=
  let all := enumeratedCells s
  let body := (cellsOf s part).zipIdx.foldl (fun f (c, i) =>
    let j := all.idxOf c
    let f1 := f.take (mapAt full + 3 * j) ++ fileCellBins part i ++ f.drop (mapAt full + 3 * j + 3)
    f1.take (matricesAt full + 9216 * j) ++ fileCellMatrices part i ++ f1.drop (matricesAt full + 9216 * j + 9216))
    (full.take (full.length - 4))
  body ++ u32 (crc32 body)

/-- The bytes of a row of a bank rebuilt from its flash copy (06 R160, R166), none where the copy is missing. -/
def rebuiltRow (s : State) (k y : Nat) : Option (List Byte) :=
  match fileWith s (getBank s k).fileCrc, entryOf s 5 k with
  | some f, some _ =>
    let cells := enumeratedCells s
    let w := (getBank s k).width
    some ((List.range w).flatMap fun x =>
      match cellAt s x y with
      | none => zeros 18
      | some q =>
        let p := (if q.rot then 31 - y % 32 else y % 32) * 16 + (if q.rot then 15 - x % 16 else x % 16)
        let e0 := (y * w + x) * 3
        foldMatrix (slice (fileCellMatrices f (cells.idxOf (q.loop, q.cell))) (18 * p) 18)
          ((List.range 3).map fun c => gainOf s k (e0 + c)))
  | _, _ => none

end Sys2Proof.Machine
end

