-- ==== Sys2Proof/Machine/Buffers.lean ====
section
/-! DEFINITION. Layer buffers and the layer latch (04): sizes, the state machine of Table 4-2, naming and release,
layer descriptors, loss and return of streams, shedding and occultation. -/

namespace Sys2Proof.Machine

/-! ## Formats (03 Table 3-5, 04 R104) -/

/-- Bits per pixel by format code, 0 for an unknown code. -/
def bitsPerPixel (f : Nat) : Nat := [0, 24, 32, 32, 32, 36, 48, 64, 64, 8, 8, 20].getD f 0

/-- Formats with alpha: C32A, C32P, C64A, C64P, A8. -/
def hasAlpha (f : Nat) : Bool := [2, 3, 7, 8, 9].contains f

/-- Premultiplied formats: C32P and C64P (04 R117). -/
def premultiplied (f : Nat) : Bool := f == 3 || f == 8

/-- Row pitch in bytes (04 R104). -/
def pitchOf (f w : Nat) : Nat := 64 * ((w * bitsPerPixel f + 511) / 512)

/-- Bytes before the first row: the palette of I8 (04 R104, R110). -/
def rowBase (f : Nat) : Nat := if f = 10 then 2048 else 0

/-- Bytes of a buffer before rounding to granules. -/
def dataSize (f w h : Nat) : Nat := pitchOf f w * h + rowBase f

/-- Granules of 64 KiB that a buffer occupies (04 R103, R104). -/
def granulesOf (f w h : Nat) : Nat := (dataSize f w h + 65535) / 65536

/-- The size of a buffer in bytes, in whole granules (04 R104). -/
def Buffer.size (b : Buffer) : Nat := 65536 * granulesOf b.format b.width b.height

/-- Whether every palette entry of an I8 buffer has the full alpha code (04 R124). -/
def Buffer.paletteOpaque (b : Buffer) : Bool :=
  b.format == 10 && (List.range 256).all fun k => Memory.be b.mem (8 * k + 6) 2 == 0xFFFF

/-! ## The pool -/

def findBuf (s : State) (h : Nat) : Option Buffer := s.layers.buffers.find? (·.handle == h)
def modBuf (h : Nat) (f : Buffer → Buffer) (s : State) : State :=
  { s with layers.buffers := s.layers.buffers.map fun b => if b.handle == h then f b else b }
def dropBuf (h : Nat) (s : State) : State := { s with layers.buffers := s.layers.buffers.filter fun b => b.handle != h }
def bufState (s : State) (h : Nat) : Option BufState := (findBuf s h).map (·.state)

/-- The bytes of a row and of a die (01 R33; notes/assumptions/23.md). -/
def rowBytes : Nat := 2048
def dieBytes : Nat := 0x07000000

/-- The first address of a row. -/
def dramRowBase (die row : Nat) : Nat := die * dieBytes + row * rowBytes

/-- The base of the layer pool (01 Table 1-4). -/
def poolStart : Nat := 0x09800000

/-- The address of a byte of a buffer by its offset. -/
def Buffer.addrOf (b : Buffer) (o : Nat) : Nat := poolStart + 65536 * b.places.getD (o / 65536) 0 + o % 65536

/-- Whether a granule of the pool holds a row whose pages are withdrawn (01 R24). -/
def granuleLost (s : State) (g : Nat) : Bool :=
  s.dram.withdrawn.any fun x => (dramRowBase x.1 x.2 - poolStart) / 65536 == g && poolStart ≤ dramRowBase x.1 x.2

/-- The free granules of the pool in ascending order. -/
def freeGranules (s : State) : List Nat :=
  (List.range 1152).filter fun g => !(s.layers.buffers.any fun b => b.places.contains g) && !granuleLost s g

/-- The lowest handle that holds no buffer (04 R105). -/
def freeHandle (s : State) : Nat := ((List.range 255).find? fun i => (findBuf s (i + 1)).isNone).getD 0 + 1

/-- The next number of the order in which buffers become READY. -/
def nextOrder (s : State) : State := { s with layers.orderClock := s.layers.orderClock + 1 }

/-! ## Layer descriptors (04 R118) -/

/-- A descriptor's bytes as a layer (04 Table 4-6). -/
def layerOf (d : List Byte) : Layer :=
  { enable := bitN (getB d 1) 7, isStream := bitN (getB d 1) 6, z := getB d 2, views := getB d 3
    source := be d 4 2, fallback := be d 6 2, srcX := be d 8 2, srcY := be d 10 2, srcW := be d 12 2, srcH := be d 14 2
    dstX := signed 16 (be d 16 2), dstY := signed 16 (be d 18 2), dstW := be d 20 2, dstH := be d 22 2
    scaler := getB d 24, loss := getB d 25, alpha := be d 26 2
    colour := [be d 28 2, be d 30 2, be d 32 2], shedRank := getB d 34 }

/-- The descriptors of a LAYER_SET, with their layer numbers, by ascending layer (04 R118). -/
def layerDescs (ps : List Byte) : List (Nat × List Byte) :=
  let ds := (List.range (getB ps 1)).map fun i => slice ps (4 + 36 * i) 36
  (List.range 256).filterMap fun k => (ds.find? fun d => getB d 0 == k).map fun d => (k, d)

/-- The handles that an enabled layer names (04 R109). -/
def Layer.names (l : Layer) : List Nat :=
  if !l.enable then [] else (if l.isStream then [] else [l.source]) ++ (if l.fallback = 0 then [] else [l.fallback])

/-- Every staged change that waits: held, committing or scheduled. -/
def allStaged (s : State) : List StagedUnit :=
  s.cmd.held.map (·.unit) ++ s.cmd.committing.flatMap (·.units) ++ s.cmd.ephemeris.flatMap (·.units)

/-- The layers that committed, held and scheduled descriptors describe. -/
def describedLayers (s : State) : List Layer :=
  s.layers.layer ++ ((allStaged s).filter fun u => u.code == 0x0205).flatMap fun u =>
    (layerDescs u.params).filterMap fun (k, d) => if u.ref.index == k then some (layerOf d) else none

/-- Whether a stream binding refers to a buffer. -/
def inRing (s : State) (h : Nat) : Bool :=
  s.layers.streams.any fun x => match x with | some st => st.ring.contains h | none => false

/-- Whether a buffer is named (04 R109). -/
def isNamed (s : State) (h : Nat) : Bool := (describedLayers s).any (fun l => l.names.contains h) || inRing s h

/-- Whether a committed layer names a buffer (04 R110). -/
def namedCommitted (s : State) (h : Nat) : Bool := s.layers.layer.any fun l => l.names.contains h

/-! ## State changes (04 Table 4-2) -/

/-- A buffer returned to FREE, or deallocated if its release is pending and nothing names it. -/
def freeBuf (h : Nat) (s : State) : State :=
  match findBuf s h with
  | none => s
  | some b =>
    if b.releasePending && !isNamed s h then dropBuf h s
    else modBuf h (fun b => { b with state := .free, filler := .none, got := [] }) s

/-- A buffer that becomes READY. -/
def readyBuf (h : Nat) (s : State) : State :=
  let s1 := nextOrder s
  modBuf h (fun b => { b with state := .ready, filler := .none, order := s1.layers.orderClock, bad := [] }) s1

/-- The operation that fills a buffer ends as aborted (04 R109, 02 R65). -/
def abortFill (b : Buffer) (s : State) : State :=
  match b.filler with
  | .none | .stream => s
  | _ => endImplicit b.opSrc b.opTag (modOp b.opSrc b.opTag (fun o => if opLive o then { o with
      state := 2
      final := St.notCommitted
      progress := 1000
      bulk := none
      doneAt := nowNs s } else o) { s with layers.writeback := s.layers.writeback.filter fun w => w.handle != b.handle })

/-- Whether a release-pending buffer is held by nothing any longer (04 R109). -/
def releaseDue (s : State) (b : Buffer) : Bool :=
  b.releasePending && !isNamed s b.handle && (b.state == .free || b.state == .filling || b.state == .ready)

/-- Release-pending buffers that nothing holds any longer are deallocated, their fills aborted (04 R109, Table 4-3). -/
def sweepReleased (s : State) : State :=
  let gone := s.layers.buffers.filter (releaseDue s)
  gone.foldl (fun t b => dropBuf b.handle (abortFill b t)) s

/-- The status and effect of BUFFER_RELEASE (04 Table 4-3). -/
def releaseBuf (h : Nat) (s : State) : State × Nat :=
  match findBuf s h with
  | none => (s, St.badParam)
  | some b =>
    if inRing s h then (s, St.busy)
    else if isNamed s h || b.state == .onScreen || b.state == .retiring then
      (modBuf h (fun b => { b with releasePending := true }) s, St.deferred)
    else (dropBuf h (abortFill b s), St.ok)

/-- The state code of 04 Table 4-9. -/
def bufCode : BufState → Nat
  | .free => 0
  | .filling => 1
  | .ready => 2
  | .onScreen => 3
  | .retiring => 4

/-- The status record of a buffer (04 Table 4-9). -/
def bufBytes (s : State) (b : Buffer) : List Byte :=
  let ring := (List.range 8).find? fun k => match s.layers.streams.getD k none with
    | some st => st.ring.contains b.handle
    | none => false
  u16 b.handle ++ u8 (bufCode b.state) ++
    u8 (128 * b2n b.releasePending + 64 * b2n b.stored + 32 * b2n ring.isSome + 16 * b2n b.paletteOpaque) ++
    u8 b.format ++ u8 (ring.getD 0xFF) ++ u16 b.width ++ u16 b.height ++ u16 b.incomplete.length ++ u32 b.stray

/-- The contents of a buffer. -/
def Buffer.contents (b : Buffer) : List Byte := Memory.bytes b.mem 0 (dataSize b.format b.width b.height)

/-- The buffer descriptor's fields (04 Table 4-1). -/
def bufferOf (ps : List Byte) (h : Nat) : Buffer :=
  { handle := h, format := getB ps 0, stored := bitN (getB ps 1) 7, fromSlide := bitN (getB ps 1) 6
    fullRange := bitN (getB ps 1) 5, width := be ps 2 2, height := be ps 4 2, colorimetry := getB ps 6
    transfer := getB ps 7, slide := getB ps 8 }

/-- Whether a descriptor's fields are in range and its size within the pool (04 R105, Table 4-1). -/
def bufferFieldsOk (ps : List Byte) : Bool :=
  let f := getB ps 0
  let fl := getB ps 1
  1 ≤ f && f ≤ 11 && field fl 4 0 = 0 && 1 ≤ be ps 2 2 && be ps 2 2 ≤ 4096 && 1 ≤ be ps 4 2 && be ps 4 2 ≤ 4096 &&
    getB ps 6 ≤ 3 && getB ps 7 ≤ 4 && (if bitN fl 7 || bitN fl 6 then getB ps 8 ≤ 63 else getB ps 8 = 0) &&
    granulesOf f (be ps 2 2) (be ps 4 2) ≤ 1152

/-! ## Scaler taps (05 R132, R133, R146 to R148) -/

/-- The coefficient set of a bank; built-in set 0 has 4 taps in both directions and edge mode 0 (05 Table 5-1). -/
def ScalerState.active (x : ScalerState) : Option CoeffSet := if x.activeB then x.bankB else x.bankA
def ScalerState.inactive (x : ScalerState) : Option CoeffSet := if x.activeB then x.bankA else x.bankB
def setVTaps (c : Option CoeffSet) : Nat := (c.map (·.vTaps)).getD 4
def setHTaps (c : Option CoeffSet) : Nat := (c.map (·.hTaps)).getD 4
def setEdge (c : Option CoeffSet) : Nat := (c.map (·.edge)).getD 0

/-- The format, width and height of a layer's source. -/
def layerSource (s : State) (l : Layer) : Option (Nat × Nat × Nat × Bool) :=
  let h := if l.isStream then
      (match s.layers.streams.getD l.source none with | some st => st.ring.headD 0 | none => 0) else l.source
  (findBuf s h).map fun b => (b.format, b.width, b.height, b.paletteOpaque)

/-- Entries per pixel (05 R133). -/
def entriesPer (f : Nat) (paletteOpaque : Bool) : Nat :=
  if [2, 3, 7, 8].contains f || (f = 10 && !paletteOpaque) then 2 else 1

/-- The width of source lines held (05 R140). In extend mode the horizontal taps reach floor((taps − 1) ÷ 2) columns to the left of
the rectangle and the rest to its right, by R139's window about a pixel of the rectangle; at an upscale the window of the first
outputs begins one column further left, and that column is not counted (DESIGN CHOICE: R140 gives the reach no number;
notes/assumptions/38.md). -/
def heldWidth (c : Option CoeffSet) (l : Layer) (bufW : Nat) : Nat :=
  if setEdge c = 0 then l.srcW
  else
    let left := (setHTaps c - 1) / 2
    let right := setHTaps c - 1 - left
    min bufW (l.srcX + l.srcW + right) - (l.srcX - left)

/-- The line width W of a layer on a scaler with a set (05 R146). -/
def lineWidth (s : State) (c : Option CoeffSet) (l : Layer) : Nat :=
  match layerSource s l with
  | none => l.srcW
  | some (f, w, _, pal) => heldWidth c l w * entriesPer f pal

/-- The vertical taps in use: the largest count, at most the bank's, for which taps × W fits the capacity; 0 where
even 2 do not fit (05 R146). -/
def tapsFor (bank w cap : Nat) : Nat :=
  ((List.range (bank + 1)).filter fun t => 2 ≤ t && t * w ≤ cap).foldl max 0

/-- The enabled layers of a configuration that a scaler serves, given which scaler each one uses. -/
def servedBy (layers : List Layer) (scalerOf : Nat → Nat) (k : Nat) : List Nat :=
  (List.range 8).filter fun i => (layers.getD i {}).enable && scalerOf i == k

/-- The scaler that a layer uses: the one it was moved to from an unusable one, else the one it names (05 R149). -/
def scalerInUse (s : State) (layers : List Layer) (i : Nat) : Nat :=
  ((s.layers.run.getD i {}).movedTo).getD (layers.getD i {}).scaler

/-- The capacity of a layer on a scaler (05 R133). -/
def capacityOf (served : Nat) : Nat := if served ≤ 1 then 16384 else 8192

/-- The taps in use of a layer on a scaler in a configuration. -/
def layerTaps (s : State) (layers : List Layer) (i : Nat) : Nat :=
  let k := scalerInUse s layers i
  let c := (s.layers.scaler.getD k {}).active
  tapsFor (setVTaps c) (lineWidth s c (layers.getD i {})) (capacityOf (servedBy layers (scalerInUse s layers) k).length)

/-- The vertical taps, made anew, of the enabled layers on the scalers that `on` names; at least 2 (05 R146). -/
def retap (on : Nat → Bool) (s : State) : State :=
  { s with layers.run := s.layers.run.zipIdx.map fun (r, i) =>
      let l := s.layers.layer.getD i {}
      let k := scalerInUse s s.layers.layer i
      if l.enable && k ≤ 3 && on k then { r with vtaps := max 2 (layerTaps s s.layers.layer i) } else r }

/-- The vertical taps of every layer after a commit (05 R146, R148). -/
def refreshTaps (s : State) : State := retap (fun _ => true) s

/-- The status of a scaler's line memory for a unit of an operation that concerns the layers `mine`, in the configuration that
results: `own` are the unit's own layers, and a committed layer that is not part of the operation fails the unit where it does not
fit, and warns where its reduction is new (05 R146, R148). Three layers on one scaler have no capacity: R132 judges them. -/
def lineStatus (s : State) (result : List Layer) (c : Option CoeffSet) (served mine own : List Nat) : Nat :=
  let taps (k : Nat) : Nat := tapsFor (setVTaps c) (lineWidth s c (result.getD k {})) (capacityOf served.length)
  let others := served.filter fun k => !mine.contains k
  if 3 ≤ served.length then St.ok
  else if own.any (fun k => taps k = 0) || others.any (fun k => taps k = 0) then St.linebufShort
  else if own.any (fun k => taps k < setVTaps c) ||
      others.any (fun k => taps k < (s.layers.run.getD k {}).vtaps && taps k < setVTaps c) then St.tapsReduced
  else St.ok

/-- The staging status that the scaler gives a layer of an operation on the layers `mine`, in the configuration that results
(05 R146, R148, R149). -/
def scalerStatus (s : State) (result : List Layer) (mine : List Nat) (i : Nat) : Nat :=
  let l := result.getD i {}
  if l.scaler = 0xFF then St.ok
  else
    let x := s.layers.scaler.getD l.scaler {}
    if x.unusable then St.blockUnusable
    else if !l.enable then St.ok
    else lineStatus s result x.active
      (servedBy result (fun k => if mine.contains k then (result.getD k {}).scaler else scalerInUse s result k) l.scaler) mine [i]

/-! ## LAYER_SET units (04 R119) -/

/-- Whether a descriptor's fields are in range and its reserved bits 0. -/
def layerFieldsOk (d : List Byte) : Bool :=
  let l := layerOf d
  getB d 0 ≤ 7 && field (getB d 1) 5 0 = 0 && l.z ≤ 7 && l.views ≤ 15 &&
    1 ≤ l.srcW && l.srcW ≤ 4096 && 1 ≤ l.srcH && l.srcH ≤ 4096 && 1 ≤ l.dstW && l.dstW ≤ 4096 &&
    1 ≤ l.dstH && l.dstH ≤ 4096 && decide (-4096 ≤ l.dstX) && decide (l.dstX ≤ 2047) && decide (-4096 ≤ l.dstY) &&
    decide (l.dstY ≤ 2047) && (l.scaler ≤ 3 || l.scaler = 0xFF) && l.loss ≤ 2 && l.alpha ≤ 0x8000 &&
    l.shedRank ≤ 7 && getB d 35 = 0 && l.fallback ≤ 255 &&
    (if l.isStream then l.source ≤ 7 else 1 ≤ l.source && l.source ≤ 255)

/-- Whether a ratio of destination to source lies from 1/8 to 16 (04 R119). -/
def ratioOk (src dst : Nat) : Bool := src ≤ 8 * dst && dst ≤ 16 * src

/-- The conditions of 04 R119 on an enabled layer's source and fallback. -/
def layerSourcesOk (s : State) (l : Layer) : Bool :=
  let inside (w h : Nat) : Bool := l.srcX + l.srcW ≤ w && l.srcY + l.srcH ≤ h
  (if l.isStream then
    (match s.layers.streams.getD l.source none with
      | some st => inside st.cropW st.cropH
      | none => false)
   else (match findBuf s l.source with
      | some b => !b.releasePending && inside b.width b.height
      | none => false)) &&
  (l.fallback = 0 || (match findBuf s l.fallback with
      | some b => b.stored && !inRing s l.fallback && !b.releasePending
      | none => false))

/-- The configuration of layers that a LAYER_SET's descriptors give. -/
def withLayers (base : List Layer) (ds : List (Nat × List Byte)) : List Layer :=
  ds.foldl (fun a (k, d) => setAt a k (layerOf d)) base

/-- The staging status of one layer of a LAYER_SET (04 R119; 05 R146 to R149), in an operation on the layers `mine`. -/
def layerStatus (s : State) (ps : List Byte) (mine : List Nat) (k : Nat) (d : List Byte) : Nat :=
  let l := layerOf d
  if !layerFieldsOk d then St.badParam
  else if l.enable && l.views = 0 then St.badParam
  else if l.enable && !layerSourcesOk s l then St.badParam
  else if l.scaler = 0xFF && (l.dstW != l.srcW || l.dstH != l.srcH) then St.badParam
  else if !(ratioOk l.srcW l.dstW && ratioOk l.srcH l.dstH) then St.badParam
  else scalerStatus s (withLayers s.layers.layer (layerDescs ps)) mine k

/-- A layer's run state for a source that it has not composed before: its counts begin anew (04 R128, R129). -/
def LayerRun.afresh (r : LayerRun) : LayerRun :=
  { r with lossCount := 0, returnCount := 0, sinceNew := 0, seenOrder := 0, lost := false, dropped := false, transparent := false }

/-- The loss of a layer's stream is reported no longer: the layer has another source or none. -/
def forgetLoss (k : Nat) (s : State) : State := if (s.layers.run.getD k {}).lost then clearAlertDetail 0x02 0x01 k s else s

/-- A layer's descriptor commits: a move to another scaler or a loss belongs to the descriptor it replaces. -/
def applyLayer (ps : List Byte) (k : Nat) (s : State) : State :=
  match (layerDescs ps).find? (·.1 == k) with
  | none => s
  | some (_, d) =>
    let old := s.layers.layer.getD k {}
    let same := old.enable && (layerOf d).enable && old.source == (layerOf d).source && old.isStream == (layerOf d).isStream
    let s0 := if same then s else forgetLoss k s
    let s1 := { s0 with layers.layer := setAt s0.layers.layer k (layerOf d) }
    let run (r : LayerRun) : LayerRun :=
      let r1 := { r with movedTo := none, noScaler := false }
      if same then r1 else r1.afresh
    sweepReleased { s1 with layers.run := modAt s1.layers.run k run }

/-- LAYER_CLEAR disables a layer (04 R120). -/
def clearLayer (k : Nat) (s : State) : State :=
  let s0 := forgetLoss k s
  sweepReleased { s0 with
    layers.layer := modAt s0.layers.layer k (fun l => { l with enable := false })
    layers.run := modAt s0.layers.run k (fun r => { r.afresh with selected := none, previous := none, movedTo := none, noScaler := false }) }

/-- A different Z for every enabled layer (04 R119). -/
def zDistinct (s : State) : Bool := !hasDup ((s.layers.layer.filter (·.enable)).map (·.z))

/-- At most two enabled layers on one scaler (05 R132). -/
def scalersShared (s : State) : Bool :=
  (List.range 4).all fun k => (servedBy s.layers.layer (scalerInUse s s.layers.layer) k).length ≤ 2

/-! ## Unusable scalers (05 R149) -/

/-- One layer moved off an unusable scaler at a frame boundary, with the reduction that the move causes on the other scaler, or left
transparent; logged with ALERT_N. -/
def rehome (i : Nat) (s : State) : State :=
  let l := s.layers.layer.getD i {}
  let k := scalerInUse s s.layers.layer i
  if !l.enable || 3 < k || !(s.layers.scaler.getD k {}).unusable then s
  else
    let fits (j : Nat) : Bool :=
      let served := servedBy s.layers.layer (scalerInUse s s.layers.layer) j
      let c := (s.layers.scaler.getD j {}).active
      let cap := capacityOf (served.length + 1)
      !(s.layers.scaler.getD j {}).unusable && served.length < 2 &&
        (i :: served).all fun m => tapsFor (setVTaps c) (lineWidth s c (s.layers.layer.getD m {})) cap != 0
    match (List.range 4).find? fits with
    | some j => raiseAlert 0x03 0x01 (tileTarget s) 0 i false
        (retap (· == j) { s with layers.run := modAt s.layers.run i (fun r => { r with movedTo := some j, noScaler := false }) })
    | none =>
      if (s.layers.run.getD i {}).noScaler then s
      else raiseAlert 0x03 0x02 (tileTarget s) 0 i false
        { s with layers.run := modAt s.layers.run i (fun r => { r with noScaler := true }) }

/-- Every layer on an unusable scaler, in ascending number. -/
def rehomeAll (s : State) : State := (List.range 8).foldl (fun t i => rehome i t) s

/-! ## The layer latch (04 R114, R123, R128, R129) -/

/-- The READY buffers of a stream's ring that a latch for frame number `n` may select, newest first. -/
def readyRing (s : State) (st : Stream) (n : Nat) : List Buffer :=
  let bs := s.layers.buffers.filter fun b => st.ring.contains b.handle && b.state == .ready && !b.releasePending &&
    (!st.native || !frameLater (b.key.getD 0) n)
  bs.mergeSort fun a b => b.order ≤ a.order

/-- READY buffers older than the one selected are passed over (04 R114). -/
def passOver (k : Nat) (chosen : Buffer) (s : State) : State :=
  match s.layers.streams.getD k none with
  | none => s
  | some st =>
    let old := s.layers.buffers.filter fun b => st.ring.contains b.handle && b.state == .ready && b.order < chosen.order
    let s1 := { s with layers.streams := setAt s.layers.streams k (some { st with skipped := satN 0xFFFF (st.skipped + old.length) }) }
    old.foldl (fun t b => freeBuf b.handle t) s1

def setRun (i : Nat) (f : LayerRun → LayerRun) (s : State) : State :=
  { s with layers.run := modAt s.layers.run i f }

/-- A layer takes its loss action (04 R128). -/
def takeLoss (i : Nat) (s : State) : State :=
  let l := s.layers.layer.getD i {}
  let useFallback := l.loss == 1 &&
    (bufState s l.fallback == some .ready || bufState s l.fallback == some .onScreen)
  let s1 := setRun i (fun r => { r with
    lost := true, dropped := false, returnCount := 0, sinceNew := 0
    selected := if l.loss == 2 then none else if useFallback then some l.fallback else r.selected
    transparent := l.loss == 2 }) s
  raiseAlert 0x02 0x01 (tileTarget s) 0 i false s1

/-- The stream layer's selection at a latch for frame `n` (04 R114, R128, R129). A lost layer counts each completed frame once. -/
def latchStream (i n : Nat) (s : State) : State :=
  let l := s.layers.layer.getD i {}
  let r := s.layers.run.getD i {}
  match s.layers.streams.getD l.source none with
  | none => if r.lost then s else takeLoss i s
  | some st => if r.dropped then takeLoss i s else
    let found := (readyRing s st (frameNo n)).find? fun b => !r.lost || r.seenOrder < b.order
    match found with
    | some b =>
      if r.lost then setRun i (fun r => { r with returnCount := r.returnCount + 1, sinceNew := 0, seenOrder := b.order, fresh := true }) s
      else passOver l.source b (setRun i (fun r => { r with selected := some b.handle, lossCount := 0, seenOrder := b.order, fresh := true, transparent := false }) s)
    | none =>
      if r.lost then setRun i (fun r => { r with
        sinceNew := r.sinceNew + 1, fresh := false
        returnCount := if st.lossTimeout ≤ r.sinceNew + 1 then 0 else r.returnCount }) s
      else setRun i (fun r => { r with lossCount := r.lossCount + 1, fresh := false }) s

/-- The buffer layer's selection at a latch (04 R114). A source that is RETIRING, which R114 names in neither case, is treated as one
that is not ready (DESIGN CHOICE, notes/assumptions/38.md). -/
def latchBuffer (i : Nat) (s : State) : State :=
  let l := s.layers.layer.getD i {}
  match bufState s l.source with
  | some .ready | some .onScreen => setRun i (fun r => { r with selected := some l.source, transparent := false }) s
  | _ => setRun i (fun r => { r with
      selected := if (r.selected.bind (findBuf s)).isSome then r.selected else none
      transparent := !(r.selected.bind (findBuf s)).isSome
      notReady := inc32 r.notReady }) s

/-- One layer's latch. -/
def latchLayer (n i : Nat) (s : State) : State :=
  let l := s.layers.layer.getD i {}
  let s1 := setRun i (fun r => { r with previous := r.selected }) s
  if !l.enable then setRun i (fun r => { r with selected := none }) s1
  else if l.isStream then latchStream i n s1 else latchBuffer i s1

/-- The buffers that the layers have selected. -/
def selectedNow (s : State) : List Nat := s.layers.run.filterMap (·.selected)

/-- The buffers of the previous latch from which composites read the incomplete rows of what is selected now (04 R113). -/
def rowSources (s : State) : List Nat :=
  s.layers.run.filterMap fun r => match r.selected.bind (findBuf s) with
    | some b => if b.incomplete.isEmpty then none else r.previous
    | none => none

/-- The composites of frame `n` read a buffer. -/
def Buffer.readFor (n : Nat) (b : Buffer) : Buffer := if b.readFrame = n then b else { b with readFrame := n, readBefore := b.readFrame }

/-- The composites of frame `n` do not read a buffer after all: a layer's selection has changed at the latch itself. -/
def Buffer.unreadFor (n : Nat) (b : Buffer) : Buffer := if b.readFrame = n then { b with readFrame := b.readBefore } else b

/-- The buffer states after a latch for frame `n` (04 Table 4-2): a selected buffer is ON_SCREEN, one that no layer
selects any longer is RETIRING until the last frame that read it has passed its transit. -/
def settleBuffers (n : Nat) (s : State) : State :=
  let sel := selectedNow s
  let rows := rowSources s
  { s with layers.buffers := s.layers.buffers.map fun b =>
      if sel.contains b.handle && (b.state == .ready || b.state == .onScreen) then { b.readFor n with state := .onScreen }
      else
        let b1 := if rows.contains b.handle then b.readFor n else b.unreadFor n
        if b.state == .onScreen then { b1 with state := .retiring } else b1 }

/-- The layers shed at the level in force (04 R123): at P3 all but two, highest rank first, then lowest Z. -/
def shedLayers (s : State) : List Nat :=
  let on := (List.range 8).filter fun i => (s.layers.layer.getD i {}).enable
  if s.power.level.val = 3 then
    let l (i : Nat) : Layer := s.layers.layer.getD i {}
    let order := on.mergeSort fun a b => (l b).shedRank < (l a).shedRank || ((l a).shedRank == (l b).shedRank && (l a).z ≤ (l b).z)
    order.take (on.length - 2)
  else []

/-- Shedding at a boundary, logged once per change (04 R123). -/
def applyShedding (s : State) : State :=
  let sh := shedLayers s
  let s1 := { s with layers.run := s.layers.run.zipIdx.map fun (r, i) => { r with shed := sh.contains i } }
  if s1.layers.run = s.layers.run then s1 else logAlert 0x02 0x03 (tileTarget s) 0 sh.length s1

/-- The latch of every layer for frame `n`. -/
def latchAll (n : Nat) (s : State) : State :=
  settleBuffers n ((List.range 8).foldl (fun t i => latchLayer n i t) s)

/-- STREAM_LOSS_TIMEOUT is due: as many latches as the loss timeout without a new frame. -/
def lossDue (s : State) (i : Nat) : Bool :=
  let l := s.layers.layer.getD i {}
  let r := s.layers.run.getD i {}
  l.enable && l.isStream && !r.lost &&
    (match s.layers.streams.getD l.source none with | some st => st.lossTimeout ≤ r.lossCount | none => false)

/-- The latched frames follow a change of a layer's selection made at the latch itself. -/
def relatch (s : State) : State :=
  { s with layers.latched := s.layers.latched.zipIdx.map fun (x, k) =>
      if k + 1 = s.layers.latched.length then { x with runs := s.layers.run } else x }

/-- STREAM_LOSS_TIMEOUT (04 R128). -/
def execStreamLossTimeout (l : Fin 8) (s : State) : Host.Outcome State Fault Refusal :=
  .next (if lossDue s l then relatch (settleBuffers s.time.frame (takeLoss l s)) else s)

/-- STREAM_RETURN is due: as many latches with a new frame as the return count (04 R129). -/
def returnDue (s : State) (i : Nat) : Bool :=
  let l := s.layers.layer.getD i {}
  let r := s.layers.run.getD i {}
  l.enable && l.isStream && r.lost &&
    (match s.layers.streams.getD l.source none with | some st => st.returnCount ≤ r.returnCount | none => false)

/-- The newest completed buffer of a stream's ring that a latch for frame number `n` may compose: READY, or ON_SCREEN since another
layer of the stream has selected it. -/
def newestInRing (s : State) (st : Stream) (n : Nat) : Option Buffer :=
  let bs := s.layers.buffers.filter fun b => st.ring.contains b.handle && (b.state == .ready || b.state == .onScreen) && !b.releasePending &&
    (!st.native || !frameLater (b.key.getD 0) n)
  (bs.mergeSort fun a b => b.order ≤ a.order).head?

/-- The layer composes the newest stream buffer again (04 R129). -/
def returnStream (i : Nat) (s : State) : State :=
  let l := s.layers.layer.getD i {}
  match s.layers.streams.getD l.source none with
  | none => s
  | some st =>
    let back (r : LayerRun) : LayerRun := { r with lost := false, lossCount := 0, returnCount := 0, sinceNew := 0, transparent := false }
    let s1 := match newestInRing s st (frameNo s.time.frame) with
      | some b => passOver l.source b (setRun i (fun r => { back r with selected := some b.handle, seenOrder := b.order }) s)
      | none => setRun i back s
    logAlert 0x02 0x02 (tileTarget s) 0 i (clearAlertDetail 0x02 0x01 i s1)

/-- STREAM_RETURN (04 R129). -/
def execStreamReturn (l : Fin 8) (s : State) : Host.Outcome State Fault Refusal :=
  .next (if returnDue s l then relatch (settleBuffers s.time.frame (returnStream l s)) else s)

/-! ## Occultation (04 R124, R125) -/

/-- Whether a layer is opaque over the raster block with the given bounds, for a view. -/
def opaqueOver (s : State) (view i x0 y0 x1 y1 : Nat) : Bool :=
  let l := s.layers.layer.getD i {}
  let r := s.layers.run.getD i {}
  let b := r.selected.bind (findBuf s)
  l.enable && !r.shed && l.views.testBit view && !r.transparent && !r.noScaler && l.alpha == 0x8000 &&
    decide (l.dstX ≤ (x0 : Int)) && decide (l.dstY ≤ (y0 : Int)) && decide ((x1 : Int) ≤ l.dstX + l.dstW) && decide ((y1 : Int) ≤ l.dstY + l.dstH) &&
    (match b with | some b => ([1, 4, 5, 6, 11].contains b.format) || b.paletteOpaque | none => false)

/-- Whether a layer reads anything of a block for a view. -/
def readsBlock (s : State) (view i x0 y0 x1 y1 : Nat) : Bool :=
  let l := s.layers.layer.getD i {}
  let r := s.layers.run.getD i {}
  l.enable && !r.shed && l.views.testBit view && !r.transparent && !r.noScaler && r.selected.isSome &&
    decide (l.dstX < (x1 : Int)) && decide ((x0 : Int) < l.dstX + l.dstW) && decide (l.dstY < (y1 : Int)) && decide ((y0 : Int) < l.dstY + l.dstH)

/-- The layer reads that occultation skips in one block (04 R125). The background, which is skipped with them, is a colour and not a
block read, and is not counted (DESIGN CHOICE, notes/assumptions/38.md). -/
def skippedIn (s : State) (view x0 y0 x1 y1 : Nat) : Nat :=
  let z (i : Nat) : Nat := (s.layers.layer.getD i {}).z
  let op := (List.range 8).filter fun i => opaqueOver s view i x0 y0 x1 y1
  if op.isEmpty then 0
  else
    let top := op.foldl (fun m i => max m (z i)) 0
    ((List.range 8).filter fun i => z i < top && readsBlock s view i x0 y0 x1 y1).length

/-- The block reads skipped in a frame, over the views composed. -/
def countOcculted (s : State) (views : List Nat) : Nat :=
  let w := s.chain.width
  let h := s.chain.height
  views.foldl (fun a v => (List.range ((h + 31) / 32)).foldl (fun b j => (List.range ((w + 31) / 32)).foldl (fun c i =>
    c + skippedIn s v (32 * i) (32 * j) (min w (32 * i + 32)) (min h (32 * j + 32))) b) a) 0

/-! ## Retirement at the transit (04 R107) -/

/-- The transit of a frame's last composite retires the buffers that only earlier or this frame's composites read. -/
def retireBuffers (frame : Nat) (s : State) : State :=
  let gone := s.layers.buffers.filter fun b => b.state == .retiring && b.readFrame ≤ frame
  gone.foldl (fun t b => freeBuf b.handle t) s

end Sys2Proof.Machine
end

