-- ==== Sys2Proof/Machine/Bulk.lean ====
section
/-! DEFINITION. Data that an operation takes in bulk blocks (18 R404): how it begins to wait for them, and what it has when
all of them have arrived. -/

namespace Sys2Proof.Machine

/-- The number of blocks of a length. -/
def blockCount (n : Nat) : Nat := (n + 8191) / 8192

/-- An operation begins to wait for the given number of bytes. Its blocks are checked with the session command key of this
moment (18 R407). -/
def awaitBulk (r : Req) (length : Nat) (s : State) : State :=
  let ext := ((findSource r.src s).map (·.extSeq)).getD 0
  modOp r.src r.tag (fun o => { o with bulk := some ⟨length, [], nowNs s, ext, s.cmd.sessionKey⟩ }) s

/-- Whether every block is held. -/
def BulkIn.complete (b : BulkIn) : Bool := (List.range (blockCount b.length)).all fun k => b.blocks.any fun x => x.1 == k

/-- The data of complete blocks. -/
def BulkIn.data (b : BulkIn) : List Byte :=
  (List.range (blockCount b.length)).flatMap fun k => ((b.blocks.find? fun x => x.1 == k).map (·.2)).getD []

/-- The operation no longer waits for blocks. -/
def endBulk (src : Source) (tag : Nat) (s : State) : State := modOp src tag (fun o => { o with bulk := none }) s

/-- Whether a running operation waits for data that have not all arrived. -/
def waitsForData (o : LongOp) : Bool := opLive o && (match o.bulk with | some b => !b.complete | none => false)

/-- An operation that ends before its completion: aborted by a command, by a release or by a power change (02 R65,
Table 2-11); its implicit votes go 10 s later (02 R72). -/
def endAborted (src : Source) (tag : Nat) (s : State) : State :=
  endImplicit src tag (modOp src tag (fun o => if opLive o then { o with
    state := 2
    final := St.notCommitted
    progress := 1000
    bulk := none
    doneAt := nowNs s } else o) s)

end Sys2Proof.Machine
end

