-- ==== Sys2Proof/Machine/Almanac.lean ====
section
/-! DEFINITION. The Almanac (06): the working space, loading, swapping and verifying banks, bin tables, wear, the stress
sampler and recasts. -/

namespace Sys2Proof.Machine

/-! ## The working space (06 R151 to R154) -/

/-- The working space block of a descriptor. -/
def spaceBlock (ps : List Byte) : List Byte := setAt (slice ps 4 20) 1 0

/-- The staging status of a working space (06 R151). -/
def spaceStatus (ps : List Byte) : Nat :=
  let p := getB ps 4
  need ((p ≤ 2 || p = 0xFF) && 80 ≤ be ps 6 2 && be ps 6 2 ≤ 10000 &&
    (p = 0xFF || be ps 8 16 = 0))

def applySpace (ps : List Byte) (s : State) : State := { s with almanac.space := spaceBlock ps }

/-- The bank whose recorded block the working space must equal (06 R153). -/
def spaceBank (s : State) : Option Nat :=
  match s.almanac.inForce with
  | some 0 => some 0
  | some 1 => some 1
  | _ => s.almanac.used

/-- The rule of 06 R153 on a configuration. -/
def spaceAgrees (s : State) : Bool :=
  match spaceBank s with
  | some k => s.almanac.space == (getBank s k).space
  | none => true

/-- COLOUR_SPACE_SET. -/
def colourSpaceSetSpec : OpSpec where
  code := 0x0403
  sched := true
  apply := true
  domains := fun _ _ => [.pixel]
  check := fun r _ => firstFail [lenIs 24 r, spaceStatus r.params]
  units := fun r _ => [(⟨.colourSpace, 0⟩, spaceStatus r.params)]

def execColourSpaceSet (r : Req) (s : State) : Host.Outcome State Fault Refusal := .next (runPacket (period s) colourSpaceSetSpec r s)

/-! ## Loading (06 R161, R162) -/

/-- Whether a held, committing or scheduled ALMANAC_SWAP names a bank. -/
def swapPending (s : State) (k : Nat) : Bool := (allStaged s).any fun u => u.code == 0x0401 && getB u.params 1 == k

/-- Whether an ALMANAC_LOAD other than the given one runs. -/
def loadRuns (s : State) (r : Req) : Bool :=
  s.cmd.longOps.any fun o => o.code == 0x0400 && o.state == 0 && !isOp r.src r.tag o

/-- ALMANAC_LOAD. -/
def almanacLoadSpec : OpSpec where
  code := 0x0400
  long := fun _ => true
  domains := fun _ _ => [.mem]
  check := fun r _ => firstFail [lenIs 8 r, need (
    (if prm r 0 1 = 0 then r.src != .host && prm r 1 1 = 0 && 0 < prm r 4 4
     else prm r 0 1 = 1 && prm r 1 1 ≤ 127 && prm r 4 4 = 0))]
  run := fun r s =>
    if loadRuns s r || swapPending s (inactiveBank s) then (s, .done St.busy [])
    else if prm r 0 1 = 0 then (awaitBulk r (prm r 4 4) s, .accepted) else (s, .accepted)

def execAlmanacLoad (r : Req) (s : State) : Host.Outcome State Fault Refusal := .next (runPacket (period s) almanacLoadSpec r s)

/-- The file that a module EEPROM at an address holds, of the length that its own header states (18 R411); empty where
no device answers. -/
def eepromFile (s : State) (addr : Nat) : List Byte :=
  if s.plant.eepromAddr = addr then s.plant.eeprom.take (fileLength s.plant.eeprom) else []

/-- The data of a load whose file is whole. -/
def loadedFile (s : State) (o : LongOp) : Option (List Byte) :=
  if o.code != 0x0400 || o.state != 0 then none
  else if prm o.req 0 1 = 1 then some (eepromFile s (prm o.req 1 1))
  else match o.bulk with
    | some b => if b.complete then some b.data else none
    | none => none

/-- The raster of a RASTER_SET that a source holds staged (09 R240). -/
def heldRaster (src : Source) (s : State) : Option (Nat × Nat) :=
  (s.cmd.held.find? fun h => h.src == src && h.unit.ref == ⟨.raster, 0⟩).map fun h => (be h.unit.params 2 2, be h.unit.params 4 2)

/-- Step 2 of 06 R161 on the sections that every file has. -/
def fileSectionsOk (f : List Byte) : Bool :=
  f.length = fileLength f && be f 0 4 = fileMagic && getB f 4 = 1 && fileKind f ≤ 1 && field (getB f 13) 6 0 = 0 &&
    (if fileKind f = 0 then 1 ≤ fileBins f && fileBins f ≤ 64 && !bitN (getB f 13) 7 &&
        ((List.range (fileBins f)).all fun b => binTableOk (slice f (binsAt f + 480 * b) 480)) &&
        weightTableOk (slice f (weightsAt f) 64)
     else fileBins f = 0 && 1 ≤ fileCells f && fileCells f ≤ 2400)

/-- Whether every bin that a file names is below a count. -/
def fileBinsBelow (f : List Byte) (n : Nat) : Bool := (slice f (mapAt f) (3 * fileCells f)).all fun b => b.toNat < n

/-- Step 2 of 06 R161 against the tile and the active bank. -/
def fileMatches (src : Source) (f : List Byte) (s : State) : Bool :=
  let raster := (be f 6 2, be f 8 2)
  if fileKind f = 0 then
    fileCells f = (enumeratedCells s).length && fileBinsBelow f (fileBins f) &&
      (raster == (s.chain.width, s.chain.height) || heldRaster src s == some raster)
  else
    let b := getBank s (activeBank s)
    raster == (s.chain.width, s.chain.height) && b.state == 2 && fileSpace f == b.space && fileRefTemp f == b.refTemp &&
      fileBinsBelow f b.bins && !hasDup (cellsOf s f) && ((cellsOf s f).all fun c => (enumeratedCells s).contains c) &&
      (storedFile s).isSome

/-- A recast that runs is abandoned and logged (06 R162). -/
def abandonRecast (s : State) : State :=
  match s.almanac.recast with
  | none => s
  | some x =>
    let s1 := { s with almanac.recast := none, flash.queue := s.flash.queue.filter fun w => w.use != .gainsOfRecast }
    let s2 := match x.op with | some (src, tag) => endAborted src tag s1 | none => s1
    logAlert 0x04 0x04 (tileTarget s) 0 0 s2

/-- Step 3 of 06 R161: the inactive bank is building and the file goes to the flash store. -/
def startLoad (o : LongOp) (f : List Byte) (s : State) : State :=
  let k := inactiveBank s
  let s1 := endBulk o.req.src o.req.tag (abandonRecast s)
  let stored := if fileKind f = 0 then f
    else mergeFile s ((storedFile s).getD []) f
  let s2 := modBank k (fun b => { b with state := 1 }) { s1 with almanac.loading := some ⟨o.req.src, o.req.tag, k, f, false⟩ }
  enqueueFlash { type := 4, key := 0, data := stored, use := .almanacFile, op := some (o.req.src, o.req.tag) } s2

/-- Steps 1 to 3 of 06 R161 on a whole file; a held I2C bus fails the load from a module EEPROM (19 Table 19-16). -/
def takeFile (o : LongOp) (f : List Byte) (s : State) : State :=
  if prm o.req 0 1 = 1 && s.i2c.stuck then completeOp o.req.src o.req.tag St.badParam [] s
  else if !fileCrcOk f then completeOp o.req.src o.req.tag St.checkFail [] s
  else if !(fileSectionsOk f && fileMatches o.req.src f s) then completeOp o.req.src o.req.tag St.badParam [] s
  else startLoad o f s

/-- The load whose file is whole and not yet taken. -/
def loadReady (s : State) : Option (LongOp × List Byte) :=
  if !s.fw.running || s.almanac.loading.isSome then none
  else (s.cmd.longOps.filterMap fun o => (loadedFile s o).map fun f => (o, f)).head?

/-- ALMANAC_FILE_RECEIVED. -/
def execAlmanacFileReceived (s : State) : Host.Outcome State Fault Refusal :=
  .next (match loadReady s with | some (o, f) => takeFile o f s | none => s)

/-- Step 4 of 06 R161, after the file has been stored: the bank is built and its gains go to the flash store. -/
def buildLoaded (stored : List Byte) (s : State) : State :=
  match s.almanac.loading with
  | none => s
  | some x =>
    let b := if fileKind x.file = 0 then buildFull x.bank x.file .full 0 s else buildPartial x.bank x.file (fileCrcOf stored) s
    enqueueFlash { type := 5, key := x.bank, data := b.2, use := .gainsOfLoad, op := some (x.src, x.tag) }
      { b.1 with almanac.loading := some { x with gains := true } }

/-- A bank marked valid (06 R161 step 5, R173). -/
def validate (k : Nat) (s : State) : State := clearAlertDetail 0x04 0x02 k (modBank k (fun b => { b with state := 2 }) s)

/-- Step 5 of 06 R161, after the gains have been stored. -/
def finishLoad (s : State) : State :=
  match s.almanac.loading with
  | none => s
  | some x => completeOp x.src x.tag St.ok [] (validate x.bank { s with almanac.loading := none })

/-! ## Swapping (06 R163, R164, R175) -/

/-- The staging status of a bank selection. -/
def swapStatus (ps : List Byte) (s : State) : Nat :=
  let k := getB ps 1
  if 2 < k then St.badParam
  else if k = 2 then St.ok
  else if (getBank s k).state = 1 then St.busy
  else need (bankValid s k)

/-- The stress counts of a cell's emitters set to 0. -/
def resetCellStress (l c : Nat) (s : State) : State :=
  match (placedCells s).find? fun q => q.loop == l && q.cell == c with
  | some q => (cellEmitters s q).foldl (fun t e => setStress e.1 0 t) s
  | none => s

/-- A bank comes into force. -/
def bringBank (k : Nat) (s : State) : State :=
  if k = 2 then { s with almanac.inForce := some 2 }
  else { s with almanac.inForce := some k, almanac.last := some k, almanac.used := some k }

/-- A swap commits (06 R163, R175): a bank that a partial load with RESET_STRESS built resets its cells' counts. -/
def takeBank (k : Nat) (s : State) : State :=
  if s.almanac.inForce = some k then s
  else if k = 2 then bringBank 2 s
  else
    let cells := (getBank s k).resetCells
    let s1 := cells.foldl (fun t c => resetCellStress c.1 c.2 t) s
    modBank k (fun b => { b with resetCells := [] })
      (bringBank k { s1 with almanac.stressReset := s1.almanac.stressReset ++ cells })

def applySwap (ps : List Byte) (s : State) : State := takeBank (getB ps 1) s

/-- ALMANAC_SWAP. -/
def almanacSwapSpec : OpSpec where
  code := 0x0401
  sched := true
  apply := true
  domains := fun _ _ => [.pixel]
  check := fun r _ => lenIs 4 r
  units := fun r s => [(⟨.almanac, 0⟩, swapStatus r.params s)]

def execAlmanacSwap (r : Req) (s : State) : Host.Outcome State Fault Refusal := .next (runPacket (period s) almanacSwapSpec r s)

/-! ## Verifying (06 R166, R167) -/

/-- The words of a range no longer uncorrectable, once rewritten. -/
def clearUncorrectable (a n : Nat) (s : State) : State :=
  { s with dram.uncorrectable := s.dram.uncorrectable.filter fun w => !(a ≤ w + 7 && w < a + n) }

/-- What a verification has found: check values repaired and rows rebuilt, and whether the bank can stand. -/
structure VerifyCount where
  repaired : Nat := 0
  rebuilt : Nat := 0
  invalid : Bool := false

/-- One row verified (06 R166). -/
def verifyRow (k y : Nat) (x : State × VerifyCount) : State × VerifyCount :=
  let s := x.1
  let w := (getBank s k).width
  let a := matrixAddr k w 0 y
  let now := crc32 (bankRow s k y)
  if x.2.invalid || (now == s.dram.mem.be (rowCheckAddr k y) 4 && !dramUncorrectable s a (18 * w)) then x
  else match rebuiltRow s k y with
    | none => (raiseAlert 0x04 0x02 (tileTarget s) 0 k false (modBank k (fun b => { b with state := 0 }) s), { x.2 with invalid := true })
    | some row =>
      if row == bankRow s k y && !dramUncorrectable s a (18 * w) then
        (logAlert 0x0B 0x01 (tileTarget s) St.checkRepaired 0 (dramWrite (rowCheckAddr k y) (u32 now) s), { x.2 with repaired := x.2.repaired + 1 })
      else
        (logAlert 0x04 0x01 (tileTarget s) 0 y (dramWrite (rowCheckAddr k y) (u32 (crc32 row)) (dramWrite a row (clearUncorrectable a (18 * w) s))),
          { x.2 with rebuilt := x.2.rebuilt + 1 })

/-- A bank verified; a bank that is not valid has no rows to check. -/
def verifyBank (k : Nat) (s : State) : State × VerifyCount :=
  if bankValid s k then (List.range (getBank s k).height).foldl (fun x y => verifyRow k y x) (s, {}) else (s, {})

/-- The results of a verification, per bank. -/
def verifyBytes (k rows : Nat) (x : State × VerifyCount) : List Byte :=
  u8 k ++ u8 (getBank x.1 k).state ++ u16 rows ++ u16 x.2.repaired ++ u16 x.2.rebuilt

/-- Banks verified in turn, with their results. -/
def verifyBanks (ks : List Nat) (s : State) : State × List Byte :=
  ks.foldl (fun x k =>
    let v := verifyBank k x.1
    (v.1, x.2 ++ verifyBytes k (if bankValid x.1 k then (getBank x.1 k).height else 0) v)) (s, [])

/-- ALMANAC_VERIFY. -/
def almanacVerifySpec : OpSpec where
  code := 0x0402
  long := fun _ => true
  domains := fun _ _ => [.mem]
  check := fun r _ => firstFail [lenIs 4 r, need (prm r 0 1 ≤ 2)]
  run := fun r s =>
    let v := verifyBanks (if prm r 0 1 = 2 then [0, 1] else [prm r 0 1]) s
    (completeOp r.src r.tag St.ok v.2 v.1, .accepted)

def execAlmanacVerify (r : Req) (s : State) : Host.Outcome State Fault Refusal := .next (runPacket (period s) almanacVerifySpec r s)

/-- A bank is taken at boot, with its colour space; no swap has committed, so that no stress count is reset (06 R175). -/
def bootBank (k : Nat) (s : State) : State :=
  let u := bringBank k s
  releaseFault .almanac { u with almanac.space := (getBank u k).space }

/-- The bank of 06 R167 after a reset's verification: the one that was in force before, else the other, else the one last
in force rebuilt from the flash copy, else the identity bank with FAULT_N. Its block is the working space (R154). -/
def selectBank (before : Option Nat) (s : State) : State :=
  let s1 := (verifyBanks [0, 1] s).1
  let want := match before with | some 0 => 0 | some 1 => 1 | _ => s1.almanac.last.getD 0
  if bankValid s1 want then bootBank want s1
  else if bankValid s1 (1 - want) then bootBank (1 - want) s1
  else
    let k := s1.almanac.last.getD 0
    match flashCopy s1 k with
    | some f =>
      let b := buildFull k f .keep 0 { s1 with almanac.inForce := some k }
      bootBank k (validate k b.1)
    | none => assertFault .almanac { s1 with almanac.inForce := some 2 }

/-! ## Bin tables (06 R165) -/

/-- The data of BIN_TABLE_LOAD follow its 8 parameter bytes. -/
def binTablesStatus (ps : List Byte) (s : State) : Nat :=
  let n := getB ps 1
  let tables := ps.drop 8
  let mapOk (k : Nat) : Bool := !bankValid s k ||
    (getBank s k).cells.all fun c => (List.range 3).all fun i => bankMap s k c.1 c.2 i < n
  need (1 ≤ n && n ≤ 64 && ((List.range n).all fun b => binTableOk (slice tables (480 * b) 480)) &&
    weightTableOk (slice tables (480 * n) 64) && mapOk 0 && mapOk 1)

/-- A stored calibration file with new tables and its CRC formed again. -/
def fileWithTables (f : List Byte) (n : Nat) (tables : List Byte) : List Byte :=
  let body := setAt (f.take (binsAt f)) 12 (byte n) ++ tables
  body ++ u32 (crc32 body)

/-- New bin tables commit: in both banks and in the stored calibration file (06 R165). -/
def applyBinTables (ps : List Byte) (s : State) : State :=
  let n := getB ps 1
  let tables := slice ps 8 (480 * n + 64)
  let put (k : Nat) (t : State) : State :=
    modBank k (fun b => { b with bins := n }) (dramWrite (bankBase k + 0xB000) (slice tables (480 * n) 64) (dramWrite (bankBase k + 0x1000) (tables.take (480 * n)) t))
  let s1 := put 1 (put 0 s)
  match storedFile s with
  | none => s1
  | some f =>
    let g := fileWithTables f n tables
    let s2 := { s1 with almanac.banks := s1.almanac.banks.map fun b => if b.fileCrc = fileCrcOf f then { b with fileCrc := fileCrcOf g } else b }
    enqueueFlash { type := 4, key := 0, data := g, use := .config, op := none } s2

/-- BIN_TABLE_LOAD: the operation waits for its data. -/
def binTableLoadSpec : OpSpec where
  code := 0x0404
  apply := true
  long := fun _ => true
  domains := fun _ _ => [.pixel]
  check := fun r _ => firstFail [lenIs 8 r, need (r.src != .host && 1 ≤ prm r 1 1 && prm r 1 1 ≤ 64)]
  units := fun r s => [(⟨.binTables, 0⟩, binTablesStatus r.params s)]
  run := fun r s => (awaitBulk r (480 * prm r 1 1 + 64) s, .accepted)

/-- The data of a BIN_TABLE_LOAD have arrived: CHECK_FAIL, or its unit is staged (06 R165). -/
def binTablesReceived (o : LongOp) (data : List Byte) (s : State) : State :=
  let r := o.req
  let s1 := endBulk r.src r.tag s
  if crc32 data != prm r 4 4 then completeOp r.src r.tag St.checkFail [] s1
  else
    let x := stageOp binTableLoadSpec { r with params := r.params ++ data } true s1
    conclude 0x0404 r true x.2 x.1

def execBinTableLoad (r : Req) (s : State) : Host.Outcome State Fault Refusal := .next (runPacket (period s) binTableLoadSpec r s)

/-! ## AGING_READ (06 R174) -/

/-- The emitters that a target names, of placed cells, with index, cell, pixel and colour. -/
def targetEmitters (s : State) (t : BitVec 64) : List (Nat × Placed × Nat × Nat) :=
  let cells := targetCells s t
  let all := (placedCells s).filter fun q => cells.contains (q.loop, q.cell)
  let es := all.flatMap fun q => (cellEmitters s q).filterMap fun (e, p, c) =>
    if (tgtPixel t = 1023 || tgtPixel t = p) && (tgtEmitter t = 3 || tgtEmitter t = c) then some (e, q, p, c) else none
  es.mergeSort fun a b => a.1 ≤ b.1

/-- The required gain of an emitter of a cell by the active bank's curves. -/
def emitterGain (s : State) (q : Placed) (e c : Nat) : Option Rat :=
  let k := activeBank s
  requiredGain (binAging (bankBin s k (bankMap s k q.loop q.cell c)) c) (stressOf s e)

/-- An aging record (06 Table 6-7). -/
def agingBytes (s : State) (x : Nat × Placed × Nat × Nat) : List Byte :=
  let (e, q, _, c) := x
  let r := emitterGain s q e c
  let gain := match s.almanac.inForce with
    | some 0 => gainOf s 0 e
    | some 1 => gainOf s 1 e
    | _ => 0x8000
  u32 (stressOf s e) ++ u16 gain ++ u16 (match r with | some v => satN 0xFFFF (roundQ (v / 2)).toNat | none => 0xFFFF) ++
    u8 (bankMap s (activeBank s) q.loop q.cell c) ++
    u8 (128 * b2n (isWorn s.almanac.cap r) + 64 * b2n (stressOf s e == 0xFFFFFFFF) + 32 * b2n (s.almanac.stressReset.contains (q.loop, q.cell))) ++
    u16 0

/-- AGING_READ. -/
def agingReadSpec : OpSpec where
  code := 0x0405
  level := .emitter
  domains := fun _ _ => [.mem]
  check := fun r _ => firstFail [lenIs 4 r, need (field (prm r 0 1) 6 0 = 0)]
  run := fun r s =>
    let es := targetEmitters s r.target
    let shown := if bitN (prm r 0 1) 7 then es.filter fun x => isWorn s.almanac.cap (emitterGain s x.2.1 x.1 x.2.2.2) else es
    (s, .done St.ok (shown.flatMap (agingBytes s)))

def execAgingRead (r : Req) (s : State) : Host.Outcome State Fault Refusal := .next (runPacket (period s) agingReadSpec r s)

/-! ## Recasts (06 R171 to R173, Table 6-6) -/

/-- The next time of day at or after a time. -/
def nextTimeOfDay (seconds t : Nat) : Nat :=
  let day := 86400000000000
  let c := t / day * day + seconds * 1000000000
  if t ≤ c then c else c + day

/-- When the next scheduled recast is due. -/
def recastAt (s : State) : Nat := s.almanac.nextRecast.getD (nextTimeOfDay s.almanac.timeOfDay s.time.bootAt)

/-- The worn emitters by the active bank's curves. -/
def wornCount (s : State) : Nat :=
  ((placedCells s).map fun q => ((cellEmitters s q).filter fun x => isWorn s.almanac.cap (emitterGain s q x.1 x.2.2)).length).foldl (· + ·) 0

/-- A change of the worn count is logged (06 R171). -/
def countWorn (s : State) : State :=
  let n := wornCount s
  if n = s.almanac.worn then s else logAlert 0x04 0x03 (tileTarget s) 0 (satN 0xFFFF n) { s with almanac.worn := n }

/-- Whether a recast must wait (06 Table 6-6). -/
def recastWaits (s : State) : Bool :=
  s.almanac.recast.isSome || (s.cmd.longOps.any fun o => o.code == 0x0400 && o.state == 0) || swapPending s (inactiveBank s)

/-- A recast builds the inactive bank from the stored file and sends its gains to the flash store (06 R173). -/
def startRecast (op : Option (Source × Nat)) (f : List Byte) (s : State) : State :=
  let k := inactiveBank s
  let b := buildFull k f .step 1 (countWorn { s with almanac.stressReset := [] })
  enqueueFlash { type := 5, key := k, data := b.2, use := .gainsOfRecast, op := op }
    { b.1 with almanac.recast := some ⟨op, k⟩ }

/-- The recast's gains have been stored: the bank is valid and waits for its swap. -/
def finishRecast (s : State) : State :=
  match s.almanac.recast with
  | none => s
  | some x =>
    let s1 := validate x.bank { s with almanac.recast := none, almanac.swapDue := if s.almanac.inForce = some 2 then none else some x.bank }
    match x.op with
    | some (src, tag) => completeOp src tag St.ok [] s1
    | none => s1

/-- A scheduled recast is due, need not wait, and there is a stored file to build from. -/
def recastReady (s : State) : Option (List Byte) :=
  if s.fw.running && s.almanac.scheduled && domainOn s .mem && recastAt s ≤ nowNs s && !recastWaits s then storedFile s else none

/-- RECAST_DUE (06 R173): the next one follows by the interval. -/
def execRecastDue (s : State) : Host.Outcome State Fault Refusal :=
  .next (match recastReady s with
    | some f => startRecast none f { s with almanac.nextRecast := some (recastAt s + s.almanac.interval * 3600000000000) }
    | none => s)

/-- Whether the swap of a recast bank passes 06 R153. -/
def recastSwapOk (s : State) (k : Nat) : Bool := bankValid s k && s.almanac.space == (getBank s k).space

/-- The swap of a recast bank that waits for its frame boundary; a swap that fails leaves the bank valid and unswapped. -/
def recastSwapEffect (s : State) : State :=
  match s.almanac.swapDue with
  | none => s
  | some k => (if recastSwapOk s k then takeBank k else id) { s with almanac.swapDue := none }

/-- AGING_RECAST (06 R172, Table 6-5). -/
def agingRecastSpec : OpSpec where
  code := 0x0406
  long := fun r => prm r 0 1 = 1
  domains := fun _ _ => [.mem]
  check := fun r _ => firstFail [lenIs 12 r, need (prm r 0 1 ≤ 2 && field (prm r 1 1) 6 0 = 0 && 1 ≤ prm r 2 2 &&
    prm r 2 2 ≤ 720 && prm r 4 4 ≤ 86399 && 0x8000 ≤ prm r 8 2 && prm r 8 2 ≤ 0xC000)]
  run := fun r s =>
    match prm r 0 1 with
    | 0 => ({ s with
        almanac.scheduled := true
        almanac.balance := bitN (prm r 1 1) 7
        almanac.interval := prm r 2 2
        almanac.timeOfDay := prm r 4 4
        almanac.cap := prm r 8 2
        almanac.nextRecast := some (nextTimeOfDay (prm r 4 4) (nowNs s)) }, .done St.ok [])
    | 1 =>
      if recastWaits s then (s, .done St.busy [])
      else match storedFile s with
        | some f => (startRecast (some (r.src, r.tag)) f s, .accepted)
        | none => (completeOp r.src r.tag St.nvmTorn [] s, .accepted)
    | _ => ({ s with almanac.scheduled := false }, .done St.ok [])

def execAgingRecastSetSchedule (r : Req) (s : State) : Host.Outcome State Fault Refusal :=
  .next (runPacket (period s) agingRecastSpec (withByte r 0 0) s)
def execAgingRecastNow (r : Req) (s : State) : Host.Outcome State Fault Refusal :=
  .next (runPacket (period s) agingRecastSpec (withByte r 0 1) s)
def execAgingRecastSuspend (r : Req) (s : State) : Host.Outcome State Fault Refusal :=
  .next (runPacket (period s) agingRecastSpec (withByte r 0 2) s)

/-! ## Temperatures and the stress sampler (06 R168, R170) -/

/-- The temperature at a pixel centre by bilinear interpolation between zone centres (06 R168). -/
def pixelTemp (temps : List Rat) (cols rows x y : Nat) : Rat :=
  let along (v n : Nat) : Nat × Nat × Rat :=
    let u := (mkRat (2 * v - 63) 128)
    let lo := u.floor.toNat
    if u ≤ 0 then (0, 0, 0) else if n ≤ lo + 1 then (n - 1, n - 1, 0) else (lo, lo + 1, u - (lo : Nat))
  let a := along x cols
  let b := along y rows
  let at_ (i j : Nat) : Rat := temps.getD (j * cols + i) 25
  let row (j : Nat) : Rat := at_ a.1 j * (1 - a.2.2) + at_ a.2.1 j * a.2.2
  row b.1 * (1 - b.2.2) + row b.2.1 * b.2.2

/-- The zone temperatures that the layer latch of a frame took. -/
def tempsOf (s : State) (frame : Nat) : List Rat :=
  match s.therm.latched.find? fun x => x.1 == frame with
  | some x => x.2
  | none => s.therm.zones.map (·.temp)

/-- The images that the views of a frame show: those composed for it, and the presented image of a frozen one (08 R216). -/
def imagesOf (s : State) (frame : Nat) : List ViewImage :=
  (planOf s frame).views.filterMap fun v =>
    (s.pres.images.find? fun i => i.view == v && i.frame == frame).orElse fun _ => s.pres.presented.getD v none

/-- The magnitude that the ledger applies to a rail for an image of a frame, with the house factor of a complement. -/
def magnitudeOf (s : State) (frame rail : Nat) (complement : Bool) : Rat :=
  let x := fixedFor s frame
  mkRat (x.m.getD rail 0) 32768 * (if complement then mkRat (x.house.getD rail 0x8000) 32768 else 1)

/-- Δ of an emitter (06 R170). -/
def stressDelta (s : State) (f : FrameSums) (seconds : Nat) (q : Placed) (x y c : Nat) : Rat :=
  let g := planOf s f.frame
  let w := mkRat (curveEval (thermalCurve (bankWeights s (activeBank s))) (pixelTemp (tempsOf s f.frame) s.therm.cols s.therm.rows x y * 128)) 32
  let sum := (imagesOf s f.frame).foldl (fun a v =>
    if viewBlanked s v.view then a
    else a + g.share v.view * mkRat (v.drive x y c) 65535 * magnitudeOf s f.frame (railOf s q.loop c) v.house.isSome) 0
  16 * ((seconds : Nat) : Rat) * w * sum

/-- A count increased with the pseudo-random threshold, saturating (06 R170). -/
def addStress (e : Nat) (d : Rat) (s : State) : State :=
  let whole := d.floor.toNat
  let frac := d - (whole : Nat)
  let t := Config.stressThreshold (s.freeCount * 16777216 + e) % 2 ^ 32
  let up := decide (((t : Nat) : Rat) < frac * 4294967296)
  setStress e (satN 0xFFFFFFFF (stressOf s e + whole + b2n up)) s

/-- The stress of `n` seconds of a frame, on every placed emitter. -/
def stressAll (f : FrameSums) (n : Nat) (s : State) : State :=
  (placedCells s).foldl (fun t q => (cellEmitters s q).foldl (fun u (e, p, c) =>
    addStress e (stressDelta s f n q (q.at p).1 (q.at p).2 c) u) t) s

/-- One sample over the placed emitters. -/
def takeSample (f : FrameSums) (s : State) : State :=
  let now := nowNs s / 1000000000
  let n := min 4 (now - s.almanac.lastSample)
  nextFree { stressAll f n s with almanac.lastSample := now, almanac.sampleFrame := none }

/-- Whether samples are taken: the rails are on, and a bank other than the identity bank is in force. -/
def samples (s : State) : Bool := !railsOff s && (s.almanac.inForce == some 0 || s.almanac.inForce == some 1)

/-- The first frame boundary of a second names the frame whose sample is due; one that is still due then is abandoned (06 R170). -/
def noteSample (before n : Nat) (s : State) : State :=
  let second (k : Nat) : Nat := k * (period s).num / ((period s).den * 1000000000)
  if second n ≤ second before then s
  else { s with
    almanac.sampleFrame := if samples s then some n else none
    almanac.abandoned := s.almanac.abandoned + b2n s.almanac.sampleFrame.isSome }

/-- A sample is due and can be completed: the composites of its frame are summed and their magnitude is fixed. -/
def sampleDue (s : State) : Option FrameSums :=
  if samples s then s.almanac.sampleFrame.bind fun n =>
    let f := n - n % max 1 (planOf s n).divisor
    if s.ledger.magnitudes.any fun x => x.frame == f then
      (s.ledger.sums.find? fun x => x.frame == f).orElse fun _ => s.ledger.latest.filter fun x => x.frame == f
    else none
  else none

/-- STRESS_SAMPLE (06 R170). -/
def execStressSample (s : State) : Host.Outcome State Fault Refusal :=
  .next (match sampleDue s with | some f => takeSample f s | none => s)

end Sys2Proof.Machine
end

