-- ==== Sys2Proof/Machine/RealFn.lean ====
section
/-! DEFINITION. Real functions for the transfer curves, the thermistor equation and the Lanczos kernel, evaluated in
fixed point with 96 fraction bits: their error lies far below the last place of every format that takes a result
(00 R7; notes/assumptions/20.md). -/

namespace Sys2Proof.Machine

/-- The scale of the fixed-point values, 2^96. -/
def fxOne : Int := 2 ^ 96

/-- A rational in fixed point. -/
def fxOf (q : Rat) : Int := (q * (fxOne : Rat)).floor

/-- A fixed-point value as a rational. -/
def fxQ (x : Int) : Rat := mkRat x (2 ^ 96)

def fxMul (a b : Int) : Int := a * b / fxOne
def fxDiv (a b : Int) : Int := a * fxOne / b

/-- The terms of the series of 2·artanh(z) from the power `p` = z^k and the odd exponent `k` on. -/
def artanhTerms : Nat → Int → Int → Nat → Int
  | 0, _, _, _ => 0
  | n + 1, p, z2, k => p / (k : Int) + artanhTerms n (fxMul p z2) z2 (k + 2)

/-- ln x for x in [1, 2]. -/
def fxLnUnit (x : Int) : Int :=
  let z := fxDiv (x - fxOne) (x + fxOne)
  2 * artanhTerms 40 z (fxMul z z) 1

/-- ln 2. -/
def fxLn2 : Int := fxLnUnit (2 * fxOne)

/-- The natural logarithm of a positive value. -/
def fxLn (x : Int) : Int :=
  if x ≤ 0 then 0
  else
    let k : Int := (Nat.log2 x.toNat : Int) - 96
    let m := if 0 ≤ k then x / 2 ^ k.toNat else x * 2 ^ (-k).toNat
    fxLnUnit m + k * fxLn2

/-- The terms of the exponential series. -/
def expTerms : Nat → Int → Int → Nat → Int
  | 0, _, _, _ => 0
  | n + 1, term, x, k => term + expTerms n (fxMul term x / ((k : Int) + 1)) x (k + 1)

/-- The exponential. -/
def fxExp (x : Int) : Int :=
  let k := x / fxLn2
  let r := x - k * fxLn2
  let e := expTerms 40 fxOne r 0
  if 0 ≤ k then e * 2 ^ k.toNat else e / 2 ^ (-k).toNat

/-- A power of a non-negative value, 0 for base 0. -/
def fxPow (x a : Int) : Int := if x ≤ 0 then 0 else fxExp (fxMul a (fxLn x))

/-- A power of a rational, as a rational. -/
def powQ (x a : Rat) : Rat := fxQ (fxPow (fxOf x) (fxOf a))

/-- π to 96 fraction bits. -/
def fxPi : Int := 0x3243F6A8885A308D313198A2E

/-- The terms of the sine series. -/
def sinTerms : Nat → Int → Int → Nat → Int
  | 0, _, _, _ => 0
  | n + 1, term, x2, k => term - sinTerms n (fxMul term x2 / (((k : Int) + 1) * ((k : Int) + 2))) x2 (k + 2)

/-- The sine of π × q, reduced to half a turn. -/
def sinPi (q : Rat) : Int :=
  let w := q - 2 * ((q / 2).floor : Int)
  let neg := decide (1 < w)
  let u := if neg then w - 1 else w
  let x := fxMul (fxOf u) fxPi
  let v := sinTerms 40 x (fxMul x x) 1
  if neg then -v else v

end Sys2Proof.Machine
end

