-- ==== Sys2Proof/Machine/PixelDecode.lean ====
section
/-! DEFINITION. Stage 1 of the pixel engine (04 R115 to R117; 03 R449; 06 R152): unpacking a pixel of a layer buffer,
range expansion, transfer functions, and the conversion to the working space. -/

namespace Sys2Proof.Machine

/-- The top of U1.19 and of U4.19, and 1.0 in both. -/
def u119Top : Int := 1048575
def u419Top : Int := 8388607
def one19 : Nat := 524288

/-! ## Unpacking (03 R449, 04 R104) -/

/-- The bits of a pixel. -/
def rawPixel (b : Buffer) (x y : Nat) : Nat :=
  let bpp := bitsPerPixel b.format
  let start := x * bpp
  let n := (start % 8 + bpp + 7) / 8
  Memory.be b.mem (rowBase b.format + y * pitchOf b.format b.width + start / 8) n / 2 ^ (8 * n - start % 8 - bpp) % 2 ^ bpp

/-- The bits of a component, and the number of components, by format. -/
def componentBits (f : Nat) : Nat :=
  match f with
  | 4 | 11 => 10
  | 5 => 12
  | 6 | 7 | 8 => 16
  | _ => 8
def componentCount (f : Nat) : Nat :=
  match f with
  | 2 | 3 | 7 | 8 => 4
  | 9 | 10 => 1
  | 11 => 2
  | _ => 3

/-- The components of a pixel, the first at the most significant end. -/
def components (b : Buffer) (x y : Nat) : List Nat :=
  let v := rawPixel b x y
  let n := componentBits b.format
  (List.range (componentCount b.format)).map fun i => v / 2 ^ (bitsPerPixel b.format - (i + 1) * n) % 2 ^ n

/-- A palette entry of an I8 buffer: four 16-bit components (04 R110). -/
def paletteEntry (b : Buffer) (k : Nat) : List Nat := (List.range 4).map fun i => Memory.be b.mem (8 * k + 2 * i) 2

/-! ## Range (04 R115 step 4) -/

/-- The value V of a component of `n` bits, 1.0 for nominal white. -/
def expandRange (n : Nat) (full : Bool) (transfer code : Nat) : Rat :=
  if n = 16 && transfer = 0 then mkRat code 32768
  else if full then mkRat code (2 ^ n - 1)
  else mkRat (code - 16 * 2 ^ (n - 8) : Nat) (219 * 2 ^ (n - 8))

/-! ## 4:2:2 (04 R115 step 3) -/

/-- The luma weights of red and blue by colorimetry. -/
def lumaWeights (s : State) (colorimetry : Nat) : Rat × Rat :=
  match colorimetry with
  | 0 => (mkRat 2126 10000, mkRat 722 10000)
  | 1 | 2 => (mkRat 2627 10000, mkRat 593 10000)
  | _ => (mkRat (Config.lumaWeight s.freeCount 0) 65536, mkRat (Config.lumaWeight s.freeCount 1) 65536)

/-- A chroma difference of a code. -/
def chromaOf (full : Bool) (code : Nat) : Rat := mkRat ((code : Int) - 512) (if full then 1023 else 896)

/-- The chroma sample `k` (0 Cb, 1 Cr) of the pair that contains a column. -/
def pairChroma (b : Buffer) (k pair y : Nat) : Rat :=
  let last := (b.width - 1) / 2
  chromaOf b.fullRange ((components b (min (b.width - 1) (2 * min pair last + k)) y).getD 0 512)

/-- The chroma at a column: co-sited at even columns, the mean of the neighbours at odd ones. -/
def chromaAt (b : Buffer) (k x y : Nat) : Rat :=
  if x % 2 = 0 then pairChroma b k (x / 2) y
  else (pairChroma b k (x / 2) y + pairChroma b k (x / 2 + 1) y) / 2

/-- The non-linear RGB of a Y20 pixel. -/
def ycbcrPixel (s : State) (b : Buffer) (x y : Nat) : List Rat :=
  let w := lumaWeights s b.colorimetry
  let code := (components b x y).getD 1 0
  let lum := if b.fullRange then mkRat code 1023 else mkRat ((code : Int) - 64) 876
  let cb := chromaAt b 0 x y
  let cr := chromaAt b 1 x y
  let r := lum + 2 * (1 - w.1) * cr
  let bl := lum + 2 * (1 - w.2) * cb
  let g := (lum - w.1 * r - w.2 * bl) / (1 - w.1 - w.2)
  [r, g, bl].map fun v => if v < 0 then 0 else v

/-! ## Transfer functions (04 Table 4-5) -/

/-- ST 2084 to cd/m². -/
def pqDecode (v : Rat) : Rat :=
  let x := powQ v (mkRat 32 2523)
  let den := mkRat 2413 128 - mkRat 2392 128 * x
  if den ≤ 0 then 160000
  else
    let num := x - mkRat 3424 4096
    if num ≤ 0 then 0 else powQ (num / den) (mkRat 16384 2610) * 10000

/-- The BT.2100 inverse OETF of HLG, scene-linear. -/
def hlgInverse (v : Rat) : Rat :=
  let a : Rat := mkRat 17883277 100000000
  let b : Rat := 1 - 4 * a
  let c : Rat := mkRat 1 2 - a * fxQ (fxLn (fxOf (4 * a)))
  if v ≤ mkRat 1 2 then v * v / 3 else (fxQ (fxExp (fxOf ((v - c) / a))) + b) / 12

/-- The transfer function of a code applied to the three values of a pixel, in units of reference white. -/
def linearise (transfer reference : Nat) (vs : List Rat) : List Rat :=
  match transfer with
  | 0 => vs
  | 1 => vs.map fun v => powQ v (mkRat 12 5)
  | 2 => vs.map fun v => if v ≤ mkRat 4045 100000 then v / mkRat 1292 100 else powQ ((v + mkRat 55 1000) / mkRat 1055 1000) (mkRat 12 5)
  | 3 => vs.map fun v => pqDecode v / (reference : Nat)
  | _ =>
    let es := vs.map hlgInverse
    let ys := mkRat 2627 10000 * es.getD 0 0 + mkRat 6780 10000 * es.getD 1 0 + mkRat 593 10000 * es.getD 2 0
    es.map fun e => 1000 * powQ ys (mkRat 1 5) * e / (reference : Nat)

/-! ## Conversion to the working space (06 R152) -/

abbrev Mat3 := List (List Rat)

def Mat3.at (m : Mat3) (i j : Nat) : Rat := (m.getD i []).getD j 0
def mat3 (f : Nat → Nat → Rat) : Mat3 := (List.range 3).map fun i => (List.range 3).map (f i)
def Mat3.mul (a b : Mat3) : Mat3 := mat3 fun i j => a.at i 0 * b.at 0 j + a.at i 1 * b.at 1 j + a.at i 2 * b.at 2 j
def Mat3.apply (a : Mat3) (v : List Rat) : List Rat :=
  (List.range 3).map fun i => a.at i 0 * v.getD 0 0 + a.at i 1 * v.getD 1 0 + a.at i 2 * v.getD 2 0
/-- A cofactor's place in the cyclic form. -/
def Mat3.cof (a : Mat3) (i j : Nat) : Rat :=
  a.at ((i + 1) % 3) ((j + 1) % 3) * a.at ((i + 2) % 3) ((j + 2) % 3) - a.at ((i + 1) % 3) ((j + 2) % 3) * a.at ((i + 2) % 3) ((j + 1) % 3)
def Mat3.det (a : Mat3) : Rat := a.at 0 0 * a.cof 0 0 + a.at 0 1 * a.cof 0 1 + a.at 0 2 * a.cof 0 2
def Mat3.inv (a : Mat3) : Mat3 := mat3 fun i j => a.cof j i / a.det

/-- Chromaticities: x and y of red, green, blue and white. -/
abbrev Chroma := List (Rat × Rat)

def d65 : Rat × Rat := (mkRat 3127 10000, mkRat 3290 10000)
def chroma709 : Chroma := [(mkRat 64 100, mkRat 33 100), (mkRat 30 100, mkRat 60 100), (mkRat 15 100, mkRat 6 100), d65]
def chroma2020 : Chroma := [(mkRat 708 1000, mkRat 292 1000), (mkRat 170 1000, mkRat 797 1000), (mkRat 131 1000, mkRat 46 1000), d65]
def chromaP3 : Chroma := [(mkRat 680 1000, mkRat 320 1000), (mkRat 265 1000, mkRat 690 1000), (mkRat 150 1000, mkRat 60 1000), d65]

/-- The chromaticities of a working space block. -/
def spaceChroma (block : List Byte) : Chroma :=
  match getB block 0 with
  | 0 => chroma709
  | 1 => chroma2020
  | 2 => chromaP3
  | _ => (List.range 4).map fun i => (mkRat (be block (4 + 4 * i) 2) 65536, mkRat (be block (6 + 4 * i) 2) 65536)

/-- The chromaticities of a source colorimetry; BT.2100 has the primaries of BT.2020. -/
def sourceChroma (colorimetry : Nat) : Chroma := if colorimetry = 0 then chroma709 else chroma2020

/-- The U0.16 codes of chromaticities. -/
def chromaCodes (c : Chroma) : List Int := c.flatMap fun p => [roundQ (p.1 * 65536), roundQ (p.2 * 65536)]

def xyzOf (p : Rat × Rat) : List Rat := [p.1 / p.2, 1, (1 - p.1 - p.2) / p.2]

/-- The primaries' matrix, and the RGB-to-XYZ matrix scaled to the white. -/
def primaries (c : Chroma) : Mat3 := mat3 fun i j => (xyzOf (c.getD j (0, 1))).getD i 0
def rgbToXyz (c : Chroma) : Mat3 :=
  let w := (primaries c).inv.apply (xyzOf (c.getD 3 (0, 1)))
  mat3 fun i j => (primaries c).at i j * w.getD j 0

def bradford : Mat3 :=
  [[mkRat 8951 10000, mkRat 2664 10000, mkRat (-1614) 10000], [mkRat (-7502) 10000, mkRat 17135 10000, mkRat 367 10000],
   [mkRat 389 10000, mkRat (-685) 10000, mkRat 10296 10000]]

/-- The Bradford adaptation from one white to another. -/
def adapt (src dst : Rat × Rat) : Mat3 :=
  let a := bradford.apply (xyzOf src)
  let b := bradford.apply (xyzOf dst)
  bradford.inv.mul ((mat3 fun i j => if i = j then b.getD i 0 / a.getD i 1 else 0).mul bradford)

/-- Whether the derivation gives a matrix for a working space: its chromaticities do not lie on one line. -/
def spaceRegular (c : Chroma) : Bool :=
  (c.all fun p => p.2 != 0) && (primaries c).det != 0 && (((primaries c).inv.apply (xyzOf (c.getD 3 (0, 1)))).all fun v => v != 0)

/-- The conversion matrix of a colorimetry in S2.13 codes, none for the identity (06 R152). -/
def conversion (s : State) (colorimetry : Nat) : Option (List (List Int)) :=
  let ws := spaceChroma s.almanac.space
  let src := sourceChroma colorimetry
  if colorimetry = 3 || chromaCodes src == chromaCodes ws then none
  else if !spaceRegular ws then
    some ((List.range 3).map fun i => (List.range 3).map fun j => clampI (-32768) 32767 (Config.conversionCode s.freeCount i j))
  else
    let white := ws.getD 3 d65
    let m := rgbToXyz src
    let m1 := if chromaCodes [white] == chromaCodes [d65] then m else (adapt d65 white).mul m
    let m2 := (rgbToXyz ws).inv.mul m1
    some ((List.range 3).map fun i => (List.range 3).map fun j => clampI (-32768) 32767 (roundQ (m2.at i j * 8192)))

/-- The reference white of the working space in cd/m². -/
def referenceWhite (s : State) : Nat := max 1 (be s.almanac.space 2 2)

/-- Step 6 of 04 R115 on the U4.19 values of a pixel. -/
def convertPixel (m : Option (List (List Int))) (v : List Int) : List Nat :=
  match m with
  | none => v.map fun c => (clampI 0 u119Top c).toNat
  | some k => (List.range 3).map fun i =>
      let row := k.getD i []
      (clampI 0 u119Top (roundDiv (row.getD 0 0 * v.getD 0 0 + row.getD 1 0 * v.getD 1 0 + row.getD 2 0 * v.getD 2 0) 8192)).toNat

/-! ## One pixel (04 R115 to R117) -/

/-- A decoded pixel: colour in U1.19 and αp. -/
structure Decoded where
  colour : List Nat
  alpha : Rat
deriving DecidableEq, Repr, Inhabited

/-- The values V and αp of a pixel after steps 1 to 4. -/
def pixelValues (s : State) (b : Buffer) (x y : Nat) : List Rat × Rat :=
  let expand (n : Nat) (cs : List Nat) : List Rat := (cs.take 3).map (expandRange n b.fullRange b.transfer)
  match b.format with
  | 10 =>
    let e := paletteEntry b ((components b x y).getD 0 0)
    (expand 16 e, mkRat (e.getD 3 0) 65535)
  | 11 => (ycbcrPixel s b x y, 1)
  | f =>
    let cs := components b x y
    let n := componentBits f
    (expand n cs, if componentCount f = 4 then mkRat (cs.getD 3 0) (2 ^ n - 1) else 1)

/-- Steps 5 and 6 on values; with colorimetry 3 and transfer 0 they are bypassed. The values of a premultiplied format are multiplied by
αp again before the one rounding to U4.19 (DESIGN CHOICE: R117 does not place R115's rounding; notes/assumptions/38.md). -/
def finishDecode (s : State) (b : Buffer) (vs : List Rat) (alpha : Rat) : List Nat :=
  let prem := premultiplied b.format
  if prem && alpha = 0 then [0, 0, 0]
  else if b.colorimetry = 3 && b.transfer = 0 then vs.map fun v => (clampI 0 u119Top (roundQ (v * 524288))).toNat
  else
    let lin := if b.transfer = 0 then vs
      else if prem then (linearise b.transfer (referenceWhite s) (vs.map fun v => v / alpha)).map fun v => v * alpha
      else linearise b.transfer (referenceWhite s) vs
    convertPixel (conversion s b.colorimetry) (lin.map fun v => clampI 0 u419Top (roundQ (v * 524288)))

/-- A pixel of a buffer decoded to linear light; A8 takes the layer's colour. -/
def decodePixel (s : State) (layerColour : List Nat) (b : Buffer) (x y : Nat) : Decoded :=
  if b.format = 9 then ⟨layerColour.map (16 * ·), mkRat ((components b x y).getD 0 0) 255⟩
  else
    let v := pixelValues s b x y
    ⟨finishDecode s b v.1 v.2, v.2⟩

end Sys2Proof.Machine
end

