-- ==== Sys2Proof/Machine/Scale.lean ====
section
/-! DEFINITION. The polyphase scalers (05): coefficient sets, the phase accumulator, the filter of one output pixel, and the
unit of SCALER_COEFF_LOAD with SCALER_STATUS. -/

namespace Sys2Proof.Machine

/-! ## Coefficient sets (05 R141 to R144) -/

/-- Cubic convolution with a = −0.5 at a distance. -/
def cubicKernel (d : Rat) : Rat :=
  let x := if d < 0 then -d else d
  if x ≤ 1 then mkRat 3 2 * x * x * x - mkRat 5 2 * x * x + 1
  else if x < 2 then -(mkRat 1 2) * x * x * x + mkRat 5 2 * x * x - 4 * x + 2
  else 0

/-- Lanczos with a = 4 at a distance: sinc(d) × sinc(d ÷ 4). -/
def lanczosKernel (d : Rat) : Rat :=
  if d = 0 then 1
  else if d ≤ -4 || 4 ≤ d then 0
  else fxQ (sinPi d) * fxQ (sinPi (d / 4)) * 4 / (d * d) / (fxQ fxPi * fxQ fxPi)

/-- Linear interpolation at a distance. -/
def linearKernel (d : Rat) : Rat :=
  let x := if d < 0 then -d else d
  if x < 1 then 1 - x else 0

/-- The position of the coefficient of largest magnitude, the first of equals. -/
def largestAt (l : List Int) : Nat := l.zipIdx.foldl (fun b (v, i) => if (l.getD b 0).natAbs < v.natAbs then i else b) 0

/-- A phase of a built-in set (05 R143): rounded weights, with a sum other than 256 made good in the largest. -/
def builtinPhase (kernel : Rat → Rat) (taps p : Nat) : List Int :=
  let raw := (List.range taps).map fun (k : Nat) =>
    roundQ (kernel ((((k : Int) - ((taps - 1) / 2 : Nat) : Int) : Rat) - mkRat p 64) * 256)
  let off := 256 - raw.foldl (· + ·) 0
  modAt raw (largestAt raw) (· + off) ++ List.replicate (8 - taps) 0

/-- A built-in set (05 Table 5-1). -/
def builtinSet (k : Nat) : CoeffSet :=
  let kernel := match k with | 0 => cubicKernel | 1 => lanczosKernel | _ => linearKernel
  let taps := match k with | 0 => 4 | 1 => 8 | _ => 2
  let table := (List.range 64).map (builtinPhase kernel taps)
  { hTaps := taps, vTaps := taps, edge := 0, name := zeros 16, h := table, v := table, source := k + 1 }

/-- The set in a bank. -/
def bankSet (c : Option CoeffSet) : CoeffSet := c.getD (builtinSet 0)

/-- A table of a coefficient file. -/
def tableOf (bs : List Byte) : List (List Int) :=
  (List.range 64).map fun p => (List.range 8).map fun k => signed 16 (be bs (16 * p + 2 * k) 2)

/-- The set of a coefficient file (05 Table 5-2). -/
def fileSet (f : List Byte) : CoeffSet :=
  { hTaps := getB f 5, vTaps := getB f 6, edge := getB f 7, name := slice f 16 16, h := tableOf (slice f 32 1024), v := tableOf (slice f 1056 1024), source := 0 }

/-- The rule of 05 R141 on a table: S1.8 codes that sum to 256 within the taps and are 0 past them. -/
def tableOk (taps : Nat) (t : List (List Int)) : Bool :=
  t.all fun p => (p.take taps).foldl (· + ·) 0 == 256 && ((p.drop taps).all (· == 0)) && p.all fun c => decide (-512 ≤ c) && decide (c ≤ 511)

/-- The staging status of a coefficient file (05 R144). -/
def coeffFileStatus (f : List Byte) : Nat :=
  if crc32 (f.take 2080) != be f 2080 4 then St.checkFail
  else need (be f 0 4 = 0xC7A15C0F && getB f 4 = 1 && 2 ≤ getB f 5 && getB f 5 ≤ 8 && 2 ≤ getB f 6 && getB f 6 ≤ 8 &&
    getB f 7 ≤ 1 && getB f 8 = 64 && be f 9 7 = 0 && tableOk (getB f 5) (tableOf (slice f 32 1024)) &&
    tableOk (getB f 6) (tableOf (slice f 1056 1024)))

/-- A set in the file form of Table 5-2, offsets 0 to 2,079. -/
def setBytes (c : CoeffSet) : List Byte :=
  let table (t : List (List Int)) : List Byte := t.flatMap fun p => p.flatMap (sbe 2)
  u32 0xC7A15C0F ++ u8 1 ++ u8 c.hTaps ++ u8 c.vTaps ++ u8 c.edge ++ u8 64 ++ zeros 7 ++ padTo 16 c.name ++ table c.h ++ table c.v

/-! ## The phase accumulator (05 R138, R139) -/

/-- The integer part and the phase of output `j` on an axis. -/
def phaseAt (src dst j : Nat) : Int × Nat :=
  let step : Int := roundDivN (src * 268435456) dst
  let p := roundDiv (step - 268435456) 2 + (j : Int) * step
  let i := p / 268435456
  let ph := ((p % 268435456 + 2097152) / 4194304).toNat
  if ph = 64 then (i + 1, 0) else (i, ph)

/-- The taps of a phase as source positions with coefficients. -/
def tapsOf (table : List (List Int)) (taps : Nat) (x : Int × Nat) : List (Int × Int) :=
  (List.range taps).map fun (k : Nat) => (x.1 - ((taps - 1) / 2 : Nat) + (k : Int), (table.getD x.2 []).getD k 0)

/-- The bank's vertical taps folded onto the kept window of `n` (05 R147): a coefficient outside it is added to the kept
tap nearest it. -/
def foldTaps (n : Nat) (i : Int) (ts : List (Int × Int)) : List (Int × Int) :=
  let lo := i - ((n - 1) / 2 : Nat)
  (List.range n).map fun (k : Nat) =>
    let pos := lo + (k : Int)
    (pos, (ts.filter fun t => clampI lo (lo + n - 1) t.1 == pos).foldl (fun a t => a + t.2) 0)

/-! ## One output pixel (05 R135, R136, R140) -/

/-- A layer's scaled pixel: filtered premultiplied colour in U1.19 and alpha in U1.15. -/
structure Scaled where
  colour : List Nat
  alpha : Nat
deriving DecidableEq, Repr, Inhabited

/-- The buffer position of a tap on an axis: replicated inside the rectangle in edge mode 0, the buffer's own pixel in edge
mode 1. -/
def tapPlace (edge start size bufSize : Nat) (pos : Int) : Nat :=
  if edge = 0 then start + (clampI 0 ((size : Int) - 1) pos).toNat
  else (clampI 0 ((bufSize : Int) - 1) ((start : Int) + pos)).toNat

/-- What the filter reads of a decoded pixel: colour multiplied by αp for a straight format, and alpha, in units of
2^-19. -/
def filterInput (f : Nat) (d : Decoded) : List Rat :=
  let k : Rat := if premultiplied f then 1 else d.alpha
  d.colour.map (fun (c : Nat) => (c : Rat) * k) ++ [d.alpha * 524288]

/-- One of the filter's two sums, divided by 256 and rounded. -/
def filterSum (xs : List (Rat × Int)) : Int := roundQ ((xs.foldl (fun a x => a + x.1 * (x.2 : Rat)) 0) / 256)

/-- The filter on reads of decoded pixels: vertical sums in S2.19, then horizontal ones. -/
def filterPixel (f : Nat) (read : Nat → Nat → Decoded) (vs hs : List (Nat × Int)) : Scaled :=
  let line (x : Nat) : List Rat :=
    let ins := vs.map fun v => (filterInput f (read x v.1), v.2)
    (List.range 4).map fun k => (clampI (-2097152) 2097151 (filterSum (ins.map fun i => (i.1.getD k 0, i.2))) : Int)
  let cols := hs.map fun h => (line h.1, h.2)
  let total (k : Nat) : Rat := (cols.foldl (fun a c => a + c.1.getD k 0 * (c.2 : Rat)) 0) / 256
  ⟨(List.range 3).map fun k => (clampI 0 u119Top (roundQ (total k))).toNat, (clampI 0 32768 (roundQ (total 3 / 16))).toNat⟩

/-- The row of a layer's buffer that is read: an incomplete one from the buffer of the previous latch (04 R113). -/
def rowBuffer (s : State) (run : LayerRun) (b : Buffer) (y : Nat) : Buffer :=
  if b.incomplete.contains y then (run.previous.bind (findBuf s)).getD b else b

/-- Whether a word that DRAM has lost holds a part of a pixel. -/
def Buffer.lostPixel (b : Buffer) (x y : Nat) : Bool :=
  let at_ := rowBase b.format + y * pitchOf b.format b.width + x * bitsPerPixel b.format / 8
  let end_ := rowBase b.format + y * pitchOf b.format b.width + ((x + 1) * bitsPerPixel b.format + 7) / 8
  b.bad.any fun w => at_ < w + 8 && w < end_

/-- A decoded pixel of a layer's selected buffer; where DRAM has lost it, it is transparent (01 Table 1-5). -/
def layerRead (s : State) (l : Layer) (run : LayerRun) (b : Buffer) (x y : Nat) : Decoded :=
  if (rowBuffer s run b y).lostPixel x y then ⟨[0, 0, 0], 0⟩ else decodePixel s l.colour (rowBuffer s run b y) x y

/-- The scaled pixel at an output position of a layer. -/
def scaledPixel (s : State) (l : Layer) (run : LayerRun) (c : CoeffSet) (b : Buffer) (jx jy : Nat) : Scaled :=
  let v := phaseAt l.srcH l.dstH jy
  let h := phaseAt l.srcW l.dstW jx
  let n := min run.vtaps c.vTaps
  let vs := (foldTaps n v.1 (tapsOf c.v c.vTaps v)).map fun t => (tapPlace c.edge l.srcY l.srcH b.height t.1, t.2)
  let hs := (tapsOf c.h c.hTaps h).map fun t => (tapPlace c.edge l.srcX l.srcW b.width t.1, t.2)
  filterPixel b.format (layerRead s l run b) vs hs

/-! ## SCALER_COEFF_LOAD (05 R142 to R145) -/

/-- The set that a SCALER_COEFF_LOAD carries. -/
def coeffSetOf (ps : List Byte) : CoeffSet := if getB ps 2 = 0 then fileSet (ps.drop 4) else builtinSet (getB ps 2 - 1)

/-- The scalers of a mask. -/
def scalersOf (mask : Nat) : List Nat := (List.range 4).filter mask.testBit

/-- The staging status of a scaler's load: its file, and the layers on it with the new set; the layers `mine` of the same operation
are judged by their own units (05 R144 to R146). -/
def coeffStatus (ps : List Byte) (mine : List Nat) (k : Nat) (s : State) : Nat :=
  let st := if getB ps 2 = 0 then coeffFileStatus (ps.drop 4) else St.ok
  if st != St.ok then st
  else
    let served := servedBy s.layers.layer (scalerInUse s s.layers.layer) k
    lineStatus s s.layers.layer (some (coeffSetOf ps)) served mine (served.filter fun i => !mine.contains i)

/-- A loaded set becomes active; the other bank keeps its set (05 R142). -/
def applyCoeffs (ps : List Byte) (k : Nat) (s : State) : State :=
  let c := coeffSetOf ps
  let load (x : ScalerState) : ScalerState := if x.activeB then { x with bankA := some c, activeB := false } else { x with bankB := some c, activeB := true }
  { s with layers.scaler := modAt s.layers.scaler k load }

/-- SCALER_COEFF_LOAD. -/
def scalerCoeffLoadSpec : OpSpec where
  code := 0x0300
  sched := true
  apply := true
  domains := fun _ _ => [.pixel]
  check := fun r _ => firstFail [lenIs (if prm r 2 1 = 0 then 2088 else 4) r,
    need (prm r 1 1 ≤ 15 && prm r 2 1 ≤ 3)]
  units := fun r s => (scalersOf (prm r 1 1)).map fun k => (⟨.scaler, k⟩, coeffStatus r.params [] k s)

def execScalerCoeffLoad (r : Req) (s : State) : Host.Outcome State Fault Refusal := .next (runPacket (period s) scalerCoeffLoadSpec r s)

/-! ## SCALER_STATUS (05 R150) -/

/-- A scaler's record (05 Table 5-4). -/
def scalerBytes (s : State) (k : Nat) : List Byte :=
  let x := s.layers.scaler.getD k {}
  let c := bankSet x.active
  let served := servedBy s.layers.layer (scalerInUse s s.layers.layer) k
  let who (i : Nat) : Nat := served.getD i 0xFF
  let taps (i : Nat) : Nat := if i < served.length then min (s.layers.run.getD (who i) {}).vtaps c.vTaps else 0
  let heldLoad := s.cmd.held.any fun h => h.unit.ref == ⟨.scaler, k⟩
  u8 k ++ u8 (128 * b2n x.unusable + 64 * b2n heldLoad + 32 * b2n x.activeB) ++ u8 c.source ++ u8 c.edge ++ u8 c.hTaps ++
    u8 c.vTaps ++ u8 (who 0) ++ u8 (taps 0) ++ u8 (who 1) ++ u8 (taps 1) ++ u16 (capacityOf served.length) ++ u32 (crc32 (setBytes c))

/-- SCALER_STATUS. -/
def scalerStatusSpec : OpSpec where
  code := 0x0301
  domains := fun _ _ => [.pixel]
  check := fun r _ => firstFail [lenIs 4 r, need (prm r 0 1 ≤ 3 || prm r 0 1 = 0xFF)]
  run := fun r s => (s, .done St.ok ((if prm r 0 1 = 0xFF then List.range 4 else [prm r 0 1]).flatMap (scalerBytes s)))

def execScalerStatus (r : Req) (s : State) : Host.Outcome State Fault Refusal := .next (runPacket (period s) scalerStatusSpec r s)

end Sys2Proof.Machine
end

