-- ==== Sys2Proof/Machine/Layers.lean ====
section
/-! DEFINITION. The opcodes of layer buffers and layers (04): BUFFER_ALLOC to BUFFER_STATUS, LAYER_SET, LAYER_CLEAR,
BACKGROUND_SET, WRITEBACK, and the end of a slide fill. -/

namespace Sys2Proof.Machine

/-- A buffer of an operation that becomes READY; a STORED one not filled from its slide goes to the flash store (04 R106). -/
def finishFill (h : Nat) (s : State) : State :=
  let s1 := readyBuf h s
  match findBuf s h with
  | some b =>
    if b.stored && !b.fromSlide then
      enqueueFlash { type := 7, key := b.slide, data := b.contents, use := .slide h, op := none } s1
    else s1
  | none => s1

/-! ## BUFFER_ALLOC (04 R105, 17 R388) -/

/-- Whether the slide that a descriptor asks for exists. -/
def slideThere (ps : List Byte) (s : State) : Bool := !bitN (getB ps 1) 6 || (objectData s 7 (getB ps 8)).isSome

/-- BUSY where no handle, too few granules, or too few blocks of the slide pool are free. -/
def allocBusy (ps : List Byte) (s : State) : Bool :=
  let b := bufferOf ps 0
  255 ≤ s.layers.buffers.length || (freeGranules s).length < granulesOf b.format b.width b.height ||
    (b.stored && slideRoom s b.slide < blocksFor (dataSize b.format b.width b.height))

/-- A new buffer under the lowest free handle, in the lowest free granules (notes/assumptions/23.md). -/
def newBuffer (ps : List Byte) (s : State) : Buffer :=
  let b := bufferOf ps (freeHandle s)
  { b with places := (freeGranules s).take (granulesOf b.format b.width b.height) }

/-- The results of an allocation. -/
def allocBytes (b : Buffer) : List Byte := u16 b.handle ++ u16 (granulesOf b.format b.width b.height)

def bufferAllocSpec : OpSpec where
  code := 0x0202
  long := fun r => bitN (prm r 1 1) 6
  domains := fun _ _ => [.mem]
  check := fun r s => firstFail [lenIs 12 r, need (bufferFieldsOk r.params && slideThere r.params s)]
  run := fun r s =>
    if allocBusy r.params s then (s, .done St.busy [])
    else
      let b := newBuffer r.params s
      if b.fromSlide then
        ({ s with layers.buffers := s.layers.buffers ++ [{ b with state := .filling, filler := .slide, opSrc := r.src, opTag := r.tag }] }, .accepted)
      else ({ s with layers.buffers := s.layers.buffers ++ [b] }, .done St.ok (allocBytes b))

def execBufferAlloc (r : Req) (s : State) : Host.Outcome State Fault Refusal := .next (runPacket (period s) bufferAllocSpec r s)

/-- The first buffer that fills from its slide. -/
def slideFill (s : State) : Option Buffer :=
  if s.fw.running && domainOn s .mem then s.layers.buffers.find? fun b => b.filler == .slide && b.state == .filling else none

/-- The slide has been read: the buffer is READY, or FREE where the copy fails its CRC-32 (04 R105, 17 R388). A slide longer than the
buffer's data is cut and a shorter one leaves zeros (DESIGN CHOICE, notes/assumptions/38.md). -/
def finishSlide (b : Buffer) (s : State) : State :=
  match objectData s 7 b.slide with
  | some d => completeOp b.opSrc b.opTag St.ok (allocBytes b)
      (readyBuf b.handle (modBuf b.handle (fun x => { x with mem := Memory.write [] 0 (d.take (dataSize b.format b.width b.height)) }) s))
  | none => completeOp b.opSrc b.opTag St.checkFail [] (freeBuf b.handle s)

/-- SLIDE_FILL_COMPLETE. -/
def execSlideFillComplete (s : State) : Host.Outcome State Fault Refusal :=
  .next (match slideFill s with | some b => finishSlide b s | none => s)

/-! ## BUFFER_RELEASE (04 R109) -/

def bufferReleaseSpec : OpSpec where
  code := 0x0203
  domains := fun _ _ => [.mem]
  check := fun r s => firstFail [lenIs 4 r, need (findBuf s (prm r 0 2)).isSome]
  run := fun r s =>
    let x := releaseBuf (prm r 0 2) s
    (x.1, .done x.2 [])

def execBufferRelease (r : Req) (s : State) : Host.Outcome State Fault Refusal := .next (runPacket (period s) bufferReleaseSpec r s)

/-! ## BUFFER_WRITE (04 R110) -/

/-- Whether a buffer may be named by a BUFFER_WRITE. -/
def writable (s : State) (b : Buffer) : Bool :=
  (b.state == .free || b.state == .ready) && !b.releasePending && !namedCommitted s b.handle && !inRing s b.handle

def bufferWriteSpec : OpSpec where
  code := 0x0204
  long := fun _ => true
  domains := fun _ _ => [.mem]
  check := fun r s => firstFail [lenIs 20 r, need (r.src != .host && (findBuf s (prm r 0 2)).isSome),
    (match findBuf s (prm r 0 2) with
      | some b => if prm r 8 4 = 0 || b.size < prm r 4 4 + prm r 8 4 || prm r 12 4 != blockCount (prm r 8 4) then St.badLength else St.ok
      | none => St.ok)]
  run := fun r s =>
    match findBuf s (prm r 0 2) with
    | some b =>
      if writable s b then
        (awaitBulk r (prm r 8 4) (modBuf b.handle (fun x => { x with state := .filling, filler := .bulkWrite, incomplete := [], opSrc := r.src, opTag := r.tag }) s), .accepted)
      else (s, .done St.busy [])
    | none => (s, .done St.badParam [])

/-- A bulk block of a BUFFER_WRITE reaches its buffer, or counts as a stray write (04 R108, R110). -/
def bufferBlock (o : LongOp) (k : Nat) (data : List Byte) (s : State) : State :=
  let h := prm o.req 0 2
  match findBuf s h with
  | some b =>
    if b.state == .filling then modBuf h (fun x => { x with mem := Memory.write x.mem (prm o.req 4 4 + 8192 * k) data }) s
    else modBuf h (fun x => { x with stray := inc32 x.stray }) s
  | none => s

/-- The last block of a BUFFER_WRITE has arrived: READY, or FREE with CHECK_FAIL (04 R110). -/
def bufferReceived (o : LongOp) (data : List Byte) (s : State) : State :=
  let h := prm o.req 0 2
  if crc32 data = prm o.req 16 4 then completeOp o.req.src o.req.tag St.ok [] (finishFill h s)
  else completeOp o.req.src o.req.tag St.checkFail [] (freeBuf h s)

def execBufferWrite (r : Req) (s : State) : Host.Outcome State Fault Refusal := .next (runPacket (period s) bufferWriteSpec r s)

/-! ## BUFFER_STATUS (04 R131) -/

/-- The records of a BUFFER_STATUS, and with READ the contents of a READY or ON_SCREEN buffer. -/
def bufferStatusBytes (r : Req) (s : State) : List Byte :=
  if prm r 0 2 = 0 then (s.layers.buffers.mergeSort fun a b => a.handle ≤ b.handle).flatMap (bufBytes s)
  else match findBuf s (prm r 0 2) with
    | some b => bufBytes s b ++ (if bitN (prm r 2 1) 7 && (b.state == .ready || b.state == .onScreen) then b.contents else [])
    | none => []

def bufferStatusSpec : OpSpec where
  code := 0x0209
  domains := fun _ _ => [.mem]
  check := fun r s => firstFail [lenIs 4 r, need (prm r 0 2 ≤ 255 && field (prm r 2 1) 6 0 = 0 &&
    (prm r 0 2 = 0 || (findBuf s (prm r 0 2)).isSome))]
  run := fun r s => (s, .done St.ok (bufferStatusBytes r s))

def execBufferStatus (r : Req) (s : State) : Host.Outcome State Fault Refusal := .next (runPacket (period s) bufferStatusSpec r s)

/-! ## LAYER_SET, LAYER_CLEAR, BACKGROUND_SET (04 R118 to R120) -/

def layerSetSpec : OpSpec where
  code := 0x0205
  sched := true
  apply := true
  domains := fun _ _ => [.pixel]
  check := fun r _ => firstFail [lenIs (4 + 36 * prm r 1 1) r,
    need (1 ≤ prm r 1 1 && prm r 1 1 ≤ 8 && (layerDescs r.params).length = prm r 1 1)]
  units := fun r s => (layerDescs r.params).map fun (k, d) => (⟨.layer, k⟩, layerStatus s r.params ((layerDescs r.params).map (·.1)) k d)

def execLayerSet (r : Req) (s : State) : Host.Outcome State Fault Refusal := .next (runPacket (period s) layerSetSpec r s)

def layerClearSpec : OpSpec where
  code := 0x0206
  sched := true
  apply := true
  domains := fun _ _ => [.pixel]
  check := fun r _ => lenIs 4 r
  units := fun r _ => ((List.range 8).filter (prm r 1 1).testBit).map fun k => (⟨.layer, k⟩, St.ok)

def execLayerClear (r : Req) (s : State) : Host.Outcome State Fault Refusal := .next (runPacket (period s) layerClearSpec r s)

/-- A view's background commits. -/
def applyBackground (ps : List Byte) (v : Nat) (s : State) : State :=
  { s with layers.background := setAt s.layers.background v [be ps 3 2, be ps 5 2, be ps 7 2] }

def backgroundSetSpec : OpSpec where
  code := 0x0207
  sched := true
  apply := true
  domains := fun _ _ => [.pixel]
  check := fun r _ => firstFail [lenIs 9 r, need (prm r 1 1 ≤ 15)]
  units := fun r _ => ((List.range 4).filter (prm r 1 1).testBit).map fun v => (⟨.background, v⟩, St.ok)

def execBackgroundSet (r : Req) (s : State) : Host.Outcome State Fault Refusal := .next (runPacket (period s) backgroundSetSpec r s)

/-! ## WRITEBACK (04 R126) -/

/-- BAD_PARAM unless the target fits; BUSY unless it is FREE (04 R126). A target whose release is pending, and a view that the running
program does not show (`writebackSpec`), are refused with BAD_PARAM (DESIGN CHOICE, notes/assumptions/38.md). -/
def writebackStatus (r : Req) (s : State) : Nat :=
  match findBuf s (prm r 2 2) with
  | none => St.badParam
  | some b =>
    if inRing s b.handle || b.releasePending || !(b.format == 6 || b.format == 7) || b.colorimetry != 3 || b.transfer != 0 ||
      b.width != prm r 8 2 || b.height != prm r 10 2 then St.badParam
    else if b.state == .free then St.ok else St.busy

def writebackSpec : OpSpec where
  code := 0x0208
  sched := true
  long := fun _ => true
  domains := fun _ _ => [.pixel]
  check := fun r s => firstFail [lenIs 16 r, need (prm r 0 1 ≤ 3 && prm r 1 1 ≤ 1 && 1 ≤ prm r 8 2 && 1 ≤ prm r 10 2 &&
    prm r 4 2 + prm r 8 2 ≤ s.chain.width && prm r 6 2 + prm r 10 2 ≤ s.chain.height &&
    (runningProgram s).views.contains (prm r 0 1) && writebackStatus r s != St.badParam)]
  run := fun r s =>
    match writebackStatus r s with
    | 0 =>
      let w : Writeback := { src := r.src, tag := r.tag, view := prm r 0 1, tap := prm r 1 1, handle := prm r 2 2, x := prm r 4 2, y := prm r 6 2, width := prm r 8 2, height := prm r 10 2, frame := none }
      (modBuf (prm r 2 2) (fun b => { b with state := .filling, filler := .writeback, opSrc := r.src, opTag := r.tag })
        { s with layers.writeback := s.layers.writeback ++ [w] }, .accepted)
    | st => (s, .done st [])

def execWriteback (r : Req) (s : State) : Host.Outcome State Fault Refusal := .next (runPacket (period s) writebackSpec r s)

/-- A write-back ends without its data (04 R127): the buffer is FREE and the operation ends with BUSY. -/
def abandonWriteback (w : Writeback) (s : State) : State :=
  completeOp w.src w.tag St.busy [] (freeBuf w.handle { s with layers.writeback := s.layers.writeback.filter fun x => x != w })

end Sys2Proof.Machine
end

