-- ==== Sys2Proof/Machine/Compose.lean ====
section
/-! DEFINITION. The pixel engine from stage 2 on (04 R121 to R126; 08 R212, R213; 06 R168, R176, R177): blending, the
complement, colour correction and quantisation, and COMPOSITE_COMPLETE. -/

namespace Sys2Proof.Machine

/-! ## Stage 2 (04 R121, R122) -/

/-- What a layer brings to a pixel: its colour, whether the premultiplied equation applies, αL, and the effective α. -/
structure Blend where
  colour : List Nat
  prem : Bool
  layerAlpha : Nat
  alpha : Nat
deriving DecidableEq, Repr, Inhabited

/-- One channel blended. -/
def blendChannel (b : Blend) (cs cd : Nat) : Nat :=
  let part := roundDivN (cs * (if b.prem then b.layerAlpha else b.alpha)) 32768
  satN 1048575 (part + roundDivN (cd * (32768 - b.alpha)) 32768)

/-- A pixel blended onto what lies below. -/
def blendPixel (b : Blend) (cd : List Nat) : List Nat := (b.colour.zip cd).map fun (cs, c) => blendChannel b cs c

/-- Whether a layer covers a raster pixel. -/
def Layer.covers (l : Layer) (x y : Nat) : Bool :=
  decide (l.dstX ≤ (x : Int)) && decide ((x : Int) < l.dstX + l.dstW) && decide (l.dstY ≤ (y : Int)) && decide ((y : Int) < l.dstY + l.dstH)

/-- The scaler that a latched layer uses, none for an unscaled one. -/
def Layer.scalerOf (l : Layer) (r : LayerRun) : Option Nat := if l.scaler = 0xFF then none else some (r.movedTo.getD l.scaler)

/-- What a layer of a latched configuration brings to a pixel, none where it composes as transparent. -/
def layerBlend (s : State) (l : Layer) (r : LayerRun) (x y : Nat) : Option Blend :=
  match r.selected.bind (findBuf s) with
  | none => none
  | some b =>
    if r.transparent || r.noScaler then none
    else
      let jx := ((x : Int) - l.dstX).toNat
      let jy := ((y : Int) - l.dstY).toNat
      match l.scalerOf r with
      | none =>
        let d := layerRead s l r b (l.srcX + jx) (l.srcY + jy)
        some ⟨d.colour, premultiplied b.format, l.alpha, (roundQ (d.alpha * (l.alpha : Nat))).toNat⟩
      | some k =>
        let p := scaledPixel s l r (bankSet (s.layers.scaler.getD k {}).active) b jx jy
        let a := roundDivN (p.alpha * l.alpha) 32768
        if b.format = 9 then some ⟨l.colour.map (16 * ·), false, l.alpha, a⟩ else some ⟨p.colour, true, l.alpha, a⟩

/-- The layers of a latched configuration that appear in a view, bottom first. -/
def viewLayers (c : Latched) (v : Nat) : List (Layer × LayerRun) :=
  let on := (c.layers.zip c.runs).filter fun x => x.1.enable && !x.2.shed && x.1.views.testBit v
  on.mergeSort fun a b => a.1.z ≤ b.1.z

/-- The stage-2 composite of a view at a pixel, in U1.19. -/
def compositePixel (s : State) (c : Latched) (v x y : Nat) : List Nat :=
  let start := (c.background.getD v [0, 0, 0]).map (16 * ·)
  (viewLayers c v).foldl (fun cd x' =>
    if x'.1.covers x y then (match layerBlend s x'.1 x'.2 x y with | some b => blendPixel b cd | none => cd) else cd) start

/-- The raster pixels in row-major order. -/
def rasterPixels (s : State) : List (Nat × Nat) :=
  (List.range s.chain.height).flatMap fun y => (List.range s.chain.width).map fun x => (x, y)

/-- The stage-2 composite of a view. -/
def compositeView (s : State) (c : Latched) (v : Nat) : List (List Nat) :=
  (rasterPixels s).map fun p => compositePixel s c v p.1 p.2

/-! ## Stage 3 (08 R212, R213) -/

/-- The composite of a camera view as the complement of a frame takes it: black when blanked, the frozen image when frozen. -/
def cameraComposite (s : State) (f : Nat) (made : List (Nat × List (List Nat))) (v : Nat) : List (List Nat) :=
  if blankNow s v then []
  else if frozenFor s f v then ((s.pres.presented.getD v none).map (·.composite)).getD []
  else ((made.find? fun x => x.1 == v).map (·.2)).getD []

/-- One channel of the complement: I_h after its clamp, the error e, and whether the clamp acted. -/
structure Complement where
  value : Nat
  error : Rat
  clamped : Bool
deriving DecidableEq, Repr, Inhabited

/-- The complement of a channel with value H, given the cameras' values with their lit times. -/
def complementChannel (total house : Rat) (ceiling : Nat) (h : Nat) (cams : List (Rat × Nat)) : Complement :=
  let want := (h : Rat) * total - cams.foldl (fun a c => a + c.1 * (c.2 : Rat)) 0
  let raw := if house = 0 then 0 else want / house
  let top : Int := 16 * (ceiling : Nat)
  let v := clampI 0 (min top u119Top) (roundQ raw)
  let e := want - house * (v : Rat)
  ⟨v.toNat, (if e < 0 then -e else e) / total / 524288, decide (raw < 0) || decide ((top : Rat) < raw)⟩

/-- The complement image of a frame's program. -/
def complementView (s : State) (f : Nat) (g : Program) (made : List (Nat × List (List Nat))) (h : List (List Nat)) : List (List Complement) :=
  let cams := (g.views.filter (· != 0)).map fun v => (g.litTime v, cameraComposite s f made v)
  h.zipIdx.map fun (px, i) => px.zipIdx.map fun (v, k) =>
    complementChannel g.litTotal (g.litTime 0) g.ceiling v (cams.map fun c => (c.1, (c.2.getD i []).getD k 0))

/-! ## Stages 4 to 6 (06 R168, R176, R177) -/

/-- bitrev4 and the dither matrix (06 R176). -/
def bitrev4 (n : Nat) : Nat := 8 * (n % 2) + 4 * (n / 2 % 2) + 2 * (n / 4 % 2) + n / 8 % 2
def bayer (y x : Nat) : Nat := [0, 8, 2, 10, 12, 4, 14, 6, 3, 11, 1, 9, 15, 7, 13, 5].getD (4 * (y % 4) + x % 4) 0
def ditherThreshold (x y c n : Nat) : Nat := (bayer y x + 5 * c + bitrev4 (n % 16)) % 16

/-- Stage 6: a drive fraction in U1.19 quantised (06 R176). -/
def quantise (d x y c n : Nat) : Nat := min ((min (2 * d) 1048575 + ditherThreshold x y c n) / 16) 65535

/-- The thermal gain of a bin's curve between two temperatures in S8.7 (06 R168): an efficiency that the curve rounds to 0
takes the clamp. -/
def thermalGain (curve : List (Int × Int)) (t : Rat) (refTemp : Int) : Int :=
  let e := curveEval curve t
  if e = 0 then 49152 else clampI 16384 49152 (roundDiv (curveEval curve (refTemp : Int) * 32768) e.toNat)

/-- Stages 4 and 5 of one channel: the drive fraction from a row of the matrix. -/
def driveFraction (t : List Nat) (row : List Int) (gain : Int) : Nat :=
  let acc := (t.getD 0 0 : Int) * row.getD 0 0 + (t.getD 1 0 : Int) * row.getD 1 0 + (t.getD 2 0 : Int) * row.getD 2 0
  (clampI 0 524288 (roundDiv (roundDiv acc 8192 * gain) 32768)).toNat

/-- The bank that stages 4 and 5 use, none for the identity bank. -/
def bankInUse (s : State) : Option Nat :=
  match s.almanac.inForce with
  | some 0 => some 0
  | some 1 => some 1
  | _ => none

/-- The state with the configuration that a frame has latched, from which its composites are made (01 R18; 06 R163, R165, R178). -/
def asLatched (c : Latched) (s : State) : State :=
  { s with
    layers.layer := c.layers
    layers.run := c.runs
    layers.scaler := c.scalers
    almanac.inForce := c.bank
    almanac.banks := c.banks
    almanac.space := c.space
    therm.desc.bypass := c.bypass
    chain.width := c.width
    chain.height := c.height
    ledger.map := c.map
    chain.loops := (s.chain.loops.zip c.cells).map fun (l, k) => { l with config := k } }

/-- A bin table of the bank that a frame has latched. -/
def Latched.bin (c : Latched) (b : Nat) : List Byte := slice c.bins (480 * b) 480

/-- The bank from which stage 5 reads a row: while a word of the row is lost, the other one (01 Table 1-5; 06 R166). -/
def rowBank (s : State) (k y : Nat) : Nat :=
  let b := getBank s k
  let o := getBank s (1 - k)
  if dramUncorrectable s (matrixAddr k b.width 0 y) (18 * b.width) && bankValid s (1 - k) && o.width = b.width && o.height = b.height
  then 1 - k else k

/-- The drive values of a pixel from its target (06 R177), by the bank and tables that its frame has latched. -/
def drivePixel (s : State) (bin : Nat → List Byte) (temps : List Rat) (n x y : Nat) (t : List Nat) : List Nat :=
  (List.range 3).map fun c =>
    match bankInUse s with
    | none => quantise (driveFraction t ((List.range 3).map fun j => if j = c then 8192 else 0) 32768) x y c n
    | some k =>
      let row := (List.range 3).map fun j => coefficient s (rowBank s k y) (getBank s k).width x y c j
      let gain := match cellAt s x y with
        | some q => if s.therm.desc.bypass then 32768
          else thermalGain (binThermal (bin (bankMap s k q.loop q.cell c)) c)
            (pixelTemp temps s.therm.cols s.therm.rows x y * 128) (getBank s k).refTemp
        | none => 32768
      quantise (driveFraction t row gain) x y c n

/-- The drive values of a view from its targets. -/
def driveView (s : State) (bin : Nat → List Byte) (frame n : Nat) (targets : List (List Nat)) : List (List Nat) :=
  let temps := tempsOf s frame
  ((rasterPixels s).zip targets).map fun (p, t) => drivePixel s bin temps n p.1 p.2 t

/-! ## COMPOSITE_COMPLETE -/

/-- The largest complement target of each loop and colour (08 R213). -/
def loopMaxima (s : State) (targets : List (List Nat)) : List (List Nat) :=
  let ps := placedCells s
  (List.range 24).map fun l => (List.range 3).map fun c =>
    (ps.filter fun q => q.loop == l).foldl (fun a q => (List.range 512).foldl (fun b p =>
      max b ((targets.getD ((q.at p).2 * s.chain.width + (q.at p).1) []).getD c 0)) a) 0

/-- A write-back's values: U1.19 rounded to U1.15, C64A with the full alpha code (04 R126). -/
def writebackPixel (f : Nat) (px : List Nat) : List Byte :=
  px.flatMap (fun v => u16 (satN 0xFFFF (roundDivN v 16))) ++ (if f = 7 then [0xFF, 0xFF] else [])

/-- A write-back takes its rectangle of an image (04 R126). -/
def takeWriteback (w : Writeback) (image : List (List Nat)) (s : State) : State :=
  match findBuf s w.handle with
  | none => s
  | some b =>
    let row (y : Nat) : List Byte := (List.range w.width).flatMap fun x =>
      writebackPixel b.format (image.getD ((w.y + y) * s.chain.width + w.x + x) [0, 0, 0])
    let fill (x : Buffer) : Buffer := { x with
      mem := (List.range w.height).foldl (fun m y => Memory.write m (y * pitchOf b.format b.width) (row y)) []
      incomplete := [] }
    let s1 := finishFill w.handle (modBuf w.handle fill { s with layers.writeback := s.layers.writeback.filter fun x => x != w })
    completeOp w.src w.tag St.ok [] s1

/-- The write-backs of a frame, taken from the stage-2 and the stage-3 images of the views that are composed for it. -/
def takeWritebacks (frame : Nat) (views : List Nat) (stage2 stage3 : Nat → List (List Nat)) (s : State) : State :=
  (s.layers.writeback.filter fun w => w.frame == some frame && views.contains w.view).foldl (fun t w =>
    takeWriteback w (if w.tap = 0 then stage2 w.view else stage3 w.view) t) s

/-- The oldest latched frame, whose composites are finished next. -/
def nextComposite (s : State) : Option Latched := if domainOn s .pixel then s.layers.latched.head? else none

/-- The stage-2 composite of a view among those made. -/
def composite (made : List (Nat × List (List Nat))) (v : Nat) : List (List Nat) := ((made.find? fun x => x.1 == v).map (·.2)).getD []

/-- What stage 3 notes of a frame's complement, whose house composite would be driven as `plain` (07 R184; 08 R213). A pixel
counts as clamped when a channel of it is. `s` holds the configuration that the frame has latched. -/
def houseNote (s : State) (g : Program) (k : List (List Complement)) (plain : ViewImage) : HouseNote where
  content := sumsOf s plain
  error := maxQ ((k.flatMap id).map (·.error))
  max := loopMaxima s (k.map fun px => px.map (·.value))
  share := if g.litTotal = 0 then 0 else g.litTime 0 / g.litTotal
  clamped := (k.filter fun px => px.any (·.clamped)).length

/-- The image of a view of a latched frame, from its composite and its complement where it has one. `s` holds the
configuration that the frame has latched. -/
def viewImage (c : Latched) (s : State) (v : Nat) (px : List (List Nat)) (k : Option (List (List Complement))) : ViewImage :=
  let driven (ts : List (List Nat)) : ViewImage :=
    { view := v, frame := c.frame, width := c.width, composite := px, cells := c.cells, map := c.map,
      drives := driveView s c.bin c.frame (s.almanac.composites.getD v 0) ts }
  match k with
  | none => let i := driven px; { i with sums := sumsOf s i }
  | some k =>
    let i := driven (k.map fun p => p.map (·.value))
    { i with sums := sumsOf s i, house := some (houseNote s c.prog k (driven px)) }

/-- The images and sums of a latched frame, by the configuration that it latched: a frozen view is not composed, and its
presented image keeps its sums (08 R216). -/
def finishFrame (c : Latched) (s : State) : State :=
  let l := asLatched c s
  let views := c.prog.views
  let live := views.filter fun v => !frozenFor s c.frame v
  let made := live.map fun v => (v, compositeView l c v)
  let comp := if c.prog.complement && live.contains 0 then some (complementView l c.frame c.prog made (composite made 0)) else none
  let images := live.map fun v => viewImage c l v (composite made v) (if v = 0 then comp else none)
  let frozen := (views.filter fun v => !live.contains v).filterMap fun v => s.pres.presented.getD v none
  let stage3 (v : Nat) : List (List Nat) := match (if v = 0 then comp else none) with
    | some k => k.map fun p => p.map (·.value)
    | none => composite made v
  let s1 := takeWritebacks c.frame live (composite made) stage3 s
  { s1 with
    layers.latched := s1.layers.latched.filter fun x => x.frame != c.frame
    layers.occulted := countOcculted l live
    pres.images := s1.pres.images ++ images
    ledger.sums := s1.ledger.sums ++ [frameSums c.frame (images ++ frozen)]
    almanac.composites := s1.almanac.composites.zipIdx.map fun (n, v) => if live.contains v then n + 1 else n }

/-- COMPOSITE_COMPLETE (04 R126; 07 R182, R184). -/
def execCompositeComplete (s : State) : Host.Outcome State Fault Refusal :=
  .next (match nextComposite s with | some c => finishFrame c s | none => s)

end Sys2Proof.Machine
end

