-- ==== Sys2Proof/Machine/Healing.lean ====
section
/-! DEFINITION. Report trains and READ replies on the Q lane (09 R231 to R233), localisation and meridian moves
(10 R248 to R256), failed ports and cells (10 R258, R268), and the writes of the port trims (09 R244). -/

namespace Sys2Proof.Machine

/-! ## The Q lane -/

/-- The words of the report train that reaches a port, with bits inverted on the way (09 R231). -/
def arrivingTrain (p : Nat) (errors : List (BitVec 16)) (s : State) : List Nat :=
  let q := getPort s p
  disturbed errors (trainOf (getPlant s (portLoop p)) (portSide p) q.seq q.segments (nowNs s))

/-- A report train reaches a port during its upload: it begins with its start code and ends with its end code (09 R231). -/
def takeTrain (p : Nat) (errors : List (BitVec 16)) (s : State) : State :=
  let ws := arrivingTrain p errors s
  let r := readTrain (ws.drop 1)
  if ws.head? != some 0xA5C3 then s
  else modPort p (fun q => { q with
    reports := r.1
    trainEnded := r.2
    lastTrainAt := if r.2 && q.segments ≤ r.1.length then nowNs s else q.lastTrainAt }) s

/-- REPORT_TRAIN: collected while the port's upload waits for it; the operand says which bits of it arrive inverted. -/
def execReportTrain (p : Fin 48) (errors : List (BitVec 16)) (s : State) : Host.Outcome State Fault Refusal :=
  .next (if (getPort s p).uploading then takeTrain p errors s else s)

/-- The reply that reaches a port for its outstanding READ, with bits inverted on the way: its register words, none where no
cell answers, the reply is not valid, or 25 µs have passed (09 R233). -/
def arrivingReply (p : Nat) (errors : List (BitVec 16)) (s : State) : Option (List Nat) :=
  (getPort s p).read.bind fun r =>
    if r.sentAt + 25000 < nowNs s then none
    else (readHop (getPlant s (portLoop p)) (portSide p) r.hop).bind fun c =>
      replyWords (r.hop % 128) r.count (disturbed errors (c.reply r.hop r.reg r.count))

/-- CELL_READ_REPLY: a valid reply answers the port's outstanding READ; any other is no answer (09 R233). -/
def execCellReadReply (p : Fin 48) (errors : List (BitVec 16)) (s : State) : Host.Outcome State Fault Refusal :=
  .next (match arrivingReply p errors s with
    | some ws => modPort p (fun q => { q with read := none, answer := ws }) s
    | none => s)

/-- A READ goes unanswered; after a link-watch READ localisation starts at once (09 R233, 10 R249). -/
def readUnanswered (p : Nat) (s : State) : State :=
  modPort p (fun q => { q with read := none, missingNow := q.missingNow || q.read.any (·.use == .linkWatch) }) s

/-- Whether the outstanding READ of a port has waited for 25 µs (09 R233). -/
def readOverdue (s : State) (p : Nat) : Bool := (getPort s p).read.any fun r => r.sentAt + 25000 ≤ nowNs s

/-- CELL_READ_TIMEOUT: the outstanding READ is treated as unanswered (09 R233). -/
def execCellReadTimeout (p : Fin 48) (s : State) : Host.Outcome State Fault Refusal :=
  .next (if readOverdue s p then readUnanswered p s else s)

/-- An active port: it drives and feeds cells. -/
def portActive (s : State) (p : Nat) : Bool := (getPort s p).driving && !(portCells s p).isEmpty

/-- Whether link watch is due on a port: no complete train for 10 ms, and no upload (10 R252). -/
def linkWatchDue (s : State) (p : Nat) : Bool :=
  portActive s p && !(getPort s p).uploading && (getPort s p).read.isNone && (getPort s p).lastTrainAt + 10000000 ≤ nowNs s

/-- The register that holds a cell's hop index from an end (09 Table 9-6). -/
def hopReg : Side → Nat
  | .A => 0x08
  | .B => 0x09

/-- A link-watch READ of the port's last live cell (10 R252). -/
def watchLink (p : Nat) (s : State) : State :=
  let hop := ((getLoop s (portLoop p)).reach ((portCells s p).getLastD 0)).2
  modPort p (fun q => { q with read := some ⟨.linkWatch, hop, hopReg (portSide p), 1, nowNs s⟩ }) s

/-- LINK_WATCH_TIMEOUT (10 R252). -/
def execLinkWatchTimeout (p : Fin 48) (s : State) : Host.Outcome State Fault Refusal :=
  .next (if linkWatchDue s p then watchLink p s else s)

/-! ## Localisation and moves -/

/-- The link that follows the last answering hop of an end (10 Table 10-2). -/
def linkAfter (n : Nat) (e : Side) (j : Nat) : Nat :=
  match e with
  | .A => j
  | .B => n - j

/-- Fault records are firmware's: while it restarts they wait (10 Table 10-10). -/
def recordsNow (s : State) : Bool := s.fw.running || s.power.mode == .booting

def recordLink (l b : Nat) (double : Bool) (s : State) : State :=
  if recordsNow s then addFault (loopTarget s l) 5 b false double s else s

/-- The cell between two broken links is dead: it is placed at the meridian end of a side, takes no segments, and is
recorded as failed (10 R247, R250, R268). -/
def markDead (l h : Nat) (s : State) : State :=
  let s1 := modLoop l (fun lp => lp.modCell (h - 1) (fun r => { r with dead := true, failed := true })) s
  logAlert 0x07 0x05 (cellTarget s l (h - 1)) 0 0 (if recordsNow s then addFault (cellTarget s l (h - 1)) 4 0 false false s1 else s1)

/-- A double fault (10 Table 10-10): the ports keep feeding their own sides up to the breaks, and the cells between the two
answer neither port, so that they are dead (10 R247). -/
def doubleFault (l b : Nat) (s : State) : State :=
  let s1 := modLoop l (fun lp => { lp with doubleFault := true, healed := true, trial := false, move := none, broken := lp.broken ++ (if lp.broken.contains b then [] else [b]) }) s
  let ends := (getLoop s1 l).broken
  let lo := ends.foldl min b
  let hi := ends.foldl max b
  let lost := (List.range hi).filter fun c => lo ≤ c && ((getLoop s1 l).cells[c]?).any fun r => !r.dead
  raiseAlert 0x07 0x01 (loopTarget s l) 0 b false (recordLink l b true (lost.foldl (fun t c => markDead l (c + 1) t) s1))

/-- A move of the meridian begins (10 R250). -/
def beginMove (l m : Nat) (gaining : Side) (link : Nat) (s : State) : State :=
  modLoop l (fun lp => { lp with move := some ⟨m, gaining, link, false⟩ }) s

/-- What a localisation from a port finds (10 R249, R250): the first break of a loop starts a move; a search again
from the gaining port finds a dead cell or a second break; a break of a healed loop is a double fault. -/
def localise (p : Nat) (s : State) : State :=
  let l := portLoop p
  let e := portSide p
  let lp := getLoop s l
  let n := lp.cells.length
  let s1 := modPort p (fun q => { q with missingNow := false }) s
  let k := (lp.fedCells e).length
  let j := answeringHops (getPlant s l) e k
  let b := linkAfter n e j
  match lp.move with
  | some mv =>
    if mv.gaining == e then
      if b + 1 = mv.link || mv.link + 1 = b then
        let h := max b mv.link
        markDead l h (modLoop l (fun x => { x with broken := [h - 1, h], move := some ⟨h, mv.gaining, b, false⟩ }) s1)
      else doubleFault l b (modLoop l (fun x => { x with broken := [mv.link] }) s1)
    else s1
  | none =>
    if j = k then s1
    else if lp.healed && !lp.trial then doubleFault l b s1
    else
      beginMove l b e.other b (modLoop l (fun x => { x with trial := false, healed := false, broken := [] }) s1)

/-- LOCALISATION: runs after a missing train, or an unanswered link-watch READ, on the port (10 R249). -/
def execLocalisation (p : Fin 48) (s : State) : Host.Outcome State Fault Refusal :=
  .next (if (getPort s p).missingNow then localise p s else s)

/-- The takeover burst (10 R251): one MERIDIAN frame for each cell that the gaining port takes over and one more, and
one from the other port. -/
def takeover (l : Nat) (mv : Move) (s : State) : State :=
  let old := (getLoop s l).m
  let count := (if old < mv.m then mv.m - old else old - mv.m) + 1
  let go (e : Side) (k : Nat) (t : State) : State :=
    if drives t l e then modPlant l (sendMeridian (drives t l .A) (drives t l .B) (nowNs t) e mv.m k) t else t
  modLoop l (fun lp => { lp with m := mv.m, move := some { mv with sent := true } })
    (go mv.gaining count (go mv.gaining.other 1 s))

/-- TAKEOVER_BURST: sent for a move that waits for it. -/
def execTakeoverBurst (l : Fin 24) (s : State) : Host.Outcome State Fault Refusal :=
  .next (match (getLoop s l).move with
    | some mv => if mv.sent then s else takeover l mv s
    | none => s)

/-- Whether the farthest live cell of the gaining port answers its READ (10 R251). -/
def farthestAnswers (l : Nat) (e : Side) (s : State) : Bool :=
  let cells := (getLoop s l).fedCells e
  answeringHops (getPlant s l) e cells.length == cells.length

/-- A completed move: the loop is healed, the heal counted, the break logged and recorded (10 R251). -/
def completeMove (l : Nat) (mv : Move) (s : State) : State :=
  let s1 := modLoop l (fun lp => { lp with move := none, healed := true, heals := inc16 lp.heals, broken := if lp.broken.contains mv.link then lp.broken else lp.broken ++ [mv.link] }) s
  raiseAlert 0x07 0x01 (loopTarget s l) 0 mv.link false (recordLink l mv.link false s1)

/-- TAKEOVER_CHECK: an answer of the farthest cell completes the heal, silence restarts localisation from the gaining
port (10 R251). -/
def execTakeoverCheck (l : Fin 24) (s : State) : Host.Outcome State Fault Refusal :=
  .next (match (getLoop s l).move with
    | some mv =>
      if !mv.sent then s
      else if farthestAnswers l mv.gaining s then completeMove l mv s
      else modPort (portOf l mv.gaining) (fun q => { q with missingNow := true }) s
    | none => s)

/-- A port fails (10 R258): it stops driving, its record enters the fault map, and the meridian moves so that the other
port feeds the loop (10 Table 10-2); a loop already healed has a double fault. -/
def failPort (p : Nat) (s : State) : State :=
  if (getPort s p).failed then s
  else
    let l := portLoop p
    let e := portSide p
    let n := loopCells s l
    let s1 := setDriving p false (modPort p (fun q => { q with failed := true }) s)
    let s2 := if recordsNow s then addFault (loopTarget s l) 6 (256 * p + 0xFF) false false s1 else s1
    let b := match e with | .A => 0 | .B => n
    if n = 0 then s2
    else if (getLoop s l).healed then doubleFault l b s2
    else beginMove l b e.other b s2

/-- A failed port returned to use by BLOCK_RESTORE (10 R256): its record is inactive; a loop that only this port's
failure healed may try its restore. -/
def unfailPort (p : Nat) (s : State) : State :=
  let l := portLoop p
  setDriving p true (modPort p (fun q => { q with failed := false })
    (clearFault (loopTarget s l) 6 (256 * p + 0xFF) s))

/-! ## Restoring (10 R256) -/

/-- The link that a restore trial tries: the broken link of a healed loop with one break and no failed port. A loop whose
enumeration passes disagree leaves that state only by CHAIN_ENUMERATE (10 R257). -/
def trialLink (l : Nat) (s : State) : Option Nat :=
  let lp := getLoop s l
  if lp.healed && !lp.mismatch && !lp.doubleFault && lp.move.isNone && !(getPort s (portOf l .A)).failed && !(getPort s (portOf l .B)).failed then
    match lp.broken with
    | [b] => some b
    | _ => none
  else none

/-- Both ports send MERIDIAN with m. -/
def bothMeridian (l m k : Nat) (s : State) : State :=
  let go (e : Side) (t : State) : State :=
    if drives t l e then modPlant l (sendMeridian (drives t l .A) (drives t l .B) (nowNs t) e m k) t else t
  go .B (go .A s)

/-- A trial (10 R256): the cell beyond the link is fed across it and READ; an answer means that the link is repaired
and the loop returns to its configured meridian, silence restores m = b. -/
def restoreTrial (l b : Nat) (s : State) : State :=
  let lp := getLoop s l
  let onB := lp.m ≤ b && b < lp.cells.length
  let m' := if onB then b + 1 else b - 1
  let e : Side := if onB then .A else .B
  let hop := if onB then b + 1 else lp.cells.length + 1 - b
  let s0 := modLoop l (fun x => { x with lastTrial := nowNs s, restoreNow := false }) s
  let s1 := bothMeridian l m' 2 s0
  if (readRegs (getPlant s1 l) e hop (hopReg e) 1).isSome then
    let s2 := burst l lp.wantM (modLoop l (fun x => { x with m := m' }) s1)
    let s3 := modLoop l (fun x => { x with healed := false, broken := [] }) s2
    logAlert 0x07 0x02 (loopTarget s l) 0 b (clearAlert 0x07 0x01 (loopTarget s l) (clearFault (loopTarget s l) 5 b s3))
  else bothMeridian l lp.m 2 s1

/-! ## Failed cells (10 R268) -/

/-- Whether a condition of 10 Table 10-7 holds for a cell in use. -/
def cellFails (now : Nat) (r : CellRec) : Bool :=
  !r.failed && ((match r.overtempSince with | some t => decide (t + 10000000000 ≤ now) | none => false) || 64 ≤ r.stale || 64 ≤ r.silent)

/-- A cell is failed: OUT_EN is cleared by WRITE and the fault map records it. -/
def failCell (l c : Nat) (s : State) : State :=
  let s1 := modLoop l (fun lp => lp.modCell c (fun r => { r with failed := true })) s
  let s2 := commandTo l c opWriteShadow 0x13 [0] (commandTo l c opWrite 0x13 [0] s1)
  logAlert 0x07 0x05 (cellTarget s l c) 0 0 (addFault (cellTarget s l c) 4 0 false false s2)

/-- CELL_FAILED. -/
def execCellFailed (l : Fin 24) (cell : Fin 100) (s : State) : Host.Outcome State Fault Refusal :=
  .next (match (getLoop s l).cells[cell.val]? with
    | some r => if cellFails (nowNs s) r then failCell l cell s else s
    | none => s)

/-! ## Port trims (09 R244) -/

/-- CHAIN_PORT_TRIM's fields taken into a port's trim; every code of each field is in range. -/
def trimOfWord (v : Word) (t : PortTrim) : PortTrim :=
  { t with swing := field v.toNat 21 16, preemph := field v.toNat 15 12, term := field v.toNat 9 5 }

/-- CHAIN_PORT_SKEW's fields, in the order CK, D0, D1, LT, Q. -/
def skewOfWord (v : Word) (t : PortTrim) : PortTrim :=
  { t with skew := [field v.toNat 24 20, field v.toNat 19 15, field v.toNat 14 10, field v.toNat 9 5, field v.toNat 4 0] }

/-- Whether a port's registers answer (09 R219; 16 R359): the port is the grade's and its SCAN group is on. -/
def portRegsOn (s : State) (p : Nat) : Bool := p < gradePorts s && domainOn s (.scan (portGroup p))

/-- A trim value waits for the port's next gap (09 R244); outside an upload that is now. -/
def stageTrim (p : Nat) (f : PortTrim → PortTrim) (s : State) : State :=
  modPort p (fun q =>
    if q.uploading then { q with nextTrim := some (f q.coming) } else { q with trim := f q.coming, nextTrim := none }) s

/-- CHAIN_PORT_TRIM_WRITE. -/
def execChainPortTrimWrite (p : Fin 48) (v : Word) (s : State) : Host.Outcome State Fault Refusal :=
  .next (if portRegsOn s p then stageTrim p (trimOfWord v) s else { s with host.gated := true })

/-- CHAIN_PORT_SKEW_WRITE. -/
def execChainPortSkewWrite (p : Fin 48) (v : Word) (s : State) : Host.Outcome State Fault Refusal :=
  .next (if portRegsOn s p then stageTrim p (skewOfWord v) s else { s with host.gated := true })

/-! ## Records that waited for firmware (10 Table 10-10) -/

/-- A record that waits is entered. -/
def enterFault (target : BitVec 64) (kind detail : Nat) (double : Bool) (s : State) : State :=
  if s.chain.faults.any fun f => f.isFor target kind detail && f.active then s else addFault target kind detail false double s

/-- The records of a loop's broken links and dead cells. -/
def syncLoop (s : State) (l : Nat) : State :=
  let lp := getLoop s l
  (List.range lp.cells.length).foldl (fun x c => if (lp.cells[c]?).any (·.dead) then enterFault (cellTarget x l c) 4 0 false x else x)
    (lp.broken.foldl (fun x b => enterFault (loopTarget x l) 5 b lp.doubleFault x) s)

/-- The record of a failed port. -/
def syncPort (s : State) (p : Nat) : State :=
  if (getPort s p).failed then enterFault (loopTarget s (portLoop p)) 6 (256 * p + 0xFF) false s else s

/-- The breaks, dead cells and failed ports found while no firmware ran enter the fault map. -/
def syncFaults (s : State) : State := (List.range 48).foldl syncPort ((List.range 24).foldl syncLoop s)

end Sys2Proof.Machine
end

