-- ==== Sys2Proof/Machine/Scan.lean ====
section
/-! DEFINITION. Presentation (08): slots in time, uploads, latches and transits, and the opcodes PROGRAM_SET,
PROGRAM_STATUS, CAMSYNC_CONFIG, FREEZE and BLANK. -/

namespace Sys2Proof.Machine

/-! ## Slots in time (08 R195, R204, R209) -/

/-- Whether the tile presents: it is in RUN with a raster, and the program in force has frames to show. -/
def presenting (s : State) : Bool := (s.power.mode == .run || goingDark s) && !s.power.refinLost && s.chain.width != 0 && !s.pres.waitSample

/-- The tile latency L: that of the program in force (08 R195). -/
def latency (s : State) : Nat := (getProgram s s.pres.inForce).latency

/-- The start of a slot, in nanoseconds: (n + L) × T + φ, and the durations of the slots before it (08 R195). -/
def slotStart (s : State) (x : SlotAt) : Rat :=
  ((x.frame + x.latency : Nat) : Rat) * (period s).q + (x.phase : Nat) + ((planOf s x.frame).offset x.slot : Nat)

/-- The frame whose presentation frame is in progress by the counter. -/
def frameShown (s : State) : Nat :=
  ((((nowNs s : Nat) : Rat) - (s.pres.phase : Nat)) / (period s).q).floor.toNat - latency s

/-- The slot whose transit comes next; slots of presentation frames that have passed are skipped. -/
def targetSlot (s : State) : SlotAt :=
  match s.pres.next with
  | some x => if x.frame < frameShown s && decide (slotStart s { x with slot := 0 } + (period s).q ≤ ((nowNs s : Nat) : Rat))
      then ⟨frameShown s, 0, latency s, s.pres.phase⟩ else x
  | none => ⟨0, 0, 0, 0⟩

/-- A small correction: at most 10 µs, with the last slot keeping its minima (08 R209). -/
def smallStep (g : Program) (d : Rat) : Bool :=
  let i := g.slots.length - 1
  let dur := g.slotDur i + d
  decide (-10000 ≤ d) && decide (d ≤ 10000) && decide (((64000 * g.refreshes i : Nat) : Rat) ≤ dur) &&
    decide (((64 * g.refreshes i * g.dead : Nat) : Rat) ≤ dur)

/-- Δ of 08 R209. -/
def phaseDelta (s : State) (old new : Nat) : Rat := wrapQ (((new : Int) - (old : Int) : Int) : Rat) (period s).q

/-- The first slot of the presentation frame after that of `x` (08 R209): the chosen phase applies, the last slot lengthens or
shortens by a small Δ and otherwise lengthens by mod(Δ, T), and a frame whose start this passes is skipped. -/
def nextFrame (s : State) (x : SlotAt) : SlotAt :=
  let T := (period s).q
  let new := choosePhase s
  let delta := phaseDelta s x.phase new
  let d := if smallStep (planOf s x.frame) delta then delta else modQ delta T
  let start := ((x.frame + x.latency + 1 : Nat) : Rat) * T + (x.phase : Nat) + d
  ⟨(roundQ ((start - (new : Nat)) / T)).toNat - latency s, 0, latency s, new⟩

/-- The slot after one. -/
def slotAfter (s : State) (x : SlotAt) : SlotAt :=
  if x.slot + 1 < (planOf s x.frame).slots.length then { x with slot := x.slot + 1 } else nextFrame s x

/-- Whether the time of an event before the coming slot has come. -/
def slotDue (s : State) (before : Nat) : Bool :=
  s.pres.next.isSome && decide (slotStart s (targetSlot s) ≤ ((nowNs s + before : Nat) : Rat))

/-! ## Images (08 R199, R200, R204, R216, R217) -/

/-- The frame whose composite a slot of frame `f` shows, by the upload divisor. -/
def uploadedFrame (g : Program) (f : Nat) : Nat := f - f % max 1 g.divisor

/-- The image that a view presented last, black where it has none. -/
def lastImage (s : State) (v : Nat) : ImageId × Option ViewImage :=
  match s.pres.presented.getD v none with
  | some i => (⟨v, i.frame, false⟩, some i)
  | none => (⟨v, 0, true⟩, none)

/-- A slot's image, its pixels, and whether its composite is late. -/
def wantedImage (s : State) (x : SlotAt) : (ImageId × Option ViewImage) × Bool :=
  let g := planOf s x.frame
  let v := g.view x.slot
  let fu := uploadedFrame g x.frame
  if blankNow s v then ((⟨v, 0, true⟩, none), false)
  else if frozenNow s v || fu < s.pres.unfreezeAt.getD v 0 || fu != x.frame then (lastImage s v, false)
  else match s.pres.images.find? fun i => i.view == v && i.frame == fu with
    | some i => ((⟨v, fu, false⟩, some i), false)
    | none => (lastImage s v, true)

/-- A frozen view is uploaded in each of its slots that needs an upload, so that the magnitude of each frame reaches it (08 R199,
R216). -/
def uploadsFrozen (s : State) (x : SlotAt) : Bool :=
  let g := planOf s x.frame
  let v := g.view x.slot
  frozenNow s v && !blankNow s v && uploadedFrame g x.frame == x.frame && g.needsUpload x.slot

/-- What was sent of a slot's image, where the cells hold it in front or behind and no upload is due. -/
def heldFor (s : State) (x : SlotAt) (id : ImageId) : Option Sent :=
  if uploadsFrozen s x then none
  else (s.pres.shown.filter fun u => u.id == id).orElse fun _ => s.pres.held.filter fun u => u.id == id

/-! ## Uploads (08 R199, R215; 09 R227, R239) -/

/-- The active ports: they drive and feed cells. -/
def activePorts (s : State) : List Nat := (List.range (gradePorts s)).filter (portActive s)

/-- The ports that an upload reaches: not those of a loop whose committed registers wait for LOAD (09 R237, R239). -/
def uploadPorts (s : State) : List Nat :=
  (activePorts s).filter fun p => !(getLoop s (portLoop p)).loadWait && !(getLoop s (portLoop p)).enumerating

/-- The emitters of a cell that the fault map suppresses get drive 0, both channels of an adjacent-channel short among them
(10 R262). -/
def suppressedAt (s : State) (l c p colour : Nat) : Bool :=
  s.chain.faults.any fun f => f.suppressed && f.active && tgtLoop f.target = l && tgtCell f.target = c &&
    ((tgtPixel f.target = p && tgtEmitter f.target = colour) ||
      (f.kind = 3 && tgtPixel f.target / 16 = p / 16 && f.detail = 3 * (p % 16) + colour))

/-- Where a cell stands in an image, by the configuration with which the image was made (09 R238, R239). -/
def ViewImage.placeOf (i : ViewImage) (l c : Nat) : Option Placed :=
  (((i.cells.getD l []).find? fun x => x.1 == c).bind (·.2.place)).map fun p => ⟨l, c, p.1, p.2.1, p.2.2⟩

/-- Whether a cell takes image data: level 2 and not failed (09 R239, R245; 10 R268). -/
def takesData (s : State) (l c : Nat) : Bool :=
  match (getLoop s l).cells[c]? with
  | some r => level2 r.caps && !r.failed
  | none => false

/-- The 48 drive values of a scan row of a cell: those of the image at what is fixed for the frame; 0 without an image or a
placement, and for a suppressed emitter. -/
def rowDrives (s : State) (x : Fixed) (img : Option ViewImage) (l c row : Nat) : List Nat :=
  match img.bind fun i => (i.placeOf l c).map fun q => (i, q) with
  | some (i, q) =>
    if !takesData s l c then List.replicate 48 0
    else (List.range 48).map fun ch =>
      let p := 16 * row + ch / 3
      if suppressedAt s l c p (ch % 3) then 0
      else x.drive i.house.isSome (i.map.getD (3 * l + ch % 3) 0) (i.drive (q.at p).1 (q.at p).2 (ch % 3))
  | none => List.replicate 48 0

/-- One port's upload of an image: its sequence advances, and 32 row frames carry a segment for each fed cell. -/
def uploadPort (x : Fixed) (img : Option ViewImage) (p : Nat) (s : State) : State :=
  let seq := ((getPort s p).seq + 1) % 1024
  let cells := portCells s p
  let s1 := modPort p (fun q => { q with seq := seq, uploading := true, segments := cells.length, prefetched := false, underran := [], reports := [], trainEnded := false, missingNow := false }) s
  (List.range 32).foldl (fun t r =>
    portSend p (rowFrame (cells.map fun c => ⟨r, false, seq, rowDrives s x img (portLoop p) c r⟩)) t) s1

/-- The sequences of all ports. -/
def portSeqs (s : State) : List Nat := (List.range 48).map fun p => (getPort s p).seq

/-- Whether the ARM of a slot carries LOAD: the first latch of the presentation frame that shows a cell configuration, or the
next latch after an enumeration (09 R238, R239). -/
def loadsAt (s : State) (x : SlotAt) : Bool := s.chain.loadPending || s.chain.loadAt.any fun n => n ≤ x.frame

/-- An ARM for a slot, to every port that drives (09 R234). -/
def sendArm (x : SlotAt) (seqs : List Nat) (hold : Bool) (s : State) : State :=
  let g := planOf s x.frame
  let row := (g.slotDur x.slot / ((32 * g.refreshes x.slot : Nat) : Rat) / 5).floor.toNat
  let arm (p : Nat) : ArmPayload :=
    { refreshes := g.refreshes x.slot, rowTime := row, dead := (g.dead + 4) / 5, load := loadsAt s x, hold := hold, seq := seqs.getD p 0 }
  let s1 := (List.range (gradePorts s)).foldl (fun t p => portSend p (command opArm 0xFF 0 (arm p).words).frame t) s
  { s1 with
    pres.armed := true
    chain.armedLoad := loadsAt s x
    chain.loadPending := false
    chain.loadAt := s1.chain.loadAt.filter fun n => x.frame < n }

/-- The ARM of a slot whose image the cells already hold: HOLD where it is in front. -/
def armHeld (x : SlotAt) (u : Sent) (s : State) : State :=
  sendArm x u.seqs (s.pres.shown.any fun v => v.seqs == u.seqs) { s with pres.upload := some u }

/-- An upload of the target slot is wanted and has not begun. -/
def uploadWanted (s : State) : Bool :=
  presenting s && s.pres.next.isSome && s.pres.upload.isNone && !s.pres.armed && (heldFor s (targetSlot s) (wantedImage s (targetSlot s)).1.1).isNone

/-- A gap of a port that lasts for the given nanoseconds before the next prefetch, 100 µs before an upload (08 R214,
13 R307). -/
def portGap (s : State) (length p : Nat) : Bool :=
  let q := getPort s p
  !q.uploading && !q.prefetched && !(uploadWanted s && slotDue s (uploadPeriod (fullestPort s) + 100000 + length))

/-- A full FIFO in bytes (08 R214). -/
def fifoSize : Nat := 8192

/-- PREFETCH_START (08 R214): 100 µs before an upload, each port's FIFO is filled. -/
def execPrefetchStart (s : State) : Host.Outcome State Fault Refusal :=
  .next (if uploadWanted s && slotDue s (uploadPeriod (fullestPort s) + 100000) then
      (activePorts s).foldl (fun t p => modPort p (fun q => { q with prefetched := true }) { t with pres.fill := setAt t.pres.fill p fifoSize }) s
    else s)

/-- The time until the next prefetch begins, in nanoseconds; none while no upload is to come (08 R214). -/
def untilPrefetch (s : State) : Option Rat :=
  if !presenting s || s.pres.next.isNone then none
  else
    let x := if uploadWanted s then targetSlot s else slotAfter s (targetSlot s)
    some (max 0 (slotStart s x - ((uploadPeriod (fullestPort s) + 100000 + nowNs s : Nat) : Rat)))

/-- A port's latency tolerance (08 R214): its FIFO fill at 100 MB/s during an upload and its prefetch, else the time until the
next prefetch. -/
def portTolerance (s : State) (p : Nat) : Option Rat :=
  if (getPort s p).uploading || (getPort s p).prefetched then some ((10 * s.pres.fill.getD p 0 : Nat) : Rat) else untilPrefetch s

/-- The latency tolerance that scan-out reports: the least over the active ports, none where nothing limits it (01 R27). -/
def latencyTolerance (s : State) : Option Rat :=
  ((activePorts s).filterMap (portTolerance s)).foldl (fun a t => some (match a with | some b => min b t | none => t)) none

/-- The magnitudes of a frame lowered for the image that an upload shows, if it shows one. -/
def refixShown (f v : Nat) (img : Option ViewImage) (s : State) : State :=
  match img with
  | some i => refix f v i s
  | none => s

/-- An image uploaded on every port. -/
def uploadAll (x : Fixed) (img : Option ViewImage) (s : State) : State := (uploadPorts s).foldl (fun t p => uploadPort x img p t) s

/-- The upload of the target slot begins; a late composite is counted and the view's previous image shown (08 R204). What is
fixed for the frame is so before (08 R205). -/
def startUpload (s : State) : State :=
  let x := targetSlot s
  let w := wantedImage s x
  let v := (planOf s x.frame).view x.slot
  let s0 := { s with pres.next := some x, pres.late := if w.2 then modAt s.pres.late v inc32 else s.pres.late }
  match heldFor s x w.1.1 with
  | some u => armHeld x u s0
  | none =>
    let s2 := refixShown x.frame v w.1.2 (ensureFixed x.frame s0)
    let fixed := fixedFor s2 x.frame
    let s3 := uploadAll fixed w.1.2 s2
    { s3 with pres.upload := some { id := w.1.1, seqs := portSeqs s3, fixed := fixed, image := w.1.2, eclipse := (planOf s x.frame).eclipse } }

/-- UPLOAD_START (08 R199): t_U before the transit of a slot that has neither an upload nor an ARM. -/
def execUploadStart (s : State) : Host.Outcome State Fault Refusal :=
  .next (if presenting s && s.pres.upload.isNone && !s.pres.armed && slotDue s (uploadPeriod (fullestPort s)) then startUpload s else s)

/-- A row of a cell as eclipse fill, with the magnitude (08 R215); a suppressed emitter stays at 0 (10 R262). -/
def fillDrives (s : State) (u : Sent) (l c row : Nat) : List Nat :=
  match u.image.bind fun i => (i.placeOf l c).map fun _ => i with
  | some i =>
    if !takesData s l c then List.replicate 48 0
    else (List.range 48).map fun ch =>
      if suppressedAt s l c (16 * row + ch / 3) (ch % 3) then 0
      else scaleDrive (u.eclipse.getD (ch % 3) 0) (u.fixed.m.getD (i.map.getD (3 * l + ch % 3) 0) 0)
  | none => List.replicate 48 0

/-- A row frame sent as eclipse fill (08 R215): its segments carry FILL, and the port's FIFO is empty. -/
def fillRow (p row : Nat) (u : Sent) (s : State) : State :=
  let seq := (getPort s p).seq
  let s1 := portSend p (rowFrame ((portCells s p).map fun c => ⟨row, true, seq, fillDrives s u (portLoop p) c row⟩)) s
  { modPort p (fun q => { q with underran := q.underran ++ [row] }) s1 with
    pres.eclipse := modAt s1.pres.eclipse p inc32
    pres.fill := setAt s1.pres.fill p 0
    pres.upload := some { u with fills := u.fills ++ [(p, row)] } }

/-- FIFO_UNDERRUN: on a port whose upload is in progress, once per row. -/
def execFifoUnderrun (p : Fin 48) (row : Fin 32) (s : State) : Host.Outcome State Fault Refusal :=
  .next (match s.pres.upload with
    | some u => if (getPort s p).uploading && !(getPort s p).underran.contains row.val then fillRow p row u s else s
    | none => s)

/-! ## Latch and transit (09 R234, R235; 08 R204) -/

/-- LATCH_WINDOW_OPEN is due: 70 µs before the transit of a slot that an upload precedes (10 R248). -/
def windowDue (s : State) : Bool := presenting s && s.pres.upload.isSome && !s.pres.armed && slotDue s 70000

/-- The ports that the latch window finds at work: those of an upload, active or not. -/
def workingPorts (s : State) : List Nat := (List.range (gradePorts s)).filter fun p => (getPort s p).uploading || portActive s p

/-- The working ports judged. -/
def judgePorts (s : State) : State := (workingPorts s).foldl (fun t p => judgePort p t) s

/-- The ports judged and ARM sent; the FIFOs are drained. -/
def openWindow (s : State) : State :=
  let s1 := judgePorts s
  let seqs := match s.pres.upload with | some u => u.seqs | none => portSeqs s
  sendArm (targetSlot s) seqs false { s1 with pres.fill := s1.pres.fill.map fun _ => 0 }

/-- LATCH_WINDOW_OPEN. -/
def execLatchWindowOpen (s : State) : Host.Outcome State Fault Refusal := .next (if windowDue s then openWindow s else s)

/-- LATCH_LAUNCH: 1,000 ns before the transit of a slot that has its ARM (09 R235). -/
def execLatchLaunch (s : State) : Host.Outcome State Fault Refusal :=
  .next (if presenting s && s.pres.armed && !s.pres.launched && slotDue s 1000 then { s with pres.launched := true } else s)

/-- The emitters of a cell that a slot lights for at least 500 ns within one lit interval (09 R230). -/
def litEmitters (lit : Rat) (c : PlantCell) : List Nat :=
  c.front.rows.flatMap fun r => (List.range 48).filterMap fun ch =>
    if decide ((500 : Rat) ≤ lit * mkRat c.kappa 32768 * mkRat (r.2.getD ch 0) 65535) then some (48 * r.1 + ch) else none

/-- The LATCH of every driving port; the lit emitters of the slot that begins are sensed, and the loops whose registers the
latch has loaded take uploads again. -/
def latchCells (lit : Rat) (s : State) : State :=
  let s1 := (List.range (gradePorts s)).foldl (fun t p => portSend p latchFrame_ t) s
  let lights (c : PlantCell) : PlantCell :=
    if c.feed.isSome && c.latchedAt == nowNs s && c.live.outEn then c.senseLit (litEmitters lit c) else { c with dark := c.isDark (nowNs s) }
  { s1 with
    plant.loops := s1.plant.loops.map fun l => { l with cells := l.cells.map lights }
    chain.loops := s1.chain.loops.map fun l => { l with loadWait := l.loadWait && !s1.chain.armedLoad } }

/-- Freeze and blank that wait for a transit take effect. -/
def takeFreeze (s : State) : State :=
  let merge (now : List Bool) (next : List (Option Bool)) : List Bool := (now.zip next).map fun (a, b) => b.getD a
  { s with
    pres.frozen := merge s.pres.frozen s.pres.freezeNext
    pres.blanked := merge s.pres.blanked s.pres.blankNext
    pres.freezeNext := s.pres.freezeNext.map fun _ => none
    pres.blankNext := s.pres.blankNext.map fun _ => none }

/-- Whether a slot is the first one of the last view that its frame shows. -/
def lastViewShown (g : Program) (i : Nat) : Bool :=
  i == (g.views.map fun v => ((List.range g.slots.length).find? fun k => g.view k == v).getD 0).foldl max 0

/-- The write-backs of frames whose transit has come without their data (04 R127). -/
def dropWritebacks (f : Nat) (s : State) : State :=
  (s.layers.writeback.filter fun w => match w.frame with | some n => n ≤ f | none => false).foldl (fun t w => abandonWriteback w t) s

/-- What a view has presented after a transit: the image that is shown, or, while it is blanked, its current composite
(08 R217), which a frozen view keeps (R216). -/
def present (x : SlotAt) (s : State) : State :=
  let g := planOf s x.frame
  let v := g.view x.slot
  match s.pres.shown with
  | none => s
  | some u =>
    if u.id.blank then
      (if viewFrozen s v then s
       else match s.pres.images.find? fun i => i.view == v && i.frame == uploadedFrame g x.frame with
        | some i => { s with pres.presented := setAt s.pres.presented v (some i) }
        | none => s)
    else match u.image with
      | some i => { s with pres.presented := setAt s.pres.presented v (some i), pres.lastSent := setAt s.pres.lastSent v (some u) }
      | none => s

/-- The transit of a slot (08 R204): the cells swap, the slot's image stands in front, the next slot follows, and the ports
whose train was missing are searched (10 R249). The ARM of a slot whose image the cells hold leaves at once (09 R234). -/
def transitTo (x : SlotAt) (s : State) : State :=
  let g := planOf s x.frame
  let s1 := latchCells (g.rowTime x.slot - (g.dead : Nat)) s
  let search (q : ChainPort) : ChainPort := { q with missed := false, missingNow := q.missingNow || q.missed }
  let s2 := present x (takeFreeze { s1 with
    chain.ports := s1.chain.ports.map search
    pres.position := some x
    pres.next := some (slotAfter s x)
    pres.held := match s.pres.upload, s.pres.shown with
      | some u, some v => if u.seqs == v.seqs then s.pres.held else some v
      | some _, none => none
      | none, _ => s.pres.held
    pres.shown := if s.pres.upload.isSome then s.pres.upload else s.pres.shown
    pres.upload := none
    pres.armed := false
    pres.launched := false })
  let s3 := if lastViewShown g x.slot then dropWritebacks x.frame (retireBuffers x.frame s2) else s2
  let y := slotAfter s x
  let w := wantedImage s3 y
  match heldFor s3 y w.1.1 with
  | some u => if w.2 then s3 else armHeld y u s3
  | none => s3

/-- TRANSIT is due: at the start of a slot whose latch has been launched. -/
def transitDue (s : State) : Bool := presenting s && s.pres.launched && slotDue s 0

/-- The loops that wait for a gap in which their meridian moves to the configured one (10 R255); firmware runs the move. -/
def moveMeridians (s : State) : State :=
  (List.range (gradeLoops s)).foldl (fun t l =>
    let lp := getLoop t l
    if lp.moveDue && t.fw.running && portGap t lp.moveTime (portOf l .A) && portGap t lp.moveTime (portOf l .B) then burst l lp.wantM t else t) s

/-! ## Presentation frames (08 R195, R209) -/

/-- The presentation frame in progress, by its first or its latest slot. -/
def frameInProgress (s : State) : Option SlotAt :=
  if (targetSlot s).slot = 0 && slotDue s 0 then some (targetSlot s) else s.pres.position

/-- Whether a presentation frame that has not been started is in progress. -/
def frameStartDue (s : State) : Bool :=
  presenting s && (frameInProgress s).any fun x => !s.pres.started || s.pres.frameStarted < x.frame + x.latency

/-- What frames before `f` leave behind is dropped; three of them stay, which a larger latency may show again (08 R205). -/
def dropOld (f : Nat) (s : State) : State :=
  { s with
    pres.images := s.pres.images.filter fun i => f ≤ i.frame + 3
    pres.plans := s.pres.plans.filter fun x => f ≤ x.1 + 3
    ledger.sums := s.ledger.sums.filter fun x => f ≤ x.frame + 3
    ledger.magnitudes := s.ledger.magnitudes.filter fun x => f ≤ x.frame + 3
    therm.latched := s.therm.latched.filter fun x => f ≤ x.1 + 3 }

/-- The frame of a scan position as a window's number gives it (07 R191). -/
def windowFrame (w : Nat) : Nat := w / 32768

/-- A presentation frame starts: its phase takes effect, and the grants of earlier frames end (08 R209; 07 R191). -/
def startFrame (x : SlotAt) (s : State) : State :=
  let d := phaseDelta s s.pres.phase x.phase
  let stepped := s.pres.phaseKnown && decide (d ≠ 0) && !smallStep (planOf s x.frame) d
  judgeOverlap (dropOld (uploadedFrame (planOf s x.frame) x.frame) { s with
    pres.started := true
    pres.frameStarted := x.frame + x.latency
    pres.phase := x.phase
    pres.phaseKnown := true
    pres.phaseSteps := if stepped then inc32 s.pres.phaseSteps else s.pres.phaseSteps
    ledger.grants := s.ledger.grants.filter fun g => x.frame ≤ windowFrame g.window })

/-- PRESENTATION_FRAME_START. -/
def execPresentationFrameStart (s : State) : Host.Outcome State Fault Refusal :=
  .next (match frameInProgress s with
    | some x => if frameStartDue s then startFrame x s else s
    | none => s)

/-! ## Opcodes -/

/-- PROGRAM_SET (08 R197). -/
def programSetSpec : OpSpec where
  code := 0x0600
  sched := true
  apply := true
  domains := fun _ _ => [.pixel]
  check := fun r _ => firstFail [lenIs 160 r, need (prm r 1 1 ≤ 7)]
  units := fun r s => [(⟨.program, prm r 1 1⟩, programStatus r.params s)]

def execProgramSet (r : Req) (s : State) : Host.Outcome State Fault Refusal := .next (runPacket (period s) programSetSpec r s)

/-- The lock state code of 08 Table 8-7. -/
def lockCode : SyncLock → Nat
  | .disabled => 0
  | .acquiring => 1
  | .locked => 2
  | .lost => 3

/-- The program status record (08 Table 8-7). -/
def programBytes (s : State) : List Byte :=
  let p := s.pres
  let mask (l : List Bool) : Nat := l.zipIdx.foldl (fun a (b, i) => a + b2n b * 2 ^ i) 0
  let frozen := (List.range 4).map (viewFrozen s)
  let lock (i : Nat) : Nat := lockCode (getSync s i).state
  let tu := uploadPeriod (fullestPort s)
  u8 p.inForce ++ u8 p.running ++
    u8 (128 * b2n (p.running != p.inForce) + 64 * b2n p.overlap + 32 * b2n p.residueAlert + 16 * b2n (p.sync.any (·.notGenlocked))) ++
    u8 (16 * mask frozen + mask p.blanked) ++ u32 p.phase ++ u16 (uploadCapacity (fullestPort s)) ++ u16 (tu / 100) ++
    u8 (lock 0 + 4 * lock 1 + 16 * lock 2 + 64 * lock 3) ++ u8 (lock 4) ++ u16 0 ++
    ((List.range 4).flatMap fun i => u32 (roundDivN (getSync s i).psi 65536)) ++ u16 p.residue ++ u32 p.clamped ++ u16 0 ++
    (p.late.flatMap u32) ++ u32 (satN 0xFFFFFFFF (p.eclipse.foldl (· + ·) 0)) ++ u32 p.phaseSteps

/-- PROGRAM_STATUS. -/
def programStatusSpec : OpSpec where
  code := 0x0601
  domains := fun _ _ => [.pixel]
  check := fun r _ => lenIs 0 r
  run := fun _ s => (s, .done St.ok (programBytes s))

def execProgramStatus (r : Req) (s : State) : Host.Outcome State Fault Refusal := .next (runPacket (period s) programStatusSpec r s)

/-- CAMSYNC_CONFIG (08 R206). -/
def camsyncConfigSpec : OpSpec where
  code := 0x0602
  sched := true
  apply := true
  domains := fun _ _ => [.pixel]
  check := fun r _ => firstFail [lenIs (4 + 20 * prm r 1 1) r,
    need (1 ≤ prm r 1 1 && prm r 1 1 ≤ 5 && !hasDup ((List.range (prm r 1 1)).map fun i => getB (syncRecord r.params i) 0))]
  units := fun r s => (List.range (prm r 1 1)).map fun i => (⟨.camsync, getB (syncRecord r.params i) 0⟩, syncStatus r.params i s)

/-- A sync record commits by its input. -/
def applySyncOf (ps : List Byte) (input : Nat) (s : State) : State :=
  match (List.range (getB ps 1)).find? fun i => getB (syncRecord ps i) 0 == input with
  | some i => applySync ps i s
  | none => s

def execCamsyncConfig (r : Req) (s : State) : Host.Outcome State Fault Refusal := .next (runPacket (period s) camsyncConfigSpec r s)

/-- The parameters of FREEZE and BLANK. -/
def maskCheck (r : Req) : Nat := firstFail [lenIs 4 r, need (prm r 0 1 ≤ 15 && prm r 1 1 ≤ 1)]

/-- The views of a mask take a waiting value. -/
def setNext (l : List (Option Bool)) (mask : Nat) (on : Bool) : List (Option Bool) :=
  l.zipIdx.map fun (x, v) => if mask.testBit v then some on else x

/-- FREEZE (08 R216). -/
def freezeSpec : OpSpec where
  code := 0x0603
  sched := true
  domains := fun _ _ => [.pixel]
  check := fun r _ => maskCheck r
  run := fun r s =>
    let on := prm r 1 1 = 1
    ({ s with
      pres.freezeNext := setNext s.pres.freezeNext (prm r 0 1) on
      pres.unfreezeAt := if on then s.pres.unfreezeAt
        else s.pres.unfreezeAt.zipIdx.map fun (x, v) => if (prm r 0 1).testBit v && s.pres.frozen.getD v false then s.time.frame + 1 else x }, .done St.ok [])

def execFreeze (r : Req) (s : State) : Host.Outcome State Fault Refusal := .next (runPacket (period s) freezeSpec r s)

/-- BLANK (08 R217). -/
def blankSpec : OpSpec where
  code := 0x0604
  sched := true
  domains := fun _ _ => [.pixel]
  check := fun r _ => maskCheck r
  run := fun r s => ({ s with pres.blankNext := setNext s.pres.blankNext (prm r 0 1) (prm r 1 1 = 1) }, .done St.ok [])

def execBlank (r : Req) (s : State) : Host.Outcome State Fault Refusal := .next (runPacket (period s) blankSpec r s)

end Sys2Proof.Machine
end

