-- ==== Sys2Proof/Machine/Aes.lean ====
section
/-! DEFINITION. AES-256 in Galois counter mode, which wraps keys (18 R407) and seals native packets (03 R86). The
functions are FIPS 197's and SP 800-38D's, which the spec names and does not restate. -/

namespace Sys2Proof.Machine

/-- Multiplication by x in the field of FIPS 197. -/
def gfDouble (a : Byte) : Byte := if a.msb then (a <<< 1) ^^^ 0x1B else a <<< 1

/-- Multiplication in the field of FIPS 197, over the low `n` bits of `b`. -/
def gfMulBits : Nat → Byte → Byte → Byte
  | 0, _, _ => 0
  | n + 1, a, b => (if b.getLsbD 0 then a else 0) ^^^ gfMulBits n (gfDouble a) (b >>> 1)

/-- Multiplication in the field of FIPS 197. -/
def gfMul (a b : Byte) : Byte := gfMulBits 8 a b

/-- The multiplicative inverse, `a` to the power 254, with 0 for 0. -/
def gfInv (a : Byte) : Byte :=
  let a2 := gfMul a a
  let a4 := gfMul a2 a2
  let a8 := gfMul a4 a4
  let a16 := gfMul a8 a8
  let a32 := gfMul a16 a16
  let a64 := gfMul a32 a32
  let a128 := gfMul a64 a64
  gfMul (gfMul (gfMul a2 a4) (gfMul a8 a16)) (gfMul (gfMul a32 a64) a128)

/-- The substitution of one byte. -/
def aesSub (a : Byte) : Byte :=
  let i := gfInv a
  i ^^^ i.rotateLeft 1 ^^^ i.rotateLeft 2 ^^^ i.rotateLeft 3 ^^^ i.rotateLeft 4 ^^^ 0x63

/-- Exclusive-or of two byte strings over the shorter one. -/
def xorBytes (a b : List Byte) : List Byte := List.zipWith (· ^^^ ·) a b

/-- The next four bytes of the 256-bit key schedule, from the schedule so far (`ws` newest first). -/
def aesKeyWord (i : Nat) (rcon : Byte) (ws : List (List Byte)) : List Byte :=
  let prev := ws.getD 0 []
  let t :=
    if i % 8 = 0 then xorBytes ((prev.drop 1 ++ prev.take 1).map aesSub) [rcon, 0, 0, 0]
    else if i % 8 = 4 then prev.map aesSub else prev
  xorBytes (ws.getD 7 []) t

/-- The schedule extended by `n` words from word `i` on. -/
def aesExpand : Nat → Nat → Byte → List (List Byte) → List (List Byte)
  | 0, _, _, ws => ws
  | n + 1, i, rcon, ws =>
    aesExpand n (i + 1) (if i % 8 = 0 then gfDouble rcon else rcon) (aesKeyWord i rcon ws :: ws)

/-- The 15 round keys of a 256-bit key, 16 bytes each. -/
def aesRoundKeys (key : List Byte) : List (List Byte) :=
  chunks 16 (aesExpand 52 8 1 (chunks 4 key).reverse).reverse.flatten

/-- The bytes of the state with the rows shifted; the state is held column by column. -/
def aesShiftRows (s : List Byte) : List Byte :=
  (List.range 16).map fun k => s.getD ((k + 4 * (k % 4)) % 16) 0

/-- One column mixed. -/
def aesMixColumn (c : List Byte) : List Byte :=
  (List.range 4).map fun r =>
    gfMul 2 (c.getD r 0) ^^^ gfMul 3 (c.getD ((r + 1) % 4) 0) ^^^ c.getD ((r + 2) % 4) 0 ^^^ c.getD ((r + 3) % 4) 0

/-- The rounds with the remaining round keys; the last one mixes no columns. -/
def aesRounds : List (List Byte) → List Byte → List Byte
  | [], s => s
  | [k], s => xorBytes (aesShiftRows (s.map aesSub)) k
  | k :: ks, s => aesRounds ks (xorBytes ((chunks 4 (aesShiftRows (s.map aesSub))).flatMap aesMixColumn) k)

/-- AES-256 of one 16-byte block under expanded round keys. -/
def aesBlock (rk : List (List Byte)) (block : List Byte) : List Byte :=
  aesRounds (rk.drop 1) (xorBytes block (rk.headD []))

/-- Multiplication in the field of SP 800-38D over the `n` remaining bits of `x`, most significant first. -/
def ghashMulBits : Nat → BitVec 128 → BitVec 128 → BitVec 128 → BitVec 128
  | 0, _, _, z => z
  | n + 1, x, v, z =>
    ghashMulBits n (x <<< 1) (if v.getLsbD 0 then (v >>> 1) ^^^ (0xE1#128 <<< 120) else v >>> 1)
      (if x.msb then z ^^^ v else z)

/-- GHASH of whole blocks under the hash key. -/
def ghash (h : BitVec 128) (blocks : List (List Byte)) : BitVec 128 :=
  blocks.foldl (fun y b => ghashMulBits 128 (y ^^^ BitVec.ofNat 128 (beVal (padTo 16 b))) h 0) 0

/-- The key stream XORed into the text, counter blocks from `ctr` on. -/
def gcmCtr (rk : List (List Byte)) (iv : List Byte) : Nat → List (List Byte) → List Byte
  | _, [] => []
  | ctr, b :: bs => xorBytes b (aesBlock rk (iv ++ u32 ctr)) ++ gcmCtr rk iv (ctr + 1) bs

/-- The 16-byte tag over associated data and ciphertext, for a 12-byte nonce. -/
def gcmTag (rk : List (List Byte)) (iv aad ct : List Byte) : List Byte :=
  let h := BitVec.ofNat 128 (beVal (aesBlock rk (zeros 16)))
  let s := ghash h (chunks 16 aad ++ chunks 16 ct ++ [u64 (8 * aad.length) ++ u64 (8 * ct.length)])
  xorBytes (ube 16 s.toNat) (aesBlock rk (iv ++ u32 1))

/-- The text of AES-256-GCM, or none where the tag does not match. -/
def gcmOpen (key iv aad ct tag : List Byte) : Option (List Byte) :=
  let rk := aesRoundKeys key
  if gcmTag rk iv aad ct = tag then some (gcmCtr rk iv 2 (chunks 16 ct)) else none

/-- The ciphertext and tag of AES-256-GCM. -/
def gcmSeal (key iv aad pt : List Byte) : List Byte × List Byte :=
  let rk := aesRoundKeys key
  let ct := gcmCtr rk iv 2 (chunks 16 pt)
  (ct, gcmTag rk iv aad ct)

end Sys2Proof.Machine
end

