-- ==== Sys2Proof/Machine/Streams.lean ====
section
/-! DEFINITION. Video streams (03 R82 to R86, R449; 04 R108, R111, R112, R130; 18 R408): subscription and drop, IGMP
membership, and the ingest of ST 2110-20 and native packets. -/

namespace Sys2Proof.Machine

/-! ## Ports and groups -/

/-- A port carries traffic: its link is up and the NET domain is on (03 R81, 16 Table 16-4). -/
def portUp (s : State) (p : NetPort) : Bool := (getNet s p).link && domainOn s .always

/-- An IGMPv2 querier counts as present on a port (03 R84). -/
def v2Mode (s : State) (p : NetPort) : Bool := match (getNet s p).v2Until with | some t => nowNs s < t | none => false

/-- A membership report or leave sent on a port (03 R84). -/
def sendReport (p : NetPort) (group source : Nat) (join : Bool) (s : State) : State :=
  if portUp s p then send (.igmpReport p group source join (v2Mode s p)) s else s

/-- A state-change report: sent now and once more 1 s later (03 R84). -/
def changeReport (p : NetPort) (group source : Nat) (join : Bool) (s : State) : State :=
  sendReport p group source join { s with net.reportRepeats := s.net.reportRepeats ++ [⟨nowNs s + 1000000000, p, group, source, join⟩] }

/-- Whether an address is a multicast group. -/
def isMulticast (ip : Nat) : Bool := ip / 2 ^ 28 == 14

/-- A path joins its group on its port. -/
def joinPath (h : Nat) (p : NetPort) (x : Path) (s : State) : State :=
  if x.used && isMulticast x.group then changeReport p x.group x.source true { s with net.joined := s.net.joined ++ [⟨p, x.group, x.source, h⟩] } else s

/-- A stream leaves its groups, except those that another stream still has joined on the port. -/
def leaveGroups (h : Nat) (s : State) : State :=
  let mine := s.net.joined.filter (·.stream == h)
  let rest := s.net.joined.filter (·.stream != h)
  mine.foldl (fun t j => if rest.any (fun x => x.port == j.port && x.group == j.group && x.source == j.source) then t
    else changeReport j.port j.group j.source false t) { s with net.joined := rest }

/-! ## Subscription (03 R82, 04 R111, 18 Table 18-10) -/

/-- A path of the network part, at its offset. -/
def pathOf (used : Bool) (ps : List Byte) (off : Nat) : Path := ⟨used, be ps off 4, be ps (off + 4) 4, be ps (off + 8) 2⟩

/-- The stream that the 60 parameter bytes describe. -/
def streamOf (ps : List Byte) : Stream :=
  { native := getB ps 1 == 1, sealed := bitN (getB ps 2) 5, fullRange := bitN (getB ps 2) 4, payloadType := getB ps 3
    sampling := getB ps 4, colorimetry := getB ps 5, transfer := getB ps 6, width := be ps 8 2, height := be ps 10 2
    streamId := be ps 12 4, pathA := pathOf (bitN (getB ps 2) 7) ps 16, pathB := pathOf (bitN (getB ps 2) 6) ps 28
    ring := (List.range (getB ps 41)).map fun i => be ps (50 + 2 * i) 2
    cropX := be ps 42 2, cropY := be ps 44 2, cropW := be ps 46 2, cropH := be ps 48 2
    lossTimeout := getB ps 58, returnCount := getB ps 59 }

/-- The stream handle of the binding. -/
def streamHandle (ps : List Byte) : Nat := getB ps 40

/-- A UDP port that a stream may use, on a path that is used. -/
def pathOk (ps : List Byte) (off : Nat) (used : Bool) : Bool :=
  let port := be ps (off + 8) 2
  if used then !(49410 ≤ port && port ≤ 49412) && (be ps off 4 = 0 || isMulticast (be ps off 4)) else be ps off 10 = 0

/-- The network part is within the supported subset (03 Table 3-3, 18 Table 18-10). -/
def networkPartOk (ps : List Byte) : Bool :=
  let x := streamOf ps
  getB ps 1 ≤ 1 && field (getB ps 2) 3 0 = 0 && (x.pathA.used || x.pathB.used) &&
    pathOk ps 16 x.pathA.used && pathOk ps 28 x.pathB.used && 1 ≤ x.width && 1 ≤ x.height &&
    (if x.native then x.payloadType = 0 && 1 ≤ x.sampling && x.sampling ≤ 11 && x.colorimetry ≤ 3 && x.transfer ≤ 4 &&
        x.width ≤ 4096 && x.height ≤ 4096
     else !x.sealed && 96 ≤ x.payloadType && x.payloadType ≤ 127 && x.sampling ≤ 2 && x.colorimetry ≤ 2 &&
        [1, 3, 4].contains x.transfer && x.width ≤ 7680 && x.height ≤ 4320 && x.streamId = 0)

/-- The buffer format that a stream needs (04 R111). -/
def Stream.format (x : Stream) : Nat := if x.native then x.sampling else if x.sampling = 0 then 4 else if x.sampling = 1 then 5 else 11

/-- The binding's own fields (04 Table 4-4). A ring that names one buffer twice is refused with BAD_PARAM (DESIGN CHOICE: R111 does not
name the case; notes/assumptions/38.md). -/
def bindingFieldsOk (ps : List Byte) : Bool :=
  let x := streamOf ps
  streamHandle ps ≤ 7 && 2 ≤ getB ps 41 && getB ps 41 ≤ 4 && be ps (50 + 2 * getB ps 41) (8 - 2 * getB ps 41) = 0 &&
    1 ≤ x.cropW && x.cropW ≤ 4096 && 1 ≤ x.cropH && x.cropH ≤ 4096 && 1 ≤ x.lossTimeout && 1 ≤ x.returnCount && x.returnCount ≤ 16 &&
    x.cropX + x.cropW ≤ x.width && x.cropY + x.cropH ≤ x.height && !(x.format == 11 && x.cropX % 2 == 1) && !hasDup x.ring

/-- The ring's buffers against the stream (04 R111). -/
def ringOk (ps : List Byte) (s : State) : Bool :=
  let x := streamOf ps
  x.ring.all fun h => match findBuf s h with
    | some b => b.state == .free && !isNamed s h && !b.stored && !b.releasePending && b.format == x.format && b.width == x.cropW &&
        b.height == x.cropH && b.colorimetry == x.colorimetry && b.transfer == x.transfer && b.fullRange == x.fullRange
    | none => false

/-- The status of a subscription: BAD_PARAM, or BUSY for a handle that is subscribed (18 R408). -/
def streamStatus (ps : List Byte) (s : State) : Nat :=
  if !(networkPartOk ps && bindingFieldsOk ps && ringOk ps s) then St.badParam
  else if (s.layers.streams.getD (streamHandle ps) none).isSome then St.busy else St.ok

/-- A subscription commits: the stream is bound and its groups are joined (18 R408, 03 R84). -/
def applyStream (ps : List Byte) (s : State) : State :=
  let x := streamOf ps
  let h := streamHandle ps
  joinPath h .B x.pathB (joinPath h .A x.pathA { s with layers.streams := setAt s.layers.streams h (some x) })

def streamSubscribeSpec : OpSpec where
  code := 0x0200
  sched := true
  apply := true
  check := fun r s => firstFail [lenIs 60 r, need (networkPartOk r.params && bindingFieldsOk r.params), streamStatus r.params s]
  units := fun r s => [(⟨.stream, streamHandle r.params⟩, streamStatus r.params s)]

def execStreamSubscribe (r : Req) (s : State) : Host.Outcome State Fault Refusal := .next (runPacket (period s) streamSubscribeSpec r s)

/-- A stream is dropped (04 R130): groups left, the FILLING buffer freed, and every layer that names it takes its loss
action at the next latch. -/
def dropStream (h : Nat) (s : State) : State :=
  match s.layers.streams.getD h none with
  | none => s
  | some st =>
    let s1 := leaveGroups h s
    let s2 := { s1 with layers.streams := setAt s1.layers.streams h none }
    let filling := s2.layers.buffers.filter fun b => st.ring.contains b.handle && b.state == .filling
    let s3 := filling.foldl (fun t b => freeBuf b.handle t) s2
    { s3 with layers.run := s3.layers.run.zipIdx.map fun (r, i) =>
        let l := s3.layers.layer.getD i {}
        if l.enable && l.isStream && l.source == h && !r.lost then { r with dropped := true } else r }

def streamDropSpec : OpSpec where
  code := 0x0201
  check := fun r s => firstFail [lenIs 4 r, need (prm r 0 1 ≤ 7 && (s.layers.streams.getD (prm r 0 1) none).isSome)]
  run := fun r s => (dropStream (prm r 0 1) s, .done St.ok [])

def execStreamDrop (r : Req) (s : State) : Host.Outcome State Fault Refusal := .next (runPacket (period s) streamDropSpec r s)

/-! ## Packets into ring buffers (03 R83, 04 R112, R113) -/

/-- A packet's content: sequence number, RTP timestamp or frame number, whether it ends its frame, and its pixels by row
and column of the stream's image. -/
structure Ingest where
  seq : Nat
  key : Nat
  last : Bool
  pixels : List (Nat × Nat × Nat)

/-- A pixel written into a buffer (03 R449). -/
def putPixel (x y v : Nat) (b : Buffer) : Buffer :=
  let bpp := bitsPerPixel b.format
  let start := x * bpp
  let n := (start % 8 + bpp + 7) / 8
  let a := rowBase b.format + y * pitchOf b.format b.width + start / 8
  let low := 8 * n - start % 8 - bpp
  let old := Memory.be b.mem a n
  let cleared := old - (old / 2 ^ low % 2 ^ bpp) * 2 ^ low
  let got := if b.got.any (fun g => g.1 == y) then b.got.map fun g => if g.1 == y && !g.2.contains x then (y, x :: g.2) else g else (y, [x]) :: b.got
  { b with mem := Memory.write b.mem a (ube n (cleared + v % 2 ^ bpp * 2 ^ low)), got := got }

/-- The pixels inside the crop written (04 R111). -/
def putPixels (st : Stream) (px : List (Nat × Nat × Nat)) (b : Buffer) : Buffer :=
  px.foldl (fun b (y, x, v) =>
    if st.cropX ≤ x && x < st.cropX + st.cropW && st.cropY ≤ y && y < st.cropY + st.cropH then putPixel (x - st.cropX) (y - st.cropY) v b else b) b

/-- The frame of a FILLING buffer completes: its incomplete rows are recorded, and it is READY (04 R112, R113). -/
def completeFrame (h : Nat) (s : State) : State :=
  match findBuf s h with
  | some b =>
    if b.state == .filling then
      let bad := (List.range b.height).filter fun y => !(b.got.any fun g => g.1 == y && g.2.length == b.width)
      readyBuf h (modBuf h (fun b => { b with incomplete := bad, got := [] }) s)
    else s
  | none => s

def setStream (h : Nat) (st : Stream) (s : State) : State := { s with layers.streams := setAt s.layers.streams h (some st) }

/-- The ring from its next buffer on. -/
def Stream.order (st : Stream) : List Nat := (st.ring.drop st.nextRing) ++ st.ring.take st.nextRing

/-- A new stream frame opens (04 R112): the open one completes, then the next FREE buffer of the ring, or else the oldest
READY one, takes the frame; with neither its packets are dropped. -/
def openFrame (h key : Nat) (st : Stream) (s : State) : State :=
  let s1 := match st.openHandle with | some b => completeFrame b s | none => s
  let ringBufs : List Buffer := st.order.filterMap fun n => findBuf s1 n
  let oldest : Option Buffer := ((ringBufs.filter (·.state == .ready)).mergeSort fun a b => a.order ≤ b.order).head?
  let chosen : Option (Nat × Bool) := match ringBufs.find? fun b => b.state == .free && !b.releasePending with
    | some b => some (b.handle, false)
    | none => oldest.map fun b => (b.handle, true)
  let next := match chosen with | some (b, _) => (st.ring.idxOf b + 1) % max 1 st.ring.length | none => st.nextRing
  let s2 := match chosen with
    | some (b, _) => modBuf b (fun x => { x with state := .filling, filler := .stream, key := some key, got := [], incomplete := [] }) s1
    | none => s1
  setStream h { st with openKey := some key, openHandle := chosen.map (·.1), nextRing := next, skipped := if (chosen.map (·.2)).getD false then satN 0xFFFF (st.skipped + 1) else st.skipped } s2

/-- The signed distance of two 32-bit numbers. -/
def seqDistance (a b : Nat) : Int := signed 32 ((a + 2 ^ 32 - b % 2 ^ 32) % 2 ^ 32)

/-- A packet that is dropped and counted in the stream's ingest drops. -/
def dropPacket (h : Nat) (st : Stream) (s : State) : State := setStream h { st with drops := inc32 st.drops } s

/-- A packet dropped as malformed (03 R82). -/
def malformedPacket (h : Nat) (st : Stream) (s : State) : State := setStream h { st with malformed := inc32 st.malformed } s

/-- A packet for a buffer that is not FILLING: a stray write (04 R108). -/
def strayWrite (h : Nat) (s : State) : State := modBuf h (fun b => { b with stray := inc32 b.stray }) s

/-- A packet reaches the buffer of its frame, or is dropped and counted (03 R83, 04 R108, R112). -/
def writePacket (h : Nat) (st : Stream) (g : Ingest) (s : State) : State :=
  if st.openKey = some g.key then
    match st.openHandle with
    | none => dropPacket h st s
    | some n =>
      if bufState s n == some .filling then
        let s1 := modBuf n (putPixels st g.pixels) s
        if g.last then completeFrame n s1 else s1
      else strayWrite n s
  else match s.layers.buffers.find? fun b => st.ring.contains b.handle && b.key == some g.key with
    | some b => strayWrite b.handle s
    | none => dropPacket h st s

/-- A packet of a stream (03 R83): the second copy of one is discarded without being counted. A packet too far from the newest
number received before it is dropped; one ahead of it becomes the newest received all the same. -/
def takePacket (h : Nat) (g : Ingest) (s : State) : State :=
  match s.layers.streams.getD h none with
  | none => s
  | some st =>
    let d := match st.newest with | some n => seqDistance g.seq n | none => 1
    let newest := if 0 < d then g.seq else st.newest.getD g.seq
    let seen := st.seen.filter fun n => decide (-32768 ≤ seqDistance n newest)
    if d < -32768 || 32768 < d then dropPacket h { st with newest := some newest, seen := seen } s
    else if st.seen.contains g.seq then s
    else
      let st1 := { st with newest := some newest, seen := g.seq :: seen }
      if 0 < d && st.openKey != some g.key then
        let s1 := openFrame h g.key st1 s
        match s1.layers.streams.getD h none with
        | some st2 => writePacket h st2 g s1
        | none => s1
      else writePacket h st1 g (setStream h st1 s)

/-! ## ST 2110-20 (03 Table 3-3) -/

/-- Bytes and pixels of a pixel group by sampling (03 Table 3-3). -/
def pixelGroup (sampling : Nat) : Nat × Nat := if sampling = 0 then (15, 4) else if sampling = 1 then (9, 2) else (5, 2)

/-- The pixels of one group, in the bits of the buffer's format; 4:2:2 groups carry Cb, Y, Cr, Y. -/
def groupPixels (sampling v : Nat) : List Nat :=
  if sampling = 0 then (List.range 4).map fun i => v / 2 ^ (30 * (3 - i)) % 2 ^ 30 * 4
  else if sampling = 1 then (List.range 2).map fun i => v / 2 ^ (36 * (1 - i)) % 2 ^ 36
  else [v / 2 ^ 20 % 2 ^ 20, v % 2 ^ 20]

/-- A sample row data header: length, row, offset, and whether it is of the second field. -/
structure RowHeader where
  length : Nat
  row : Nat
  column : Nat
  second : Bool

/-- The sample row data headers from an offset on; `fuel` bounds them. -/
def rowHeaders (p : List Byte) : Nat → Nat → List RowHeader
  | 0, _ => []
  | fuel + 1, off =>
    let h : RowHeader := ⟨be p off 2, be p (off + 2) 2 % 32768, be p (off + 4) 2 % 32768, bitN (getB p (off + 2)) 7⟩
    if bitN (getB p (off + 4)) 7 then h :: rowHeaders p fuel (off + 6) else [h]

/-- The pixels of one sample row. -/
def rowPixels (sampling : Nat) (h : RowHeader) (data : List Byte) : List (Nat × Nat × Nat) :=
  let g := pixelGroup sampling
  (((chunks g.1 data).flatMap fun c => groupPixels sampling (beVal c)).zipIdx).map fun (v, i) => (h.row, h.column + i, v)

/-- The pixels of sample rows whose data follow one another. -/
def rowsPixels (sampling : Nat) : List RowHeader → List Byte → List (Nat × Nat × Nat)
  | [], _ => []
  | h :: t, data => rowPixels sampling h (data.take h.length) ++ rowsPixels sampling t (data.drop h.length)

/-- Whether a sample row lies in the image and holds whole pixel groups (03 R82). -/
def rowHeaderOk (st : Stream) (h : RowHeader) : Bool :=
  let g := pixelGroup st.sampling
  let n := h.length / g.1 * g.2
  !h.second && h.length % g.1 = 0 && h.row < st.height && h.column + n < st.width + g.2 && (st.sampling != 2 || h.column % 2 = 0)

/-- The RTP header's length: fixed part, contributing sources and extension (RFC 3550). -/
def rtpLength (p : List Byte) : Nat :=
  let n := 12 + 4 * (getB p 0 % 16)
  if bitN (getB p 0) 4 then n + 4 + 4 * be p (n + 2) 2 else n

/-- An ST 2110-20 packet read against its subscription; none where it does not match (03 R82). -/
def readSt2110 (st : Stream) (p : List Byte) : Option Ingest :=
  let n := rtpLength p
  let hs := rowHeaders p (p.length / 6) (n + 2)
  let data := p.drop (n + 2 + 6 * hs.length)
  if n + 8 ≤ p.length && getB p 0 / 64 = 2 && getB p 1 % 128 = st.payloadType && hs.all (rowHeaderOk st) &&
      (hs.map (·.length)).foldl (· + ·) 0 ≤ data.length then
    some ⟨be p n 2 * 65536 + be p 2 2, be p 4 4, bitN (getB p 1) 7, rowsPixels st.sampling hs data⟩
  else none

/-- Whether a stream takes packets from a port. -/
def Stream.usesPort (st : Stream) : NetPort → Bool
  | .A => st.pathA.used
  | .B => st.pathB.used

/-- An ST 2110-20 payload of a stream arrives on a port; with the ingest buffer `full` it is dropped and counted
(01 R26, 03 Table 3-3). -/
def takeSt2110 (p : NetPort) (h : Nat) (payload : List Byte) (full : Bool) (s : State) : State :=
  match s.layers.streams.getD h none with
  | some st =>
    if portUp s p && st.usesPort p && !st.native then
      if full then dropPacket h st s
      else match readSt2110 st payload with
      | some g => takePacket h g s
      | none => malformedPacket h st s
    else s
  | none => s

/-- ST2110_PACKET (03 R83). -/
def execSt2110Packet (p : NetPort) (h : Fin 8) (payload : List Byte) (full : Bool) (s : State) : Host.Outcome State Fault Refusal :=
  .next (takeSt2110 p h payload full s)

/-! ## Native tile streams (03 R85, R86) -/

/-- The header of a native packet against the subscription (03 Table 3-4). -/
def nativeHeaderOk (st : Stream) (p : List Byte) : Bool :=
  32 ≤ p.length && be p 0 2 = 0xC7A1 && getB p 2 = 1 && field (getB p 3) 4 0 = 0 && be p 4 4 = st.streamId && getB p 16 = st.sampling &&
    be p 18 2 < st.height && be p 24 2 = st.width && be p 26 2 = st.height &&
    1 ≤ be p 22 2 && be p 20 2 + be p 22 2 ≤ st.width

/-- The length of a native packet: the payload holds the pixels with no remainder. -/
def nativeLengthOk (st : Stream) (p : List Byte) : Bool :=
  let bits := be p 22 2 * bitsPerPixel st.sampling
  bits % 8 = 0 && p.length = 32 + bits / 8 + (if bitN (getB p 3) 7 then 16 else 0)

/-- The pixels of a native payload (03 R449). -/
def nativePixels (st : Stream) (p data : List Byte) : List (Nat × Nat × Nat) :=
  let bpp := bitsPerPixel st.sampling
  let n := be p 22 2
  let v := beVal data
  let spare (x : Nat) : Nat := if st.sampling = 4 then x / 4 * 4 else x
  (List.range n).map fun i => (be p 18 2, be p 20 2 + i, spare (v / 2 ^ (bpp * (n - 1 - i)) % 2 ^ bpp))

/-- The payload of a native packet in clear; none where it does not authenticate, names a phase without a key, or is
unsealed on a subscription that requires sealing (03 R86). -/
def nativeData (s : State) (h : Nat) (st : Stream) (p : List Byte) : Option (List Byte) :=
  let phase := b2n (bitN (getB p 3) 5)
  if bitN (getB p 3) 7 then
    match (s.cmd.streamKeys.find? fun k => k.1 == (h, phase)).map (·.2) with
    | some key => gcmOpen key (slice p 4 12) (p.take 32) (slice p 32 (p.length - 48)) (p.drop (p.length - 16))
    | none => none
  else if st.sealed then none else some (p.drop 32)

/-- A native payload of a stream arrives on a port; with the ingest buffer `full` it is dropped and counted (01 R26). -/
def takeNative (p : NetPort) (h : Nat) (payload : List Byte) (full : Bool) (s : State) : State :=
  match s.layers.streams.getD h none with
  | some st =>
    if portUp s p && st.usesPort p && st.native then
      if full then dropPacket h st s
      else if nativeHeaderOk st payload && nativeLengthOk st payload then
        match nativeData s h st payload with
        | some data => takePacket h ⟨be payload 8 4, be payload 12 4, bitN (getB payload 3) 6, nativePixels st payload data⟩ s
        | none => dropPacket h st s
      else malformedPacket h st s
    else s
  | none => s

/-- NATIVE_PACKET (03 R85). -/
def execNativePacket (p : NetPort) (h : Fin 8) (payload : List Byte) (full : Bool) (s : State) : Host.Outcome State Fault Refusal :=
  .next (takeNative p h payload full s)

/-! ## IGMP (03 R79, R84) -/

/-- A query is answered on its port for each group joined there that it asks for; a general query asks for every group. An
IGMPv2 query starts the compatibility mode; IGMPv1 is not supported. -/
def takeQuery (p : NetPort) (version group robustness queryInterval : Nat) (s : State) : State :=
  if version = 2 || version = 3 then
    let gmi := if version = 3 && 0 < robustness && 0 < queryInterval then (robustness * queryInterval + 10) * 1000000000 else s.net.interval
    let s1 := { s with net.interval := gmi }
    let s2 := if version = 2 then setNet p (fun x => { x with v2Until := some (nowNs s + gmi) }) s1 else s1
    (s2.net.joined.filter fun j => j.port == p && (group = 0 || j.group = group)).foldl (fun t j => sendReport p j.group j.source true t) s2
  else s

def execIgmpQuery (p : NetPort) (version group robustness queryInterval : Nat) (s : State) : Host.Outcome State Fault Refusal :=
  .next (if portUp s p then takeQuery p version group robustness queryInterval s else s)

/-- A membership report on a port opens the group's forwarding out of that port (03 R79). -/
def snoopReport (p : NetPort) (group : Nat) (s : State) : State :=
  { s with net.memberships := (s.net.memberships.filter fun m => !(m.port == p && m.group == group)) ++ [⟨p, group, nowNs s⟩] }

def execIgmpReportSnooped (p : NetPort) (group : Nat) (s : State) : Host.Outcome State Fault Refusal :=
  .next (if portUp s p then snoopReport p group s else s)

/-- The membership interval has passed since a report (03 R79). -/
def membershipOver (s : State) (m : Membership) : Bool := m.reportAt + s.net.interval ≤ nowNs s

def execSnoopMembershipExpiry (p : NetPort) (group : Nat) (s : State) : Host.Outcome State Fault Refusal :=
  .next { s with net.memberships := s.net.memberships.filter fun m => !(m.port == p && m.group == group && membershipOver s m) }

/-- IGMP_REPORT_REPEAT (03 R84): the second copies that are due are sent. -/
def execIgmpReportRepeat (s : State) : Host.Outcome State Fault Refusal :=
  .next ((s.net.reportRepeats.filter fun x => x.dueAt ≤ nowNs s).foldl (fun t x => sendReport x.port x.group x.source x.join t)
    { s with net.reportRepeats := s.net.reportRepeats.filter fun x => nowNs s < x.dueAt })

end Sys2Proof.Machine
end

