-- ==== Sys2Proof/Machine/HouseTime.lean ====
section
/-! DEFINITION. House time (03 R87 to R101; 18 Tables 18-7 to 18-9): masters, the servo, holdover, TIME_CONFIG,
TIME_STATUS, the Ephemeris opcodes and SNAPSHOT. -/

namespace Sys2Proof.Machine

/-! ## Masters (03 R89) -/

/-- Lexicographic order of lists of numbers of one length. -/
def listLess : List Nat → List Nat → Bool
  | a :: t, b :: u => a < b || (a == b && listLess t u)
  | _, _ => false

/-- The dataset in the order of comparison of the best master clock algorithm. -/
def announceRank (a : Announce) : List Nat :=
  [a.priority1, a.clockClass, a.accuracy, a.variance, a.priority2, a.identity, a.stepsRemoved]

/-- The preferred port. -/
def preferredPort (s : State) : NetPort := if s.time.preferB then .B else .A

/-- Whether a master is to be chosen over another: the better rank, and among equals the preferred port (03 R89). -/
def Master.beats (pref : NetPort) (x y : Master) : Bool :=
  listLess (announceRank x.ann) (announceRank y.ann) || (!listLess (announceRank y.ann) (announceRank x.ann) && x.port == pref && y.port != pref)

/-- The valid masters, one heard on both ports taken once, on the preferred port (03 R89). -/
def distinctMasters (pref : NetPort) (l : List Master) : List Master :=
  l.filter fun m => m.port == pref || !(l.any fun x => x.port == pref && x.ann.identity == m.ann.identity)

/-- The best of the valid masters. -/
def bestMaster (pref : NetPort) (l : List Master) : Option Master :=
  (distinctMasters pref l).foldl (fun a m => match a with
    | none => some m
    | some b => if m.beats pref b then some m else some b) none

/-! ## The servo (03 R91 to R94) -/

/-- The clamp of the rate trim: 100 ppm in units of 2^-48 (03 R90). -/
def rateClamp : Int := 28147497671

/-- The Sync interval τ in nanoseconds: that of TIME_CONFIG, whatever interval the sample's own Sync states (DESIGN CHOICE: 03 R91
does not say which of the two τ is; notes/assumptions/36.md). -/
def syncInterval (s : State) : Rat :=
  if 0 ≤ s.time.logSync then (1000000000 * 2 ^ s.time.logSync.toNat : Nat) else mkRat 1000000000 (2 ^ (-s.time.logSync).toNat)

/-- The TIME code of a servo state (03 Table 3-8). -/
def servoCode : Servo → Nat
  | .locked => 0
  | .acquiring => 1
  | .holdover => 2
  | .neverLocked => 3

/-- A change of state, logged (03 R92). The loss of the time master that holdover stands for is reported until holdover is left
(01 R36), and with it the alert of R95. -/
def setServo (x : Servo) (s : State) : State :=
  if s.time.servo == x then s
  else
    let s1 := if s.time.servo == .holdover then clearAlertDetail 0x01 0x01 (servoCode .holdover) (clearAlert 0x01 0x02 (tileTarget s)
      { s with time.holdoverSince := none, time.holdoverAlerted := false }) else s
    let s2 := { s1 with time.servo := x, time.goodRun := 0, time.badRun := 0, time.discardRun := 0 }
    if x == .holdover then raiseAlert 0x01 0x01 (tileTarget s) 0 (servoCode x) false s2
    else logAlert 0x01 0x01 (tileTarget s) 0 (servoCode x) s2

/-- Holdover begins: the rate is frozen at the mean of the last 16 s (03 R94). -/
def enterHoldover (s : State) : State :=
  let recent := s.time.rateHistory.filter fun x => nowNs s ≤ x.1 + 16000000000
  let mean : Int := if recent.isEmpty then s.time.rate else roundDiv ((recent.map (·.2)).foldl (· + ·) 0) recent.length
  setServo .holdover { s with time.rate := mean, time.holdoverSince := some (nowNs s), time.holdoverAlerted := false }

/-- The best master clock algorithm runs again; without a valid master a locked servo enters holdover (03 R89, R94). -/
def runBmca (s : State) : State :=
  let best := bestMaster (preferredPort s) s.time.masters
  let s1 := { s with time.selected := best, time.tlv := match best with | some m => m.ann.tlv.take 64 | none => s.time.tlv }
  if best.isNone && s.time.servo == .locked then enterHoldover s1 else s1

/-- The alert detail of a lost link (notes/assumptions/15.md); one more when the link comes up. -/
def linkDetail : NetPort → Nat
  | .A => 0
  | .B => 2

/-- A link that goes down: the port's masters are lost (03 R75, R89), and the loss is reported until the link is back
(01 R36). -/
def linkDown (p : NetPort) (s : State) : State :=
  if (getNet s p).link then
    let s1 := setNet p (fun x => { x with link := false }) s
    let s2 := { s1 with time.masters := s1.time.masters.filter fun m => m.port != p }
    let s3 := raiseAlert 0x01 0x04 (tileTarget s) 0 (linkDetail p) false s2
    if s.fw.running then runBmca s3 else s3
  else s

/-- An Announce of the configured domain makes its master valid on the port (03 R89). -/
def takeAnnounce (p : NetPort) (a : Announce) (s : State) : State :=
  if a.domain = s.time.domain then
    runBmca { s with time.masters := (s.time.masters.filter fun m => !(m.port == p && m.ann.identity == a.identity)) ++ [⟨p, a, nowNs s⟩] }
  else s

def execPtpAnnounce (p : NetPort) (a : Announce) (s : State) : Host.Outcome State Fault Refusal :=
  .next (if s.fw.running && portUp s p then takeAnnounce p a s else s)

/-- Nanoseconds of a logarithmic message interval (IEEE 1588). -/
def logNs (log : Int) : Nat := if 0 ≤ log then 1000000000 * 2 ^ log.toNat else 1000000000 / 2 ^ (-log).toNat

/-- Whether a master has been silent for its announce receipt timeout, in intervals of its Announce messages (03 R89,
Table 3-6). -/
def announceLost (s : State) (m : Master) : Bool := decide (m.at_ + s.time.announceTimeout * logNs m.ann.logInterval ≤ nowNs s)

/-- The masters of a port whose announce receipt timeout has passed are no longer valid. -/
def loseMasters (p : NetPort) (s : State) : State :=
  runBmca { s with time.masters := s.time.masters.filter fun m => !(m.port == p && announceLost s m) }

/-- ANNOUNCE_RECEIPT_TIMEOUT (03 R89). -/
def execAnnounceReceiptTimeout (p : NetPort) (s : State) : Host.Outcome State Fault Refusal :=
  .next (if s.fw.running then loseMasters p s else s)

/-- The tile's own timestamps t2 and t3 of the latest exchange with the selected master, in units of 2^-16 ns: the receipt of its
Sync and the sending of the Delay_Req (03 R88). -/
def ownStamps (s : State) : Option (Int × Int) :=
  match s.time.selected with
  | none => none
  | some m =>
    match s.time.stamps.find? fun x => x.port == m.port && !x.sent && x.kind == 0,
        s.time.stamps.find? fun x => x.port == m.port && x.sent && x.kind == 1 with
    | some a, some b => some (65536 * (a.at_ : Int), 65536 * (b.at_ : Int))
    | _, _ => none

/-- The path delay of an exchange in nanoseconds (03, pseudocode before R91). -/
def ptpDelay (t : PtpTimes) (t2 t3 : Int) : Rat := mkRat ((t2 - t3) + (t.t4 - t.t1) - t.cSync - t.cDreq) 131072

/-- The mean of the last 16 path delays. -/
def meanDelay (l : List Rat) : Rat := if l.isEmpty then 0 else (l.foldl (· + ·) 0) / (l.length : Nat)

/-- The servo's output for an integral and an offset: −(α × θ + I) ÷ τ, in units of 2^-48, clamped (03 R91). -/
def servoRate (s : State) (integral θ : Rat) : Int :=
  clampI (-rateClamp) rateClamp (roundQ (-(mkRat s.time.alpha 65536 * θ + integral) / syncInterval s * 281474976710656))

/-- A sample taken by the servo (03 R91). -/
def steer (θ : Rat) (s : State) : State :=
  let i := s.time.integral + mkRat s.time.beta 65536 * θ
  let r := servoRate s i θ
  { s with
    time.integral := i
    time.rate := r
    time.rateHistory := (s.time.rateHistory.filter fun x => nowNs s ≤ x.1 + 16000000000) ++ [(nowNs s, r)] }

def absR (q : Rat) : Rat := if q < 0 then -q else q

/-- A discarded sample (03 R93). -/
def discardSample (s : State) : State := { s with time.discarded := inc32 s.time.discarded }

/-- An accepted sample lets presentation begin after a wake (16 R370). -/
def acceptSample (s : State) : State := { s with pres.waitSample := false }

/-- A sample while acquiring (03 R93, Table 3-8). -/
def sampleAcquiring (θ : Rat) (s : State) : State :=
  if s.time.pendingStep.isSome then discardSample s
  else if 1000000 < absR θ then
    acceptSample { s with time.pendingStep := some (roundQ (-θ * 281474976710656)), time.integral := 0, time.goodRun := 0 }
  else
    let s1 := acceptSample (steer θ s)
    let good := if absR θ < 200 then s.time.goodRun + 1 else 0
    if 16 ≤ good then setServo .locked s1 else { s1 with time.goodRun := good }

/-- A sample while locked (03 R93, Table 3-8). -/
def sampleLocked (θ : Rat) (s : State) : State :=
  if 10000 ≤ absR θ then
    let s1 := discardSample { s with time.discardRun := s.time.discardRun + 1 }
    if 16 ≤ s1.time.discardRun then setServo .acquiring s1 else s1
  else
    let s1 := acceptSample (steer θ { s with time.discardRun := 0 })
    let bad := if 1000 ≤ absR θ then s.time.badRun + 1 else 0
    if 8 ≤ bad then setServo .acquiring s1 else { s1 with time.badRun := bad }

/-- The first sample that ends holdover: the integral is set so that the output equals the frozen rate, or the counter
steps (03 R93, R94). -/
def sampleHoldover (θ : Rat) (s : State) : State :=
  let s1 := setServo .acquiring s
  if 1000000 < absR θ then sampleAcquiring θ s1
  else acceptSample { s1 with
    time.rateHistory := (s.time.rateHistory.filter fun x => nowNs s ≤ x.1 + 16000000000) ++ [(nowNs s, s.time.rate)]
    time.goodRun := if absR θ < 200 then 1 else 0
    time.integral := -(mkRat s.time.rate 281474976710656 * syncInterval s) - mkRat s.time.alpha 65536 * θ }

/-- An offset sample (03, pseudocode before R91). -/
def takeOffset (t : PtpTimes) (t2 t3 : Int) (s : State) : State :=
  let delays := (s.time.delays ++ [ptpDelay t t2 t3]).drop (s.time.delays.length + 1 - 16)
  let θ := mkRat (t2 - t.t1 - t.cSync) 65536 - meanDelay delays
  let s1 := { s with time.delays := delays, time.offset := θ, time.lastSample := some (nowNs s) }
  match s.time.servo with
  | .neverLocked => sampleAcquiring θ (setServo .acquiring s1)
  | .acquiring => sampleAcquiring θ s1
  | .locked => sampleLocked θ s1
  | .holdover => sampleHoldover θ s1

/-- Samples of other Sync intervals than 03 Table 3-6 supports are not used. -/
def syncUsed (t : PtpTimes) : Bool := decide (-7 ≤ t.logSync) && decide (t.logSync ≤ 1)

/-- OFFSET_SAMPLE (03 R91): the Delay_Resp of an exchange has come, and tells the interval of Delay_Req (03 Table 3-6). -/
def execOffsetSample (t : PtpTimes) (s : State) : Host.Outcome State Fault Refusal :=
  .next (if s.fw.running then
      match ownStamps s with
      | some x =>
        let s1 := { s with time.logDelayReq := some t.logDelayReq }
        if syncUsed t then takeOffset t x.1 x.2 s1 else s1
      | none => s
    else s)

/-- Two seconds have passed without a sample (03 R94). -/
def holdoverDue (s : State) : Bool :=
  s.time.servo == .locked && (match s.time.lastSample with | some t => decide (t + 2000000000 ≤ nowNs s) | none => false)

def execHoldoverEntry (s : State) : Host.Outcome State Fault Refusal := .next (if holdoverDue s then enterHoldover s else s)

/-- Holdover has lasted 30 s (03 R95). -/
def holdoverLong (s : State) : Bool :=
  s.time.servo == .holdover && !s.time.holdoverAlerted &&
    (match s.time.holdoverSince with | some t => decide (t + 30000000000 ≤ nowNs s) | none => false)

def execHoldover30s (s : State) : Host.Outcome State Fault Refusal :=
  .next (if holdoverLong s then raiseAlert 0x01 0x02 (tileTarget s) 0 0 false { s with time.holdoverAlerted := true } else s)

/-! ## TIME_CONFIG and TIME_STATUS (18 Tables 18-7, 18-8) -/

/-- The staging status of TIME_CONFIG. -/
def timeStatus (ps : List Byte) : Nat :=
  let log := signed 8 (getB ps 4)
  need (getB ps 1 ≤ 127 && field (getB ps 2) 5 0 = 0 && 2 ≤ getB ps 3 && getB ps 3 ≤ 10 && decide (-7 ≤ log) && decide (log ≤ 1) &&
    (bitN (getB ps 2) 6 || be ps 8 4 = 0))

/-- TIME_CONFIG commits; masters of another domain are no longer used. -/
def applyTime (ps : List Byte) (s : State) : State :=
  let s1 := { s with
    time.domain := getB ps 1
    time.preferB := bitN (getB ps 2) 7
    time.dreqUnicast := bitN (getB ps 2) 6
    time.announceTimeout := getB ps 3
    time.logSync := signed 8 (getB ps 4)
    time.masterAddr := be ps 8 4
    time.alpha := if be ps 12 4 = 0 then s.time.alpha else be ps 12 2
    time.beta := if be ps 12 4 = 0 then s.time.beta else be ps 14 2
    time.masters := s.time.masters.filter fun m => m.ann.domain == getB ps 1 }
  runBmca s1

def timeConfigSpec : OpSpec where
  code := 0x0100
  sched := true
  apply := true
  check := fun r _ => firstFail [lenIs 16 r, timeStatus r.params]
  units := fun r _ => [(⟨.time, 0⟩, timeStatus r.params)]

def execTimeConfig (r : Req) (s : State) : Host.Outcome State Fault Refusal := .next (runPacket (period s) timeConfigSpec r s)

/-- A rational in a signed 32-bit field. -/
def s32 (q : Rat) : List Byte := sbe 4 (roundQ q)

/-- The duration of holdover in milliseconds. -/
def holdoverMs (s : State) : Nat := match s.time.holdoverSince with | some t => satN 0xFFFFFFFF ((nowNs s - t) / 1000000) | none => 0

def timeBytes (s : State) : List Byte :=
  let valid (p : NetPort) : Bool := s.time.masters.any fun m => m.port == p
  u8 (servoCode s.time.servo) ++ u8 (match s.time.selected with | some m => (match m.port with | .A => 0 | .B => 1) | none => 0xFF) ++
    u8 (128 * b2n (valid .A) + 64 * b2n (valid .B) + 32 * b2n (!s.time.tlv.isEmpty)) ++ u8 0 ++
    u64 ((s.time.selected.map (·.ann.identity)).getD 0) ++ s32 s.time.offset ++
    u32 (satN 0xFFFFFFFF (roundQ (meanDelay s.time.delays)).toNat) ++ sbe 8 s.time.rate ++ u32 (holdoverMs s) ++
    u32 s.time.steps ++ u32 s.time.discarded ++ u32 s.time.late ++ u32 0 ++ s.time.tlv

def timeStatusSpec : OpSpec where
  code := 0x0101
  check := fun r _ => lenIs 0 r
  run := fun _ s => (s, .done St.ok (timeBytes s))

def execTimeStatus (r : Req) (s : State) : Host.Outcome State Fault Refusal := .next (runPacket (period s) timeStatusSpec r s)

/-! ## The Ephemeris (03 R97 to R99) -/

/-- An entry as SCHEDULE_LIST returns it (03 Table 3-9). -/
def ephBytes (e : EphEntry) : List Byte :=
  u8 e.index ++ u8 e.state ++ u16 e.code ++ u16 e.req.tag ++ u8 e.srcIndex ++ u8 0 ++ u64 e.time ++ u32 e.boundary ++ u32 0

def scheduleListSpec : OpSpec where
  code := 0x0102
  check := fun r _ => lenIs 0 r
  run := fun _ s =>
    let es := s.cmd.ephemeris.mergeSort fun a b => a.index ≤ b.index
    (s, .done St.ok (u16 es.length ++ u16 0 ++ es.flatMap ephBytes))

def execScheduleList (r : Req) (s : State) : Host.Outcome State Fault Refusal := .next (runPacket (period s) scheduleListSpec r s)

/-- The entry of a source and tag. -/
def findEntry (src : Source) (tag : Nat) (s : State) : Option EphEntry := s.cmd.ephemeris.find? fun e => e.req.src == src && e.req.tag == tag

/-- An entry leaves the Ephemeris with its staged change and its wait for a wake (03 R99, 02 R65). Cells whose shadows
hold its change go back to their live configuration; without a COMMIT that waits, the source's held changes are counted from
now (02 R68). -/
def removeEntry (e : EphEntry) (s : State) : State :=
  let s1 := { s with
    cmd.held := s.cmd.held.map fun h => if e.code = 0x0006 && h.src == e.req.src then { h with at_ := nowNs s } else h
    cmd.ephemeris := s.cmd.ephemeris.filter fun x => x.index != e.index
    cmd.waiting := s.cmd.waiting.filter fun w => !(w.req.src == e.req.src && w.req.tag == e.req.tag) }
  sweepReleased (e.units.foldl (fun t u => if u.ref.kind == .cell then discardCell (u.ref.index / 100) (u.ref.index % 100) t else t) s1)

def scheduleCancelSpec : OpSpec where
  code := 0x0103
  check := fun r s => firstFail [lenIs 4 r, need (findEntry r.src (prm r 0 2) s).isSome]
  run := fun r s =>
    match findEntry r.src (prm r 0 2) s with
    | some e => if e.loaded then (s, .done St.busy []) else (endAborted r.src (prm r 0 2) (removeEntry e s), .done St.ok [])
    | none => (s, .done St.badParam [])

def execScheduleCancel (r : Req) (s : State) : Host.Outcome State Fault Refusal := .next (runPacket (period s) scheduleCancelSpec r s)

/-- The hardware loads an entry whose boundary is at most 100 µs away (03 R99), and SCHED votes for its domains from their
wake latency before that (16 Table 16-5). -/
def loadEntry (s : State) (e : EphEntry) : EphEntry :=
  let due := (period s).timeOf e.boundary
  { e with
    loaded := e.loaded || decide (due ≤ nowNs s + 100000)
    voting := e.voting || decide (due ≤ nowNs s + 100000 + 1000 * packetLatency s e.domains) }

/-- EPHEMERIS_LOAD. -/
def execEphemerisLoad (s : State) : Host.Outcome State Fault Refusal :=
  .next { s with cmd.ephemeris := s.cmd.ephemeris.map (loadEntry s) }

/-! ## SNAPSHOT (03 R101, 18 Table 18-9) -/

/-- Slot, refresh and row of the scan position at a time: the time since the slot began in rows (00 R12). While no slot has
been shown the spec gives none, and they read 0, as the frame shown does (DESIGN CHOICE, notes/assumptions/44.md). -/
def scanNow (s : State) : Nat × Nat × Nat :=
  match s.pres.position with
  | none => (0, 0, 0)
  | some x =>
    let g := planOf s x.frame
    let t := ((nowNs s : Nat) : Rat) - slotStart s x
    let rows := if t < 0 then 0 else (t / g.rowTime x.slot).floor.toNat
    let rows := min rows (32 * g.refreshes x.slot - 1)
    (x.slot, rows / 32, rows % 32)

/-- The frame being shown. -/
def shownFrame (s : State) : Nat := match s.pres.position with | some x => x.frame | none => 0

/-- Packets that ingest has dropped, over all streams. -/
def ingestDrops (s : State) : Nat :=
  satN 0xFFFFFFFF ((s.layers.streams.map fun x => match x with | some st => st.drops | none => 0).foldl (· + ·) 0)

def lateComposites (s : State) : Nat := satN 0xFFFFFFFF (s.pres.late.foldl (· + ·) 0)
def eclipseFills (s : State) : Nat := satN 0xFFFFFFFF (s.pres.eclipse.foldl (· + ·) 0)

/-- A capture at the boundary of frame `n`. -/
def snapshotBytes (n : Nat) (s : State) : List Byte :=
  let p := scanNow s
  u32 n ++ u8 p.1 ++ u8 p.2.1 ++ u8 p.2.2 ++ u8 (servoCode s.time.servo) ++ u64 (nowNs s) ++ u16 (nowFraction s) ++ u16 0 ++
    s32 s.time.offset ++ u32 (lateComposites s) ++ u32 (eclipseFills s) ++ u32 (ingestDrops s) ++ u32 (shownFrame s)

/-- SNAPSHOT: a scheduled one captures where it executes, an unscheduled one at the next frame boundary. -/
def snapshotSpec : OpSpec where
  code := 0x0104
  sched := true
  check := fun r _ => lenIs 0 r
  run := fun r s =>
    if r.sched.isSome then (s, .done St.ok (snapshotBytes (s.time.frame + 1) s))
    else ({ s with cmd.snapshots := s.cmd.snapshots ++ [r] }, .later)

def execSnapshot (r : Req) (s : State) : Host.Outcome State Fault Refusal := .next (runPacket (period s) snapshotSpec r s)

end Sys2Proof.Machine
end

