-- ==== Sys2Proof/Machine/Thermal.lean ====
section
/-! DEFINITION. The thermal model (11): diodes, sensors, zones, states and throttle factors, the shutdown, and the thermal
opcodes. -/

namespace Sys2Proof.Machine

/-- A temperature as an S8.7 code, and back. -/
def tcode (t : Rat) : Int := clampI (-32768) 32767 (roundQ (t * 128))
def tdeg (c : Int) : Rat := mkRat c 128

/-! ## States (11 R279, R280) -/

/-- The state of a domain after an update: it rises at a threshold and falls below a threshold less the hysteresis. -/
def thermalState (thr : List Int) (hyst : Int) (t : Rat) : Nat → Nat
  | 0 => if tdeg (thr.getD 2 0) ≤ t then 3 else if tdeg (thr.getD 1 0) ≤ t then 2 else if tdeg (thr.getD 0 0) ≤ t then 1 else 0
  | k + 1 =>
    let up := if tdeg (thr.getD 2 0) ≤ t then 3 else if tdeg (thr.getD 1 0) ≤ t then 2 else if tdeg (thr.getD 0 0) ≤ t then 1 else 0
    if k + 1 ≤ up then up
    else if t < tdeg (thr.getD k 0 - hyst) then thermalState thr hyst t k else k + 1

/-- The highest state of any domain. -/
def worstZone (s : State) : Nat := (s.therm.zones.map (·.state)).foldl max 0
def thermNow (s : State) : Nat := max s.therm.dieState (worstZone s)

/-- A CALIBRATE that a shutdown stops (12 Table 12-7). -/
def stopCalibration (status : Nat) (s : State) : State :=
  match s.trim.run with
  | some x => completeOp x.src x.tag status [] { s with trim.run := none }
  | none => s

/-- The shutdown sequence of 11 R282: rails off, core to P3, the grace window of a flash operation under way, and a
running CALIBRATE stopped; the background cycle of self-test pauses (13 Table 13-6). -/
def enterShutdown (s : State) : State :=
  let s1 := withdrawGrants (dropRails s)
  let s2 := { s1 with
    therm.shutdownAt := some (nowNs s)
    power.level := 3
    therm.graceFrom := if s.flash.queue.any (·.begun) then some (nowNs s) else none
    bist.pausedSince := some (nowNs s) }
  assertFault .thermalShutdown (stopCalibration St.thermalRefused s2)

/-- The reported state follows the domains: a change is logged, and an entry of warning or above stays active until the
next change (11 R279, R280). -/
def reportThermal (s : State) : State :=
  let n := thermNow s
  let s1 := if n = 3 && s.therm.shutdownAt.isNone then enterShutdown s else s
  if n = s.therm.reported then s1
  else
    let s2 := clearAlert 0x08 0x01 (tileTarget s) { s1 with therm.reported := n }
    if n = 0 then logAlert 0x08 0x01 (tileTarget s) 0 0 s2 else raiseAlert 0x08 0x01 (tileTarget s) 0 n (n == 3) s2

/-! ## The die (11 R274, R275, R287) -/

def diodeInRange (x : Int) : Bool := decide (-70 * 128 ≤ x) && decide (x ≤ 170 * 128)

/-- A valid diode: not broken, in range, not marked unusable by self-test (13 Table 13-1). -/
def diodeValid (s : State) (k : Nat) : Bool :=
  let d := s.therm.diodes.getD k {}
  !d.broken && diodeInRange d.reading && !blockUnusable s (0x0C00 + k)

def validDiodes (s : State) : List Nat := (List.range 6).filter (diodeValid s)

/-- The median, the mean of the middle two for an even count. -/
def median (l : List Int) : Rat :=
  let x := l.mergeSort fun a b => decide (a ≤ b)
  let n := x.length
  if n = 0 then 0
  else if n % 2 = 1 then (x.getD (n / 2) 0 : Rat)
  else mkRat (x.getD (n / 2 - 1) 0 + x.getD (n / 2) 0) 2

/-- The median of the valid diodes other than `k`, in °C. -/
def otherMedian (s : State) (k : Nat) : Rat :=
  median (((validDiodes s).filter (· != k)).map fun j => (s.therm.diodes.getD j {}).reading) / 128

def absQ (q : Rat) : Rat := if q < 0 then -q else q

/-- A diode's counts after an update (11 R275). -/
def countDiode (s : State) (k : Nat) (d : Diode) : Diode :=
  let others := ((validDiodes s).filter (· != k)).length
  let gap := absQ (tdeg d.reading - otherMedian s k)
  let inRange := diodeInRange d.reading
  { d with
    disagree := if !d.broken && inRange && 2 ≤ others && decide (15 < gap) then d.disagree + 1 else 0
    inRangeSince := if inRange then some (d.inRangeSince.getD (nowNs s)) else none
    agreeSince := if inRange && 2 ≤ others && decide (gap ≤ 5) then some (d.agreeSince.getD (nowNs s)) else none }

/-- T_dmax of the valid diodes. -/
def hottestDiode (s : State) : Option Int :=
  match (validDiodes s).map fun k => (s.therm.diodes.getD k {}).reading with
  | [] => none
  | a :: t => some (t.foldl max a)

/-- The die temperature and state (11 R274), and the refresh rate of DRAM (R287). -/
def updateDie (s : State) : State :=
  let d := s.therm.desc
  let die := match hottestDiode s with
    | some x => tdeg x + mkRat d.thetaHs 256 * s.therm.coreFiltered
    | none => tdeg (d.die.getD 1 0)
  let stack := [4, 5].filter (diodeValid s)
  let top := (stack.map fun k => (s.therm.diodes.getD k {}).reading).foldl max (-32768)
  let doubled := if stack.isEmpty then true
    else if decide (85 * 128 ≤ top) then true else if decide (top < 80 * 128) then false else s.therm.doubled
  reportThermal { s with therm.die := die, therm.dieState := thermalState d.die d.dieHyst die s.therm.dieState, therm.doubled := doubled }

/-- A conversion of every diode: readings in S8.7 before their offsets, and the core power, filtered over 50 ms. -/
def convertDiodes (readings : List Int) (coreMilliwatts : Nat) (s : State) : State :=
  let take (d : Diode) (k : Nat) : Diode :=
    { d with reading := clampI (-32768) 32767 (readings.getD k d.reading + 32 * s.trim.inForce.diode.getD k 0) }
  let s1 := { s with therm.diodes := s.therm.diodes.zipIdx.map fun (d, k) => take d k }
  let s2 := { s1 with therm.diodes := s1.therm.diodes.zipIdx.map fun (d, k) => countDiode s1 k d }
  let p : Rat := mkRat coreMilliwatts 1000
  updateDie { s2 with therm.coreFiltered := s.therm.coreFiltered + (p - s.therm.coreFiltered) / 5 }

/-- The meter converts while METER is on. -/
def meterOn (s : State) : Bool := domainOn s .meter

/-- Whether a period has passed since a time. -/
def periodPassed (at_ : Option Nat) (ns : Nat) (s : State) : Bool :=
  match at_ with
  | some t => decide (t + ns ≤ nowNs s)
  | none => true

/-- A conversion of the diodes is due: 100 Hz, with METER on (11 R274). -/
def diodesDue (s : State) : Bool := meterOn s && periodPassed s.therm.diodesAt 10000000 s

def execDiodeConversion (readings : List Int) (coreMilliwatts : Nat) (s : State) : Host.Outcome State Fault Refusal :=
  .next (if diodesDue s then convertDiodes readings coreMilliwatts { s with therm.diodesAt := some (nowNs s) } else s)

/-- A diode is due to be declared broken (11 R275). -/
def diodeBreaks (s : State) (k : Nat) : Bool :=
  let d := s.therm.diodes.getD k {}
  !d.broken && (!diodeInRange d.reading || 10 ≤ d.disagree)

def setDiode (k : Nat) (f : Diode → Diode) (s : State) : State := { s with therm.diodes := modAt s.therm.diodes k f }

def execDiodeBroken (d : Fin 6) (s : State) : Host.Outcome State Fault Refusal :=
  .next (if diodeBreaks s d then
    updateDie (raiseAlert 0x08 0x02 (tileTarget s) 0 d false (setDiode d (fun x => { x with broken := true, agreeSince := none, inRangeSince := none }) s))
   else s)

/-- A broken diode is due to return (11 R275): 60 s of agreement where three would be valid, else 60 s in range. -/
def diodeReturns (s : State) (k : Nat) : Bool :=
  let d := s.therm.diodes.getD k {}
  let since := if 2 ≤ ((validDiodes s).filter (· != k)).length then d.agreeSince else d.inRangeSince
  d.broken && (match since with | some t => decide (t + 60000000000 ≤ nowNs s) | none => false)

def execDiodeReturn (d : Fin 6) (s : State) : Host.Outcome State Fault Refusal :=
  .next (if diodeReturns s d then
    updateDie (clearAlertDetail 0x08 0x02 d (setDiode d (fun x => { x with broken := false, disagree := 0 }) s))
   else s)

/-! ## Sensors (11 R276, R285) -/

def sensorCfg (s : State) (k : Nat) : SensorCfg := s.therm.desc.sensors.getD k ⟨0, false, 0, 0, 1, 1, 1⟩
def getSensor (s : State) (k : Nat) : Sensor := s.therm.sensors.getD k {}
def setSensor (k : Nat) (f : Sensor → Sensor) (s : State) : State := { s with therm.sensors := modAt s.therm.sensors k f }

/-- The zone grid of the raster (11 R273). -/
def gridCols (s : State) : Nat := (s.chain.width + 63) / 64
def gridRows (s : State) : Nat := (s.chain.height + 63) / 64

/-- Whether a sensor's zone lies in the grid (11 R278). -/
def sensorInGrid (s : State) (k : Nat) : Bool :=
  (sensorCfg s k).enable && (sensorCfg s k).col < gridCols s && (sensorCfg s k).row < gridRows s

/-- The enabled sensors whose zone lies in the grid. -/
def gridSensors (s : State) : List Nat := (List.range s.therm.desc.sensors.length).filter (sensorInGrid s)

/-- An NTC's reading from its ratio x in units of 2^-16 (11 R276). -/
def ntcReading (c : SensorCfg) (x : Nat) : Rat :=
  let r : Rat := (c.pullUp : Nat) * mkRat x (65536 - x)
  1 / (mkRat 100 29815 + fxQ (fxLn (fxOf (r / (c.nominal : Nat)))) / (c.beta : Nat)) - mkRat 27315 100

/-- A ratio outside 0.02 to 0.98 is an open or a short (11 R285). -/
def ratioBroken (x : Nat) : Bool := decide (100 * x < 2 * 65536) || decide (98 * 65536 < 100 * x)

/-- A sensor is declared broken and logged. -/
def breakSensor (k : Nat) (st : SensorStatus) (s : State) : State :=
  raiseAlert 0x08 0x03 (tileTarget s) 0 k false (setSensor k (fun x => { x with status := st, agreeSince := none }) s)

def sensorBrokenNow (x : Sensor) : Bool := x.status == .brokenElectrically || x.status == .brokenByCheck

/-- One sensor after a conversion of its input. -/
def convertSensor (k ratio : Nat) (s : State) : State :=
  let x := getSensor s k
  if ratioBroken ratio || inputLost s (sensorCfg s k).input then
    let s1 := setSensor k (fun y => { y with converted := true, ratio := ratio, agreeSince := none }) s
    if sensorBrokenNow x then s1 else breakSensor k .brokenElectrically s1
  else setSensor k (fun y => { y with converted := true, ratio := ratio, reading := ntcReading (sensorCfg s k) ratio }) s

/-- NTC_CONVERSION (11 R276): the ratio of input and reference in units of 2^-16. -/
def execNtcConversion (input : Fin 16) (ratio : Nat) (s : State) : Host.Outcome State Fault Refusal :=
  .next (if meterOn s then
    (List.range s.therm.desc.sensors.length).foldl (fun t k =>
      if (sensorCfg t k).enable && (sensorCfg t k).input == input.val then convertSensor k ratio t else t) s
   else s)

/-! ## Zones (11 R277, R278) -/

def zoneAt (s : State) (i j : Nat) : Zone := s.therm.zones.getD (j * s.therm.cols + i) {}
def riseAt (s : State) (k : Nat) : Rat := (zoneAt s (sensorCfg s k).col (sensorCfg s k).row).rise

/-- The zones after a change of the grid: every rise restarts (11 R273). -/
def fitGrid (s : State) : State :=
  if s.therm.cols = gridCols s && s.therm.rows = gridRows s then s
  else { s with
    therm.cols := gridCols s
    therm.rows := gridRows s
    therm.zones := List.replicate (gridCols s * gridRows s) { temp := tdeg s.therm.desc.ambient, judged := tdeg s.therm.desc.ambient } }

/-- The zone that holds a placed cell. -/
def Placed.zone (p : Placed) : Nat × Nat := (p.col / 4, p.row / 2)

/-- The prediction of what a view shows on a rail and loop, summed over the scan rows: a blanked view draws nothing. -/
def loopCurrent (s : State) (f : FrameSums) (v rail l : Nat) : Rat :=
  if viewBlanked s v then 0
  else
    (((f.shown v).getD rail []).getD l []).foldl (· + ·) 0

/-- The content power of a zone in watts (11 R277). -/
def contentPower (s : State) (i j : Nat) : Rat :=
  let ps := placedCells s
  let here := ps.filter fun p => p.zone == (i, j)
  let idle := mkRat (s.therm.desc.idle * here.length) 1000
  if railsOff s then idle
  else match s.ledger.latest with
    | none => idle
    | some f =>
      let g := planOf s f.frame
      let loops := (here.map (·.loop)).eraseDups
      let share (l : Nat) : Rat := mkRat ((here.filter fun p => p.loop == l).length) (max 1 (ps.filter fun p => p.loop == l).length)
      idle + g.views.foldl (fun a v => a + g.share v * (List.range 4).foldl (fun b r =>
        b + mkRat (getRail s r).m 32768 * mkRat (s.therm.volts.getD r {}).millivolts 1000 *
          loops.foldl (fun c l => c + share l * loopCurrent s f v r l / 32000000) 0) 0) 0

/-- The rises after one frame (11 R278). -/
def updateRises (s : State) : State :=
  let d := s.therm.desc
  let t : Rat := (period s).q / 1000000000
  { s with therm.zones := s.therm.zones.zipIdx.map fun (z, k) =>
      let p := contentPower s (k % max 1 s.therm.cols) (k / max 1 s.therm.cols)
      { z with rise := z.rise + t / (d.tau : Nat) * (mkRat d.theta 256 * p - z.rise) } }

/-- The Chebyshev distance from a sensor to a zone. -/
def sensorDistance (s : State) (i j k : Nat) : Nat :=
  let c := sensorCfg s k
  max (max (c.col - i) (i - c.col)) (max (c.row - j) (j - c.row))

/-- The nearest of some sensors to a zone, ties to the lower record index. -/
def nearestSensor (s : State) (ks : List Nat) (i j : Nat) : Option Nat :=
  ks.foldl (fun a k => match a with
    | none => some k
    | some b => if sensorDistance s i j k < sensorDistance s i j b then some k else some b) none

/-- The valid sensors. -/
def validSensors (s : State) : List Nat :=
  (gridSensors s).filter fun k => (getSensor s k).converted && (getSensor s k).status == .valid

/-- T_s − rise of a sensor. -/
def baseOf (s : State) (k : Nat) : Rat := (getSensor s k).reading - riseAt s k

def meanQ (l : List Rat) : Rat := if l.isEmpty then 0 else (l.foldl (· + ·) 0) / (l.length : Nat)

/-- The two nearest of some sensors to a sensor. -/
def twoNearest (s : State) (k : Nat) (others : List Nat) : List Nat :=
  let c := sensorCfg s k
  match nearestSensor s others c.col c.row with
  | none => []
  | some a => match nearestSensor s (others.filter (· != a)) c.col c.row with
    | none => [a]
    | some b => [a, b]

/-- The neighbour and the model estimate of a sensor (11 R285). -/
def neighbourEstimate (s : State) (k : Nat) : Rat :=
  meanQ ((twoNearest s k ((validSensors s).filter (· != k))).map (baseOf s)) + riseAt s k
def modelEstimate (s : State) (k : Nat) : Rat :=
  meanQ (((validSensors s).filter (· != k)).map (baseOf s)) + riseAt s k

/-- Whether the cross-check applies to a sensor (11 R285). -/
def crossChecked (s : State) (k : Nat) : Bool := !s.fuse.pv8208 && 2 ≤ ((validSensors s).filter (· != k)).length

/-- One sensor judged for the frame against the others as they stood before it (11 R285). -/
def judgeSensor (s : State) (k : Nat) (x : Sensor) : Sensor :=
  let ne := neighbourEstimate s k
  let me := modelEstimate s k
  let off (lim : Rat) (e : Rat) : Bool := decide (lim < absQ (x.reading - e))
  if !sensorInGrid s k then x
  else if sensorBrokenNow x then
    { x with agreeSince := if crossChecked s k && !ratioBroken x.ratio && !off 5 ne && !off 5 me then some (x.agreeSince.getD (nowNs s)) else none }
  else if crossChecked s k && x.converted && off 10 ne && off 10 me then
    { x with status := .heldOut, held := x.held + 1, heldTotal := inc16 x.heldTotal }
  else { x with status := .valid, held := 0 }

def judgeSensors (s : State) : State :=
  { s with therm.sensors := s.therm.sensors.zipIdx.map fun (x, k) => judgeSensor s k x }

/-- The neighbours stand in for a broken sensor (11 Table 11-5, first row). -/
def substitutes (s : State) (k : Nat) : Bool :=
  !s.fuse.pv8208 && 3 ≤ (gridSensors s).length && 2 ≤ ((validSensors s).filter (· != k)).length

/-- The model's temperature of a zone from the valid sensors (11 R278). -/
def modelTemp (s : State) (i j : Nat) : Rat :=
  match nearestSensor s (validSensors s) i j with
  | some k => baseOf s k + (zoneAt s i j).rise
  | none => tdeg s.therm.desc.ambient + (zoneAt s i j).rise

/-- The temperatures of a zone for colour and for thresholds (11 R278, R286). -/
def zoneTemps (s : State) (i j : Nat) : Rat × Rat :=
  let model := modelTemp s i j
  let serving := (gridSensors s).filter fun k => sensorBrokenNow (getSensor s k) || (validSensors s).contains k
  match nearestSensor s serving i j with
  | some k =>
    if sensorBrokenNow (getSensor s k) then
      if substitutes s k then
        let t := neighbourEstimate s k - riseAt s k + (zoneAt s i j).rise
        (t, t)
      else
        let thr := tdeg (s.therm.desc.led.getD 1 0)
        (model, if model < thr then thr else model)
    else (model, model)
  | none => (model, model)

/-- The temperatures and states of the zones, and the value used of each sensor. -/
def updateZones (s : State) : State :=
  let d := s.therm.desc
  { s with
    therm.zones := s.therm.zones.zipIdx.map fun (z, n) =>
      let t := zoneTemps s (n % max 1 s.therm.cols) (n / max 1 s.therm.cols)
      { z with temp := t.1, judged := t.2, state := thermalState d.led d.ledHyst t.2 z.state }
    therm.sensors := s.therm.sensors.zipIdx.map fun (x, k) =>
      { x with used := if sensorBrokenNow x && substitutes s k then neighbourEstimate s k else if x.status == .heldOut then modelEstimate s k else x.reading } }

/-- The rail voltages read for the frame (07 R183, 19 R433). -/
def readVolts (mv : List (Option Nat)) (s : State) : State :=
  { s with therm.volts := s.therm.volts.zipIdx.map fun (v, k) => match mv.getD k none with
      | some x => { millivolts := x, goodAt := nowNs s, failedSince := none }
      | none => { v with failedSince := some (v.failedSince.getD (nowNs s)) } }

/-- The alerts of rail voltages that are read again. -/
def clearVolts (mv : List (Option Nat)) (s : State) : State :=
  (List.range 4).foldl (fun t k => if (mv.getD k none).isSome then clearAlertDetail 0x0F 0x06 k t else t) s

/-- ZONE_MODEL_UPDATE (11 R278), with the rail voltages in mV that the supplies report. -/
def updateModel (mv : List (Option Nat)) (s : State) : State :=
  reportThermal (updateZones (judgeSensors (updateRises (fitGrid { clearVolts mv (readVolts mv s) with therm.lastZone := s.time.frame + 1 }))))

/-- The update of the present frame is due. -/
def zoneUpdateDue (s : State) : Bool := meterOn s && s.therm.lastZone != s.time.frame + 1

def execZoneModelUpdate (millivolts : List (Option Nat)) (s : State) : Host.Outcome State Fault Refusal :=
  .next (if zoneUpdateDue s then updateModel millivolts s else s)

/-- PMBUS_VOLTAGE_TIMEOUT (19 R433): 1 s of failed reads makes the voltage 0. -/
def voltageDue (s : State) (r : Nat) : Bool :=
  let v := s.therm.volts.getD r {}
  v.millivolts != 0 && (match v.failedSince with | some _ => decide (v.goodAt + 1000000000 ≤ nowNs s) | none => false)

def execPmbusVoltageTimeout (r : Fin 4) (s : State) : Host.Outcome State Fault Refusal :=
  .next (if voltageDue s r then
    raiseAlert 0x0F 0x06 (tileTarget s) 0 r false { s with therm.volts := modAt s.therm.volts r fun v => { v with millivolts := 0 } }
   else s)

/-- SENSOR_BROKEN (11 R285): 16 consecutive frames held out. -/
def execSensorBroken (i : Fin 16) (s : State) : Host.Outcome State Fault Refusal :=
  .next (if (getSensor s i).status == .heldOut && 16 ≤ (getSensor s i).held then breakSensor i .brokenByCheck s else s)

/-- A broken sensor that has agreed for 60 s (11 R285). -/
def sensorReturns (s : State) (k : Nat) : Bool :=
  sensorBrokenNow (getSensor s k) && (match (getSensor s k).agreeSince with | some t => decide (t + 60000000000 ≤ nowNs s) | none => false)

def execSensorReturn (i : Fin 16) (s : State) : Host.Outcome State Fault Refusal :=
  .next (if sensorReturns s i then
    clearAlertDetail 0x08 0x03 i (setSensor i (fun x => { x with status := .valid, held := 0, agreeSince := none }) s)
   else s)

/-! ## Throttle and shutdown (11 R281, R284) -/

/-- The throttle target of one domain at a temperature (11 R281). -/
def throttleTarget (d : ThermalDesc) (t thr : Rat) : Nat :=
  (clampI d.uMin d.u0 (roundQ ((d.u0 : Nat) - (d.g : Nat) * (t - thr)))).toNat

/-- The zones that reach a rail. -/
def zonesOfRail (s : State) (r : Nat) : List (Nat × Nat) :=
  (((placedCells s).filter fun p => (List.range 3).any fun c => railOf s p.loop c == r).map (·.zone)).eraseDups

/-- The lowest target of the throttling domains that reach a rail, 1.0 without any. -/
def railTarget (s : State) (r : Nat) : Nat :=
  let d := s.therm.desc
  let die := if 2 ≤ s.therm.dieState then throttleTarget d s.therm.die (tdeg (d.die.getD 1 0)) else 0x8000
  ((zonesOfRail s r).filter fun z => 2 ≤ (zoneAt s z.1 z.2).state).foldl
    (fun a z => min a (throttleTarget d (zoneAt s z.1 z.2).judged (tdeg (d.led.getD 1 0)))) die

/-- The throttle factors after an update: each falls or rises to its target at its rate. -/
def nextFactors (s : State) : List Nat :=
  s.therm.u.zipIdx.map fun (u, r) =>
    let t := railTarget s r
    if t < u then max t (u - s.therm.desc.fall) else min t (u + s.therm.desc.rise)

/-- A step of the factors is due: each millisecond (11 R281). -/
def factorsDue (s : State) : Bool := periodPassed s.therm.factorsAt 1000000 s

/-- The factors step; one that falls withdraws the headroom that pulses hold (01 R28). -/
def stepFactors (s : State) : State :=
  let s1 := { s with therm.u := nextFactors s, therm.factorsAt := some (nowNs s) }
  if ((nextFactors s).zip s.therm.u).any fun x => x.1 < x.2 then withdrawGrants s1 else s1

/-- THROTTLE_FACTOR_UPDATE. -/
def execThrottleFactorUpdate (s : State) : Host.Outcome State Fault Refusal := .next (if factorsDue s then stepFactors s else s)

/-- The end of a shutdown is due: every domain has left it and the rails have been off for 1 s (11 R284). -/
def shutdownEnds (s : State) : Bool :=
  match s.therm.shutdownAt with
  | some _ => thermNow s < 3 && railsOff s && decide (s.ledger.offAt + 1000000000 ≤ nowNs s)
  | none => false

/-- THERMAL_SHUTDOWN_END: the P3 ceiling lifts, the rails may restart, the self-test cycle resumes and waiting flash work
begins. -/
def execThermalShutdownEnd (s : State) : Host.Outcome State Fault Refusal :=
  .next (if shutdownEnds s then
    let s1 := { s with
      therm.shutdownAt := none
      therm.graceFrom := none
      bist.paused := s.bist.paused + (nowNs s - s.bist.pausedSince.getD (nowNs s))
      bist.pausedSince := none }
    beginFlash (releaseFault .thermalShutdown s1)
   else s)

/-! ## THERMAL_CONFIG and THERMAL_READ (11 R288, R289) -/

def sensorRecord (ps : List Byte) (k : Nat) : List Byte := slice ps (48 + 16 * k) 16

def sensorOf (d : List Byte) : SensorCfg :=
  ⟨getB d 0, bitN (getB d 1) 7, getB d 2, getB d 3, be d 4 4, be d 8 4, be d 12 2⟩

/-- The descriptor that the parameters state. -/
def thermalOf (ps : List Byte) : ThermalDesc :=
  let s16 (o : Nat) : Int := signed 16 (be ps o 2)
  { bypass := bitN (getB ps 1) 7, sensors := (List.range (getB ps 2)).map fun k => sensorOf (sensorRecord ps k)
    die := [s16 4, s16 6, s16 8], dieHyst := s16 10, led := [s16 12, s16 14, s16 16], ledHyst := s16 18, u0 := be ps 20 2
    g := be ps 22 2, uMin := be ps 24 2, fall := be ps 26 2, rise := be ps 28 2, theta := be ps 30 2, tau := be ps 32 2
    thetaHs := be ps 34 2, ambient := s16 36, idle := be ps 38 2 }

/-- Thresholds in range that ascend with gaps of at least the hysteresis. -/
def thresholdsOk (thr : List Int) (hyst lo hi : Int) : Bool :=
  decide (128 ≤ hyst) && decide (hyst ≤ 15 * 128) && (thr.all fun t => decide (lo * 128 ≤ t) && decide (t ≤ hi * 128)) &&
    decide (thr.getD 0 0 + hyst ≤ thr.getD 1 0) && decide (thr.getD 1 0 + hyst ≤ thr.getD 2 0)

/-- Whether a sensor record is allowed (11 R276, R288). -/
def sensorRecordOk (s : State) (d : List Byte) : Bool :=
  let c := sensorOf d
  c.input ≤ 15 && field (getB d 1) 6 0 = 0 && c.col < gridCols s && c.row < gridRows s && 1000 ≤ c.nominal &&
    c.nominal ≤ 1000000 && 1000 ≤ c.pullUp && c.pullUp ≤ 1000000 && 2000 ≤ c.beta && c.beta ≤ 6000 && be d 14 2 = 0 &&
    !(s.ledger.rails.any fun r => r.enable && r.shunt == c.input)

/-- Whether a new descriptor would take a domain out of shutdown by raising a threshold (11 R284). -/
def raisesOut (s : State) (d : ThermalDesc) : Bool :=
  let out (old new hyst : Int) (t : Rat) : Bool := decide (old < new) && decide (t < tdeg (new - hyst))
  (s.therm.dieState == 3 && out (s.therm.desc.die.getD 2 0) (d.die.getD 2 0) d.dieHyst s.therm.die) ||
    s.therm.zones.any fun z => z.state == 3 && out (s.therm.desc.led.getD 2 0) (d.led.getD 2 0) d.ledHyst z.judged

/-- The staging status of the thermal unit (11 R288, R284). -/
def thermalStatus (ps : List Byte) (s : State) : Nat :=
  let d := thermalOf ps
  if !(field (getB ps 1) 6 0 = 0 && getB ps 3 = 0 && thresholdsOk d.die d.dieHyst 60 140 && thresholdsOk d.led d.ledHyst 40 125 &&
      0x4000 ≤ d.u0 && d.u0 ≤ 0x8000 && d.g ≤ 4096 && 0x1000 ≤ d.uMin && d.uMin ≤ d.u0 && 1 ≤ d.fall && d.fall ≤ 512 &&
      1 ≤ d.rise && d.rise ≤ 512 && 26 ≤ d.theta && d.theta ≤ 65280 && 1 ≤ d.tau && d.tau ≤ 3600 && d.thetaHs ≤ 1024 &&
      d.idle ≤ 1000 && be ps 40 8 = 0 && ((List.range (getB ps 2)).all fun k => sensorRecordOk s (sensorRecord ps k)) &&
      !hasDup (d.sensors.map (·.input))) then St.badParam
  else if raisesOut s d then St.thermalRefused else St.ok

/-- The descriptor commits: a sensor whose record is unchanged keeps its readings. -/
def applyThermal (ps : List Byte) (s : State) : State :=
  let d := thermalOf ps
  let old (c : SensorCfg) : Sensor :=
    match (s.therm.desc.sensors.zip s.therm.sensors).find? (fun x => x.1 == c) with
    | some x => x.2
    | none => {}
  { s with therm.sensors := d.sensors.map old, therm.desc := d }

/-- THERMAL_CONFIG (11 R288). -/
def thermalConfigSpec : OpSpec where
  code := 0x0800
  sched := true
  apply := true
  domains := fun _ _ => [.meter]
  check := fun r _ => firstFail [lenIs (48 + 16 * prm r 2 1) r, need (prm r 2 1 ≤ 16)]
  units := fun r s => [(⟨.thermal, 0⟩, thermalStatus r.params s)]

def execThermalConfig (r : Req) (s : State) : Host.Outcome State Fault Refusal := .next (runPacket (period s) thermalConfigSpec r s)

/-- The hottest zone, with its index; none without zones. -/
def hottestZone (s : State) : Option (Nat × Rat) :=
  s.therm.zones.zipIdx.foldl (fun a (z, k) => match a with
    | none => some (k, z.temp)
    | some (b, t) => if t < z.temp then some (k, z.temp) else some (b, t)) none

/-- The hottest zone as a code, 0x8000 without zones (11 R289). -/
def hottestCode (s : State) : Nat :=
  if gridCols s = 0 then 0x8000 else match hottestZone s with | some (_, t) => unsigned 16 (tcode t) | none => 0x8000

def sensorCode : SensorStatus → Nat
  | .valid => 0
  | .heldOut => 1
  | .brokenElectrically => 2
  | .brokenByCheck => 3
  | .outside => 4

/-- The record of an enabled sensor (11 R289). -/
def sensorBytes (s : State) (k : Nat) : List Byte :=
  let x := getSensor s k
  let code := if sensorInGrid s k then sensorCode x.status else 4
  u8 (sensorCfg s k).input ++ u8 code ++ sbe 2 (tcode x.reading) ++ sbe 2 (tcode x.used) ++ u16 x.heldTotal

/-- The thermal read record (11 Table 11-8). -/
def thermalBytes (s : State) : List Byte :=
  let hot := if gridCols s = 0 then none else hottestZone s
  let cols := max 1 s.therm.cols
  let zs := if gridCols s = 0 then [] else s.therm.zones
  sbe 2 (tcode s.therm.die) ++ u16 (hottestCode s) ++ u8 ((hot.map fun h => h.1 % cols).getD 0xFF) ++
    u8 ((hot.map fun h => h.1 / cols).getD 0xFF) ++ u8 s.therm.dieState ++ u8 ((zs.map (·.state)).foldl max 0) ++
    s.therm.u.flatMap u16 ++
    (s.therm.diodes.zipIdx.flatMap fun (d, k) => if diodeValid s k then sbe 2 d.reading else u16 0x8000) ++
    u8 (128 * b2n s.therm.shutdownAt.isSome + 64 * b2n s.therm.desc.bypass + 32 * b2n s.therm.doubled) ++
    u8 ((gridSensors s).filter fun k => sensorBrokenNow (getSensor s k)).length ++ u16 (zs.filter fun z => 2 ≤ z.state).length

/-- THERMAL_READ (11 R289). -/
def thermalReadSpec : OpSpec where
  code := 0x0801
  domains := fun _ _ => [.meter]
  check := fun r _ => firstFail [lenIs 4 r, need (prm r 0 1 ≤ 1)]
  run := fun r s =>
    let t := fitGrid s
    (s, .done St.ok (thermalBytes t ++
      (((List.range t.therm.desc.sensors.length).filter fun k => (sensorCfg t k).enable).flatMap (sensorBytes t)) ++
      (if prm r 0 1 = 1 && gridCols t != 0 then t.therm.zones.flatMap fun z => sbe 2 (tcode z.temp) else [])))

def execThermalRead (r : Req) (s : State) : Host.Outcome State Fault Refusal := .next (runPacket (period s) thermalReadSpec r s)

end Sys2Proof.Machine
end

