-- ==== Sys2Proof/Machine/Wake.lean ====
section
/-! DEFINITION. Nightwatch's clock and wake events (16 R366, R367, R371), and the leaving of TWILIGHT that a wake event
begins. -/

namespace Sys2Proof.Machine

/-! ## The RTC (16 R371) -/

/-- The RTC's reading in units of 2^-15 s. -/
def rtcNow (s : State) : Nat := s.power.rtc + (nowNs s - s.power.rtcSetAt) * 32768 / 1000000000

/-- Its whole seconds, low 32 bits. -/
def rtcSeconds (s : State) : Nat := rtcNow s / 32768 % 2 ^ 32

/-- The RTC set to a reading at the present time. -/
def setRtc (v : Nat) (s : State) : State := { s with power.rtc := v, power.rtcSetAt := nowNs s }

/-- RTC_UPDATE: once a second while the servo is locked. -/
def execRtcUpdate (s : State) : Host.Outcome State Fault Refusal :=
  .next (if s.time.servo == .locked && s.power.rtcSetAt + 1000000000 ≤ nowNs s then setRtc (nowNs s * 32768 / 1000000000) s else s)

/-! ## The reset history (16 R372) -/

/-- A reset noted, newest first; the last eight are kept. -/
def noteReset (kind : Nat) (stuck : Bool) (s : State) : State :=
  let e : ResetEntry := ⟨kind, stuck, s.power.mode == .wakeFailed, rtcSeconds s⟩
  { s with power.history := (e :: s.power.history).take 8 }

/-! ## Wake events -/

/-- The codes of 16 Table 16-9. -/
def wakeCode : WakeSource → Nat
  | .wakeN => 1
  | .hostPort => 2
  | .rtcAlarm => 3
  | .portA => 4
  | .safety => 5

/-- Whether a source is enabled and its condition holds. -/
def wakeEnabled (s : State) : WakeSource → Bool
  | .rtcAlarm => (match s.power.alarm with | some a => decide (a ≤ rtcNow s / 32768) | none => false)
  | .portA => s.power.portAWake
  | _ => true

/-- A wake from NADIR begins at step 1 of its first attempt, with the given source (16 R368). -/
def startWake (code latched : Nat) (s : State) : State :=
  { s with
    power.mode := .waking
    power.wakeStep := 1
    power.wakeAttempt := 1
    power.wakeStepAt := nowNs s
    power.wakeStart := nowNs s
    power.wakePause := none
    power.latchedWakes := []
    power.record := { status := 0, source := code, attempts := 1, firstStep := 0, finalStep := 0, latched := latched, entryTime := s.power.record.entryTime, wakeTime := rtcSeconds s, duration := 0 } }

/-- TWILIGHT ends with WAKE_N or the armed alarm (16 R364). -/
def leaveTwilight (s : State) : State := { s with power.mode := .leavingTwilight }

/-- A wake event by the power state: latched during the entry to NADIR, counted during a wake and after its failure (16 R366,
R367, R369). -/
def wakeBy (w : WakeSource) (s : State) : State :=
  if !wakeEnabled s w then s
  else match s.power.mode with
    | .nadir => startWake (wakeCode w) 0 s
    | .enteringNadir => { s with power.latchedWakes := s.power.latchedWakes ++ [wakeCode w] }
    | .waking | .wakeFailed => { s with power.record := { s.power.record with latched := inc16 s.power.record.latched } }
    | .twilight => if w == .wakeN || w == .rtcAlarm then leaveTwilight s else s
    | _ => s

/-- WAKE_EVENT. -/
def execWakeEvent (w : WakeSource) (s : State) : Host.Outcome State Fault Refusal := .next (wakeBy w s)

end Sys2Proof.Machine
end

