-- ==== Sys2Proof/Machine/Bist.lean ====
section
/-! DEFINITION. Background self-test (13): the cycle of slices, retests, marks, BIST_CONFIG, BIST_RUN, BIST_REPORT and
BLOCK_RESTORE. -/

namespace Sys2Proof.Machine

/-! ## Records (13 Table 13-4) -/

/-- Whether the descriptor in force excludes a block. -/
def blockExcluded (s : State) (id : Nat) : Bool := s.bist.excluded.contains id

/-- The record of a block; one that the descriptor excludes reads as skipped unless it is marked. -/
def blockBytes (s : State) (id : Nat) : List Byte :=
  let b := blockRec s id
  let st := if blockExcluded s id && b.state ≤ 1 then 3 else b.state
  u16 id ++ u8 st ++ u8 (128 * b2n b.failedNow + 64 * b2n b.restored) ++ u16 b.failing ++ u16 b.failures ++
    u32 b.lastPass ++ u32 b.lastFail

/-- The slices of a cycle (13 Table 13-3). -/
def cycleSlices (s : State) : Nat := ((allBlocks s).map blockSlices).foldl (· + ·) 0

/-- The interval of a cycle in nanoseconds, in whole milliseconds (13 R311). -/
def sliceInterval (s : State) : Nat := s.bist.period * 1000 / cycleSlices s * 1000000

/-! ## Marks (13 R309, Table 13-1) -/

/-- FAULT_N follows the essential faults and the loss of both engine lanes (13 R308, R309). -/
def judgeEssential (s : State) : State :=
  if s.bist.records.any (fun b => b.state == 4) || lanesLost s then assertFault .essentialBlock s else releaseFault .essentialBlock s

/-- The sensors of a meter input, or behind the converter of every input, that is lost are broken (13 Table 13-1). -/
def loseInput (k : Nat) (s : State) : State :=
  (List.range s.therm.desc.sensors.length).foldl (fun t i =>
    let c := sensorCfg t i
    if c.enable && (k = 16 || c.input = k) && !sensorBrokenNow (getSensor t i) then breakSensor i .brokenElectrically t else t) s

/-- What an unusable block takes with it: the chain port fails, the scaler and the network port are lost, the sensors of a meter
input are broken; the other classes are read from the mark. -/
def loseBlock (id : Nat) (s : State) : State :=
  match blockClass id with
  | 0x01 => failPort (blockInst id) s
  | 0x02 => { s with layers.scaler := modAt s.layers.scaler (blockInst id) fun x => { x with unusable := true } }
  | 0x07 => linkDown (if blockInst id = 0 then .A else .B) s
  | 0x0B => loseInput (blockInst id) s
  | _ => s

/-- A second failure: an essential block keeps running, any other is unusable (13 R309). The alert's detail is the block. -/
def markBlock (id : Nat) (s : State) : State :=
  let ess := essential id
  let s1 := modBlock id (fun b => { b with state := if ess then 4 else 2, retestAt := none }) s
  let s2 := raiseAlert 0x0A (if ess then 0x03 else 0x02) (tileTarget s) 0 id ess s1
  judgeEssential (if ess then s2 else loseBlock id s2)

/-- A block returns to use (13 R310). -/
def returnBlock (id : Nat) (s : State) : State :=
  let s1 := modBlock id (fun b => { b with state := 0, restored := true, retestAt := none, failedNow := false }) s
  let s2 := clearAlertDetail 0x0A 0x03 id (clearAlertDetail 0x0A 0x02 id s1)
  judgeEssential (match blockClass id with
    | 0x01 => unfailPort (blockInst id) s2
    | 0x02 => { s2 with layers.scaler := modAt s2.layers.scaler (blockInst id) fun x => { x with unusable := false } }
    | _ => s2)

/-- The blocks whose restore has passed return at a frame boundary. -/
def returnBlocks (s : State) : State := s.bist.returning.foldl (fun t id => returnBlock id t) { s with bist.returning := [] }

/-! ## The result of a slice -/

/-- A slice's pass. -/
def passSlice (id : Nat) (s : State) : State :=
  modBlock id (fun b => { b with lastPass := nowSeconds s, state := if b.state = 3 then 0 else b.state }) s

/-- A slice's failure: a usable block awaits its retest, 10 ms later (13 R309). -/
def failSlice (id slice : Nat) (s : State) : State :=
  modBlock id (fun b => { b with
    state := if b.state = 2 || b.state = 4 then b.state else 1
    failedNow := true
    failing := slice
    failures := inc16 b.failures
    lastFail := nowSeconds s
    retestAt := if b.state = 2 || b.state = 4 then none else some (nowNs s + 10000000) }) s

/-- The slices of a scaler and of an engine lane that test its datapath, after those of its memory at 2 KiB each; each applies a
DOMAIN reset (13 Table 13-1, R308; the order is DEDUCED, notes/assumptions/55.md). -/
def resetsLogic (id slice : Nat) : Bool :=
  match blockClass id with
  | 0x02 => 64 ≤ slice
  | 0x03 => 512 ≤ slice
  | _ => false

/-- A slice that has run; the DOMAIN reset of one is entered in the reset history (16 R372, R373). -/
def takeSlice (id slice : Nat) (pass : Bool) (s : State) : State :=
  let s1 := if resetsLogic id slice then noteReset 7 false s else s
  if pass then passSlice id s1 else failSlice id slice s1

/-! ## Gaps -/

/-- Whether a block saves its contents to the save area, which has failed (13 Table 13-1, class 0x10). -/
def needsSave (s : State) (id : Nat) : Bool :=
  [0x01, 0x02, 0x03, 0x04, 0x05, 0x06, 0x08, 0x09, 0x0A].contains (blockClass id) && (blockRec s 0x1000).state == 4

/-- An engine gap that lasts for a slice: every latched frame is composed, and no layer latch comes before the slice's end
(13 R307). -/
def engineGap (s : State) : Bool :=
  s.layers.latched.isEmpty && (!domainOn s .pixel || s.power.mode == .twilight ||
    (s.time.counter + 50000 * 2 ^ 48) * (period s).den / ((period s).num * 2 ^ 48) ≤ s.time.frame)

/-- A check unit's gap: no CHECK_RUN holds the unit, and no feed has come for 10 µs (14 R329). -/
def checkGap (s : State) (u : Nat) : Bool :=
  let c := s.check.getD u {}
  c.run.isNone && (match c.fedAt with | some t => decide (t + 10000 ≤ nowNs s) | none => true)

/-- Whether a block's gap is open: a port gap, an engine gap, a check unit's gap. -/
def gapOpen (s : State) (id : Nat) : Bool :=
  match blockClass id with
  | 0x01 => portGap s 50000 (blockInst id)
  | 0x02 | 0x03 | 0x04 => engineGap s
  | 0x0D => checkGap s (blockInst id)
  | _ => true

/-- Whether the cycle skips a block: excluded, in a domain that is off, or without its save area. -/
def skipsBlock (s : State) (id : Nat) : Bool := blockExcluded s id || !domainOn s (blockDomain id) || needsSave s id

/-! ## The cycle (13 R311) -/

/-- The cycle's end: the counts, and the next cycle begins. -/
def endCycle (s : State) : State :=
  { s with
    bist.block := 0
    bist.slice := 0
    bist.done := 0
    bist.cycles := inc32 s.bist.cycles
    bist.lastDuration := (nowNs s - s.bist.cycleStart) / 1000000000
    bist.cycleStart := nowNs s
    bist.paused := 0
    bist.window := 0
    bist.inWindow := 0
    bist.overrunLogged := false
    bist.records := s.bist.records.map fun b => { b with failedNow := false } }

/-- The next block of the cycle from position `i` on that is not skipped, skipped ones recorded; `fuel` bounds the
search. -/
def seekBlock : Nat → Nat → State → Nat × State
  | 0, i, s => (i, s)
  | fuel + 1, i, s =>
    match (allBlocks s)[i]? with
    | none => (i, s)
    | some id =>
      if skipsBlock s id then
        seekBlock fuel (i + 1) (modBlock id (fun b => { b with state := if b.state ≤ 1 then 3 else b.state, retestAt := none }) s)
      else (i, s)

/-- The interval of the cycle that the time lies in. -/
def cycleWindow (s : State) : Nat := (nowNs s - s.bist.cycleStart) / sliceInterval s

/-- The cycle stands at the first slice of a block. -/
def atBlock (i : Nat) (s : State) : State := { s with bist.block := i, bist.slice := 0 }

/-- The cycle goes on with its next block, or ends. -/
def nextCycleBlock (s : State) : State :=
  let x := seekBlock 256 (s.bist.block + 1) s
  if (allBlocks s).length ≤ x.1 then endCycle (atBlock x.1 x.2) else atBlock x.1 x.2

/-- The position after a slice, which counts in its interval. -/
def stepCycle (id : Nat) (s : State) : State :=
  let b := s.bist
  let s1 := { s with
    bist.done := b.done + 1
    bist.lastSlice := b.lastSlice + sliceInterval s
    bist.window := cycleWindow s
    bist.inWindow := if b.window = cycleWindow s then b.inWindow + 1 else 1 }
  if b.slice + 1 < blockSlices id then { s1 with bist.slice := b.slice + 1 }
  else nextCycleBlock s1

/-- A slice that comes more than one interval late counts as postponed. -/
def notePostponed (now : Nat) (s : State) : State :=
  if s.bist.lastSlice + 2 * sliceInterval s ≤ now then { s with bist.postponed := inc16 s.bist.postponed } else s

/-- The background slice at the position of the cycle. -/
def cycleSlice (pass : Bool) (s : State) : State :=
  let x := seekBlock 256 s.bist.block s
  let s1 := if x.1 != s.bist.block then atBlock x.1 x.2 else x.2
  match (allBlocks s1)[x.1]? with
  | none => endCycle { s1 with bist.lastSlice := nowNs s }
  | some id =>
    if gapOpen s id then stepCycle id (takeSlice id s1.bist.slice pass (notePostponed (nowNs s) s1)) else s1

/-! ## Operations (13 R310, R313) -/

/-- An operation's end: a restore whose slices all passed returns its block at the next frame boundary; of a block that
was not unusable it is OK. -/
def endBistOp (o : BistOp) (s : State) : State :=
  let recs := o.blocks.flatMap (blockBytes s)
  let s1 := dropUnvoted { s with bist.ops := s.bist.ops.drop 1 }
  if !o.restore then completeOp o.src o.tag St.ok recs s1
  else
    let id := o.blocks.headD 0
    let marked := (blockRec s id).state == 2 || (blockRec s id).state == 4
    if !marked then completeOp o.src o.tag St.ok recs s1
    else if o.failed then completeOp o.src o.tag St.blockUnusable recs s1
    else completeOp o.src o.tag St.ok recs { s1 with bist.returning := s1.bist.returning ++ [id] }

/-- The operation at the front goes on without a block whose slices need the save area, none of which run (13 Table 13-1). -/
def passOverBlock (o : BistOp) (s : State) : State :=
  let o1 := { o with index := o.index + 1, slice := 0, failed := true }
  let s1 := { s with bist.ops := o1 :: s.bist.ops.drop 1 }
  if o.blocks.length ≤ o1.index then endBistOp o1 s1 else s1

/-- A slice of the operation at the front. -/
def opSlice (o : BistOp) (pass : Bool) (s : State) : State :=
  let id := o.blocks.getD o.index 0
  if needsSave s id then passOverBlock o s
  else if !gapOpen s id then s
  else
    let s1 := takeSlice id o.slice pass s
    let o1 := { o with failed := o.failed || !pass }
    let o2 := if o.slice + 1 < blockSlices id then { o1 with slice := o.slice + 1 } else { o1 with index := o.index + 1, slice := 0 }
    let s2 := { s1 with bist.ops := o2 :: s1.bist.ops.drop 1 }
    if o.blocks.length ≤ o2.index then endBistOp o2 s2 else setPartials o.src o.tag ((o.blocks.take o2.index).flatMap (blockBytes s2)) s2

/-! ## Slices -/

/-- Whether a background slice is due: enabled, not paused by a thermal shutdown, its interval begun, and not the fifth of
one interval (13 R311, Table 13-6). -/
def cycleDue (s : State) : Bool :=
  s.bist.enable && s.bist.pausedSince.isNone && s.bist.lastSlice + sliceInterval s ≤ nowNs s &&
    (s.bist.window != cycleWindow s || s.bist.inWindow < 4)

/-- Whether self-test runs in the device's state. -/
def bistRuns (s : State) : Bool :=
  s.fw.running && (match s.power.mode with | .run | .twilight | .leavingTwilight | .enteringTwilight => true | _ => false)

/-- BIST_SLICE: operations go ahead of the cycle; a slice that the input limit refuses is counted (07 Table 7-6). -/
def runSlice (pass : Bool) (s : State) : State :=
  if s.ledger.refuseWork then { s with bist.refused := inc16 s.bist.refused }
  else match s.bist.ops with
    | o :: _ => opSlice o pass s
    | [] => if cycleDue s then cycleSlice pass s else s

def execBistSlice (pass : Bool) (s : State) : Host.Outcome State Fault Refusal :=
  .next (if bistRuns s then runSlice pass s else s)

/-- Whether a retest is due. -/
def retestDue (s : State) (id : Nat) : Bool :=
  let b := blockRec s id
  b.state == 1 && gapOpen s id && !s.ledger.refuseWork && (match b.retestAt with | some t => decide (t ≤ nowNs s) | none => false)

/-- BIST_RETEST: a pass clears the first failure and logs it as transient, a failure marks the block (13 R309). -/
def execBistRetest (block : Nat) (pass : Bool) (s : State) : Host.Outcome State Fault Refusal :=
  .next (if bistRuns s && retestDue s block then
      if pass then
        logAlert 0x0A 0x01 (tileTarget s) 0 block
          (modBlock block (fun b => { b with state := 0, retestAt := none, failedNow := false, lastPass := nowSeconds s }) s)
      else markBlock block (modBlock block (fun b => { b with failures := inc16 b.failures, lastFail := nowSeconds s }) s)
    else s)

/-- BIST_CYCLE_OVERRUN: 600 s of the cycle in RUN, the pauses of thermal shutdowns not counted (13 R311). -/
def overrunDue (s : State) : Bool :=
  s.power.mode == .run && s.bist.enable && !s.bist.overrunLogged && s.bist.pausedSince.isNone &&
    decide (s.bist.cycleStart + s.bist.paused + 600000000000 ≤ nowNs s)

def execBistCycleOverrun (s : State) : Host.Outcome State Fault Refusal :=
  .next (if s.fw.running && overrunDue s then
      logAlert 0x0A 0x04 (tileTarget s) 0 (inc16 s.bist.overruns)
        { s with bist.overruns := inc16 s.bist.overruns, bist.overrunLogged := true }
    else s)

/-! ## BIST_CONFIG (13 R312) -/

/-- The excluded blocks of a descriptor. -/
def excludedOf (ps : List Byte) : List Nat := (List.range (getB ps 4)).map fun i => be ps (8 + 2 * i) 2

/-- The staging status of a descriptor. -/
def bistStatus (ps : List Byte) (s : State) : Nat :=
  need (field (getB ps 1) 6 0 = 0 && 60 ≤ be ps 2 2 && be ps 2 2 ≤ 540 &&
    (excludedOf ps).all fun id => blockExists s id || blockAbsent s id)

/-- A descriptor commits: a block excluded while it awaits its retest is usable and skipped (13 Table 13-6). -/
def applyBist (ps : List Byte) (s : State) : State :=
  let ex := excludedOf ps
  { s with
    bist.enable := bitN (getB ps 1) 7
    bist.period := be ps 2 2
    bist.excluded := ex
    bist.records := s.bist.records.map fun b =>
      if ex.contains b.id && b.state ≤ 1 then { b with state := 3, retestAt := none }
      else if b.state = 3 && !ex.contains b.id then { b with state := 0 } else b }

def bistConfigSpec : OpSpec where
  code := 0x0A00
  sched := true
  apply := true
  check := fun r s => if r.params.length < 8 then St.badLength else if 8 < prm r 4 1 then St.badParam
    else firstFail [lenIs (8 + 2 * prm r 4 1) r, bistStatus r.params s]
  units := fun r s => [(⟨.bist, 0⟩, bistStatus r.params s)]

def execBistConfig (r : Req) (s : State) : Host.Outcome State Fault Refusal := .next (runPacket (period s) bistConfigSpec r s)

/-! ## BIST_RUN, BIST_REPORT, BLOCK_RESTORE -/

/-- The blocks that BIST_RUN names. -/
def namedBlocks (r : Req) : List Nat := (List.range (prm r 0 1)).map fun i => prm r (2 + 2 * i) 2

def bistRunSpec : OpSpec where
  code := 0x0A01
  long := fun _ => true
  domains := fun r s => ((namedBlocks r).filter (blockExists s)).map blockDomain
  unusable := fun r s => (namedBlocks r).any (blockAbsent s)
  check := fun r s =>
    if r.params.length < 2 then St.badLength
    else if prm r 0 1 = 0 || 16 < prm r 0 1 then St.badParam
    else firstFail [lenIs (2 + 2 * prm r 0 1) r, need ((namedBlocks r).all fun id => blockExists s id || blockAbsent s id)]
  run := fun r s =>
    if s.therm.shutdownAt.isSome then (s, .done St.thermalRefused [])
    else ({ s with bist.ops := s.bist.ops ++ [{ src := r.src, tag := r.tag, restore := false, blocks := namedBlocks r }] }, .accepted)

def execBistRun (r : Req) (s : State) : Host.Outcome State Fault Refusal := .next (runPacket (period s) bistRunSpec r s)

/-- The cycle record (13 Table 13-3). -/
def cycleBytes (s : State) : List Byte :=
  let b := s.bist
  u32 b.cycles ++ u16 (cycleSlices s) ++ u16 b.done ++ u16 (satN 0xFFFF b.lastDuration) ++ u16 b.overruns ++ u16 b.postponed ++ u16 b.refused

def bistReportSpec : OpSpec where
  code := 0x0A02
  check := fun r _ => firstFail [lenIs 4 r, need (prm r 0 1 ≤ 1)]
  run := fun r s =>
    let all := (allBlocks s).map (blockBytes s)
    (s, .done St.ok (cycleBytes s ++ (if prm r 0 1 = 1 then all.filter fun x => getB x 2 != 0 else all).flatten))

def execBistReport (r : Req) (s : State) : Host.Outcome State Fault Refusal := .next (runPacket (period s) bistReportSpec r s)

def blockRestoreSpec : OpSpec where
  code := 0x0A03
  long := fun _ => true
  domains := fun r s => if blockExists s (prm r 0 2) then [blockDomain (prm r 0 2)] else []
  unusable := fun r s => blockAbsent s (prm r 0 2)
  check := fun r s => firstFail [lenIs 4 r, need (blockExists s (prm r 0 2) || blockAbsent s (prm r 0 2))]
  run := fun r s =>
    ({ s with bist.ops := s.bist.ops ++ [{ src := r.src, tag := r.tag, restore := true, blocks := [prm r 0 2] }] }, .accepted)

def execBlockRestore (r : Req) (s : State) : Host.Outcome State Fault Refusal := .next (runPacket (period s) blockRestoreSpec r s)

/-! ## Boot self-test (13 R315) -/

/-- The boot self-test with the blocks that fail it and the failing slice of each: its marks replace all earlier ones, and every
other block has passed. -/
def bootTest (failedBlocks : List (Nat × Nat)) (s : State) : State :=
  let s1 := judgeEssential { s with
    bist.records := (allBlocks s).map fun id => { id := id, lastPass := nowSeconds s }
    bist.returning := []
    bist.ops := []
    bist.block := 0
    bist.slice := 0
    bist.done := 0
    bist.cycles := 0
    bist.cycleStart := nowNs s
    bist.lastSlice := nowNs s
    bist.window := 0
    bist.inWindow := 0
    bist.paused := 0
    bist.pausedSince := none
    bist.overrunLogged := false
    layers.scaler := s.layers.scaler.map fun x => { x with unusable := false }
    chain.ports := s.chain.ports.map fun q => { q with failed := false } }
  (failedBlocks.filter fun x => blockExists s x.1).foldl
    (fun t x => markBlock x.1 (failSlice x.1 x.2 (modBlock x.1 (fun b => { b with lastPass := 0 }) t))) s1

end Sys2Proof.Machine
end

