-- ==== Sys2Proof/Machine/Balls.lean ====
section
/-! DEFINITION. The balls of the package (20 R437 to R444): the block of each chain port, the places of its ten signal balls
and their neighbours, and what every other ball carries. -/

namespace Sys2Proof.Machine

/-- The index of row BA, the last one (20 Table 20-2). -/
def lastRow : Nat := 39

/-- The side of the package that a port's block stands at, and the number of the block along it (20 Table 20-6). -/
inductive BallSide where
  | left | right | bottom
deriving DecidableEq, Repr, Inhabited

/-- The block of a port (20 Table 20-6). -/
def portBlock (p : Nat) : BallSide × Nat :=
  let l := p / 2
  if l < 16 then (if p % 2 = 0 then (.left, l) else (.right, l))
  else (.bottom, if p % 2 = 0 then l - 16 else l - 8)

/-- The base ball of a port's block (20 Table 20-7). -/
def baseBall (p : Nat) : Ball :=
  match portBlock p with
  | (.left, k) => ⟨2 + 2 * k, 1⟩
  | (.right, k) => ⟨2 + 2 * k, 39⟩
  | (.bottom, k) => ⟨lastRow, 4 + 2 * k⟩

/-- The ball at a position of a port's block (20 Table 20-6). -/
def blockBall (p a d : Nat) : Ball :=
  let b := baseBall p
  match (portBlock p).1 with
  | .left => ⟨b.row + a, 1 + d⟩
  | .right => ⟨b.row + a, 39 - d⟩
  | .bottom => ⟨39 - d, b.col + a⟩

/-- The depth of each pair, CK, D0, D1, LT and Q (20 Table 20-5). -/
def pairDepth (pair : Nat) : Nat := [1, 2, 3, 4, 0].getD pair 5

/-- The signal ball of a port by its index (20 Table 20-5). -/
def signalBall (p i : Nat) : Ball := blockBall p (i % 2) (pairDepth (i / 2))

/-- Every signal ball of the 48 ports, with its port and index. -/
def signalBalls : List (Nat × Nat × Ball) :=
  (List.range 48).flatMap fun p => (List.range 10).map fun i => (p, i, signalBall p i)

/-- The port and the index of a signal ball. -/
def signalAt (b : Ball) : Option (Nat × Nat) := (signalBalls.find? fun x => x.2.2 == b).map fun x => (x.1, x.2.1)

/-- Whether two balls are one pitch apart in row, column or both (20 R442). -/
def onePitch (x y : Ball) : Bool :=
  x != y && x.row ≤ y.row + 1 && y.row ≤ x.row + 1 && x.col ≤ y.col + 1 && y.col ≤ x.col + 1

/-- The neighbours of a signal ball: the signal balls among the eight around it (20 R442). -/
def neighbours (b : Ball) : List (Nat × Nat × Ball) := signalBalls.filter fun x => onePitch b x.2.2

/-- The partner of a ball in a short, none of them where the short is to a supply or ground. -/
def BallShort.partner (x : BallShort) (b : Ball) : Option (Option Ball) :=
  if x.ball == b then some x.other else if x.other == some b then some (some x.ball) else none

/-- What the test of one ball finds among the shorts of the board (10 R259): a short to a supply or ground is told from the
pulls, a short to another signal ball from the neighbours that follow the driven ball. -/
def ballFinding (shorts : List BallShort) (b : Ball) : Option (Option (Nat × Nat)) :=
  (shorts.filterMap (·.partner b)).findSome? fun o =>
    match o with
    | none => some none
    | some c =>
      match (neighbours b).find? fun x => x.2.2 == c with
      | some x => some (some (x.1, x.2.1))
      | none => if (signalAt c).isNone then some none else none

/-- The first shorted ball of a port, with the port and ball that it is shorted to where that is another signal ball. -/
def portBallShort (shorts : List BallShort) (p : Nat) : Option (Nat × Option (Nat × Nat)) :=
  (List.range 10).findSome? fun i => (ballFinding shorts (signalBall p i)).map fun o => (i, o)

/-! ## The other balls -/

/-- The names of the rows by their index, from 1 (20 Table 20-2). -/
def rowNames : List String :=
  [
   "A", "B", "C", "D", "E", "F", "G", "H", "J", "K", "L", "M", "N", "P", "T", "U", "V", "W", "Y", "AA", "AB", "AC", "AD",
   "AE", "AF", "AG", "AH", "AJ", "AK", "AL", "AM", "AN", "AP", "AT", "AU", "AV", "AW", "AY", "BA"]

/-- Row names and column, as in AC17 (20 R437). -/
def Ball.name (b : Ball) : String := rowNames.getD (b.row - 1) "" ++ toString b.col

/-- The signals outside the chain ports, as runs along a row: its index, the first column and the names (20 Table 20-4). -/
def edgeSignals : List (Nat × Nat × List String) :=
  [
   (1, 2, ["TCK", "TMS", "TDI", "TDO", "TRST_N"]), (1, 8, ["XT32_IN", "XT32_OUT"]),
   (1, 11, ["NRST", "WAKE_N", "FAULT_N", "ALERT_N"]), (1, 16, ["RXA_P", "RXA_N"]), (1, 19, ["TXA_P", "TXA_N"]),
   (1, 22, ["TXB_P", "TXB_N"]), (1, 25, ["RXB_P", "RXB_N"]), (1, 28, ["REFIN"]),
   (1, 30, ["HSCK", "HCS_N", "HSIO0", "HSIO1", "HSIO2", "HSIO3", "HIRQ_N", "VHOST", "VHOST"]),
   (2, 7, ["SCL", "SDA", "LED_EN0", "LED_EN1", "LED_EN2", "LED_EN3"]),
   (2, 28, ["FL_CK", "FL_DQS", "FL_CS_N", "FL_RST_N", "FL_DQ0", "FL_DQ1"]),
   (3, 7, ["CAM_SYNC0", "CAM_SYNC1", "CAM_SYNC2", "CAM_SYNC3", "REF_SYNC"]),
   (3, 28, ["FL_DQ2", "FL_DQ3", "FL_DQ4", "FL_DQ5", "FL_DQ6", "FL_DQ7"]), (33, 7, ["AGND", "AGND", "AGND"]),
   (34, 1, ["AIN0", "AIN1", "AIN2"]), (34, 36, ["SIN_ESTOP_A", "SIN_ESTOP_B", "SIN_DOOR_NC", "SIN_DOOR_NO"]),
   (35, 1, ["AIN3", "AIN4", "AIN5"]),
   (35, 36, ["SIN_2H_LEFT_NO", "SIN_2H_LEFT_NC", "SIN_2H_RIGHT_NO", "SIN_2H_RIGHT_NC"]),
   (36, 1, ["AIN6", "AIN7", "AIN8"]), (36, 36, ["SIN_LC_A", "SIN_LC_B", "SIN_SRST"]), (37, 1, ["AIN9", "AIN10", "AIN11"]),
   (37, 36, ["STP_A", "STP_B", "SFB_LIGHT", "SFB_MOTION"]), (38, 1, ["AIN12", "AIN13", "AIN14"]),
   (38, 36, ["SOUT_LIGHT_P", "SOUT_MOTION_P", "SOUT_LIGHT_H", "SOUT_MOTION_H"]), (39, 1, ["AIN15", "VREFM", "AGND"]),
   (39, 36, ["VSAFE", "VSAFE", "VSAFEIO", "VSAFEIO"])]

/-- The supply and reserved balls outside the VCORE field: the row's index, the first and the last column, and the name (20
Table 20-9). -/
def supplyBalls : List (Nat × Nat × Nat × String) :=
  [
   (3, 16, 23, "V0P9"), (4, 7, 22, "VDRAM"), (4, 23, 32, "VDRAMQ"), (6, 7, 18, "NC"), (29, 7, 30, "VIO"),
   (29, 31, 31, "VCORE_SENSE"), (29, 32, 32, "VCORE_SENSE_RTN"), (29, 33, 33, "V3P3"), (30, 28, 30, "V3P3"),
   (30, 31, 32, "VAON"), (30, 7, 27, "PGND"), (31, 18, 33, "PGND"), (32, 31, 33, "PGND"), (31, 7, 10, "LX_DRAM"),
   (31, 11, 13, "LX_DRAMQ"), (31, 14, 17, "LX_IO"), (32, 7, 18, "LX_CORE0"), (32, 19, 30, "LX_CORE1"), (33, 10, 33, "VIN")]

/-- The checkerboard of VCORE (20 Table 20-9). -/
def isVcore (b : Ball) : Bool := 11 ≤ b.row && b.row ≤ 26 && 10 ≤ b.col && b.col ≤ 29 && (b.row + b.col) % 2 = 0

/-- What a ball carries: the signal of a chain port by port and index, or a signal or supply by name; every ball that no table
names is ground (20 R443). -/
inductive BallUse where
  | chain (port index : Nat)
  | named (name : String)
deriving DecidableEq, Repr, Inhabited

def ballUse (b : Ball) : BallUse :=
  match signalAt b with
  | some (p, i) => .chain p i
  | none =>
    match edgeSignals.findSome? fun (r, c, ns) => if r = b.row && c ≤ b.col then ns[b.col - c]? else none with
    | some n => .named n
    | none =>
      match supplyBalls.find? fun (r, c, d, _) => r = b.row && c ≤ b.col && b.col ≤ d with
      | some (_, _, _, n) => .named n
      | none => .named (if isVcore b then "VCORE" else "GND")

end Sys2Proof.Machine
end

