-- ==== Sys2Proof/Machine/Diagnosis.lean ====
section
/-! DEFINITION. The opcodes of the chain and of diagnosis (09, 10): enumeration, meridians, cell configuration, the raster,
the fault map, DIAG_RUN and TWINKLE_CONFIG; and diagnosis ages, Twinkle, short sweeps and DIAG_MAP reads. -/

namespace Sys2Proof.Machine

/-! ## CHAIN_ENUMERATE (09 R237) -/

/-- How long the enumeration of a loop takes: at most 20 ms (notes/assumptions/27.md). -/
def enumDuration (s : State) : Nat := Config.enumTime s.freeCount % 20000001

/-- A loop whose enumeration begins: its ports stop driving, and no upload reaches it. -/
def quietLoop (l : Nat) (s : State) : State :=
  modLoop l (fun x => { x with enumerating := true })
    (setDriving (portOf l .B) false (setDriving (portOf l .A) false
      (modPort (portOf l .B) ChainPort.ended (modPort (portOf l .A) ChainPort.ended s))))

/-- The first loop of those left is enumerated from now on. -/
def enumFrom (r : EnumRun) (s : State) : State :=
  match r.left with
  | [] => { s with chain.enumRun := none }
  | l :: _ => nextFree (quietLoop l { s with chain.enumRun := some { r with until_ := nowNs s + enumDuration s } })

/-- Whether an operation still runs. -/
def opRuns (src : Source) (tag : Nat) (s : State) : Bool := (findOp src tag s).any opLive

/-- A loop is done: the next one follows; after the last one, or an abort, the operation ends. -/
def enumNext (r : EnumRun) (s : State) : State :=
  match r.left with
  | [] => { s with chain.enumRun := none }
  | l :: rest =>
    let s1 := enumerateLoop l s
    if !opRuns r.src r.tag s1 then { s1 with chain.enumRun := none }
    else if rest.isEmpty then
      completeOp r.src r.tag St.ok (r.loops.flatMap (enumBytes s1)) { s1 with chain.enumRun := none }
    else enumFrom { r with left := rest } s1

/-- The enumeration in progress goes on once its loop is done, while the loop's SCAN group is on. -/
def enumAdvance (s : State) : State :=
  match s.chain.enumRun with
  | some r => if s.fw.running && r.until_ ≤ nowNs s && r.left.all (fun l => domainOn s (.scan (portGroup (2 * l)))) then enumNext r s else s
  | none => s

/-- CHAIN_ENUMERATE (09 R237). -/
def chainEnumerateSpec : OpSpec where
  code := 0x0700
  level := .loop
  long := fun _ => true
  domains := fun r s => targetGroups s r.target
  check := fun r _ => lenIs 0 r
  run := fun r s =>
    let ls := targetLoops s r.target
    if s.chain.enumRun.isSome then (s, .done St.busy [])
    else (enumFrom ⟨r.src, r.tag, ls, ls, 0⟩ s, .accepted)

def execChainEnumerate (r : Req) (s : State) : Host.Outcome State Fault Refusal := .next (runPacket (period s) chainEnumerateSpec r s)

/-! ## Chain opcodes -/

/-- CHAIN_STATUS (10 R271). -/
def chainStatusSpec : OpSpec where
  code := 0x0701
  level := .loop
  domains := fun r s => targetGroups s r.target
  check := fun r _ => lenIs 0 r
  run := fun r s => (s, .done St.ok ((targetLoops s r.target).flatMap (loopBytes s)))

def execChainStatus (r : Req) (s : State) : Host.Outcome State Fault Refusal := .next (runPacket (period s) chainStatusSpec r s)

/-- MERIDIAN_SET (10 R255). -/
def meridianSetSpec : OpSpec where
  code := 0x0702
  level := .loop
  sched := true
  apply := true
  domains := fun r s => targetGroups s r.target
  check := fun r _ => firstFail [lenIs 8 r,
    need (field (prm r 1 1) 5 0 = 0 && 10 ≤ prm r 4 2 && prm r 4 2 ≤ 3600)]
  units := fun r s => (targetLoops s r.target).map fun l => (⟨.meridian, l⟩, meridianStatus r.params l s)

def execMeridianSet (r : Req) (s : State) : Host.Outcome State Fault Refusal := .next (runPacket (period s) meridianSetSpec r s)

/-- CELL_CONFIG (09 R238). -/
def cellConfigSpec : OpSpec where
  code := 0x0703
  level := .cell
  sched := true
  apply := true
  domains := fun r s => targetGroups s r.target
  check := fun r _ => firstFail [lenIs 16 r, need (field (prm r 1 1) 4 0 = 0)]
  units := fun r s => (targetCells s r.target).map fun (l, c) => (cellUnit l c, cellUnitStatus r.target r.params l c s)
  staged := fun r s => stageCells r s

def execCellConfig (r : Req) (s : State) : Host.Outcome State Fault Refusal := .next (runPacket (period s) cellConfigSpec r s)

/-- RASTER_SET (09 R240). -/
def rasterSetSpec : OpSpec where
  code := 0x0707
  sched := true
  apply := true
  domains := fun _ _ => [.pixel]
  check := fun r _ => lenIs 8 r
  units := fun r s => [(⟨.raster, 0⟩, need (rasterValid s (prm r 2 2) (prm r 4 2)))]

def execRasterSet (r : Req) (s : State) : Host.Outcome State Fault Refusal := .next (runPacket (period s) rasterSetSpec r s)

/-- The Almanac bank in force records the raster, or is the identity bank (09 R240). -/
def bankFitsRaster (s : State) : Bool :=
  match bankInUse s with
  | some k => (getBank s k).width == s.chain.width && (getBank s k).height == s.chain.height
  | none => true

/-! ## Restore trials (10 R256) -/

/-- Whether a restore trial is due: RESTORE_NOW, or the restore interval while AUTO_RESTORE is set; it is firmware-run, and
needs 500 µs before the next upload starts (10 R256). -/
def trialDue (l : Nat) (s : State) : Bool :=
  let lp := getLoop s l
  s.fw.running && !(getPort s (portOf l .A)).uploading && !(getPort s (portOf l .B)).uploading &&
    !(uploadWanted s && slotDue s (uploadPeriod (fullestPort s) + 500000)) && (lp.restoreNow ||
    (lp.autoRestore && lp.lastTrial + lp.restoreInterval * 1000000000 ≤ nowNs s))

/-- RESTORE_TRIAL: runs where one is due on a healed loop (10 R256). -/
def execRestoreTrial (l : Fin 24) (s : State) : Host.Outcome State Fault Refusal :=
  .next (match trialLink l s with
    | some b => if trialDue l s then restoreTrial l b s else s
    | none => s)

/-! ## The fault map (10 R269) -/

/-- Whether a record's target lies within a target address. -/
def faultWithin (t : BitVec 64) (f : FaultRec) : Bool :=
  (tgtLoop t = 31 || tgtLoop t = tgtLoop f.target) && (tgtCell t = 127 || tgtCell t = tgtCell f.target) &&
    (tgtPixel t = 1023 || (f.kind ≤ 3 && tgtPixel t = tgtPixel f.target)) &&
    (tgtEmitter t = 3 || (f.kind ≤ 3 && tgtEmitter t = tgtEmitter f.target))

/-- FAULT_MAP_READ. -/
def faultMapReadSpec : OpSpec where
  code := 0x0704
  level := .emitter
  check := fun r _ => firstFail [lenIs 4 r, need (field (prm r 0 1) 5 0 = 0)]
  run := fun r s =>
    let all := bitN (prm r 0 1) 7
    let shown := s.chain.faults.filter fun f => faultWithin r.target f && (all || f.active)
    let sorted := shown.mergeSort fun a b => a.target.toNat < b.target.toNat || (a.target == b.target && a.kind ≤ b.kind)
    let gone (f : FaultRec) : Bool := bitN (prm r 0 1) 6 && !f.active && shown.contains f
    ({ s with chain.faults := s.chain.faults.filter fun f => !gone f }, .done St.ok (u32 sorted.length ++ sorted.flatMap faultBytes))

def execFaultMapRead (r : Req) (s : State) : Host.Outcome State Fault Refusal := .next (runPacket (period s) faultMapReadSpec r s)

/-! ## Diagnosis ages (10 R263) -/

def ageAddr (e : Nat) : Nat := 0x04E10000 + 2 * e
def ageOf (s : State) (e : Nat) : Nat := s.dram.mem.be (ageAddr e) 2
def setAge (e v : Nat) (s : State) : State := dramWrite (ageAddr e) (u16 v) s

/-- The ages from emitter `from_` on written at the age with which every emitter starts. -/
def startAges (from_ : Nat) (s : State) : State :=
  let n := 3 * s.chain.width * s.chain.height
  if n ≤ from_ then s
  else dramWrite (ageAddr from_) ((List.range (n - from_)).flatMap fun _ => u16 s.chain.ageStart) { s with chain.ageCount := n }

/-- Every age at the age limit: after POR, PIN and COLD (10 R263). -/
def resetAges (s : State) : State :=
  startAges 0 { s with chain.ageCount := 0, chain.ageStart := s.chain.twinkle.ageLimit / 10 }

/-- The emitters that a raster brings for the first time start at the age limit of the boot (10 R263). -/
def extendAges (s : State) : State := startAges s.chain.ageCount s

/-! ## DIAG_MAP reads (10 R261) -/

/-- The target of an emitter by its index within the cell (09 R230). -/
def emitterTarget (s : State) (l c e : Nat) : BitVec 64 := ownTarget s l c (16 * (e / 48) + e % 48 / 3) (e % 48 % 3)

/-- The index within its cell of the emitter that a fault record names. -/
def FaultRec.emitter (f : FaultRec) : Nat :=
  48 * (tgtPixel f.target / 16) + 3 * (tgtPixel f.target % 16) + tgtEmitter f.target

/-- The other channel of an adjacent-channel short: a neighbour that shows the same code. -/
def otherChannel (codes : List (Nat × Nat)) (e : Nat) : Nat :=
  if e % 48 < 47 && codes.contains (e + 1, 3) then e % 48 + 1 else if 0 < e % 48 && codes.contains (e - 1, 3) then e % 48 - 1 else e % 48

/-- The raster's emitter index of an emitter of a placed cell. -/
def emitterOf (s : State) (l c e : Nat) : Option Nat :=
  ((placedCells s).find? fun q => q.loop == l && q.cell == c).map fun q =>
    let p := q.at (16 * (e / 48) + e % 48 / 3)
    emitterIndex s p.1 p.2 (e % 48 % 3)

/-- Whether an emitter's age was reset by a sweep since a time; a suppressed emitter's age stands still (10 R262). -/
def agedSince (s : State) (l c e : Nat) (since : Option Nat) : Bool :=
  match emitterOf s l c e with
  | some i => ageOf s i < 0xFFFF && !suppressedAt s l c (16 * (e / 48) + e % 48 / 3) (e % 48 % 3) &&
      since.getD 0 + ageOf s i * 10000000 ≤ s.chain.lastAgeSweep
  | none => false

/-- One emitter's code as a read shows it (10 R261): confirmed at two equal reads in a row, inactive after 16 clean ones. -/
def senseRead (l c : Nat) (codes : List (Nat × Nat)) (since : Option Nat) (x : Sensed) (s : State) : State :=
  let code := codeOf codes x.emitter
  let others := s.chain.sensed.filter fun y => !(y.loop == l && y.cell == c && y.emitter == x.emitter)
  let t := emitterTarget s l c x.emitter
  if code != 0 then
    let run := if x.code = code then x.run + 1 else 1
    let s1 := { s with chain.sensed := others ++ [{ x with code := code, run := run, clean := 0 }] }
    if 2 ≤ run then addFault t code (if code = 3 then otherChannel codes x.emitter else 0) (s.chain.twinkle.suppress && code != 1) false s1 else s1
  else
    let clean := if agedSince s l c x.emitter since then x.clean + 1 else x.clean
    if 16 ≤ clean then
      [1, 2, 3].foldl (fun u k => clearFault t k 0 (u.chain.faults.foldl (fun w f => if f.target == t && f.kind == k then clearFault t k f.detail w else w) u))
        { s with chain.sensed := others }
    else { s with chain.sensed := others ++ [{ x with run := 0, clean := clean }] }

/-- The emitters of a cell that reads follow: those sensed before, and those with an active record. -/
def followed (s : State) (l c : Nat) : List Sensed :=
  let known := s.chain.sensed.filter fun x => x.loop == l && x.cell == c
  let active := s.chain.faults.filter fun f => f.active && f.kind ≤ 3 && tgtLoop f.target == l && tgtCell f.target == c
  known ++ (active.filter fun f => !(known.any fun x => x.emitter == f.emitter)).map fun f => ⟨l, c, f.emitter, f.kind, 1, 0⟩

/-- The attached cells whose entries have begun by now have sensed (09 R236). -/
def fireCells (l : Nat) (s : State) : State :=
  modPlant l (fun pl => { pl with cells := pl.cells.map (·.fire (nowNs s)) }) s

/-- The codes that READs of a cell's DIAG_MAP bring, 32 words at a time (09 R230, R233). -/
def readCodes (s : State) (l c : Nat) : Option (List (Nat × Nat)) :=
  ((List.range 6).mapM fun k => cellRegs s l c (0x40 + 32 * k) 32).map fun ws => codesOfMap ws.flatten

/-- A read of a cell's DIAG_MAP. -/
def readDiagMap (l c : Nat) (s0 : State) : State :=
  let s := fireCells l s0
  match readCodes s l c with
  | none => s
  | some codes =>
    let known := followed s l c
    let fresh := (codes.filter fun d => !(known.any fun x => x.emitter == d.1)).map fun d => (⟨l, c, d.1, 0, 0, 0⟩ : Sensed)
    let since := (((getLoop s l).cells[c]?).bind (·.diagReadAt))
    let s1 := (known ++ fresh).foldl (fun t x => senseRead l c codes since x t) s
    modLoop l (fun lp => lp.modCell c (fun r => { r with diagReadAt := some (nowNs s), faultBits := false })) s1

/-- Whether a cell may be read: firmware runs, its port is in a gap, and its last read is a second past (10 R261). -/
def mapReadable (s : State) (l c : Nat) : Bool :=
  s.fw.running && !(getPort s (portOf l ((getLoop s l).reach c).1)).uploading &&
    (match ((getLoop s l).cells[c]?).bind (·.diagReadAt) with | some t => decide (t + 1000000000 ≤ nowNs s) | none => true)

/-- A read is due: a fault bit, or a fault that may have gone. -/
def diagReadDue (s : State) (l c : Nat) : Bool :=
  match (getLoop s l).cells[c]? with
  | some r => mapReadable s l c && (r.faultBits || !(followed s l c).isEmpty)
  | none => false

/-- DIAG_MAP_READ. -/
def execDiagMapRead (l : Fin 24) (cell : Fin 100) (s : State) : Host.Outcome State Fault Refusal :=
  .next (if diagReadDue s l cell then readDiagMap l cell s else s)

/-! ## Pulses (09 R236; 07 R181, R191) -/

/-- The program of the slot whose transit comes next. -/
def comingPlan (s : State) : Program := planOf s (targetSlot s).frame

/-- The current of a pulse on one channel averaged over the dead time, in 10 mA, rounded up. -/
def pulseCurrent (s : State) (microamps : Nat) : Nat :=
  let d := 10000 * max 1 (comingPlan s).dead
  (microamps * 500 + d - 1) / d

/-- The headroom of pulses that draw the given µA per rail in a window, on every rail. -/
def pulsesFit (s : State) (who : Requester) (window : Nat) (draw : Nat → Nat) : Bool :=
  railsOn s && (List.range 4).all fun r => draw r = 0 || headroomOk s ⟨who, Fin.ofNat 4 r, window, pulseCurrent s (draw r), 500⟩

/-- The grants of such pulses. -/
def grantPulses (who : Requester) (window : Nat) (draw : Nat → Nat) (s : State) : State :=
  { s with ledger.grants := s.ledger.grants ++ ((List.range 4).filter fun r => draw r != 0).map fun r => ⟨who, r, window, pulseCurrent s (draw r)⟩ }

/-- The µA that a mask of channels of a cell draws from a rail. -/
def maskDraw (s : State) (l c mask rail : Nat) : Nat :=
  (List.range 48).foldl (fun a ch => if mask.testBit ch && railOf s l (ch % 3) == rail then a + channelCurrent s l c (ch % 3) else a) 0

/-- Whether a dead time, by its start in nanoseconds, lies outside every locked shutter window widened by its guard. -/
def outsideShutters (s : State) (t : Rat) : Bool :=
  !s.chain.twinkle.avoid || (s.pres.sync.take 4).all fun x =>
    if x.enable && x.state == .locked then
      let T := (period s).q
      let pos := modQ (t - phaseQ x.psi + (x.guard_ : Nat)) T
      decide (((x.length + 2 * x.guard_ : Nat) : Rat) ≤ pos) && decide (pos + ((comingPlan s).dead : Nat) ≤ T)
    else true

/-- The start of a row's dead time in a refresh of the coming slot. -/
def deadTimeAt (s : State) (k row : Nat) : Rat :=
  slotStart s (targetSlot s) + ((32 * k + row + 1 : Nat) : Rat) * (comingPlan s).rowTime (targetSlot s).slot - ((comingPlan s).dead : Nat)

/-- The number of the window that is a row's dead time in a refresh of the coming slot. -/
def windowOf (s : State) (k row : Nat) : Nat := (((targetSlot s).frame * 16 + (targetSlot s).slot) * 64 + k) * 32 + row

/-- When the pulse in a dead time of the coming slot begins (09 R236). -/
def pulseTime (s : State) (k row : Nat) : Nat := (deadTimeAt s k row + 50).floor.toNat

/-- The first refresh of the coming slot in whose dead time of a row pulses are granted; Twinkle keeps clear of the shutters. -/
def pulseSlot (s : State) (who : Requester) (avoid : Bool) (row : Nat) (draw : Nat → Nat) : Option Nat :=
  if presenting s && s.pres.next.isSome then
    (List.range ((comingPlan s).refreshes (targetSlot s).slot)).find? fun k =>
      (!avoid || outsideShutters s (deadTimeAt s k row)) && pulsesFit s who (windowOf s k row) draw
  else none

/-- How many entries the cell at a position can still take for the coming slot, none where it does not answer (09 R236). -/
def entryRoom (s : State) (l c : Nat) : Option Nat := (plantCellAt s l c).map fun x => 16 - x.entries.length

/-- The emitters of a row of a cell that a mask names: those of the raster, where the cell is placed. -/
def maskEmitters (s : State) (l c row mask : Nat) : List Nat :=
  ((List.range 48).filter (mask.testBit ·)).filterMap fun ch => emitterOf s l c (48 * row + ch)

/-- A granted entry of the coming slot sent to a cell; a Twinkle pulse will have reset the ages of its emitters (10 R263). -/
def sendEntry (who : Requester) (l c : Nat) (n : CellEntry) (draw : Nat → Nat) (s : State) : State :=
  let x := (getLoop s l).reach c
  let s1 := sendCommand (portOf l x.1) (n.command x.2) (grantPulses who (windowOf s n.refresh n.row) draw s)
  if n.mode = 0 then
    { s1 with chain.pulsed := s1.chain.pulsed ++ (maskEmitters s l c n.row n.mask).map fun e => (e, pulseTime s n.refresh n.row) }
  else s1

/-! ## DIAG_RUN (10 R259, R260; 18 R409) -/

/-- The active records of a kind. -/
def activeFaults (s : State) (kind : Nat) : Nat := (s.chain.faults.filter fun f => f.kind == kind && f.active).length

/-- The kinds that DIAG_RUN counts: open, short, adjacent-channel short and ball short. -/
def diagKinds : List Nat := [1, 2, 3, 7]

/-- The active records of those kinds. -/
def activeRecords (s : State) : List Nat := diagKinds.map (activeFaults s)

/-- The results of DIAG_RUN: the new records of each kind. -/
def newRecords (before : List Nat) (s : State) : List Byte :=
  ((activeRecords s).zip before).flatMap fun x => u32 (x.1 - x.2)

/-- A ball short found on a port fails it and is recorded (10 R258, R259). -/
def shortBall (p i : Nat) (s : State) : State :=
  failPort p (addFault (loopTarget s (portLoop p)) 7 (256 * p + i) false false s)

/-- The ball test on a port; a short between the balls of two ports fails both (10 R259). -/
def testBalls (p : Nat) (s : State) : State :=
  match portBallShort s.plant.shorts p with
  | some (i, other) =>
    let s1 := shortBall p i s
    match other with
    | some (q, j) => if q != p && q < gradePorts s then shortBall q j s1 else s1
    | none => s1
  | none => s

/-- The meridian by which the other port feeds a whole loop. -/
def meridianAway (s : State) (p : Nat) : Nat := match portSide p with | .A => 0 | .B => loopCells s (portLoop p)

/-- The ball test of DIAG_RUN: the meridian moves away from the port and back. -/
def ballRun (p : Nat) (s : State) : State :=
  let l := portLoop p
  let lp := getLoop s l
  let away := meridianAway s p
  let s1 := testBalls p (if lp.m = away then s else burst l away s)
  if (getPort s1 p).failed || lp.m = away then s1 else burst l lp.m s1

/-- How long the ball test of DIAG_RUN takes with its two moves: each cell that a move hands over 2.5 µs, each check 30 µs, and
the test 40 µs. -/
def ballTime (s : State) (p : Nat) : Nat :=
  let m := (getLoop s (portLoop p)).m
  let a := meridianAway s p
  2 * (2500 * (if m < a then a - m else m - a) + 30000) + 40000

/-- Whether the other port can feed the whole loop of a port: the program in force fits, and the loop is not healed (10 R259). -/
def fitsOneEnd (s : State) (p : Nat) : Bool :=
  let lp := getLoop s (portLoop p)
  (lp.m = meridianAway s p || !(lp.healed || lp.blocked)) &&
    (getProgram s s.pres.inForce).fits (max (fullestPort s) (loopCells s (portLoop p))) s.power.level.val

/-- DIAG_RUN begins. -/
def beginDiag (r : Req) (s : State) : State :=
  let cells := if prm r 0 1 = 4 then [] else targetCells s r.target
  { s with chain.diagRuns := s.chain.diagRuns ++
      [⟨r.src, r.tag, prm r 0 1, prm r 1 1, cells, diagRows cells, 0, cells ++ cells, nowNs s, activeRecords s⟩] }

/-- DIAG_RUN. -/
def diagRunSpec : OpSpec where
  code := 0x0705
  level := .cell
  long := fun _ => true
  domains := fun r s => if prm r 0 1 = 4 then [.scan (portGroup (prm r 1 1))] else targetGroups s r.target
  check := fun r s => firstFail [lenIs 4 r, need (1 ≤ prm r 0 1 && prm r 0 1 ≤ 4 &&
    (if prm r 0 1 = 4 then tgtLoop r.target = 31 && tgtCell r.target = 127 && prm r 1 1 < gradePorts s else prm r 1 1 = 0))]
  run := fun r s =>
    if s.therm.shutdownAt.isSome then (s, .done St.thermalRefused [])
    else if prm r 0 1 = 4 && !fitsOneEnd s (prm r 1 1) then (s, .done St.busy [])
    else (beginDiag r s, .accepted)

def execDiagRunShort (r : Req) (s : State) : Host.Outcome State Fault Refusal := .next (runPacket (period s) diagRunSpec (withByte r 0 1) s)
def execDiagRunAdjShort (r : Req) (s : State) : Host.Outcome State Fault Refusal := .next (runPacket (period s) diagRunSpec (withByte r 0 2) s)
def execDiagRunOpen (r : Req) (s : State) : Host.Outcome State Fault Refusal := .next (runPacket (period s) diagRunSpec (withByte r 0 3) s)
def execDiagRunBallTest (r : Req) (s : State) : Host.Outcome State Fault Refusal := .next (runPacket (period s) diagRunSpec (withByte r 0 4) s)

/-- The channels of a row that a DIAG_RUN pulses: every one, but for suppressed ones in mode 3, which are not Twinkled (10 R260,
R262). -/
def diagMask (s : State) (mode l c row : Nat) : Nat :=
  (List.range 48).foldl (fun a ch => if mode = 3 && suppressedAt s l c (16 * row + ch / 3) (ch % 3) then a else a + 2 ^ ch) 0

/-- The next row of a DIAG_RUN: its entry is sent for the coming slot where a dead time is granted and the cell has room; it waits
otherwise. A cell that does not answer has no row left. -/
def diagRow (x : Nat × Nat × Nat) (a : DiagRun × State) : DiagRun × State :=
  let d := a.1
  let s := a.2
  let keep : DiagRun := { d with rows := d.rows ++ [x] }
  let mask := diagMask s d.mode x.1 x.2.1 x.2.2
  match entryRoom s x.1 x.2.1 with
  | none => (d, s)
  | some 0 => ({ keep with refusedSince := nowNs s }, s)
  | some _ =>
    match pulseSlot s .diagRun (d.mode == 3) x.2.2 (maskDraw s x.1 x.2.1 mask) with
    | none => (keep, s)
    | some k =>
      let mode := if d.mode = 3 then 0 else d.mode
      ({ d with refusedSince := nowNs s, firedBy := max d.firedBy (pulseTime s k x.2.2 + 500) },
        sendEntry .diagRun x.1 x.2.1 ⟨mode, k, x.2.2, mask⟩ (maskDraw s x.1 x.2.1 mask) s)

/-- The rows of a DIAG_RUN that the coming slot takes. -/
def sendRows (d : DiagRun) (s : State) : DiagRun × State :=
  d.rows.foldl (fun a x => diagRow x a) ({ d with rows := [] }, s)

/-- The rows of every DIAG_RUN, in the order of the operations. -/
def sendDiag (s : State) : State :=
  s.chain.diagRuns.foldl (fun t d =>
    let r := sendRows d t
    { r.2 with chain.diagRuns := r.2.chain.diagRuns ++ [r.1] }) { s with chain.diagRuns := [] }

/-- The reads of a DIAG_RUN that may be made now; a cell that does not answer is left out. -/
def readRun (d : DiagRun) (s : State) : DiagRun × State :=
  d.reads.foldl (fun a x =>
    if (plantCellAt a.2 x.1 x.2).isNone then a
    else if mapReadable a.2 x.1 x.2 then (a.1, readDiagMap x.1 x.2 a.2)
    else ({ a.1 with reads := a.1.reads ++ [x] }, a.2)) ({ d with reads := [] }, s)

/-- One DIAG_RUN as time passes (10 R260; 07 Table 7-4): none where its operation no longer runs or has ended. The ball test waits
for a gap; pulses refused for 10 s end the operation; once every entry has fired, each cell is read twice. -/
def diagStep (d : DiagRun) (s : State) : Option DiagRun × State :=
  if !opRuns d.src d.tag s then (none, s)
  else if d.mode = 4 then
    if portGap s (ballTime s d.port) (portOf (portLoop d.port) .A) && portGap s (ballTime s d.port) (portOf (portLoop d.port) .B) then
      let t := ballRun d.port s
      (none, completeOp d.src d.tag St.ok (newRecords d.before t) t)
    else (some d, s)
  else if !d.rows.isEmpty then
    if d.refusedSince + 10000000000 ≤ nowNs s then (none, completeOp d.src d.tag St.budgetRefused [] s) else (some d, s)
  else if nowNs s < d.firedBy then (some d, s)
  else
    let r := readRun d s
    if r.1.reads.isEmpty then (none, completeOp d.src d.tag St.ok (newRecords d.before r.2) r.2) else (some r.1, r.2)

/-- The DIAG_RUNs in progress go on. -/
def diagAdvance (s : State) : State :=
  s.chain.diagRuns.foldl (fun t d =>
    let r := diagStep d t
    { r.2 with chain.diagRuns := r.2.chain.diagRuns ++ r.1.toList }) { s with chain.diagRuns := [] }

/-! ## TWINKLE_CONFIG (10 R267) -/

/-- The staging status of the diagnosis descriptor (10 Table 10-6). -/
def twinkleStatus (ps : List Byte) : Nat :=
  need (field (getB ps 1) 4 0 = 0 && 500 ≤ be ps 2 2 && be ps 2 2 ≤ 1500 && 10 ≤ be ps 4 2 && be ps 4 2 ≤ 3600)

/-- The diagnosis configuration commits; SUPPRESS_SHORT holds for the shorts confirmed before it too (10 R262). -/
def applyTwinkle (ps : List Byte) (s : State) : State :=
  let on := bitN (getB ps 1) 6
  { s with
    chain.twinkle := { enable := bitN (getB ps 1) 7, suppress := on, avoid := bitN (getB ps 1) 5, ageLimit := be ps 2 2, sweepInterval := be ps 4 2 }
    chain.faults := s.chain.faults.map fun f => if f.kind == 2 || f.kind == 3 then { f with suppressed := on } else f }

/-- The SCAN groups of the grade. -/
def allGroups (s : State) : List Domain := (List.range (scanGroups s)).map fun g => .scan (Fin.ofNat 6 g)

def twinkleConfigSpec : OpSpec where
  code := 0x0706
  sched := true
  apply := true
  domains := fun _ s => allGroups s
  check := fun r _ => firstFail [lenIs 8 r, twinkleStatus r.params]
  units := fun r _ => [(⟨.twinkle, 0⟩, twinkleStatus r.params)]

def execTwinkleConfig (r : Req) (s : State) : Host.Outcome State Fault Refusal := .next (runPacket (period s) twinkleConfigSpec r s)

/-! ## Age sweeps (10 R263, R264, R266) -/

/-- What scan-out sent for an emitter of a cell in an upload (07 R185; 08 R215). -/
def Sent.driveOf (u : Sent) (i : ViewImage) (port l : Nat) (q : Placed) (p colour : Nat) : Nat :=
  let rail := i.map.getD (3 * l + colour) 0
  if u.fills.contains (port, p / 16) then scaleDrive (u.eclipse.getD colour 0) (u.fixed.m.getD rail 0)
  else u.fixed.drive i.house.isSome rail (i.drive (q.at p).1 (q.at p).2 colour)

/-- Whether an emitter qualifies in the image that a view presented last (10 R264). -/
def qualifiesIn (s : State) (q : Placed) (p colour v : Nat) : Bool :=
  match s.pres.lastSent.getD v none with
  | none => false
  | some u =>
    let g := planOf s u.fixed.frame
    match u.image.bind fun i => (i.placeOf q.loop q.cell).map fun x => (i, x) with
    | none => false
    | some (i, x) =>
      let d := u.driveOf i (portOf q.loop ((getLoop s q.loop).reach q.cell).1) q.loop x p colour
      !viewBlanked s v && (List.range g.slots.length).any fun k =>
        g.view k == v && decide ((500 : Rat) ≤ mkRat (cellKappa s q.loop q.cell) 32768 * mkRat d 65535 * (g.rowTime k - (g.dead : Nat)))

/-- The cells that age: placed and not failed (10 R268), with whether their last report was complete. -/
def agingCells (s : State) : List (Placed × Bool) :=
  (placedCells s).filterMap fun q => match (getLoop s q.loop).cells[q.cell]? with
    | some r => if r.failed then none else some (q, !r.incomplete)
    | none => none

/-- Whether a Twinkle pulse has begun on an emitter by a time. -/
def twinkled (pulsed : List (Nat × Nat)) (e now : Nat) : Bool := pulsed.any fun x => x.1 == e && x.2 ≤ now

/-- One emitter's age after a sweep that comes `n` units of 10 ms after the last one. -/
def sweepEmitter (n : Nat) (q : Placed) (complete : Bool) (e p c : Nat) (s : State) : State :=
  if suppressedAt s q.loop q.cell p c then s
  else
    let reset := twinkled s.chain.pulsed e (nowNs s) || (complete && (List.range 4).any (qualifiesIn s q p c))
    setAge e (if reset then 0 else satN 0xFFFF (ageOf s e + n)) s

/-- The emitters that age, with their indices. -/
def agingEmitters (s : State) : List (Nat × Placed × Bool × Nat × Nat) :=
  (agingCells s).flatMap fun (q, ok) => ((cellEmitters s q).filter fun x => !suppressedAt s q.loop q.cell x.2.1 x.2.2).map fun (e, p, c) => (e, q, ok, p, c)

/-- The overdue alert: one with the count at each sweep that finds overdue emitters (10 R266). -/
def reportOverdue (n : Nat) (s : State) : State :=
  let s1 := clearAlert 0x07 0x04 (tileTarget s) s
  if n = 0 then s1 else raiseAlert 0x07 0x04 (tileTarget s) 0 (satN 0xFFFF n) false s1

/-- An age sweep (10 R263, R265); with the rails off, ages stand still (01 R29). What is left of the time below 10 ms counts at the
next sweep. An emitter whose entry has been sent and not fired is not selected again. -/
def sweepAges (s : State) : State :=
  if !railsOn s then { s with chain.lastAgeSweep := nowNs s }
  else
    let n := (nowNs s - s.chain.lastAgeSweep) / 10000000
    let s0 := { s with chain.lastAgeSweep := s.chain.lastAgeSweep + 10000000 * n }
    let es := agingEmitters s0
    let s1 := es.foldl (fun t (e, q, ok, p, c) => sweepEmitter n q ok e p c t) s0
    let sent := s.chain.pulsed.filter fun x => nowNs s < x.2
    let due := (es.filter fun x => s.chain.twinkle.ageLimit ≤ 10 * ageOf s1 x.1 && !(sent.any fun y => y.1 == x.1)).map (·.1)
    let late := (es.filter fun x => 200 ≤ ageOf s1 x.1).length
    reportOverdue late { s1 with chain.selected := due, chain.pulsed := sent }

/-- AGE_SWEEP. -/
def execAgeSweep (s : State) : Host.Outcome State Fault Refusal :=
  .next (if s.chain.lastAgeSweep + 100000000 ≤ nowNs s && domainOn s .mem then sweepAges s else s)

/-! ## Twinkle (10 R265) -/

/-- Whether the coming slot has a refresh all of whose dead times lie outside the shutters (12 R295). -/
def shutterFree (s : State) : Bool :=
  (List.range ((comingPlan s).refreshes (targetSlot s).slot)).any fun k => (List.range 32).all fun row => outsideShutters s (deadTimeAt s k row)

/-- The selected emitters of one row of a cell as a channel mask, with their indices; a suppressed one is not Twinkled (10 R262). -/
def rowMask (s : State) (q : Placed) (row : Nat) : Nat × List Nat :=
  (List.range 48).foldl (fun (a : Nat × List Nat) ch =>
    let p := q.at (16 * row + ch / 3)
    let e := emitterIndex s p.1 p.2 (ch % 3)
    if s.chain.selected.contains e && !suppressedAt s q.loop q.cell (16 * row + ch / 3) (ch % 3) then (a.1 + 2 ^ ch, a.2 ++ [e]) else a) (0, [])

/-- One TWINKLE entry sent in a gap, once granted (07 R191). -/
def twinkleRow (q : Placed) (row : Nat) (s : State) : State :=
  let m := rowMask s q row
  let draw := maskDraw s q.loop q.cell m.1
  if m.1 = 0 || (getPort s (portOf q.loop ((getLoop s q.loop).reach q.cell).1)).uploading then s
  else match entryRoom s q.loop q.cell, pulseSlot s .twinkle true row draw with
    | some (_ + 1), some k =>
      let s1 := sendEntry .twinkle q.loop q.cell ⟨0, k, row, m.1⟩ draw s
      { s1 with chain.selected := s1.chain.selected.filter fun e => !m.2.contains e }
    | _, _ => s

/-- TWINKLE_DISPATCH (10 R265). -/
def execTwinkleDispatch (s : State) : Host.Outcome State Fault Refusal :=
  .next (if presenting s && s.chain.twinkle.enable && railsOn s then
      (agingCells s).foldl (fun t (q, _) => (List.range 32).foldl (fun u row => twinkleRow q row u) t) s
    else s)

/-! ## Sweeps (10 R260) -/

/-- A sweep is due: its interval has passed and the rails are on. -/
def shortSweepDue (s : State) : Bool :=
  presenting s && railsOn s && s.chain.sweepLeft.isEmpty && s.chain.lastShortSweep + s.chain.twinkle.sweepInterval * 1000000000 ≤ nowNs s

/-- DIAG_SWEEP: the entries of a sweep wait for the coming slots. -/
def execDiagSweep (s : State) : Host.Outcome State Fault Refusal :=
  .next (if shortSweepDue s then { s with chain.sweepLeft := sweepEntries (gradePorts s), chain.lastShortSweep := nowNs s } else s)

/-- The µA that one row of every cell of a port draws from a rail. -/
def portDraw (s : State) (p rail : Nat) : Nat :=
  (portCells s p).foldl (fun a c => a + maskDraw s (portLoop p) c (2 ^ 48 - 1) rail) 0

/-- The entries that every cell of a port can still take for the coming slot. -/
def portRoom (s : State) (p : Nat) : Nat := ((portCells s p).filterMap (entryRoom s (portLoop p))).foldl min 16

/-- An entry of a sweep: sent to every cell of its port for the coming slot where it is granted; it waits otherwise. A port that
feeds no cells has none left. -/
def sweepEntry (x : Nat × Nat × Nat) (s : State) : State :=
  let wait : State := { s with chain.sweepLeft := s.chain.sweepLeft ++ [x] }
  if !portActive s x.1 then s
  else if portRoom s x.1 = 0 then wait
  else match pulseSlot s .diagRun false x.2.2 (portDraw s x.1) with
    | some k => sendCommand x.1 (CellEntry.command 0xFF ⟨x.2.1, k, x.2.2, 0⟩)
        (grantPulses .diagRun (windowOf s k x.2.2) (portDraw s x.1) s)
    | none => wait

/-- The sweep in progress goes on. -/
def sendSweep (s : State) : State :=
  s.chain.sweepLeft.foldl (fun t x => sweepEntry x t) { s with chain.sweepLeft := [] }

/-! ## TRANSIT -/

/-- TRANSIT (08 R204): the slot begins, and the entries for the next one go out in the gap that follows. -/
def execTransit (s : State) : Host.Outcome State Fault Refusal :=
  .next (if transitDue s then sendDiag (sendSweep (transitTo (targetSlot s) s)) else s)

end Sys2Proof.Machine
end

