-- ==== Sys2Proof/Machine/Ecc.lean ====
section
/-! DEFINITION. The ECC of a DRAM word (01 R22): 8 bits beside each 64 that correct any single error and detect any double one. The
code is an extended Hamming code; which of the codes with that property the device uses the spec does not say, and a read with up
to two errors gives the same result in each (DESIGN CHOICE, notes/assumptions/23.md). -/

namespace Sys2Proof.Machine

/-- The place of each data bit in the code: the numbers from 3 to 71 that are no power of two. -/
def eccPlaces : List Nat := (List.range 72).filter fun p => !([0, 1, 2, 4, 8, 16, 32, 64].contains p)

/-- The bits of a word, bit 0 first. -/
def wordBits (d : BitVec 64) : List Bool := (List.range 64).map d.getLsbD

/-- The sum modulo 2 of the places of the bits that are set. -/
def placeSum (bits : List Bool) : Nat := (bits.zip eccPlaces).foldl (fun a x => if x.1 then a ^^^ x.2 else a) 0

/-- The parity of bits. -/
def parity (bits : List Bool) : Bool := bits.foldl xor false

/-- The ECC word of a data word: seven check bits, and the parity of all the others on top. -/
def eccOf (d : BitVec 64) : BitVec 8 :=
  let h := placeSum (wordBits d)
  let p := xor (parity (wordBits d)) (parity ((List.range 7).map h.testBit))
  BitVec.ofNat 8 (128 * b2n p + h)

/-- What a read of a word finds. -/
inductive EccRead where
  | clean
  | corrected (data : BitVec 64)
  | uncorrectable
deriving DecidableEq, Repr

/-- A word and its ECC word as they are read. -/
def eccDecode (d : BitVec 64) (e : BitVec 8) : EccRead :=
  let syndrome := placeSum (wordBits d) ^^^ (e.toNat % 128)
  let odd := xor (xor (parity (wordBits d)) (parity ((List.range 7).map e.getLsbD))) (e.getLsbD 7)
  if syndrome = 0 then (if odd then .corrected d else .clean)
  else if !odd then .uncorrectable
  else match eccPlaces.findIdx? (· == syndrome) with
    | some i => .corrected (d ^^^ BitVec.ofNat 64 (2 ^ i))
    | none => if [1, 2, 4, 8, 16, 32, 64].contains syndrome then .corrected d else .uncorrectable

/-- A stored word read with some of its 72 bits inverted: bits 0 to 63 are data, 64 to 71 the ECC word. -/
def eccRead (d : BitVec 64) (flips : List (Fin 72)) : EccRead :=
  let mask := flips.foldl (fun a i => a ^^^ 2 ^ i.val) 0
  eccDecode (d ^^^ BitVec.ofNat 64 (mask % 2 ^ 64)) (eccOf d ^^^ BitVec.ofNat 8 (mask / 2 ^ 64))

end Sys2Proof.Machine
end

