-- ==== Sys2Proof/Machine/Dram.lean ====
section
/-! DEFINITION. DRAM (01 R22 to R27): reads with their ECC, row remapping with the rebuilding of Table 1-5, the scrub and
self-refresh. -/

namespace Sys2Proof.Machine

/-! ## Rows (01 R33; notes/assumptions/23.md) -/

/-- Whether a die has the row. -/
def rowExists (row : Nat) : Bool := row < dieBytes / rowBytes

/-- The spare rows of a die that self-test has not withdrawn (01 R24; 13 Table 13-1, class 0x0F). -/
def spareRows (s : State) (die : Nat) : Nat :=
  ((List.range 16).filter fun i => !blockUnusable s (0x0F00 + 16 * die + i)).length

/-- The spare rows of a die in use. -/
def sparesUsed (s : State) (die : Nat) : Nat := (s.dram.remapped.filter fun x => x.1 == die).length

/-- The memory controller works. -/
def dramPowered (s : State) : Bool := domainOn s .mem

/-! ## Words that cannot be corrected -/

/-- The words of a buffer that lie in a range of DRAM, by their offset in the buffer. -/
def bufferWords (b : Buffer) (a n : Nat) : List Nat :=
  (List.range (b.size / 8)).filterMap fun i => if a ≤ b.addrOf (8 * i) && b.addrOf (8 * i) < a + n then some (8 * i) else none

/-- Words of a range given up: they read as uncorrectable, those of layer buffers until the buffer is filled again. -/
def loseWords (a n : Nat) (s : State) : State :=
  if poolStart ≤ a then
    { s with layers.buffers := s.layers.buffers.map fun b => { b with bad := (b.bad ++ bufferWords b a n).eraseDups } }
  else { s with dram.uncorrectable := (s.dram.uncorrectable ++ (List.range (n / 8)).map fun i => a + 8 * i).eraseDups }

/-! ## Rebuilding (01 Table 1-5) -/

/-- What a remap leaves in a row of a bank: the rows of matrices that it touches are written again from the flash copy, and
the tables of the header part are the file's. -/
def bankFromFile (k : Nat) (s : State) : Option State :=
  match fileWith s (getBank s k).fileCrc, entryOf s 5 k with
  | some f, some _ => some (buildFull k f .keep (getBank s k).content s).1
  | _, _ => none

/-- The bank is not valid, and logged. -/
def loseBank (k : Nat) (s : State) : State :=
  if (getBank s k).state = 0 then s
  else raiseAlert 0x04 0x02 (tileTarget s) 0 k false (modBank k (fun b => { b with state := 0 }) s)

/-- A row of the bank in use: its bytes come from the flash copy of the bank; without a copy the bank is invalid (06 R166). -/
def rebuildInUse (k a : Nat) (s : State) : State :=
  match bankFromFile k s with
  | some t => dramWrite a (t.dram.mem.bytes a rowBytes) s
  | none => loseBank k (loseWords a rowBytes s)

/-- A row of the stress counts and ages: the counts of the last checkpoint, and the ages at the limit. -/
def rebuildAging (a : Nat) (s : State) : State :=
  let d := (objectData s 6 0).getD []
  let n := 3 * s.chain.width * s.chain.height
  let byteAt (x : Nat) : Byte :=
    if x < 0x04000000 + 4 * n then d.getD (x - 0x04000000) 0
    else if ageAddr 0 ≤ x && x < ageAddr n then (u16 (s.chain.twinkle.ageLimit / 10)).getD ((x - ageAddr 0) % 2) 0
    else s.dram.mem.read x
  dramWrite a ((List.range rowBytes).map fun i => byteAt (a + i)) s

/-- Where a view's composite stands in the view buffers: two buffers a view, in turn by the composed frames, six bytes a pixel
(notes/assumptions/23.md). -/
def viewAddr (s : State) (i : ViewImage) : Nat :=
  0x05800000 + (2 * i.view + i.frame / max 1 (planOf s i.frame).divisor % 2) * 6 * i.width * (i.drives.length / max 1 i.width)

/-- A composite that has lost a row: its pixels there are those of the view's image before it (01 R33). -/
def patchImage (s : State) (a : Nat) (i : ViewImage) : ViewImage :=
  match s.pres.presented.getD i.view none with
  | none => i
  | some old =>
    let at_ := viewAddr s i
    { i with drives := i.drives.zipIdx.map fun (d, p) =>
        if a < at_ + 6 * p + 6 && at_ + 6 * p < a + rowBytes then old.drives.getD p d else d }

/-- A row of the view buffers: scan-out reads the other buffer of the view until its next composition. -/
def rebuildView (a : Nat) (s : State) : State := { s with pres.images := s.pres.images.map (patchImage s a) }

/-- A row of the layer pool: a stored buffer comes back from its flash copy, every other one with its next fill. -/
def rebuildPool (a : Nat) (s : State) : State :=
  let restore (b : Buffer) : Buffer :=
    let ws := bufferWords b a rowBytes
    match (if b.stored && !ws.isEmpty then objectData s 7 b.slide else none) with
    | some d => { b with mem := ws.foldl (fun m w => Memory.write m w (slice (d.take (dataSize b.format b.width b.height) ++ zeros 8) w 8)) b.mem
                         bad := b.bad.filter fun w => !ws.contains w }
    | none => { b with bad := (b.bad ++ ws).eraseDups }
  { s with layers.buffers := s.layers.buffers.map restore }

/-- A remapped row rebuilt by its region (01 Tables 1-4, 1-5). The firmware region holds what the flash image and firmware give it
again. -/
def rebuildRow (a : Nat) (s : State) : State :=
  if 0x01000000 ≤ a && a < 0x02800000 then (if s.almanac.inForce = some 0 then rebuildInUse 0 a s else loseBank 0 s)
  else if 0x02800000 ≤ a && a < 0x04000000 then (if s.almanac.inForce = some 1 then rebuildInUse 1 a s else loseBank 1 s)
  else if 0x04000000 ≤ a && a < 0x05800000 then rebuildAging a s
  else if 0x05800000 ≤ a && a < poolStart then rebuildView a s
  else if poolStart ≤ a then rebuildPool a s
  else s

/-- Whether a row is to be remapped (01 R24): a word of it cannot be corrected, or four addresses or more have been corrected within
one hour. -/
def rowFails (s : State) (die row : Nat) : Bool :=
  let a := dramRowBase die row
  dramUncorrectable s a rowBytes || (s.layers.buffers.any fun b => b.bad.any fun w => a ≤ b.addrOf w && b.addrOf w < a + rowBytes) ||
    4 ≤ (s.dram.corrections.filter fun x => a ≤ x.1 && x.1 < a + rowBytes && nowNs s < x.2 + 3600000000000).length

/-- A row fails (01 R24): it moves to a spare and is rebuilt, or without a spare its pages are withdrawn, their words lost, and the
die's block of spare rows marked as BIST marks one. -/
def remapRow (die row : Nat) (s : State) : State :=
  let a := dramRowBase die row
  let s1 := { clearUncorrectable a rowBytes s with
    dram.corrections := s.dram.corrections.filter fun x => !(a ≤ x.1 && x.1 < a + rowBytes) }
  if sparesUsed s die < spareRows s die then
    raiseAlert 0x0A 0x05 (tileTarget s) 0 (satN 0xFFFF row) false
      (rebuildRow a { s1 with dram.remapped := s1.dram.remapped ++ [(die, row)] })
  else markBlock (0x0F00 + 16 * die) (loseWords a rowBytes { s1 with dram.withdrawn := s1.dram.withdrawn ++ [(die, row)] })

/-! ## Reads -/

/-- The 64-bit word at an address. -/
def dramWord (s : State) (w : Nat) : BitVec 64 := BitVec.ofNat 64 (beVal (dramBytes s w 8))

/-- A word written back, where the spec lays the contents out. -/
def writeBack (w : Nat) (d : BitVec 64) (s : State) : State := if dramLaidOut w then dramWrite w (u64 d.toNat) s else s

/-- The corrections of the last hour, with a new one (01 R24), reported (01 R36): an error of the memory controller's block,
0x0E00, that has passed (DESIGN CHOICE, notes/assumptions/61.md). -/
def noteCorrection (w : Nat) (s : State) : State :=
  raiseAlert 0x0A 0x01 (tileTarget s) 0 0x0E00 false { s with
    dram.corrected := inc32 s.dram.corrected
    dram.corrections := (s.dram.corrections.filter fun x => nowNs s < x.2 + 3600000000000 && x.1 != w) ++ [(w, nowNs s)] }

/-- The outcome of a read of a word. -/
def takeRead (w : Nat) (r : EccRead) (s : State) : State :=
  match r with
  | .clean => s
  | .corrected d => noteCorrection w (writeBack w d s)
  | .uncorrectable => loseWords w 8 s

/-- A read of the word at an address with bits inverted (01 R22): a single error is corrected and written back, a double one
detected; what more errors give the spec leaves open. -/
def readDram (addr : Nat) (flips : List (Fin 72)) (s : State) : State :=
  let w := addr / 8 * 8
  if flips.eraseDups.length ≤ 2 then takeRead w (eccRead (dramWord s w) flips.eraseDups) s
  else takeRead w (match Config.eccBeyond s.freeCount with | some d => .corrected d | none => .uncorrectable) (nextFree s)

/-- DRAM_CORRECTED_READ (01 R22). -/
def execDramCorrectedRead (addr : Nat) (flips : List (Fin 72)) (s : State) : Host.Outcome State Fault Refusal :=
  .next (if dramPowered s && addr < dramSize then readDram addr flips s else s)

/-- DRAM_ROW_REMAP (01 R24). -/
def execDramRowRemap (die : Fin 2) (row : Nat) (s : State) : Host.Outcome State Fault Refusal :=
  .next (if dramPowered s && rowExists row && rowFails s die row then remapRow die row s else s)

/-! ## Scrub and self-refresh -/

/-- A scrub of the whole of DRAM (01 R22). -/
def scrubDram (s : State) : State := { s with dram.scrubbedAt := nowNs s }

/-- DRAM_SCRUB (01 R22). -/
def execDramScrub (s : State) : Host.Outcome State Fault Refusal := .next (if dramPowered s then scrubDram s else s)

/-- The memory controller scrubs at least once every 24 hours (01 R22). -/
def scrubAdvance (s : State) : State :=
  if dramPowered s && s.dram.scrubbedAt + 86400000000000 ≤ nowNs s then scrubDram s else s

/-- The exit latency of self-refresh: 50 µs (16 Table 16-7), twice that while refresh runs at twice its rate (01 R27;
notes/assumptions/23.md). -/
def exitLatency (s : State) : Nat := if s.therm.doubled then 100000 else 50000

/-- Whether a class has a request pending: an upload or its prefetch, a frame to be composed, a write-back of one, or a bank at
work. -/
def requestPending (s : State) : Bool :=
  (s.chain.ports.any fun p => p.uploading || p.prefetched) || !s.layers.latched.isEmpty || (s.layers.writeback.any fun w => w.frame.isSome) ||
    s.almanac.loading.isSome || s.almanac.recast.isSome

/-- Whether self-refresh is entered: scan-out tolerates more than the exit latency, and no class has a request pending (01 R27). -/
def refreshAllowed (s : State) : Bool :=
  !requestPending s && (match latencyTolerance s with | some t => decide (((exitLatency s : Nat) : Rat) < t) | none => true)

/-- SELF_REFRESH_ENTRY (01 R27). -/
def execSelfRefreshEntry (s : State) : Host.Outcome State Fault Refusal :=
  .next (if dramPowered s && refreshAllowed s then { s with dram.selfRefresh := true } else s)

/-- SELF_REFRESH_EXIT (01 R27): a request of any class, while the controller works. -/
def execSelfRefreshExit (s : State) : Host.Outcome State Fault Refusal :=
  .next (if dramPowered s then { s with dram.selfRefresh := false } else s)

end Sys2Proof.Machine
end

