-- ==== Sys2Proof/Machine/Check.lean ====
section
/-! DEFINITION. The check units (14): registers, feeds, the alive-counter checker, contexts and CHECK_RUN. -/

namespace Sys2Proof.Machine

/-- The algorithm of a context (14 Table 14-1). -/
def CheckContext.alg (c : CheckContext) : CrcAlg := ⟨c.width, c.poly, c.init, c.refIn, c.refOut, c.xorOut⟩

/-- A value cut to the width, for bits at or above w read 0 (14 Table 14-3). -/
def CheckContext.cut (c : CheckContext) (v : Nat) : Nat := v % 2 ^ c.width

/-- CHK_VALUE loaded with CHK_INIT (14 R320). -/
def CheckContext.reload (c : CheckContext) : CheckContext := { c with value := c.cut c.init }

def getCheck (s : State) (u : Nat) : CheckUnit := s.check.getD u {}
def modCheck (u : Nat) (f : CheckUnit → CheckUnit) (s : State) : State := { s with check := modAt s.check u f }

/-- OWNED: a CHECK_RUN holds the unit (14 Table 14-4). -/
def CheckUnit.owned (c : CheckUnit) : Bool := c.run.isSome

/-- Unit `u` is marked unusable: it behaves as a gated block (14 R322). -/
def checkGated (s : State) (u : Nat) : Bool := blockUnusable s (0x0D00 + u)

/-- Window access is served (02 R44, R45). -/
def windowServed (s : State) : Bool := domainOn s .always

/-- A window write to a unit: dropped while the window is not served, and while the unit behaves as a gated block, which sets
GATED (02 R71, 14 R322). -/
def checkWrite (u : Nat) (f : CheckUnit → CheckUnit) (s : State) : State :=
  if !windowServed s then s else if checkGated s u then { s with host.gated := true } else modCheck u f s

/-- A write to CHK_CTRL (14 Table 14-4, R320): a change of WIDTH, REFIN or REFOUT, or RESTART, reloads the value, and
1 to COLLIDE clears it. -/
def CheckUnit.writeCtrl (v : Nat) (c : CheckUnit) : CheckUnit :=
  let x := { c.ctx with width := field v 4 0 + 1, refIn := v.testBit 8, refOut := v.testBit 9 }
  let changed := x.width != c.ctx.width || x.refIn != c.ctx.refIn || x.refOut != c.ctx.refOut
  { c with ctx := if changed || v.testBit 25 then x.reload else x, collide := c.collide && !v.testBit 26 }

def CheckUnit.restart (c : CheckUnit) : CheckUnit := { c with ctx := c.ctx.reload }
def CheckUnit.writePoly (v : Nat) (c : CheckUnit) : CheckUnit := { c with ctx := { c.ctx with poly := c.ctx.cut v }.reload }
def CheckUnit.writeInit (v : Nat) (c : CheckUnit) : CheckUnit := { c with ctx := { c.ctx with init := c.ctx.cut v }.reload }
def CheckUnit.writeXor (v : Nat) (c : CheckUnit) : CheckUnit := { c with ctx := { c.ctx with xorOut := c.ctx.cut v } }

/-- A write to CHK_VALUE; while OWNED it is dropped and COLLIDE sets (14 R321). -/
def CheckUnit.writeValue (v : Nat) (c : CheckUnit) : CheckUnit :=
  if c.owned then { c with collide := true } else { c with ctx := { c.ctx with value := c.ctx.cut v } }

/-- The queued feeds enter the computation, most significant byte first (14 R321). -/
def CheckUnit.drain (c : CheckUnit) : CheckUnit :=
  { c with
    queue := []
    ctx := c.queue.foldl (fun x (n, v) => { x with value := crcRun x.alg x.value (ube n v) }) c.ctx }

/-- A feed of `n` bytes; while OWNED it is dropped and COLLIDE sets (14 R321). -/
def CheckUnit.feed (now n v : Nat) (c : CheckUnit) : CheckUnit :=
  if c.owned then { c with collide := true } else { c with queue := c.queue ++ [(n, v)], fedAt := some now }.drain

/-- CHK_RESULT (14 Table 14-3). -/
def CheckContext.result (c : CheckContext) : Nat := crcOut c.alg c.value

def execChkCtrlWrite (u : Fin 4) (v : Word) (s : State) : Host.Outcome State Fault Refusal :=
  .next (checkWrite u (·.writeCtrl v.toNat) s)
def execChkRestart (u : Fin 4) (s : State) : Host.Outcome State Fault Refusal := .next (checkWrite u (·.restart) s)
def execChkPolyWrite (u : Fin 4) (v : Word) (s : State) : Host.Outcome State Fault Refusal :=
  .next (checkWrite u (·.writePoly v.toNat) s)
def execChkInitWrite (u : Fin 4) (v : Word) (s : State) : Host.Outcome State Fault Refusal :=
  .next (checkWrite u (·.writeInit v.toNat) s)
def execChkValueWrite (u : Fin 4) (v : Word) (s : State) : Host.Outcome State Fault Refusal :=
  .next (checkWrite u (·.writeValue v.toNat) s)
def execFeed8 (u : Fin 4) (v : Word) (s : State) : Host.Outcome State Fault Refusal :=
  .next (checkWrite u (·.feed (nowNs s) 1 v.toNat) s)
def execFeed16 (u : Fin 4) (v : Word) (s : State) : Host.Outcome State Fault Refusal :=
  .next (checkWrite u (·.feed (nowNs s) 2 v.toNat) s)
def execFeed32 (u : Fin 4) (v : Word) (s : State) : Host.Outcome State Fault Refusal :=
  .next (checkWrite u (·.feed (nowNs s) 4 v.toNat) s)

/-! ## The alive-counter checker (14 R324) -/

/-- A write to ALIVE_CTRL: STEP 0 and MAX_GAP out of range leave their fields unchanged (14 Table 14-5; 00 R10); writing
ENABLE starts the checker unstarted and clears the counts. -/
def CheckUnit.writeAliveCtrl (v : Nat) (c : CheckUnit) : CheckUnit :=
  let st := field v 23 16
  let mg := field v 15 8
  let x := { c.ctx with step := if st = 0 then c.ctx.step else st, maxGap := if 1 ≤ mg && mg ≤ 127 then mg else c.ctx.maxGap, resync := v.testBit 1 }
  if v.testBit 0 then { c with ctx := x, enable := true, started := false, gaps := 0, faults := 0 }
  else { c with ctx := x, enable := false }

/-- The smallest k from 1 to MAX_GAP with (k × STEP) mod 256 = d, 0 for none. -/
def aliveK (step maxGap d : Nat) : Nat := ((List.range maxGap).find? fun i => (i + 1) * step % 256 == d).elim 0 (· + 1)

/-- A received counter judged (14 R324). -/
def CheckUnit.aliveFeed (v : Nat) (c : CheckUnit) : CheckUnit :=
  let n := v % 256
  let d := (n + 256 - c.last.toNat) % 256
  let k := aliveK c.ctx.step c.ctx.maxGap d
  let take : CheckUnit := { c with last := BitVec.ofNat 8 n }
  if !c.enable then c
  else if !c.started then { take with started := true, outcome := .start }
  else if d = 0 then { c with outcome := .repeat, faults := inc8 c.faults }
  else if k = 1 then { take with outcome := .ok }
  else if 2 ≤ k then { take with outcome := .gap, gaps := inc8 c.gaps }
  else { (if c.ctx.resync then take else c) with outcome := .outOfStep, faults := inc8 c.faults }

def execAliveCtrlWrite (u : Fin 4) (v : Word) (s : State) : Host.Outcome State Fault Refusal :=
  .next (checkWrite u (·.writeAliveCtrl v.toNat) s)
def execAliveFeed (u : Fin 4) (v : Word) (s : State) : Host.Outcome State Fault Refusal :=
  .next (checkWrite u (·.aliveFeed v.toNat) s)

/-! ## Register reads -/

def aliveCode : AliveOutcome → Nat
  | .none => 0
  | .start => 1
  | .ok => 2
  | .gap => 3
  | .repeat => 4
  | .outOfStep => 5

/-- ALIVE_CTRL as it reads. -/
def CheckUnit.aliveCtrl (c : CheckUnit) : Nat :=
  c.ctx.step * 65536 + c.ctx.maxGap * 256 + 2 * b2n c.ctx.resync + b2n c.enable

/-- A unit's register at an offset, as it reads (14 Tables 14-3 to 14-6). -/
def CheckUnit.reg (c : CheckUnit) (off : Nat) : Nat :=
  match off with
  | 0x00 => c.epoch.toNat * 2 ^ 28 + b2n c.owned * 2 ^ 27 + b2n c.collide * 2 ^ 26 + b2n c.ctx.refOut * 512 +
      b2n c.ctx.refIn * 256 + (c.ctx.width - 1)
  | 0x04 => c.ctx.cut c.ctx.poly
  | 0x08 => c.ctx.cut c.ctx.init
  | 0x0C => c.ctx.cut c.ctx.xorOut
  | 0x10 => c.ctx.value
  | 0x14 => c.ctx.result
  | 0x24 => c.aliveCtrl
  | 0x2C => c.last.toNat * 2 ^ 24 + aliveCode c.outcome * 2 ^ 21 + c.gaps * 256 + c.faults
  | _ => 0

/-! ## Contexts (14 R325) -/

/-- The context of a unit (14 Table 14-8). -/
def contextBytes (u : Nat) (c : CheckUnit) : List Byte :=
  u8 u ++ u8 c.ctx.width ++ u8 (128 * b2n c.ctx.refIn + 64 * b2n c.ctx.refOut) ++ u8 c.epoch.toNat ++
    u32 c.ctx.poly ++ u32 c.ctx.init ++ u32 c.ctx.xorOut ++ u32 c.ctx.value ++ u32 c.aliveCtrl

/-- The context that the fields from Width on state, `ps` starting one byte before Width. -/
def contextOf (ps : List Byte) : CheckContext :=
  { width := getB ps 1, refIn := bitN (getB ps 2) 7, refOut := bitN (getB ps 2) 6, poly := be ps 4 4, init := be ps 8 4
    xorOut := be ps 12 4, value := be ps 16 4, step := getB ps 21, maxGap := getB ps 22, resync := bitN (getB ps 23) 1 }

/-- Whether those fields are in range: the width, the flags, polynomial, initial, final and running values within the
width, and the alive control. -/
def contextOk (ps : List Byte) : Bool :=
  let c := contextOf ps
  1 ≤ c.width && c.width ≤ 32 && field (getB ps 2) 5 0 = 0 && c.poly < 2 ^ c.width && c.init < 2 ^ c.width &&
    c.xorOut < 2 ^ c.width && c.value < 2 ^ c.width && 1 ≤ c.step && 1 ≤ c.maxGap && c.maxGap ≤ 127

/-- The algorithm of a code (14 Table 14-2). -/
def namedAlg : Nat → Option CrcAlg
  | 1 => some algCrc32
  | 2 => some algCrc32c
  | 3 => some algCrc16
  | 4 => some algCrc8
  | _ => none

/-- CHECK_CONFIG's fields, placed as in Table 14-8: the algorithm code stands where that table has the unit. -/
def configFields (ps : List Byte) : List Byte := ps.drop 1

/-- A selected unit takes the algorithm, with CHK_VALUE loaded from CHK_INIT (14 R325, R320). -/
def configureCheck (ps : List Byte) (c : CheckUnit) : CheckUnit :=
  match namedAlg (getB ps 1) with
  | some a => { c with ctx := { c.ctx with width := a.width, refIn := a.refIn, refOut := a.refOut, poly := a.poly, init := a.init, xorOut := a.xorOut }.reload }
  | none => { c with ctx := (contextOf (configFields ps)).reload }

/-- CHECK_CONFIG (14 R325). -/
def checkConfigSpec : OpSpec where
  code := 0x0B00
  check := fun r _ => firstFail [lenIs 25 r,
    need (field (prm r 0 1) 7 4 = 0 && prm r 1 1 ≤ 4 && (prm r 1 1 != 0 || contextOk (configFields r.params)))]
  run := fun r s => ((List.range 4).foldl (fun t u => if bitN (prm r 0 1) u then modCheck u (configureCheck r.params) t else t) s,
    .done St.ok [])

/-- CHECK_CONTEXT_READ (14 R325). -/
def checkContextReadSpec : OpSpec where
  code := 0x0B02
  check := fun r _ => firstFail [lenIs 4 r, need (prm r 0 1 ≤ 3)]
  run := fun r s => (s, .done St.ok (contextBytes (prm r 0 1) (getCheck s (prm r 0 1))))

/-- CHECK_CONTEXT_WRITE (14 R325, R322). -/
def checkContextWriteSpec : OpSpec where
  code := 0x0B03
  check := fun r _ => firstFail [lenIs 24 r, need (prm r 0 1 ≤ 3 && getB r.params 20 = 0 && contextOk r.params)]
  unusable := fun r s => checkGated s (prm r 0 1)
  run := fun r s =>
    if (getCheck s (prm r 0 1)).owned then (s, .done St.busy [])
    else (modCheck (prm r 0 1) (fun c => { c with ctx := contextOf r.params }) s, .done St.ok [])

/-! ## CHECK_RUN (14 R326) -/

/-- Whether the region lies in DRAM or in the flash. -/
def checkRegionOk (r : Req) (s : State) : Bool :=
  1 ≤ prm r 8 4 && prm r 8 4 ≤ 0x0E000000 &&
    prm r 4 4 + prm r 8 4 ≤ (if bitN (prm r 1 1) 7 then flashSize s else dramSize)

/-- CHECK_RUN: the unit is OWNED from the start, its context saved (14 R326). -/
def checkRunSpec : OpSpec where
  code := 0x0B01
  long := fun _ => true
  domains := fun _ _ => [.mem]
  check := fun r s => firstFail [lenIs 16 r,
    need (prm r 0 1 ≤ 3 && field (prm r 1 1) 4 0 = 0 && checkRegionOk r s)]
  unusable := fun r s => checkGated s (prm r 0 1)
  run := fun r s =>
    let u := prm r 0 1
    let c := getCheck s u
    let fl := prm r 1 1
    let run : CheckRun := { src := r.src, tag := r.tag, saved := c.ctx, flash := bitN fl 7, continue_ := bitN fl 6, compare := bitN fl 5, addr := prm r 4 4, length := prm r 8 4, expected := prm r 12 4, began := nowNs s }
    if c.owned then (s, .done St.busy [])
    else (modCheck u (fun c => { c with ctx := if bitN fl 6 then c.ctx else c.ctx.reload, run := some run }) s, .accepted)

/-- The results of a run that fed the bytes (14 Table 14-10). -/
def checkRunResults (x : CheckRun) (c : CheckContext) (fed : Nat) (unc : Bool) : List Byte :=
  u32 c.result ++ u32 c.value ++ u32 fed ++ u8 (128 * b2n (x.compare && c.result == x.expected) + 64 * b2n unc) ++ zeros 3

/-- A run's end: the saved context is restored and OWNED clears. -/
def releaseCheck (u : Nat) (s : State) : State :=
  modCheck u (fun c => match c.run with | some x => { c with ctx := x.saved, run := none } | none => c) s

/-- A unit's context after the first `n` bytes of its run's region. -/
def fedContext (u : Nat) (x : CheckRun) (n : Nat) (s : State) : CheckContext :=
  let c := (getCheck s u).ctx
  { c with value := crcRun c.alg c.value (if x.flash then flashBytes s x.addr n else dramBytes s x.addr n) }

/-- The results of a run that has fed the first `n` bytes. -/
def fedResults (u : Nat) (x : CheckRun) (n : Nat) (s : State) : List Byte :=
  checkRunResults x (fedContext u x n s) n (!x.flash && dramUncorrectable s x.addr n)

/-- CHECK_RUN_COMPLETE: the region is fed and the results returned; a failed comparison ends with CHECK_FAIL. -/
def finishCheckRun (u : Nat) (x : CheckRun) (s : State) : State :=
  let st := if x.compare && (fedContext u x x.length s).result != x.expected then St.checkFail else St.ok
  completeOp x.src x.tag st (fedResults u x x.length s) (releaseCheck u (nextFree s))

/-- The bytes that a run has fed at the safe point of an ABORT: the end of the 4 KiB that it is feeding, at one byte per
4 ns (14 R326; notes/assumptions/53.md). -/
def fedAtAbort (x : CheckRun) (s : State) : Nat := min x.length (((nowNs s - x.began) / 16384 + 1) * 4096)

/-- ABORT of a run: the results state the bytes fed (14 Table 14-10). -/
def abortCheckRun (u : Nat) (x : CheckRun) (s : State) : State :=
  modOp x.src x.tag (fun o => { o with results := fedResults u x (fedAtAbort x s) s }) (releaseCheck u (nextFree s))

def execCheckRunComplete (u : Fin 4) (s : State) : Host.Outcome State Fault Refusal :=
  .next (match (getCheck s u).run with | some x => finishCheckRun u x s | none => s)

def execCheckConfig (r : Req) (s : State) : Host.Outcome State Fault Refusal := .next (runPacket (period s) checkConfigSpec r s)
def execCheckRun (r : Req) (s : State) : Host.Outcome State Fault Refusal := .next (runPacket (period s) checkRunSpec r s)
def execCheckContextRead (r : Req) (s : State) : Host.Outcome State Fault Refusal :=
  .next (runPacket (period s) checkContextReadSpec r s)
def execCheckContextWrite (r : Req) (s : State) : Host.Outcome State Fault Refusal :=
  .next (runPacket (period s) checkContextWriteSpec r s)

/-- The units after a reset that returns the running values (14 R323): EPOCH counts WARM, WDT and NADIR; a run is lost
and OWNED clears. -/
def checkReturn (count : Bool) (c : CheckUnit) : CheckUnit :=
  let base := match c.run with | some x => { c with ctx := x.saved, run := none } | none => c
  { base with
    ctx := base.ctx.reload
    queue := []
    started := false
    outcome := .none
    last := 0
    gaps := 0
    faults := 0
    epoch := if count then base.epoch + 1 else base.epoch }

end Sys2Proof.Machine
end

