-- ==== Sys2Proof/Machine/Ecdsa.lean ====
section
/-! DEFINITION. ECDSA on the curve P-256 with SHA-256, which signs firmware images (17 R389). The curve and the
verification are FIPS 186's, which the spec names and does not restate. -/

namespace Sys2Proof.Machine

/-- The field prime, the group order and the coefficient b of P-256. -/
def p256P : Nat := 2 ^ 256 - 2 ^ 224 + 2 ^ 192 + 2 ^ 96 - 1
def p256N : Nat := 0xFFFFFFFF00000000FFFFFFFFFFFFFFFFBCE6FAADA7179E84F3B9CAC2FC632551
def p256B : Nat := 0x5AC635D8AA3A93E7B3EBBD55769886BC651D06B0CC53B0F63BCE3C3E27D2604B

/-- The base point of P-256. -/
def p256G : Nat × Nat :=
  (0x6B17D1F2E12C4247F8BCE6E563A440F277037D812DEB33A0F4A13945D898C296,
   0x4FE342E2FE1A7F9B8EE7EB4A7C0F9E162BCE33576B315ECECBB6406837BF51F5)

/-- `b` to the power `e` modulo `m`, over the low `fuel` bits of `e`. -/
def powModBits : Nat → Nat → Nat → Nat → Nat
  | 0, _, _, _ => 1
  | fuel + 1, b, e, m =>
    let r := powModBits fuel (b * b % m) (e / 2) m
    if e % 2 = 1 then b * r % m else r

/-- The inverse modulo a prime. -/
def invMod (a m : Nat) : Nat := powModBits 256 (a % m) (m - 2) m

/-- Subtraction modulo `m` of residues. -/
def subMod (a b m : Nat) : Nat := (a + m - b) % m

/-- The point with slope `l` through two points with first coordinates `x1` and `x2`. -/
def ecChord (l x1 y1 x2 : Nat) : Nat × Nat :=
  let x3 := subMod (subMod (l * l % p256P) x1 p256P) x2 p256P
  (x3, subMod (l * subMod x1 x3 p256P % p256P) y1 p256P)

/-- The sum of two points; none is the point at infinity. -/
def ecAdd : Option (Nat × Nat) → Option (Nat × Nat) → Option (Nat × Nat)
  | none, q => q
  | q, none => q
  | some (x1, y1), some (x2, y2) =>
    if x1 = x2 then
      if (y1 + y2) % p256P = 0 then none
      else some (ecChord (subMod (3 * x1 * x1 % p256P) 3 p256P * invMod (2 * y1) p256P % p256P) x1 y1 x2)
    else some (ecChord (subMod y2 y1 p256P * invMod (subMod x2 x1 p256P) p256P % p256P) x1 y1 x2)

/-- `k` times a point, over the low `fuel` bits of `k`. -/
def ecMulBits : Nat → Nat → Option (Nat × Nat) → Option (Nat × Nat)
  | 0, _, _ => none
  | fuel + 1, k, q =>
    let r := ecMulBits fuel (k / 2) (ecAdd q q)
    if k % 2 = 1 then ecAdd q r else r

/-- Whether a point lies on the curve. -/
def ecOnCurve (q : Nat × Nat) : Bool :=
  q.1 < p256P && q.2 < p256P &&
    q.2 * q.2 % p256P == ((q.1 * q.1 + (p256P - 3)) * q.1 + p256B) % p256P

/-- Whether `sig`, r then s of 32 bytes each, signs the digest under the public point. -/
def ecdsaVerify (pub : Nat × Nat) (digest sig : List Byte) : Bool :=
  let r := be sig 0 32
  let s := be sig 32 32
  let inRange := 1 ≤ r && r < p256N && 1 ≤ s && s < p256N && sig.length == 64
  let w := invMod s p256N
  match ecAdd (ecMulBits 256 (beVal digest * w % p256N) (some p256G)) (ecMulBits 256 (r * w % p256N) (some pub)) with
  | none => false
  | some q => inRange && ecOnCurve pub && q.1 % p256N == r

end Sys2Proof.Machine
end

