-- ==== Sys2Proof/Machine/Flash.lean ====
section
/-! DEFINITION. The flash store's commands and events (17): commits, scans, compaction, checkpoints, the scrub, NVM_READ and
NVM_WRITE, firmware images and probation, JOURNAL_STATUS. -/

namespace Sys2Proof.Machine

/-! ## Identity and tile configuration record (17 R386, R387) -/

/-- The link-local address of a tile (03 R77). -/
def linkLocal (s : State) : Nat := 0xA9FE0100 + s.fuse.mac % 0xFDFF

/-- The fields of a tile identity are in range (17 Table 17-5). -/
def identityOk (d : List Byte) : Bool :=
  8 ≤ getB d 4 && getB d 4 ≤ 30 && field (getB d 5) 6 0 = 0 && be d 6 2 ≤ 0xFFFE && be d 8 2 ≤ 0xFFFE

/-- The identity that 16 bytes state. -/
def identityOf (s : State) (d : List Byte) : TileIdentity :=
  ⟨if bitN (getB d 5) 7 then be d 0 4 else linkLocal s, getB d 4, be d 12 4, be d 6 2, be d 8 2⟩

/-- The bytes of the identity in use. -/
def identityBytes (s : State) (x : TileIdentity) : List Byte :=
  u32 x.ip ++ u8 x.prefixLen ++ u8 (if x.ip = linkLocal s then 0 else 128) ++ u16 x.screen ++ u16 x.tile ++ u16 0 ++ u32 x.gateway

/-- The grade code (18 Table 18-3). -/
def gradeCode (s : State) : Nat := if s.fuse.pv8208 then 0x8208 else 0x8240

/-- A whole record comes from a tile of the same grade and raster (17 R387; its layout is notes/assumptions/22.md). -/
def recordOk (d : List Byte) (s : State) : Bool :=
  22 ≤ d.length && identityOk d && be d 16 2 = gradeCode s && be d 18 2 = s.chain.width && be d 20 2 = s.chain.height

/-- The identity takes effect (17 R386, 03 R77). -/
def setIdentity (d : List Byte) (s : State) : State := { s with net.identity := some (identityOf s d) }

/-- The entries of a record from an offset on, each an opcode, a target and parameters; `fuel` bounds them. -/
def recordEntries (d : List Byte) : Nat → Nat → List (Nat × Nat × List Byte)
  | 0, _ => []
  | fuel + 1, off =>
    if d.length < off + 12 then []
    else (be d off 2, be d (off + 2) 8, slice d (off + 12) (be d (off + 10) 2)) :: recordEntries d fuel (off + 12 + be d (off + 10) 2)

/-- The serial numbers that a record holds: a loop's entry carries opcode 0xFFFF, and for each cell its number and its serial. -/
def recordSerials (d : List Byte) : List ((Nat × Nat) × Nat) :=
  (recordEntries d d.length 22).flatMap fun (code, t, ps) =>
    if code = 0xFFFF then (chunks 7 ps).map fun c => ((field t 31 27, getB c 0), be c 1 6) else []

/-! ## Checkpoints (17 R384, R393) -/

/-- The bytes of a checkpoint: the stress counts in the order of 06 R169, then the fault map. -/
def checkpointBytes (s : State) : List Byte :=
  Memory.bytes s.dram.mem 0x04000000 (12 * (s.chain.width * s.chain.height)) ++ s.chain.faults.flatMap faultBytes

/-- A fault-map record of its 24 bytes (10 Table 10-8). -/
def faultOf (d : List Byte) : FaultRec :=
  { target := BitVec.ofNat 64 (be d 0 8), kind := getB d 8, active := bitN (getB d 9) 7, confirmed := bitN (getB d 9) 6
    suppressed := bitN (getB d 9) 5, double := bitN (getB d 9) 4, count := be d 10 2, firstSeen := be d 12 4
    lastSeen := be d 16 4, detail := be d 20 2 }

/-- Stress counts and fault map taken from a checkpoint. -/
def loadCheckpoint (d : List Byte) (s : State) : State :=
  let n := 12 * (s.chain.width * s.chain.height)
  { s with
    dram.mem := (s.dram.mem.clear 0x04000000 0x04E10000).write 0x04000000 (d.take n)
    chain.faults := ((chunks 24 (d.drop n)).filter fun c => c.length == 24).map faultOf }

/-- Stress counts at 0 and an empty fault map. -/
def noCheckpoint (s : State) : State :=
  { s with dram.mem := s.dram.mem.clear 0x04000000 0x04E10000, chain.faults := [] }

/-- A checkpoint queued for writing. -/
def queueCheckpoint (use : FlashUse) (op : Option (Source × Nat)) (s : State) : State :=
  enqueueFlash { type := 6, key := 0, data := checkpointBytes s, use := use, op := op } s

/-- A checkpoint has committed: the other generation is spent, and the next period starts. -/
def afterCheckpoint (before : Option Nat) (s : State) : State :=
  clearAlert 0x0E 0x03 (tileTarget s) { s with
    flash.lastCheckpoint := nowNs s
    flash.mapChanged := false
    flash.overrun := false
    flash.dirty := before }

/-! ## Images (17 R389 to R392) -/

/-- The slot that is not active. -/
def otherSlot (s : State) : Nat := 1 - s.flash.active

def slotState (s : State) (k : Nat) : SlotState := s.flash.slots.getD k .empty
def setSlot (k : Nat) (x : SlotState) (s : State) : State := { s with flash.slots := setAt s.flash.slots k x }

def imageMagic : Nat := 0xC7A1F1A7

/-- The signature of an image verifies under the public key whose digest the fuses hold (17 R389). -/
def imageSigned (s : State) (d : List Byte) : Bool :=
  sha256 s.fuse.imageKey == s.fuse.imageKeyDigest &&
    ecdsaVerify (be s.fuse.imageKey 0 32, be s.fuse.imageKey 32 32) (sha256 (d.take 64 ++ d.drop 128)) (slice d 64 64)

/-- Whether the header's grades name this device. -/
def imageGrade (s : State) (d : List Byte) : Bool := bitN (getB d 10) (if s.fuse.pv8208 then 6 else 7)

/-- Steps 2 to 4 of 17 R390. -/
def imageStatus (s : State) (d : List Byte) : Nat :=
  if d.length ≠ 128 + be d 12 4 || crc32 (d.drop 128) ≠ be d 16 4 then St.checkFail
  else if !(be d 0 4 = imageMagic && imageGrade s d && imageSigned s d) then St.authFail
  else if be d 8 2 < s.fuse.secVersion then St.badParam else St.ok

/-- The version that an image's header states (17 Table 17-6). -/
def imageVersion (d : List Byte) : FwVersion := ⟨getB d 4, getB d 5, be d 6 2⟩

/-- The firmware that starts is that of the active slot, with its version (00 R16). -/
def takeVersion (s : State) : State :=
  let v := s.flash.versions.getD s.flash.active ⟨3, 0, 0⟩
  { s with fw.major := v.major, fw.minor := v.minor, fw.patch := v.patch }

/-- An image written to the inactive slot, then checked (17 R390): a slot that fails is empty. -/
def finishImage (w : FlashWrite) (s : State) : State :=
  let k := otherSlot s
  let s1 := flashProgram (slotBase k) w.data (eraseRegion (slotBase k) 0x00600000 s)
  let st := imageStatus s w.data
  let s2 := if st = St.ok then putObject 9 k (descriptor 9 k w.data) true false (setSlot k .valid { s1 with
      flash.staged := true
      flash.versions := setAt s1.flash.versions k (imageVersion w.data) })
    else setSlot k .empty { s1 with flash.staged := false }
  match w.op with
  | some (src, tag) => completeOp src tag st [] s2
  | none => s2

/-! ## Commit (17 R381) -/

/-- What follows the commit record of an NVM_WRITE (17 R386, R387). -/
def nvmEffect (w : FlashWrite) (s : State) : State :=
  match w.op with
  | none => s
  | some (src, tag) =>
    if w.type = 1 && w.key = 0 then completeOp src tag St.ok [] (setIdentity w.data { s with flash.recordDue := true })
    else if w.type = 1 then
      match findOp src tag s with
      | some o => queueCommit 0x0E01 o.req [⟨⟨.record, 0⟩, 0x0E01, o.req.target, w.data, 0⟩] true
          { s with chain.recordSerials := recordSerials w.data }
      | none => s
    else if w.type = 6 then completeOp src tag St.ok [] { s with flash.reload := true }
    else completeOp src tag St.ok [] s

/-- What follows the commit record, by what the write was for. -/
def commitEffect (w : FlashWrite) (before : Option Nat) (s : State) : State :=
  let s1 := if w.type = 6 then afterCheckpoint before s else s
  let done (t : State) : State := match w.op with | some (src, tag) => completeOp src tag St.ok [] t | none => t
  match w.use with
  | .nvmWrite => nvmEffect w s1
  | .almanacFile => buildLoaded w.data s1
  | .gainsOfLoad => finishLoad s1
  | .gainsOfRecast => finishRecast s1
  | .config => if w.type = 1 && w.key = 1 then { s1 with chain.recordSerials := recordSerials w.data } else s1
  | .orderly => s1
  | .trims | .safety | .slide _ | .checkpoint | .image => done s1

/-- The front of the queue is done: the next write begins. -/
def nextFlash (s : State) : State := beginFlash { s with flash.queue := s.flash.queue.tail }

/-- The front write brought to its commit record, with what follows. -/
def commitFront (w : FlashWrite) (s : State) : State :=
  if w.use == .image then nextFlash (finishImage w s)
  else
    let before := generationOf s 6
    let s1 := nextFlash (commitObject w s)
    commitEffect w (if w.type = 6 then before else s.flash.dirty) s1

/-- The write that is being programmed and can commit: an entry needs an erased block or room in the last one. -/
def flashFront (s : State) : Option FlashWrite :=
  match s.flash.queue with
  | w :: _ => if w.begun && s.fw.running && 0 < erasedBlocks s && domainOn s .always then some w else none
  | [] => none

/-- JOURNAL_COMMIT (17 R381). -/
def execJournalCommit (s : State) : Host.Outcome State Fault Refusal :=
  .next (match flashFront s with | some w => commitFront w s | none => s)

/-- A write that is stopped ends its operation with NVM_TORN, and with it the load that waits for it; a recast runs again (06
Table 6-6). -/
def failWrite (w : FlashWrite) (s : State) : State :=
  let s1 := match w.op with | some (src, tag) => completeOp src tag St.nvmTorn [] s | none => s
  match w.use with
  | .almanacFile | .gainsOfLoad =>
    match s1.almanac.loading with
    | some x => modBank x.bank (fun b => { b with state := 0 }) { s1 with almanac.loading := none }
    | none => s1
  | .gainsOfRecast =>
    match s1.almanac.recast with
    | some _ => { s1 with almanac.recast := none, almanac.recastAgain := true }
    | none => s1
  | .image => setSlot (otherSlot s1) .empty { s1 with flash.staged := false }
  | _ => s1

/-- The data of an entry as it stands in the journal. -/
def entryData (w : FlashWrite) (s : State) : List Byte :=
  if w.type = 7 then slideDescriptor (slideTarget s w.key (blocksFor w.data.length)) w.data
  else if isLarge w.type || w.type = 9 then descriptor w.type (writePlace w s) w.data else w.data

/-- The front write stopped before its commit record: its entry is torn (17 R382, Table 17-12). A large object's region has
been erased and partly programmed, so that the entry that described it is gone. -/
def tearFront (s : State) : State :=
  match s.flash.queue with
  | w :: _ =>
    if w.begun then
      let s1 := if isLarge w.type && w.type != 7 then flashErase (objectBase s w.type (writePlace w s)) w.data.length s else s
      { putObject w.type w.key (entryData w s) false false s1 with flash.queue := s.flash.queue.tail }
    else s
  | [] => s

/-- FLASH_GRACE_WINDOW_EXPIRY (11 R283): what still runs 8 ms after the shutdown is stopped. -/
def execFlashGraceWindowExpiry (s : State) : Host.Outcome State Fault Refusal :=
  .next (match s.therm.graceFrom, s.flash.queue with
    | some t, w :: _ =>
      if t + 8000000 ≤ nowNs s then
        (if w.begun then failWrite w (tearFront { s with therm.graceFrom := none }) else { s with therm.graceFrom := none })
      else s
    | _, _ => s)

/-- JOURNAL_SCAN (17 R382): entries without a commit record are torn; one alert for each scan that finds any. -/
def scanJournal (s : State) : State :=
  let n := (s.flash.entries.filter fun e => !e.committed && !e.torn).length
  if n = 0 then s
  else logAlert 0x0E 0x01 (tileTarget s) St.nvmTorn n { s with
    flash.torn := satN 0xFFFF (s.flash.torn + n)
    flash.entries := s.flash.entries.map fun e => if e.committed then e else { e with torn := true } }

def execJournalScan (s : State) : Host.Outcome State Fault Refusal := .next (if s.fw.running then scanJournal s else s)

/-! ## Compaction (17 R384) -/

/-- Whether an entry still counts: it is the one in force of its object, or the second copy of one that is written twice. -/
def entryLives (s : State) (e : JEntry) : Bool :=
  e.committed && !e.torn && (match entryOf s e.type e.key with
    | some f => f == e || (isDouble e.type && f.data == e.data && e.seq + 1 == f.seq)
    | none => false)

/-- The oldest block erased after its live entries have been copied to the head; its erase count is kept as an entry of
type 0x0F. -/
def compact (s : State) : State :=
  match s.flash.usedBlocks with
  | b :: rest =>
    let live := s.flash.entries.filter fun e => e.block == b && entryLives s e
    let s1 := live.foldl (fun t e => putEntry e.type e.key e.data true e.fresh (some b) t) s
    let s2 := countErase (journalBase + 65536 * b) 65536 { s1 with
      flash.entries := s1.flash.entries.filter fun e => e.block != b
      flash.usedBlocks := s1.flash.usedBlocks.drop (s.flash.usedBlocks.length - rest.length) }
    let n := ((s2.flash.eraseCounts.find? fun x => x.1 == journalBase / 65536 + b).map (·.2)).getD 0
    putEntry 0x0F (journalBase / 65536 + b) (u32 n) true false none s2
  | [] => s

/-- JOURNAL_COMPACTION. -/
def execJournalCompaction (s : State) : Host.Outcome State Fault Refusal :=
  .next (if s.fw.running && s.therm.shutdownAt.isNone && erasedBlocks s < 8 then compact s else s)

/-! ## The background schedule (17 R393, R394) -/

/-- A checkpoint is due: 3,600 s since the last; in TWILIGHT only if the fault map has changed. One that is due during NADIR entry is
still written (17 Table 17-12). -/
def checkpointDue (s : State) : Bool :=
  s.fw.running && s.flash.lastCheckpoint + 3600000000000 ≤ nowNs s &&
    (s.power.mode == .run || (s.power.mode == .enteringNadir && !s.power.fromTwilight) ||
      ((s.power.mode == .twilight || s.power.mode == .enteringNadir) && s.flash.mapChanged))

/-- The checkpoint cannot run or the last one has not completed: one overrun alert. -/
def overrunCheckpoint (s : State) : State :=
  if s.flash.overrun then s else raiseAlert 0x0E 0x03 (tileTarget s) 0 0 false { s with flash.overrun := true }

/-- CHECKPOINT_WRITE. -/
def execCheckpointWrite (s : State) : Host.Outcome State Fault Refusal :=
  .next (if checkpointDue s && !(s.flash.queue.any fun w => w.use == .orderly) then
      (if s.therm.shutdownAt.isSome || s.flash.queue.any (fun w => w.type == 6) then overrunCheckpoint s
       else queueCheckpoint .checkpoint none s)
    else s)

/-- CHECKPOINT_ERASE (17 R384, R365 step 2 of 16): the spent generation is erased; during NADIR entry it waits. -/
def execCheckpointErase (s : State) : Host.Outcome State Fault Refusal :=
  .next (match s.flash.dirty with
    | some g =>
      if s.fw.running && s.therm.shutdownAt.isNone && s.power.mode != .enteringNadir && !(s.flash.queue.any (·.begun)) then eraseCheckpoint g s else s
    | none => s)

/-- A single-copy object found missing (17 R383, R394). -/
def missObject (type key : Nat) (s : State) : State :=
  match entryOf s type key with
  | none => s
  | some e =>
    let s1 := logAlert 0x0E 0x02 (tileTarget s) St.nvmTorn type { s with
      flash.missing := inc16 s.flash.missing
      flash.entries := s.flash.entries.map fun x => if x == e then { x with torn := true } else x }
    match type with
    | 6 => queueCheckpoint .checkpoint none s1
    | 9 =>
      let s2 := setSlot key .empty s1
      if slotState s2 0 != .valid && slotState s2 1 != .valid then assertFault .flash s2 else s2
    | _ => s1

/-- Both copies of a double object fail (14 Table 14-12): it is uncorrectable, and missing for its owner. -/
def loseDouble (type : Nat) (e : JEntry) (s : State) : State :=
  logAlert 0x0B 0x02 (tileTarget s) 0 type { s with
    flash.missing := inc16 s.flash.missing
    flash.entries := s.flash.entries.map fun x =>
      if x == e || (x.type == e.type && x.key == e.key && x.data == e.data && x.seq + 1 == e.seq) then { x with torn := true } else x }

/-- The scrub's finding on one object: a copy of a double object is repaired from the other (14 R328), one of which both
copies fail is lost, and a single one is missing. -/
def scrubObject (both : Bool) (x : Nat × Nat) (s : State) : State :=
  if isDouble x.1 then
    match entryOf s x.1 x.2 with
    | some e => if both then loseDouble x.1 e s
      else logAlert 0x0B 0x01 (tileTarget s) St.checkRepaired 0 (putObject x.1 x.2 e.data true false s)
    | none => s
  else missObject x.1 x.2 s

/-- FLASH_SCRUB: every 7 days, with the objects whose CRC fails; a double object stands once for each copy that fails. -/
def execFlashScrub (bad : List (Nat × Nat)) (s : State) : Host.Outcome State Fault Refusal :=
  .next (if s.fw.running && s.flash.scrubbedAt + 604800000000000 ≤ nowNs s then
      bad.eraseDups.foldl (fun t x => scrubObject (1 < bad.count x) x t) { s with flash.scrubbedAt := nowNs s }
    else s)

/-! ## NVM_READ and NVM_WRITE (18 R412, 17 R385) -/

/-- The keys of a type (17 Table 17-4). -/
def keyOk (type key : Nat) : Bool :=
  match type with
  | 1 | 5 | 9 => key ≤ 1
  | 2 | 3 | 4 | 6 => key = 0
  | 7 => key ≤ 63
  | 8 => key ≤ 255
  | _ => false

/-- What NVM_READ returns of an object; of a firmware image its header. -/
def nvmObject (s : State) (type key : Nat) : Option (List Byte) :=
  if type = 9 then (if slotState s key == .empty then none else some (flashBytes s (slotBase key) 128))
  else objectData s type key

def nvmReadSpec : OpSpec where
  code := 0x0E00
  check := fun r s => firstFail [lenIs 8 r, need (keyOk (prm r 0 1) (prm r 4 4) && (nvmObject s (prm r 0 1) (prm r 4 4)).isSome)]
  run := fun r s =>
    match nvmObject s (prm r 0 1) (prm r 4 4) with
    | some d => (s, .done St.ok (u32 d.length ++ u32 (crc32 d) ++ d))
    | none => (s, .done St.badParam [])

def execNvmRead (r : Req) (s : State) : Host.Outcome State Fault Refusal := .next (runPacket (period s) nvmReadSpec r s)

/-- Whether Table 17-4 of 17 allows a write of an object of a length: a whole record fits one entry (17 R380), a checkpoint its
generation. -/
def writeAllowed (s : State) (type key length : Nat) : Bool :=
  keyOk type key && (match type with
    | 1 => if key = 0 then length = 16 else 22 ≤ length && length ≤ 65024
    | 6 => length ≤ checkpointSize s
    | 8 => length ≤ 4096
    | _ => false)

/-- The data of an NVM_WRITE against its object (17 Table 17-5, R387). -/
def writeDataOk (s : State) (type key : Nat) (d : List Byte) : Bool :=
  if type = 1 then (if key = 0 then identityOk d else recordOk d s) else true

/-- The data of an NVM_WRITE that carries them in its parameters. -/
def inlineData (r : Req) : List Byte := r.params.drop 16

/-- The data of an NVM_WRITE are whole: CHECK_FAIL on a mismatch, BAD_PARAM on a record of another tile, else the write is
queued. -/
def nvmReceived (req : Req) (d : List Byte) (s : State) : State :=
  if crc32 d ≠ prm req 12 4 then completeOp req.src req.tag St.checkFail [] s
  else if !writeDataOk s (prm req 0 1) (prm req 4 4) d then completeOp req.src req.tag St.badParam [] s
  else enqueueFlash { type := prm req 0 1, key := prm req 4 4, data := d, use := .nvmWrite, op := some (req.src, req.tag) } s

def nvmWriteSpec : OpSpec where
  code := 0x0E01
  long := fun _ => true
  check := fun r s => firstFail [need !(r.broadcast && prm r 0 1 = 1),
    (if r.params.length < 16 then St.badLength else lenIs (16 + (if prm r 8 4 ≤ 8176 then prm r 8 4 else 0)) r),
    need (writeAllowed s (prm r 0 1) (prm r 4 4) (prm r 8 4) && !(r.src == .host && 8176 < prm r 8 4)),
    need (8176 < prm r 8 4 || crc32 (inlineData r) ≠ prm r 12 4 || writeDataOk s (prm r 0 1) (prm r 4 4) (inlineData r))]
  run := fun r s =>
    if flashStatus s ≠ St.ok then (s, .done (flashStatus s) [])
    else if prm r 8 4 ≤ 8176 then (nvmReceived r (inlineData r) s, .accepted)
    else (awaitBulk r (prm r 8 4) s, .accepted)

def execNvmWrite (r : Req) (s : State) : Host.Outcome State Fault Refusal := .next (runPacket (period s) nvmWriteSpec r s)

/-! ## IMAGE_STAGE and IMAGE_ACTIVATE (17 R390 to R392, R398) -/

/-- Whether an IMAGE_STAGE other than the given one runs. -/
def stagingRuns (s : State) (r : Req) : Bool := s.cmd.longOps.any fun o => o.code == 0x0E02 && opLive o && !isOp r.src r.tag o

def imageStageSpec : OpSpec where
  code := 0x0E02
  broadcastOk := false
  long := fun _ => true
  check := fun r _ => firstFail [lenIs 8 r, need (r.src != .host && 128 ≤ prm r 0 4 && prm r 0 4 ≤ 0x00600000)]
  run := fun r s =>
    if s.fw.probation.isSome || stagingRuns s r then (s, .done St.busy [])
    else if s.therm.shutdownAt.isSome then (s, .done St.thermalRefused [])
    else (awaitBulk r (prm r 0 4) s, .accepted)

def execImageStage (r : Req) (s : State) : Host.Outcome State Fault Refusal := .next (runPacket (period s) imageStageSpec r s)

/-- The image has arrived: it goes to the slot that is not active, which is empty until the image passes. -/
def imageReceived (req : Req) (d : List Byte) (s : State) : State :=
  enqueueFlash { type := 9, key := otherSlot s, data := d, use := .image, op := some (req.src, req.tag) }
    (setSlot (otherSlot s) .empty { s with flash.staged := false })

/-- The security version in the header of a slot's image. -/
def slotSecVersion (s : State) (k : Nat) : Nat := be (flashBytes s (slotBase k) 128) 8 2

/-- The other slot becomes the active one and a WARM reset follows (17 R392). -/
def switchSlot (s : State) : State := { s with flash.active := otherSlot s, flash.staged := false, fw.resetWarm := some (nowNs s) }

/-- The staged image is activated: probation begins. -/
def activateImage (s : State) : State :=
  switchSlot { s with fw.probation := some { since := nowNs s, handshake := false, previous := s.flash.active, secVersion := slotSecVersion s (otherSlot s) } }

/-- A probation that fails reverts to the previous image, and the slot stays marked failed (17 R392); logged. -/
def revertImage (s : State) : State :=
  match s.fw.probation with
  | some p => raiseAlert 0x00 0x06 (tileTarget s) 0 s.flash.active false
      (setSlot s.flash.active .failed { s with fw.probation := none, flash.active := p.previous })
  | none => s

/-- Probation is passed: the default slot changes and the fuse counter may rise (17 R391, R392). -/
def endProbation (s : State) : State :=
  match s.fw.probation with
  | some p => { s with fw.probation := none, flash.defaultSlot := s.flash.active, fuse.secVersion := max s.fuse.secVersion p.secVersion }
  | none => s

/-- Whether an action of IMAGE_ACTIVATE is possible. -/
def activateOk (s : State) (action : Nat) : Bool :=
  match action with
  | 0 => s.flash.staged && slotState s (otherSlot s) == .valid && s.fw.probation.isNone
  | 1 => s.fw.probation.isSome || slotState s (otherSlot s) == .valid
  | _ => s.fw.probation.isSome

/-- A revert outside probation makes the other image the default as well. -/
def revertSlot (s : State) : State :=
  if s.fw.probation.isSome then { revertImage s with fw.resetWarm := some (nowNs s) }
  else
    let s1 := switchSlot s
    raiseAlert 0x00 0x06 (tileTarget s) 0 s.flash.active false { s1 with flash.defaultSlot := s1.flash.active }

def imageActivateSpec : OpSpec where
  code := 0x0E03
  sched := true
  check := fun r _ => firstFail [lenIs 4 r, need (prm r 0 1 ≤ 2)]
  run := fun r s =>
    if s.therm.shutdownAt.isSome then (s, .done St.thermalRefused [])
    else if prm r 0 1 ≤ 1 && s.flash.queue.any (fun w => w.use == .image) then (s, .done St.busy [])
    else if !activateOk s (prm r 0 1) then (s, .done St.badParam [])
    else match prm r 0 1 with
      | 0 => (activateImage s, .done St.ok [])
      | 1 => (revertSlot s, .done St.ok [])
      | _ => (endProbation s, .done St.ok [])

def execImageActivateStaged (r : Req) (s : State) : Host.Outcome State Fault Refusal :=
  .next (runPacket (period s) imageActivateSpec (withByte r 0 0) s)
def execImageActivateRevert (r : Req) (s : State) : Host.Outcome State Fault Refusal :=
  .next (runPacket (period s) imageActivateSpec (withByte r 0 1) s)
def execImageActivateEndProbation (r : Req) (s : State) : Host.Outcome State Fault Refusal :=
  .next (runPacket (period s) imageActivateSpec (withByte r 0 2) s)

/-- 600 s of probation have passed with the handshake done. -/
def probationOver (s : State) : Bool :=
  match s.fw.probation with
  | some p => p.handshake && decide (p.since + 600000000000 ≤ nowNs s)
  | none => false

def execProbationEnd (s : State) : Host.Outcome State Fault Refusal := .next (if probationOver s then endProbation s else s)

/-! ## JOURNAL_STATUS (17 Table 17-11) -/

def journalBytes (s : State) : List Byte :=
  let fresh := ((entryOf s 6 0).map (·.fresh)).getD false
  let flags := 128 * b2n s.fw.probation.isSome + 64 * b2n s.flash.staged + 32 * b2n (slotState s (otherSlot s) == .failed) + 16 * b2n fresh
  u32 s.flash.sizeMiB ++ u8 s.flash.active ++ u8 flags ++ u16 (erasedBlocks s) ++ u64 s.flash.seq ++ u16 s.flash.torn ++
    u16 s.flash.missing ++ u32 ((s.flash.eraseCounts.map (·.2)).foldl max 0) ++ u32 (s.flash.lastCheckpoint / 1000000000) ++
    u16 (min 4 s.flash.queue.length) ++ u16 s.fuse.secVersion

def journalStatusSpec : OpSpec where
  code := 0x0E04
  check := fun r _ => lenIs 0 r
  run := fun _ s => (s, .done St.ok (journalBytes s))

def execJournalStatus (r : Req) (s : State) : Host.Outcome State Fault Refusal := .next (runPacket (period s) journalStatusSpec r s)

end Sys2Proof.Machine
end

