-- ==== Sys2Proof/Machine/Power.lean ====
section
/-! DEFINITION. The power controller (16): levels, votes, POWER_STATE, the wake record and reset history, and the wake
sequence. -/

namespace Sys2Proof.Machine

/-! ## Levels (16 R355 to R358) -/

/-- An entry whose boundary the level sequencer prepares: loaded, or within 2 ms, so that a raise comes at least 1 ms before it (16
R358; DEDUCED, notes/assumptions/55.md). -/
def boundaryNear (s : State) (e : EphEntry) : Bool := e.loaded || decide ((period s).timeOf e.boundary ≤ nowNs s + 2000000)

/-- The units that the commits on their way will bring in force: waiting jobs, entries whose boundary is near, and what a COMMIT
among them finds held. -/
def comingUnits (s : State) : List StagedUnit :=
  let heldOf (src : Source) : List StagedUnit := (s.cmd.held.filter fun h => h.src == src).map (·.unit)
  (s.cmd.committing.flatMap fun j => if j.code = 0x0006 then heldOf j.req.src else j.units) ++
    ((s.cmd.ephemeris.filter (boundaryNear s)).flatMap fun e => if e.code = 0x0006 then heldOf e.req.src else e.units)

/-- The programs that must fit: the one in force, and those that coming commits activate. -/
def demandPrograms (s : State) : List Program :=
  getProgram s s.pres.inForce ::
    (comingUnits s).filterMap fun u => if u.ref.kind == .program && bitN (getB u.params 2) 7 then some (programOf u.params) else none

/-- The number of enabled layers, now or after the coming commits, whichever is more. -/
def demandLayers (s : State) : Nat :=
  let after := (comingUnits s).foldl (fun a u =>
    if u.ref.kind != .layer then a
    else if u.code = 0x0206 then modAt a u.ref.index (fun l => { l with enable := false })
    else match (layerDescs u.params).find? (·.1 == u.ref.index) with
      | some (_, d) => setAt a u.ref.index (layerOf d)
      | none => a) s.layers.layer
  max (s.layers.layer.filter (·.enable)).length (after.filter (·.enable)).length

/-- Whether a level serves the programs and sheds no layer (16 R358, 04 R123). -/
def levelServes (s : State) (k : Nat) : Bool :=
  (demandPrograms s).all (fun g => g.fits (fullestPort s) k) && (k != 3 || demandLayers s ≤ 2)

/-- The demand level (16 R358): the slowest one that serves, P0 where none does; the ceiling with AUTO clear. -/
def demandLevel (s : State) : Nat :=
  if s.power.auto then (([3, 2, 1].find? fun k => levelServes s k).getD 0) else s.power.ceiling.val

/-- The slowest of the levels that limits other than the demand set (16 R358). -/
def limitLevel (s : State) : Nat :=
  max (max s.power.ceiling.val s.ledger.inputLevel) (if s.therm.shutdownAt.isSome || s.power.mode == .twilight then 3 else 0)

/-- The level that 16 R358 asks for. -/
def targetLevel (s : State) : Nat := max (limitLevel s) (demandLevel s)

/-- The level in force set, and with it the time from which a slower demand is counted. -/
def setLevel (k : Nat) (s : State) : State := { s with power.level := Fin.ofNat 4 k, power.slowSince := none }

/-- A demand level slower than the level in force is timed from when it was first seen so (16 R358). -/
def noteDemand (s : State) : State :=
  { s with power.slowSince := if s.power.level.val < demandLevel s then some (s.power.slowSince.getD (nowNs s)) else none }

/-- Whether the level sequencer works: the supplies stand and the boot is over. -/
def levelsRun (s : State) : Bool := domainOn s .always && s.power.mode != .booting

/-- A level change (16 R356): up at once to the level asked for, down as far as a limit other than the demand forces it. -/
def changeLevel (s : State) : State :=
  if targetLevel s < s.power.level.val then setLevel (targetLevel s) s
  else if s.power.level.val < limitLevel s then setLevel (limitLevel s) s
  else noteDemand s

/-- LEVEL_CHANGE. -/
def execLevelChange (s : State) : Host.Outcome State Fault Refusal := .next (if levelsRun s then changeLevel s else s)

/-- The demand level has stood slower for 1 s. -/
def demandLowerDue (s : State) : Bool :=
  match s.power.slowSince with
  | some t => levelsRun s && decide (s.power.level.val < targetLevel s) && decide (t + 1000000000 ≤ nowNs s)
  | none => false

/-- DEMAND_LEVEL_LOWER (16 R358). -/
def execDemandLevelLower (s : State) : Host.Outcome State Fault Refusal :=
  .next (if demandLowerDue s then setLevel (targetLevel s) s else s)

/-- PLEVEL_SET (16 R358). -/
def plevelSetSpec : OpSpec where
  code := 0x0D02
  check := fun r _ => firstFail [lenIs 4 r, need (prm r 0 1 ≤ 3 && field (prm r 1 1) 6 0 = 0)]
  run := fun r s => (noteDemand { s with power.ceiling := Fin.ofNat 4 (prm r 0 1), power.auto := bitN (prm r 1 1) 7 }, .done St.ok [])

def execPlevelSet (r : Req) (s : State) : Host.Outcome State Fault Refusal := .next (runPacket (period s) plevelSetSpec r s)

/-! ## Votes (16 R359 to R362) -/

/-- A domain that no longer has a vote drops in TWILIGHT; DRAM goes into self-refresh with MEM (16 R359, Table 16-4). -/
def dropDomains (s : State) : State :=
  if s.power.mode == .twilight then
    let s1 := dropUnvoted s
    { s1 with dram.selfRefresh := s1.dram.selfRefresh || !domainOn s1 .mem }
  else s

/-- The voter of a source (16 Table 16-5). -/
def voterOf : Source → Nat
  | .host => 0
  | .net _ _ => 1

/-- Bits of a mask removed. -/
def clearBits (m mask : Nat) : Nat := m - (m &&& mask)

/-- POWER_VOTE's three actions (16 R361): withdraw, add, and take over the implicit votes of the source. -/
def castVote (src : Source) (action mask : Nat) (s : State) : State :=
  let v := voterOf src
  let m := s.power.votes.getD v 0
  match action with
  | 0 => dropDomains { s with power.votes := setAt s.power.votes v (clearBits m mask) }
  | 1 => { s with power.votes := setAt s.power.votes v (m ||| mask) }
  | _ =>
    let mine := s.power.implicit.filter fun x => x.src == src && mask.testBit (domainBit x.domain)
    { s with
      power.votes := setAt s.power.votes v (m ||| domainsMask (mine.map (·.domain)))
      power.implicit := s.power.implicit.filter fun x => !(x.src == src && mask.testBit (domainBit x.domain)) }

def powerVoteSpec : OpSpec where
  code := 0x0D00
  check := fun r _ => firstFail [lenIs 4 r, need (prm r 0 1 ≤ 2 && prm r 2 2 < 512)]
  unusable := fun r s => prm r 0 1 = 1 && votedDomains.any fun d => (prm r 2 2).testBit (domainBit d) && domainAbsent s d
  run := fun r s =>
    let s1 := castVote r.src (prm r 0 1) (prm r 2 2) s
    (s1, .done St.ok (u16 (domainMask s1)))

def execPowerVoteWithdraw (r : Req) (s : State) : Host.Outcome State Fault Refusal :=
  .next (runPacket (period s) powerVoteSpec (withByte r 0 0) s)
def execPowerVoteAdd (r : Req) (s : State) : Host.Outcome State Fault Refusal :=
  .next (runPacket (period s) powerVoteSpec (withByte r 0 1) s)
def execPowerVoteTakeOver (r : Req) (s : State) : Host.Outcome State Fault Refusal :=
  .next (runPacket (period s) powerVoteSpec (withByte r 0 2) s)

/-- An implicit vote's 10 s are over. -/
def voteOver (s : State) (v : ImplicitVote) : Bool := match v.withdrawAt with | some t => decide (t ≤ nowNs s) | none => false

/-- IMPLICIT_VOTE_WITHDRAW (02 R72). -/
def execImplicitVoteWithdraw (s : State) : Host.Outcome State Fault Refusal :=
  .next (if s.power.implicit.any (voteOver s) then
      dropDomains { s with power.implicit := s.power.implicit.filter fun v => !voteOver s v }
    else s)

/-! ## POWER_STATE (16 R363 to R365) -/

/-- The six vote masks in voter order. -/
def voteMasks (s : State) : List Byte := (List.range 6).flatMap fun v => u16 (voterMask s v)

/-- What refuses NADIR and an orderly shutdown (16 R365), besides the operation itself. -/
def workHeld (r : Req) (s : State) : Bool :=
  (s.cmd.ephemeris.any fun e => !(e.req.src == r.src && e.req.tag == r.tag)) ||
    (s.cmd.longOps.any fun o => o.long && opLive o && !isOp r.src r.tag o) || !s.cmd.held.isEmpty ||
    [0, 1, 3, 5].any fun v => voterMask s v != 0

/-- The wake sources that the descriptor enables (16 Table 16-8). -/
def armWakes (r : Req) (s : State) : State :=
  { s with
    power.alarm := if bitN (prm r 1 1) 7 then some (prm r 4 4) else none
    power.portAWake := bitN (prm r 1 1) 6 }

/-- The checkpoint of an orderly shutdown takes the place of an hourly one that waits. -/
def queueOrderly (s : State) : State :=
  queueCheckpoint .orderly none { s with flash.queue := s.flash.queue.filter fun w => !(w.type == 6 && !w.begun && w.op.isNone) }

/-- Entry to NADIR begins; `orderly` with its fresh checkpoint. -/
def enterNadir (r : Req) (orderly : Bool) (s : State) : State :=
  let s1 := { armWakes r s with
    power.mode := .enteringNadir
    power.fromTwilight := s.power.mode == .twilight
    power.latchedWakes := []
    power.op := some ⟨r.src, r.tag⟩
    power.shutdown := orderly }
  if orderly then queueOrderly s1 else s1

/-- A POWER_STATE that finds its state reached completes at once. -/
def alreadyThere (r : Req) (s : State) : State × Ans := (completeOp r.src r.tag St.ok [] (armWakes r s), .accepted)

def powerStateSpec : OpSpec where
  code := 0x0D01
  sched := true
  long := fun _ => true
  check := fun r _ => firstFail [lenIs 8 r, need (prm r 0 1 ≤ 3 && field (prm r 1 1) 5 0 = 0)]
  run := fun r s =>
    match prm r 0 1, s.power.mode with
    | 0, .run => alreadyThere r s
    | 0, .twilight => ({ leaveTwilight (armWakes r s) with power.op := some ⟨r.src, r.tag⟩ }, .accepted)
    | 1, .run => ({ armWakes r s with power.mode := .enteringTwilight, power.op := some ⟨r.src, r.tag⟩ }, .accepted)
    | 1, .twilight => alreadyThere r s
    | 2, .run | 2, .twilight => if workHeld r s then (s, .done St.busy (voteMasks s)) else (enterNadir r false s, .accepted)
    | 3, .run | 3, .twilight => if workHeld r s then (s, .done St.busy (voteMasks s)) else (enterNadir r true s, .accepted)
    | _, _ => (s, .done St.busy (if 2 ≤ prm r 0 1 then voteMasks s else []))

def execPowerStateRun (r : Req) (s : State) : Host.Outcome State Fault Refusal :=
  .next (runPacket (period s) powerStateSpec (withByte r 0 0) s)
def execPowerStateTwilight (r : Req) (s : State) : Host.Outcome State Fault Refusal :=
  .next (runPacket (period s) powerStateSpec (withByte r 0 1) s)
def execPowerStateNadir (r : Req) (s : State) : Host.Outcome State Fault Refusal :=
  .next (runPacket (period s) powerStateSpec (withByte r 0 2) s)
def execOrderlyShutdown (r : Req) (s : State) : Host.Outcome State Fault Refusal :=
  .next (runPacket (period s) powerStateSpec (withByte r 0 3) s)

/-- The operation that a power change reports to completes. -/
def finishPowerOp (status : Nat) (s : State) : State :=
  match s.power.op with
  | some o => completeOp o.src o.tag status [] { s with power.op := none }
  | none => s

/-! ## The sleep states' entries and exits -/

/-- The attached cells once no port drives. -/
def quietPlant (s : State) : Plant := { s.plant with loops := s.plant.loops.map (settle false false (nowNs s)) }

/-- Every chain port stops driving, the cells lose CK, and what presentation had in work is gone (16 R363, 13 R317). -/
def quietPorts (s : State) : State :=
  { s with
    plant := quietPlant s
    chain.ports := s.chain.ports.map fun p => { p.ended with driving := false, segments := 0, prefetched := false, underran := [], read := none, reports := [], waiting := [] }
    pres.position := none
    pres.next := none
    pres.upload := none
    pres.armed := false
    pres.launched := false
    pres.started := false }

/-- Steps 3 to 6 of 16 R363, once every magnitude is 0. -/
def endTwilightEntry (s : State) : State :=
  let s1 := quietPorts (dropRails s)
  let s2 := setLevel 3 { s1 with
    power.mode := .twilight
    power.awake := votedDomains.filter fun d => domainVoted s1 d && !domainAbsent s1 d
    layers.latched := [] }
  finishPowerOp St.ok { s2 with dram.selfRefresh := !domainOn s2 .mem }

/-- The thermal models once their domain is off: the rises and the states restart, and each is taken again from the first
readings after the wake (11 Table 11-9). -/
def restModels (s : State) : State :=
  { s with
    therm.zones := s.therm.zones.map fun _ => { temp := mkRat s.therm.desc.ambient 128, judged := mkRat s.therm.desc.ambient 128 }
    therm.sensors := s.therm.sensors.map fun x => { x with converted := false, held := 0, agreeSince := none }
    therm.diodes := s.therm.diodes.map fun d => { d with disagree := 0, inRangeSince := none, agreeSince := none }
    therm.dieState := 0
    therm.latched := [] }

/-- Steps 4 to 7 of 16 R365: groups left, PTP stopped, the links down, the domains off; what NADIR loses is lost
(16 Table 16-15). -/
def endNadirEntry (s : State) : State :=
  let s1 := restModels (finishPowerOp St.ok (quietPorts (dropRails s)))
  let s2 := { s1 with
    power.mode := .nadir
    power.level := 3
    power.awake := []
    power.implicit := []
    power.votes := (s1.power.votes.set 0 0).set 1 0
    power.record := { s1.power.record with entryTime := rtcSeconds s1 }
    layers.latched := []
    dram.selfRefresh := true
    fw.running := false
    net.joined := []
    net.reportRepeats := []
    net.memberships := []
    net.portA := { s1.net.portA with link := false }
    net.portB := { s1.net.portB with link := false }
    net.fragments := []
    time.masters := []
    time.selected := none
    cmd.sources := []
    cmd.sessionKey := none
    cmd.streamKeys := []
    cmd.longOps := []
    cmd.waiting := []
    cmd.ephemeris := []
    cmd.snapshots := []
    host.busy := false
    host.done := false
    host.error := false
    host.gated := false
    host.reply := [] }
  match s1.power.latchedWakes with
  | [] => s2
  | c :: rest => startWake c (satN 0xFFFF rest.length) s2

/-- IGMP leaves sent as NADIR is entered (16 R365 step 4). -/
def leaveAllGroups (s : State) : State :=
  s.net.joined.foldl (fun t j => send (.igmpReport j.port j.group j.source false (v2Mode t j.port)) t) s

/-! ## The wake sequence (16 R368 to R370) -/

/-- The delays and limits of 16 Table 16-10 in nanoseconds. -/
def wakeDelay (k : Nat) : Nat := [0, 300000, 300000, 100000, 20000, 50000, 20000, 0].getD k 0
def wakeLimit (k : Nat) : Nat := [0, 900000, 900000, 300000, 60000, 150000, 60000, 2000000000].getD k 0

/-- A wake step is ready: its delay has passed; the PLLs lock only on a valid REFIN; step 7 ends by the handshake. -/
def wakeStepDone (s : State) : Bool :=
  s.power.mode == .waking && s.power.wakePause.isNone && 1 ≤ s.power.wakeStep && s.power.wakeStep ≤ 6 &&
    s.power.wakeStepAt + wakeDelay s.power.wakeStep ≤ nowNs s && !(s.power.wakeStep == 3 && s.power.refinLost)

/-- The pause of 1 ms after a failed attempt is over. -/
def wakePauseOver (s : State) : Bool :=
  match s.power.wakePause with
  | some t => s.power.mode == .waking && decide (t + 1000000 ≤ nowNs s)
  | none => false

/-- The next step, or the retry from step 1. In step 5 the DRAM leaves self-refresh. -/
def nextWakeStep (s : State) : State :=
  if wakePauseOver s then
    { s with power.wakePause := none, power.wakeAttempt := 2, power.wakeStep := 1, power.wakeStepAt := nowNs s
             power.record := { s.power.record with attempts := 2 } }
  else if wakeStepDone s then
    { s with power.wakeStep := s.power.wakeStep + 1, power.wakeStepAt := nowNs s
             dram.selfRefresh := s.dram.selfRefresh && s.power.wakeStep != 5 }
  else s

/-- WAKE_STEP_READY. -/
def execWakeStepReady (s : State) : Host.Outcome State Fault Refusal := .next (nextWakeStep s)

/-- A wake step's limit has passed. -/
def wakeStepLate (s : State) : Bool :=
  s.power.mode == .waking && s.power.wakePause.isNone && 1 ≤ s.power.wakeStep &&
    s.power.wakeStepAt + wakeLimit s.power.wakeStep ≤ nowNs s

/-- The attempt ends: the first is retried, the second fails the wake (16 R368, R369). -/
def failWakeStep (s : State) : State :=
  if s.power.wakeAttempt = 1 then
    { s with power.wakePause := some (nowNs s), power.wakeStep := 0, dram.selfRefresh := true
             power.record := { s.power.record with firstStep := s.power.wakeStep } }
  else
    raiseAlert 0x0D 0x02 (tileTarget s) St.wakeFail s.power.wakeStep true (assertFault .wakeFailed { s with
      power.mode := .wakeFailed
      dram.selfRefresh := true
      power.wakeStep := 0
      power.record := { s.power.record with status := St.wakeFail, finalStep := s.power.wakeStep, duration := 0xFFFFFFFF } })

/-- WAKE_STEP_TIMEOUT. -/
def execWakeStepTimeout (s : State) : Host.Outcome State Fault Refusal := .next (if wakeStepLate s then failWakeStep s else s)

/-- The groups of every subscription joined again (16 R370). -/
def rejoinGroups (s : State) : State :=
  (List.range 8).foldl (fun t h => match t.layers.streams.getD h none with
    | some st => joinPath h .B st.pathB (joinPath h .A st.pathA t)
    | none => t) s

/-- The handshake of step 7 (16 R370): RUN, the counter from Nightwatch, the servo acquiring, presentation after its first
sample. -/
def finishWake (s : State) : State :=
  let s1 := { s with
    power.mode := .run
    power.wakeStep := 0
    power.fromTwilight := false
    power.shutdown := false
    fw.running := true
    host.wake := true
    pres.waitSample := true
    bist.slice := if [0x01, 0x02, 0x03, 0x04, 0x05, 0x06, 0x07].contains (blockClass ((allBlocks s).getD s.bist.block 0)) then 0 else s.bist.slice
    check := s.check.map (checkReturn true)
    power.record := { s.power.record with status := 0, duration := (nowNs s - s.power.wakeStart) / 1000 } }
  let s2 := rejoinGroups (setServo .acquiring s1)
  let s3 := enumerateLoops (List.range (gradeLoops s2)) s2
  logAlert 0x0D 0x01 (tileTarget s3) 0 0 (setLevel (targetLevel s3) s3)

/-! ## The wake record and the reset history (16 R372) -/

/-- The bytes of the wake record (16 Table 16-12). -/
def wakeRecordBytes (x : WakeRecord) : List Byte :=
  u16 x.status ++ u8 x.source ++ u8 x.attempts ++ u8 x.firstStep ++ u8 x.finalStep ++ u16 x.latched ++ u32 x.entryTime ++
    u32 x.wakeTime ++ u32 x.duration ++ u32 0

/-- The bytes of a reset history entry (16 Table 16-13). -/
def resetEntryBytes (x : ResetEntry) : List Byte :=
  u8 x.kind ++ u8 (128 * b2n x.stuck + 64 * b2n x.endedWakeFailure) ++ u16 0 ++ u32 x.time

def wakeRecordReadSpec : OpSpec where
  code := 0x0D03
  check := fun r _ => lenIs 0 r
  run := fun _ s => ({ s with host.wake := false },
    .done St.ok (wakeRecordBytes s.power.record ++ padTo 64 (s.power.history.flatMap resetEntryBytes)))

def execWakeRecordRead (r : Req) (s : State) : Host.Outcome State Fault Refusal := .next (runPacket (period s) wakeRecordReadSpec r s)

end Sys2Proof.Machine
end

