-- ==== Sys2Proof/Machine/SafetyBlock.lean ====
section
/-! DEFINITION. Machine safety evaluation (15): inputs, functions, the two output pairs, reset presses, test pulses, the
network safe-off request and the change of configuration. -/

namespace Sys2Proof.Machine

/-! ## Functions (15 Tables 15-1, 15-4); masks as in Table 15-10, offset 1 -/

def fEstop : Nat := 0x80
def fDoor : Nat := 0x40
def fTwoHand : Nat := 0x20
def fLc : Nat := 0x10
def fNet : Nat := 0x08

/-- An input's place in the levels. -/
def inputIndex : SafetyInput → Nat
  | .estopA => 0
  | .estopB => 1
  | .doorNC => 2
  | .doorNO => 3
  | .leftNO => 4
  | .leftNC => 5
  | .rightNO => 6
  | .rightNC => 7
  | .lcA => 8
  | .lcB => 9
  | .srst => 10
  | .sfbLight => 11
  | .sfbMotion => 12

/-- The level of an input after its filter. -/
def SafetyState.on (x : SafetyState) (i : SafetyInput) : Bool := x.levels.getD (inputIndex i) false

/-- Whether a function is used. -/
def SafetyState.uses (x : SafetyState) (f : Nat) : Bool := x.cfg.functions &&& f != 0

/-- A hand is actuated, or released (15 R337). -/
def SafetyState.leftActuated (x : SafetyState) : Bool := x.on .leftNO && !x.on .leftNC
def SafetyState.rightActuated (x : SafetyState) : Bool := x.on .rightNO && !x.on .rightNC
def SafetyState.leftReleased (x : SafetyState) : Bool := !x.on .leftNO && x.on .leftNC
def SafetyState.rightReleased (x : SafetyState) : Bool := !x.on .rightNO && x.on .rightNC

/-- The functions that demand now (15 R336). -/
def SafetyState.demandMask (x : SafetyState) : Nat :=
  let raw := (if !x.on .estopA || !x.on .estopB then fEstop else 0) + (if !x.on .doorNC || x.on .doorNO then fDoor else 0) +
    (if x.valid2h then 0 else fTwoHand) + (if !x.on .lcA || !x.on .lcB then fLc else 0) + (if x.netDemand then fNet else 0)
  raw &&& x.cfg.functions

/-- The inputs of a pair, the first that of Table 15-4's healthy relation, and whether they are equal when healthy. -/
def pairInputs : SafetyPair → SafetyInput × SafetyInput × Bool
  | .estop => (.estopA, .estopB, true)
  | .door => (.doorNC, .doorNO, false)
  | .left => (.leftNO, .leftNC, false)
  | .right => (.rightNO, .rightNC, false)
  | .lc => (.lcA, .lcB, true)

/-- The function of a pair. -/
def pairFunction : SafetyPair → Nat
  | .estop => fEstop
  | .door => fDoor
  | .lc => fLc
  | _ => fTwoHand

/-- Whether a pair disagrees with its healthy relationship. -/
def SafetyState.disagrees (x : SafetyState) (p : SafetyPair) : Bool :=
  let (a, b, eq) := pairInputs p
  x.uses (pairFunction p) && ((x.on a == x.on b) != eq)

/-- The level of a pair's first input, and the second's with it, at which both demand or, for a hand, actuate (15
Table 15-1). -/
def SafetyState.atDemand (x : SafetyState) (p : SafetyPair) : Bool :=
  match p with
  | .estop => !x.on .estopA && !x.on .estopB
  | .door => !x.on .doorNC && x.on .doorNO
  | .left => x.leftActuated
  | .right => x.rightActuated
  | .lc => !x.on .lcA && !x.on .lcB

/-- Both inputs of a pair at the healthy level. -/
def SafetyState.atHealthy (x : SafetyState) (p : SafetyPair) : Bool :=
  match p with
  | .estop => x.on .estopA && x.on .estopB
  | .door => x.on .doorNC && !x.on .doorNO
  | .left => x.leftReleased
  | .right => x.rightReleased
  | .lc => x.on .lcA && x.on .lcB

def allPairs : List SafetyPair := [.estop, .door, .left, .right, .lc]

/-- The discrepancy time of a pair in milliseconds; a hand uses the door's (15 Table 15-4). -/
def SafetyState.discrepancyTime (x : SafetyState) : SafetyPair → Nat
  | .estop => x.cfg.estopTime
  | .lc => x.cfg.lcTime
  | _ => x.cfg.doorTime

/-- The discrepancy timers after a change of level. -/
def SafetyState.timeDiscrepancy (x : SafetyState) (now : Nat) : SafetyState :=
  { x with discrepancy := (allPairs.filter x.disagrees).map fun p => ((x.discrepancy.find? fun d => d.1 == p).getD (p, now)) }

/-- A pair in a discrepancy lockout is seen at the demand level, and then at the healthy level (15 R336). -/
def SafetyState.followMend (x : SafetyState) : SafetyState :=
  { x with mend := x.mend.map fun (p, a, b) => (p, a || x.atDemand p, b || (a && x.atHealthy p)) }

/-- Two-hand control after a change of level (15 R337). -/
def SafetyState.twoHand (x : SafetyState) (now : Nat) : SafetyState :=
  let l := x.leftActuated
  let r := x.rightActuated
  let both := x.leftReleased && x.rightReleased
  let left := if l then some (x.leftAt.getD now) else none
  let right := if r then some (x.rightAt.getD now) else none
  let dropped := (x.leftAt.isSome && !l) || (x.rightAt.isSome && !r)
  let armed := both || (x.armed && !dropped)
  let gap := (left.getD 0 - right.getD 0) + (right.getD 0 - left.getD 0)
  let starts := armed && l && r && decide (gap ≤ 500000000)
  let valid := (x.valid2h && l && r) || (starts && !x.valid2h)
  { x with leftAt := left, rightAt := right, valid2h := valid, armed := armed && !(l && r) }

/-! ## The pairs (15 Table 15-6) -/

def SafetyState.pair (x : SafetyState) : OutPair → Pair
  | .light => x.light
  | .motion => x.motion
def SafetyState.setPair (x : SafetyState) (p : OutPair) (v : Pair) : SafetyState :=
  match p with
  | .light => { x with light := v }
  | .motion => { x with motion := v }

/-- Configuration of a pair: used, the functions that drive it, automatic restart, EDM. -/
def SafetyState.used (x : SafetyState) (p : OutPair) : Bool := bitN x.cfg.flags (match p with | .light => 7 | .motion => 6)
def SafetyState.sources (x : SafetyState) : OutPair → Nat
  | .light => x.cfg.lightSrc
  | .motion => x.cfg.motionSrc
def SafetyState.auto (x : SafetyState) (p : OutPair) : Bool := bitN x.cfg.flags (match p with | .light => 5 | .motion => 4)
def SafetyState.edm (x : SafetyState) (p : OutPair) : Bool := bitN x.cfg.flags (match p with | .light => 3 | .motion => 2)

/-- The pair's SFB input: on while the switch has released. -/
def SafetyState.sfb (x : SafetyState) (p : OutPair) : Bool := x.on (match p with | .light => .sfbLight | .motion => .sfbMotion)

/-- Whether EDM lets a pair turn on (15 R341). -/
def SafetyState.edmReady (x : SafetyState) (p : OutPair) : Bool := !x.edm p || x.sfb p

/-- The codes of 15 Table 15-9. -/
def pairCode : PairState → Nat
  | .run => 0
  | .demand => 1
  | .lockout => 2
  | .interlock => 3
  | .unused => 4

/-- A pair in a new state; EDM waits from the moment at which the pair turned on or off. -/
def enterPair (p : OutPair) (st : PairState) (latched : Nat) (s : State) : State :=
  let old := s.safety.pair p
  let turned := (old.state == .run) != (st == .run)
  let since := if turned && s.safety.edm p then some (nowNs s) else old.edmSince
  { s with safety := s.safety.setPair p { state := st, latched := latched, edmSince := since } }

/-- The pairs evaluated against the demands: a demand of a running pair is latched and adds to the latched ones; without a
demand, door and light-curtain demands restart automatically where configured, two-hand control always (15 R336,
Table 15-4). -/
def judgePair (p : OutPair) (s : State) : State :=
  let x := s.safety
  let v := x.pair p
  let active := x.demandMask &&& x.sources p
  match v.state with
  | .run => if active = 0 then s else enterPair p .demand active s
  | .demand =>
    let latched := v.latched ||| active
    let own := (if x.auto p then fDoor + fLc else 0) + fTwoHand
    if active = 0 && latched &&& own = latched && x.edmReady p then enterPair p .run 0 s
    else enterPair p .demand latched s
  | _ => s

/-- The motion pair that leaves run ends the actuation: a new one needs both hands released (15 R337, Table 15-12). -/
def endActuation (before : State) (s : State) : State :=
  if before.safety.motion.state == .run && s.safety.motion.state != .run && s.safety.uses fTwoHand then
    { s with safety := { s.safety with valid2h := false, armed := s.safety.leftReleased && s.safety.rightReleased } }
  else s

/-- What follows a change of a pair's state: an alert with ALERT_N, the time of the change, a count of demands, LED_EN low
while the light pair is not in run, and a wake from NADIR (15 R342, R343). -/
def reportPairs (before s : State) : State :=
  let changed := [OutPair.light, OutPair.motion].filter fun p => (before.safety.pair p).state != (s.safety.pair p).state
  if changed.isEmpty then s
  else
    let new := changed.any fun p => (s.safety.pair p).state == .demand
    let s1 := { s with safety := { s.safety with lastChange := nowSeconds s, demands := if new then inc16 s.safety.demands else s.safety.demands } }
    let s2 := changed.foldl (fun t p => raiseAlert 0x0C 0x01 (tileTarget s) 0 (pairCode (s.safety.pair p).state) false t) (clearAlert 0x0C 0x01 (tileTarget s) s1)
    let s3 := if s.safety.light.state == .run || s.safety.light.state == .unused then s2 else withdrawGrants (dropRails s2)
    wakeBy .safety s3

/-- Both pairs judged. -/
def judgePairs (s : State) : State :=
  let s1 := judgePair .motion (judgePair .light s)
  reportPairs s (endActuation s s1)

/-- A used pair's lockout. -/
def lockPair (p : OutPair) (s : State) : State :=
  if (s.safety.pair p).state == .unused then s else enterPair p .lockout (s.safety.pair p).latched s

/-- A lockout of both pairs by a cause of 15 Table 15-7; an internal cause stands. -/
def lockout (cause : Nat) (s : State) : State :=
  let c := if 0x10 ≤ s.safety.cause then s.safety.cause else cause
  let s1 := lockPair .motion (lockPair .light { s with safety := { s.safety with cause := c } })
  reportPairs s (endActuation s s1)

/-- Whether a pair is used at all. -/
def safetyUsed (s : State) : Bool := s.safety.light.state != .unused || s.safety.motion.state != .unused

/-! ## Inputs (15 R331) -/

/-- A filtered level takes effect: SRST begins or ends a press, an SFB input that follows its pair ends EDM's wait, and both
channels evaluate the functions. -/
def takeLevel (i : SafetyInput) (on : Bool) (s : State) : State :=
  let x := { s.safety with levels := setAt s.safety.levels (inputIndex i) on }
  let x1 := match i with
    | .srst => if on then { x with pressSince := some (nowNs s) } else { x with pressSince := none, offSince := nowNs s }
    | .sfbLight => if on != (x.light.state == PairState.run) then { x with light := { x.light with edmSince := none } } else x
    | .sfbMotion => if on != (x.motion.state == PairState.run) then { x with motion := { x.motion with edmSince := none } } else x
    | _ => x
  judgePairs { s with safety := ((x1.twoHand (nowNs s)).timeDiscrepancy (nowNs s)).followMend }

/-- SAFETY_INPUT_CHANGE. -/
def execSafetyInputChange (i : SafetyInput) (on : Bool) (s : State) : Host.Outcome State Fault Refusal :=
  .next (if s.safety.on i == on then s else takeLevel i on s)

/-- The lockout cause of a pair's discrepancy. -/
def discrepancyCause : SafetyPair → Nat
  | .estop => 0x01
  | .door => 0x02
  | .lc => 0x04
  | _ => 0x03

/-- Whether a pair's lockout stands from the discrepancy that it still shows: neither level has been seen since. -/
def mendFresh (s : State) (p : SafetyPair) : Bool := s.safety.mend.any fun m => m.1 == p && !m.2.1

/-- DISCREPANCY_TIMEOUT: the discrepancy has outlasted its time (15 R336); a new one asks for both levels again. -/
def execDiscrepancyTimeout (p : SafetyPair) (s : State) : Host.Outcome State Fault Refusal :=
  .next (match s.safety.discrepancy.find? (·.1 == p) with
    | some (_, t) =>
      if t + s.safety.discrepancyTime p * 1000000 ≤ nowNs s && !mendFresh s p then
        lockout (discrepancyCause p) { s with safety := { s.safety with mend := (s.safety.mend.filter fun m => m.1 != p) ++ [(p, false, false)] } }
      else s
    | none => s)

/-! ## Test pulses (15 R338, R339) and EDM (R341) -/

/-- Whether an input is fed by STP_B; the light curtain is fed by neither. -/
def fedByB : SafetyInput → Option Bool
  | .estopA | .doorNC | .leftNO | .rightNO | .srst => some false
  | .estopB | .doorNO | .leftNC | .rightNC | .sfbLight | .sfbMotion => some true
  | .lcA | .lcB => none

/-- Whether an input serves a function, a press or a monitoring that the configuration uses (15 R330). -/
def inputUsed (x : SafetyState) : SafetyInput → Bool
  | .estopA | .estopB => x.uses fEstop
  | .doorNC | .doorNO => x.uses fDoor
  | .leftNO | .leftNC | .rightNO | .rightNC => x.uses fTwoHand
  | .lcA | .lcB => x.uses fLc
  | .srst => x.used .light || x.used .motion
  | .sfbLight => x.edm .light
  | .sfbMotion => x.edm .motion

def allInputs : List SafetyInput :=
  [.estopA, .estopB, .doorNC, .doorNO, .leftNO, .leftNC, .rightNO, .rightNC, .lcA, .lcB, .srst, .sfbLight, .sfbMotion]

/-- INPUT_TEST_PULSE: of the inputs of the source that are on, those that failed; a second failure in a row locks out. An input
that is off is not sampled, so its failures do not stand in a row; of an input that opens, the pulse is void (15 Table 15-12), and
the row does not name it. -/
def testInputs (fromB : Bool) (failedInputs : List SafetyInput) (s : State) : State :=
  let x := s.safety
  let tested := allInputs.filter fun i => fedByB i == some fromB && x.on i && inputUsed x i
  let bad := tested.filter failedInputs.contains
  let twice := bad.any x.pulseFails.contains
  let kept := x.pulseFails.filter fun i => fedByB i != some fromB
  let s1 := { s with safety := { x with pulseFails := kept ++ bad, pulseFaults := bad.foldl (fun n _ => inc16 n) x.pulseFaults } }
  if twice then lockout 0x05 s1 else s1

def execInputTestPulse (fromB : Bool) (failed : List SafetyInput) (s : State) : Host.Outcome State Fault Refusal :=
  .next (testInputs fromB failed s)

/-- The pair of an output. -/
def outPair : SafetyOut → OutPair
  | .lightP | .lightH => .light
  | .motionP | .motionH => .motion

/-- OUTPUT_TEST_PULSE: of an output that is on; a failed readback locks out. A pair that has left run gets no pulse, and its
low output is no fault (15 R340). -/
def execOutputTestPulse (o : SafetyOut) (readbackOk : Bool) (s : State) : Host.Outcome State Fault Refusal :=
  .next (if (s.safety.pair (outPair o)).state == .run && !readbackOk then lockout 0x12 s else s)

/-- EDM_TIMEOUT: the SFB input has not followed its pair within the EDM time. -/
def execEdmTimeout (p : OutPair) (s : State) : Host.Outcome State Fault Refusal :=
  .next (match (s.safety.pair p).edmSince with
    | some t =>
      let v := s.safety.pair p
      if t + s.safety.cfg.edmTime * 1000000 ≤ nowNs s && s.safety.edm p && (s.safety.sfb p == (v.state == .run)) then
        lockout (match p with | .light => 0x06 | .motion => 0x07) { s with safety := s.safety.setPair p { v with edmSince := none } }
      else s
    | none => s)

/-- HEARTBEAT_LOSS, CHANNEL_DISAGREEMENT and SAFETY_MEMORY_FAULT (15 R335). -/
def execHeartbeatLoss (s : State) : Host.Outcome State Fault Refusal := .next (lockout 0x11 s)
def execChannelDisagreement (p : OutPair) (s : State) : Host.Outcome State Fault Refusal :=
  .next (if (s.safety.pair p).state == .unused then s else lockout 0x10 s)
def execSafetyMemoryFault (s : State) : Host.Outcome State Fault Refusal := .next (lockout 0x13 s)

/-! ## Reset presses (15 R344, R345) -/

/-- A message has been accepted within the network timeout. -/
def SafetyState.supervised (x : SafetyState) (now : Nat) : Bool :=
  match x.netAt with
  | some t => decide (now < t + x.cfg.netTimeout * 1000000)
  | none => false

/-- Whether a press may move a pair: its functions clear but for two-hand control, no discrepancy timer running, its SFB input
on, the network heard, and the cause of an external lockout gone (15 R344, Table 15-6). -/
def SafetyState.pressMoves (x : SafetyState) (now : Nat) (p : OutPair) : Bool :=
  let v := x.pair p
  let src := x.sources p
  let clear := x.demandMask &&& src &&& (0xFF - fTwoHand) = 0 && (src &&& fNet = 0 || x.supervised now)
  let mended := (x.mend.all fun m => m.2.2) && x.pulseFails.isEmpty
  (v.state == .interlock || v.state == .demand || v.state == .lockout) && !x.noRecord && x.cause < 0x10 && clear && x.discrepancy.isEmpty &&
    x.edmReady p && (v.state != .lockout || mended)

/-- A pair moved by a press: into run, or for motion into the demand of two-hand control until a valid actuation. -/
def pressPair (p : OutPair) (s : State) : State :=
  let x := s.safety
  if x.sources p &&& x.demandMask &&& fTwoHand = 0 then enterPair p .run 0 s else enterPair p .demand fTwoHand s

/-- A confirmed configuration comes into force (15 R349, R351): every used pair in start interlock, an internal lockout kept. -/
def installSafety (cfg : SafetyCfg) (s : State) : State :=
  let internal := 0x10 ≤ s.safety.cause
  let start (used : Bool) : Pair := { state := if !used then .unused else if internal then .lockout else .interlock }
  let x : SafetyState := { s.safety with
    cfg := cfg, noRecord := false, light := start (bitN cfg.flags 7), motion := start (bitN cfg.flags 6)
    cause := if internal then s.safety.cause else 0, discrepancy := [], mend := [], pulseFails := [], alive := none, netAt := none, netDemand := false
    leftAt := none, rightAt := none, armed := false, valid2h := false }
  { s with safety := ((x.twoHand (nowNs s)).timeDiscrepancy (nowNs s)) }

/-- The descriptor's bytes (15 Table 15-10). -/
def safetyBytes (c : SafetyCfg) : List Byte :=
  let body := u8 0 ++ u8 c.functions ++ u8 c.lightSrc ++ u8 c.motionSrc ++ u8 c.flags ++ u8 c.filter ++ u16 c.estopTime ++ u16 c.doorTime ++
    u16 c.lcTime ++ u16 c.edmTime ++ u16 c.netTimeout ++ u32 c.connection ++ u32 0
  body ++ u32 (crc32c body)

/-- The press that confirms a pending change: the change comes into force, is written to the flash, and the first that uses a
function sets the commissioned fuse (15 R349, R351). -/
def confirmChange (c : SafetyChange) (s : State) : State :=
  let s1 := installSafety c.cfg { s with safety := { s.safety with pending := none } }
  let s2 := { s1 with fuse.commissioned := s1.fuse.commissioned || c.cfg.functions != 0 }
  let s3 := enqueueFlash { type := 3, key := 0, data := safetyBytes c.cfg, use := .safety, op := none } (reportPairs s s2)
  completeOp c.src c.tag St.ok [] s3

/-- A pending change that no press has confirmed within 30 s is discarded (15 R349). -/
def dropChange (c : SafetyChange) (s : State) : State :=
  completeOp c.src c.tag St.notCommitted []
    (logAlert 0x0C 0x03 (tileTarget s) 0 0 { s with safety := { s.safety with pending := none } })

/-- A press on the pairs: it moves every pair that it may move, and is counted when it moves none of those that wait; with no valid
record it has no effect (15 R344, R351). -/
def pressPairs (s : State) : State :=
  let waiting := [OutPair.light, OutPair.motion].filter fun p => [PairState.interlock, .demand, .lockout].contains (s.safety.pair p).state
  let moving := waiting.filter (s.safety.pressMoves (nowNs s))
  if waiting.isEmpty || s.safety.noRecord then s
  else if moving.isEmpty then { s with safety := { s.safety with refused := inc16 s.safety.refused } }
  else
    let s1 := moving.foldl (fun t p => pressPair p t) s
    let still := [OutPair.light, OutPair.motion].any fun p => (s1.safety.pair p).state == .lockout
    let s2 := if still then s1 else { s1 with safety := { s1.safety with cause := 0, mend := [] } }
    reportPairs s (endActuation s s2)

/-- A reset press at its release edge: within 30 s of its reply a pending change is confirmed, and the press resets nothing. -/
def pressReset (s : State) : State :=
  match s.safety.pending with
  | some c => if nowNs s ≤ c.since + 30000000000 then confirmChange c s else pressPairs (dropChange c s)
  | none => pressPairs s

/-- RESET_PRESS: from 0.1 s to 3 s, accepted while SRST is not stuck. -/
def execResetPress (milliseconds : Nat) (s : State) : Host.Outcome State Fault Refusal :=
  let s1 := { s with safety := { s.safety with levels := setAt s.safety.levels 10 false, pressSince := none, offSince := nowNs s } }
  .next (if 100 ≤ milliseconds && milliseconds ≤ 3000 then (if s.safety.stuck then s1 else pressReset s1) else s)

/-- SRST_STUCK: on for more than 3 s. -/
def execSrstStuck (s : State) : Host.Outcome State Fault Refusal :=
  .next (match s.safety.pressSince with
    | some t =>
      if t + 3000000000 < nowNs s && !s.safety.stuck then
        raiseAlert 0x0C 0x02 (tileTarget s) 0 0 false { s with safety := { s.safety with stuck := true, pressSince := none } }
      else s
    | none => s)

/-- SRST_STUCK_CLEAR: off for 100 ms. -/
def execSrstStuckClear (s : State) : Host.Outcome State Fault Refusal :=
  .next (if s.safety.stuck && !s.safety.on .srst && s.safety.offSince + 100000000 ≤ nowNs s then
      clearAlert 0x0C 0x02 (tileTarget s) { s with safety := { s.safety with stuck := false } }
    else s)

/-! ## The network function (15 R347, R348) -/

/-- A safety message is accepted by its connection, CRC and alive counter. -/
def messageOk (x : SafetyState) (m : List Byte) : Bool :=
  be m 0 4 == x.cfg.connection && crc32c (m.take 8) == be m 8 4 &&
    (match x.alive with | some a => getB m 4 == (a + 1) % 256 | none => true)

/-- The safety block acts on a message. -/
def takeMessage (m : List Byte) (s : State) : State :=
  let x := s.safety
  if messageOk x m then
    judgePairs { s with safety := { x with alive := some (getB m 4), netAt := some (nowNs s), netDemand := bitN (getB m 5) 7 || bitN (getB m 5) 6 } }
  else { s with safety := { x with discarded := inc16 x.discarded } }

/-- SAFE_OFF_REQUEST. -/
def safeOffSpec : OpSpec where
  code := 0x0C02
  check := fun r s => firstFail [lenIs 12 r, need (s.safety.uses fNet)]
  run := fun r s =>
    let t := takeMessage r.params s
    (t, .done St.ok (u8 (pairCode t.safety.light.state) ++ u8 (pairCode t.safety.motion.state)))

def execSafeOffRequest (r : Req) (s : State) : Host.Outcome State Fault Refusal := .next (runPacket (period s) safeOffSpec r s)

/-- NETWORK_SAFETY_TIMEOUT: no message has been accepted within the timeout. -/
def execNetworkSafetyTimeout (s : State) : Host.Outcome State Fault Refusal :=
  .next (match s.safety.netAt with
    | some t =>
      if s.safety.uses fNet && !s.safety.netDemand && t + s.safety.cfg.netTimeout * 1000000 ≤ nowNs s then
        judgePairs { s with safety := { s.safety with netDemand := true } }
      else s
    | none => s)

/-! ## The configuration (15 R349 to R351) -/

/-- A descriptor as a configuration. -/
def safetyCfgOf (d : List Byte) : SafetyCfg :=
  { functions := getB d 1, lightSrc := getB d 2, motionSrc := getB d 3, flags := getB d 4, filter := getB d 5, estopTime := be d 6 2
    doorTime := be d 8 2, lcTime := be d 10 2, edmTime := be d 12 2, netTimeout := be d 14 2, connection := be d 16 4, ident := be d 24 4 }

/-- Whether a value lies within bounds. -/
def within (lo hi v : Nat) : Bool := lo ≤ v && v ≤ hi

/-- The conditions of 15 R350. -/
def safetyCfgOk (d : List Byte) : Bool :=
  let c := safetyCfgOf d
  let lightUsed := bitN c.flags 7
  let motionUsed := bitN c.flags 6
  let driven := (if lightUsed then c.lightSrc else 0) ||| (if motionUsed then c.motionSrc else 0)
  let autoOk (auto : Bool) (src : Nat) : Bool := !auto || src &&& (0xFF - fEstop - fNet) != 0
  getB d 0 = 0 && field c.functions 2 0 = 0 && field c.lightSrc 2 0 = 0 && field c.motionSrc 2 0 = 0 && field c.flags 1 0 = 0 &&
    within 1 30 c.filter && within 100 1000 c.estopTime && within 100 1000 c.doorTime && within 10 1000 c.lcTime &&
    within 10 500 c.edmTime && within 2500 60000 c.netTimeout && be d 20 4 = 0 && c.ident = crc32c (d.take 24) &&
    (c.functions &&& fNet = 0 || c.connection != 0) &&
    (c.lightSrc ||| c.motionSrc) &&& c.functions = c.lightSrc ||| c.motionSrc && driven &&& c.functions = c.functions &&
    (c.functions &&& fEstop = 0 || ((!lightUsed || c.lightSrc &&& fEstop != 0) && (!motionUsed || c.motionSrc &&& fEstop != 0))) &&
    c.lightSrc &&& fTwoHand = 0 && autoOk (bitN c.flags 5) c.lightSrc && autoOk (bitN c.flags 4) c.motionSrc

/-- SAFETY_CONFIG: LOCKED while a used pair is in run or a commissioned block would lose every function, BUSY while a change is
pending; an accepted change waits for its press. -/
def safetyConfigSpec : OpSpec where
  code := 0x0C01
  broadcastOk := false
  long := fun _ => true
  check := fun r _ => firstFail [lenIs 28 r, need (safetyCfgOk r.params)]
  run := fun r s =>
    if s.safety.light.state == .run || s.safety.motion.state == .run then (s, .done St.locked [])
    else if s.fuse.commissioned && prm r 1 1 = 0 then (s, .done St.locked [])
    else if s.safety.pending.isSome then (s, .done St.busy [])
    else ({ s with safety := { s.safety with pending := some ⟨safetyCfgOf r.params, r.src, r.tag, nowNs s⟩ } }, .accepted)

def execSafetyConfig (r : Req) (s : State) : Host.Outcome State Fault Refusal := .next (runPacket (period s) safetyConfigSpec r s)

/-- SAFETY_CONFIG_TIMEOUT: no press within 30 s. -/
def execSafetyConfigTimeout (s : State) : Host.Outcome State Fault Refusal :=
  .next (match s.safety.pending with
    | some c =>
      if c.since + 30000000000 ≤ nowNs s then dropChange c s else s
    | none => s)

/-- The safety block after POR (15 R345, R346): start interlock, and no press has an effect until firmware hands the stored
configuration over; SRST that is on counts as stuck. -/
def porSafety (levels : List Bool) : SafetyState := { levels := levels, stuck := levels.getD 10 false }

/-- A block without a valid record: the default of an uncommissioned one, start interlock of a commissioned one (15 R351). -/
def noSafetyRecord (s : State) : State :=
  if s.fuse.commissioned then s
  else { s with safety := { s.safety with noRecord := false, light := { state := .unused }, motion := { state := .unused } } }

/-- Firmware hands the stored configuration over after POR (15 R351). -/
def loadSafety (s : State) : State :=
  match objectData s 3 0 with
  | some d => if d.length = 28 && safetyCfgOk d then installSafety (safetyCfgOf d) s else noSafetyRecord s
  | none => noSafetyRecord s

/-- A pair's output is on in run only (15 Table 15-6), and with its supply (19 Table 19-16). -/
def outputOn (s : State) (p : OutPair) : Bool := (s.safety.pair p).state == .run && !s.power.vsafeLow

/-! ## SAFETY_STATUS (15 R352) -/

/-- The input levels of Table 15-9. -/
def levelBits (x : SafetyState) : Nat := (x.levels.take 13).zipIdx.foldl (fun a (b, i) => a + b2n b * 2 ^ (15 - i)) 0

def safetyStatusBytes (s : State) : List Byte :=
  let x := s.safety
  u8 (pairCode x.light.state) ++ u8 (pairCode x.motion.state) ++ u8 x.cause ++
    u8 (128 * b2n x.pending.isSome + 64 * b2n x.stuck + 32 * b2n s.fuse.commissioned + 16 * b2n (x.uses fNet && x.supervised (nowNs s)) + 8 * b2n x.valid2h) ++
    u16 (levelBits x) ++ u8 x.demandMask ++ u8 0 ++ u32 x.cfg.ident ++ u16 x.demands ++ u16 x.refused ++ u16 x.pulseFaults ++
    u16 x.discarded ++ u32 x.lastChange

def safetyStatusSpec : OpSpec where
  code := 0x0C00
  check := fun r _ => lenIs 0 r
  run := fun _ s => (s, .done St.ok (safetyStatusBytes s))

def execSafetyStatus (r : Req) (s : State) : Host.Outcome State Fault Refusal := .next (runPacket (period s) safetyStatusSpec r s)

end Sys2Proof.Machine
end

