-- ==== Sys2Proof/Machine/Trim.lean ====
section
/-! DEFINITION. Self-calibration and trims (12): CALIBRATE, its slices, the judgement of the candidates, TRIM_READ, and
the calibration at boot. -/

namespace Sys2Proof.Machine

/-! ## Trim sets (12 Tables 12-1, 12-6) -/

/-- The CHAIN_PORT_TRIM word without DRIVING (09 Table 9-16). -/
def trimWord (t : PortTrim) : Nat := t.swing * 2 ^ 16 + t.preemph * 2 ^ 12 + t.term * 2 ^ 5

/-- The CHAIN_PORT_SKEW word (09 Table 9-17). -/
def skewWord (t : PortTrim) : Nat := (t.skew.take 5).foldl (fun a v => a * 32 + v % 32) 0

/-- A port's trim from its two words. -/
def portTrimOf (a b : Nat) : PortTrim := skewOfWord (BitVec.ofNat 32 b) (trimOfWord (BitVec.ofNat 32 a) {})

/-- The bytes of a trim set (12 Table 12-6). -/
def trimBytes (t : TrimSet) : List Byte :=
  let a := t.analog
  let body := u16 a.bandgap ++ sbe 2 a.meterOffset ++ u16 a.meterGain ++ sbe 1 a.core ++ u8 0 ++
    (List.range 6).flatMap (fun i => sbe 1 (a.diode.getD i 0)) ++ u16 0 ++
    (List.range 4).flatMap (fun i => u16 (a.shunt.getD i 0x8000)) ++ u32 a.setTime ++ u32 0 ++
    (List.range 48).flatMap (fun p => u32 (trimWord (t.ports.getD p {})) ++ u32 (skewWord (t.ports.getD p {})))
  body ++ u32 (crc32 body)

/-- A trim set read back. -/
def trimSetOf (d : List Byte) : TrimSet :=
  { analog := { bandgap := be d 0 2, meterOffset := signed 16 (be d 2 2), meterGain := be d 4 2, core := signed 8 (be d 6 1), diode := (List.range 6).map (fun i => signed 8 (be d (8 + i) 1)), shunt := (List.range 4).map (fun i => be d (16 + 2 * i) 2), setTime := be d 24 4 }
    ports := (List.range 48).map fun p => portTrimOf (be d (32 + 8 * p) 4) (be d (36 + 8 * p) 4) }

/-- Whether a stored set is whole. -/
def trimSetOk (d : List Byte) : Bool := d.length == 420 && crc32 (d.take 416) == be d 416 4

/-- The fuse defaults (12 R298): items 5 to 8 at the reset codes, item 9 at 1. -/
def fuseSet (s : State) : TrimSet := { analog := { s.fuse.trims with shunt := [0x8000, 0x8000, 0x8000, 0x8000] } }

/-- The set in force. -/
def trimsNow (s : State) : TrimSet := ⟨s.trim.inForce, s.chain.ports.map (·.trim)⟩

/-- The last good set: that of the flash store, else the fuse defaults (12 R298). -/
def lastGood (s : State) : TrimSet :=
  match objectData s 2 0 with
  | some d => if trimSetOk d then trimSetOf d else fuseSet s
  | none => fuseSet s

/-! ## Items -/

/-- The port items (12 Table 12-1). -/
def isPortItem (i : Nat) : Bool := 5 ≤ i && i ≤ 8

/-- Whether an item was requested. -/
def CalRun.wants (x : CalRun) (i : Nat) : Bool := bitN x.items i

/-- The ports that an item measures. -/
def CalRun.measured (x : CalRun) : List Nat := (List.range 48).filter fun p => bitN x.ports p && !bitN x.leftOut p

/-- The rails that item 9 measures. -/
def CalRun.measuredRails (x : CalRun) : List Nat := (List.range 4).filter fun r => bitN x.rails r

/-- The slices of an item (12 Table 12-2); item 8 uses those of item 6 where both are requested. -/
def CalRun.slices (x : CalRun) (i : Nat) : Nat :=
  match i with
  | 0 => 8
  | 1 | 2 | 3 => 4
  | 4 => 24
  | 5 => 4 * x.measured.length
  | 6 => 16 * x.measured.length
  | 7 => 2 * x.measured.length
  | 8 => if x.wants 6 then 0 else 16 * x.measured.length
  | _ => 2 * x.measuredRails.length

/-- The codes that a measurement gives for one port, `n` codes per port. -/
def portCodes (ports : List Nat) (n : Nat) (codes : List Int) (p : Nat) : List Int :=
  match ports.findIdx? (· == p) with
  | some i => (codes.drop (n * i)).take n
  | none => []

/-- The pre-emphasis code of a flight time in 0.1 ns (12 Table 12-2, item 6). -/
def preemphCode (t1 : Int) : Nat := min 15 (roundDivN t1.toNat 50)

/-- An item's candidates set by the codes of its measurement. -/
def takeCodes (item : Nat) (ports rails : List Nat) (codes : List Int) (t : TrimSet) : TrimSet :=
  let c := codes.headD 0
  let onPorts (n : Nat) (f : List Int → PortTrim → PortTrim) : TrimSet :=
    { t with ports := t.ports.zipIdx.map fun (q, p) => if ports.contains p then f (portCodes ports n codes p) q else q }
  match item with
  | 0 => { t with analog := { t.analog with bandgap := c.toNat } }
  | 1 => { t with analog := { t.analog with meterOffset := c } }
  | 2 => { t with analog := { t.analog with meterGain := c.toNat } }
  | 3 => { t with analog := { t.analog with core := c } }
  | 4 => { t with analog := { t.analog with diode := (List.range 6).map fun i => codes.getD i 0 } }
  | 5 => onPorts 1 fun v q => { q with swing := (v.headD 0).toNat % 64 }
  | 6 => onPorts 1 fun v q => { q with preemph := preemphCode (v.headD 0) }
  | 7 => onPorts 1 fun v q => { q with term := (v.headD 0).toNat % 32 }
  | 8 => onPorts 5 fun v q => { q with skew := (List.range 5).map fun i => (v.getD i 0).toNat % 32 }
  | _ => { t with analog := { t.analog with shunt := (List.range 4).map fun r => match rails.findIdx? (· == r) with | some i => (codes.getD i 0).toNat | none => t.analog.shunt.getD r 0x8000 } }

/-! ## Plausibility (12 R298, Table 12-4) -/

/-- Within a range, and unless WIDE within a change of the last good value. -/
def plausible (wide : Bool) (lo hi : Int) (change : Nat) (good v : Int) : Bool :=
  decide (lo ≤ v) && decide (v ≤ hi) && (wide || decide ((v - good).natAbs ≤ change))

/-- Whether a port passes a port item; item 8 by its lanes CK, D0, D1, LT and Q in this order. -/
def portPasses (item : Nat) (wide : Bool) (good : PortTrim) (codes : List Int) : Bool :=
  let v := codes.headD 0
  match item with
  | 5 => plausible wide 20 40 4 good.swing v
  | 6 => decide (0 ≤ v) && decide (v ≤ 750)
  | 7 => plausible wide 6 26 3 good.term v
  | _ =>
    let out := codes.take 4
    ((List.range 5).all fun i => plausible wide 2 30 4 (good.skew.getD i 16 : Nat) (codes.getD i 0)) &&
      (out.all fun a => out.all fun b => decide ((a - b).natAbs ≤ 16))

/-- Whether an item's measurement passes against the last good set. -/
def itemPasses (item : Nat) (wide : Bool) (good : TrimSet) (ports rails : List Nat) (codes : List Int) : Bool :=
  let a := good.analog
  let v := codes.headD 0
  match item with
  | 0 => plausible wide 384 640 16 a.bandgap v
  | 1 => plausible wide (-1024) 1024 64 a.meterOffset v
  | 2 => plausible wide 1638 2458 64 a.meterGain v
  | 3 => plausible wide (-25) 25 10 a.core v
  | 4 => (List.range 6).all fun i => plausible wide (-32) 32 8 (a.diode.getD i 0) (codes.getD i 0)
  | 9 => rails.zipIdx.all fun (r, i) => plausible wide 29491 36045 655 (a.shunt.getD r 0x8000 : Nat) (codes.getD i 0)
  | _ => ports.all fun p => portPasses item wide (good.ports.getD p {}) (portCodes ports (if item = 8 then 5 else 1) codes p)

/-- The first port that fails a port item. -/
def failingPort (item : Nat) (wide : Bool) (good : TrimSet) (ports : List Nat) (codes : List Int) : Option Nat :=
  if isPortItem item then
    ports.find? fun p => !portPasses item wide (good.ports.getD p {}) (portCodes ports (if item = 8 then 5 else 1) codes p)
  else none

/-- An item's end: candidates, status 2, 3 or 4, and the first failure (12 Table 12-5). -/
def CalRun.finishItem (x : CalRun) (good : TrimSet) (item : Nat) (codes : List Int) : CalRun :=
  let ports := x.measured
  let none_ := (isPortItem item && ports.isEmpty) || (item = 9 && x.measuredRails.isEmpty)
  if none_ then { x with status := setAt x.status item 4 }
  else
    let pass := itemPasses item x.wide good ports x.measuredRails codes
    let first := !pass && x.firstFail = 0xFF
    let port := failingPort item x.wide good ports codes
    { x with
      cand := takeCodes item ports x.measuredRails codes x.cand
      status := setAt x.status item (if pass then 2 else 3)
      firstFail := if first then item else x.firstFail
      failedPort := if x.failedPort = 0xFF then port.getD 0xFF else x.failedPort }

/-- The results of CALIBRATE (12 R301). -/
def CalRun.results (x : CalRun) : List Byte :=
  x.status.flatMap u8 ++ u8 x.firstFail ++ u8 x.failedPort ++ ube 6 x.leftOut ++ u16 0 ++ trimBytes x.cand

/-! ## Commit (12 R299) -/

/-- A set comes into force: the analogue codes at once, the port codes at each port's next gap (09 R244); and `kept` is written
to the flash as the new last good set. -/
def applyTrimSet (t kept : TrimSet) (s : State) : State :=
  let stamp (x : TrimSet) : TrimSet := { x with analog := { x.analog with setTime := nowSeconds s } }
  let s1 := (List.range 48).foldl (fun u p => stageTrim p (fun _ => t.ports.getD p {}) u) { s with trim.inForce := (stamp t).analog }
  enqueueFlash { type := 2, key := 0, data := trimBytes (stamp kept), use := .trims, op := none } s1

/-- The set in force with the candidates of the items, ports and rails that were measured. -/
def mergeTrims (items ports rails : Nat) (new old : TrimSet) : TrimSet :=
  let a := new.analog
  let b := old.analog
  let pick {α : Type} (i : Nat) (x y : α) : α := if bitN items i then x else y
  { analog := { bandgap := pick 0 a.bandgap b.bandgap, meterOffset := pick 1 a.meterOffset b.meterOffset, meterGain := pick 2 a.meterGain b.meterGain, core := pick 3 a.core b.core, diode := pick 4 a.diode b.diode, shunt := (List.range 4).map fun r => if bitN items 9 && bitN rails r then a.shunt.getD r 0x8000 else b.shunt.getD r 0x8000, setTime := b.setTime }
    ports := old.ports.zipIdx.map fun (q, p) =>
      let c := new.ports.getD p {}
      if bitN ports p then { swing := pick 5 c.swing q.swing, preemph := pick 6 c.preemph q.preemph, term := pick 7 c.term q.term, skew := pick 8 c.skew q.skew } else q }

/-- The trims unit commits: its parameters are those of the CALIBRATE with the mask of the ports measured. Where an item was not
requested, the value in force stays in force, and the last good set keeps its own: a value that the host has written does not
become one of it (12 R292, R299). -/
def applyTrims (ps : List Byte) (s : State) : State :=
  match s.trim.latest with
  | some t =>
    let merge := mergeTrims (be ps 2 2) (be ps 4 6) (getB ps 10) t
    applyTrimSet (merge ⟨s.trim.inForce, s.chain.ports.map (·.coming)⟩) (merge (lastGood s)) s
  | none => s

/-! ## CALIBRATE (12 R297) -/

/-- A CALIBRATE runs or holds staged values. -/
def calibrating (s : State) : Bool := s.trim.run.isSome || (allStaged s).any fun u => u.ref.kind == .trims

/-- The ports of a mask that do not drive, as a mask. -/
def notDriving (s : State) (ports : Nat) : Nat :=
  (List.range 48).foldl (fun a p => if bitN ports p && !(getPort s p).driving then a + 2 ^ p else a) 0

/-- The run of a request. -/
def calRunOf (r : Req) (s : State) : CalRun :=
  let items := prm r 2 2
  { src := r.src, tag := r.tag, apply := prm r 0 1, wide := bitN (prm r 1 1) 7, items := items, ports := prm r 4 6, rails := prm r 10 1
    item := ((List.range 10).find? fun i => bitN items i).getD 10
    status := (List.range 10).map fun i => b2n (bitN items i)
    leftOut := if (List.range 10).any (fun i => isPortItem i && bitN items i) then notDriving s (prm r 4 6) else 0
    cand := trimsNow s, level := s.power.level.val }

/-- CALIBRATE. -/
def calibrateSpec : OpSpec where
  code := 0x0900
  apply := true
  long := fun _ => true
  domains := fun _ _ => [.meter]
  unusable := fun _ s => blockUnusable s 0x0B10
  check := fun r s => firstFail [lenIs 12 r,
    need (field (prm r 1 1) 6 0 = 0 && field (prm r 2 2) 15 10 = 0 && field (prm r 10 1) 7 4 = 0 &&
      prm r 4 6 < 2 ^ gradePorts s &&
      (List.range 4).all fun k => !bitN (prm r 10 1) k || ((getRail s k).enable && (getRail s k).shunt ≤ 15))]
  run := fun r s =>
    if s.therm.shutdownAt.isSome then (s, .done St.thermalRefused [])
    else if calibrating s then (s, .done St.busy [])
    else ({ s with trim.run := some (calRunOf r s), trim.latest := some (calRunOf r s).cand }, .accepted)

def execCalibrate (r : Req) (s : State) : Host.Outcome State Fault Refusal := .next (runPacket (period s) calibrateSpec r s)

/-- The end of the measurements (12 R299, R300; 02 R67): an item that failed ends the operation with nothing changed;
otherwise the candidates stage, for the next boundary or for COMMIT. -/
def endCalibrate (x : CalRun) (s : State) : State :=
  let s1 := { s with trim.run := none, trim.latest := some x.cand }
  if x.firstFail != 0xFF then
    completeOp x.src x.tag St.plausibilityFail x.results (logAlert 0x09 0x01 (tileTarget s) St.plausibilityFail 0 s1)
  else match findOp x.src x.tag s with
    | none => s1
    | some o =>
      let ps := o.req.params.take 4 ++ ube 6 (x.measured.foldl (fun a p => a + 2 ^ p) 0) ++ o.req.params.drop 10
      let u : StagedUnit := ⟨⟨.trims, 0⟩, 0x0900, o.req.target, ps, 0⟩
      if x.apply = 1 then completeOp x.src x.tag St.deferred x.results (holdUnits x.src [u] s1)
      else queueCommit 0x0900 o.req [u] true (setPartials x.src x.tag x.results s1)

/-- The next requested item after one. -/
def CalRun.nextItem (x : CalRun) : Nat := ((List.range 10).find? fun i => x.item < i && x.wants i).getD 10

/-- The measurements of an item are complete; item 6 brings item 8's with it, whose codes follow its own. -/
def CalRun.complete (x : CalRun) (good : TrimSet) (codes : List Int) : CalRun :=
  let n := x.measured.length
  let x1 := x.finishItem good x.item (if x.item = 6 then codes.take n else codes)
  let x2 := if x.item = 6 && x.wants 8 then x1.finishItem good 8 (codes.drop n) else x1
  let next := x2.nextItem
  { x2 with item := if x.item = 6 && next = 8 then (if x2.wants 9 then 9 else 10) else next, slice := 0 }

/-- Items that have no slice left to run are complete; at most ten follow one another. -/
def CalRun.skip (good : TrimSet) : Nat → CalRun → CalRun
  | 0, x => x
  | n + 1, x => if x.item < 10 && x.slices x.item = 0 then CalRun.skip good n (x.complete good []) else x

/-! ### The pulses of item 9 (12 R295) -/

/-- The pulses of item 9 on a rail: the sum in µA, the scan row, and the channels of each cell as a mask. -/
structure PulseSet where
  sum : Nat := 0
  row : Nat := 0
  cells : List (Nat × Nat × Nat) := []

/-- The channels of one colour without a confirmed fault in a scan row of a cell. -/
def soundMask (s : State) (q : Placed) (row colour : Nat) : Nat :=
  (List.range 16).foldl (fun a i =>
    let t := emitterTarget s q.loop q.cell (48 * row + 3 * i + colour)
    if s.chain.faults.any fun f => f.target == t && f.active && f.confirmed then a else a + 2 ^ (3 * i + colour)) 0

/-- The selections that one cell adds to some, each sum once and none over the limit. -/
def addCell (limit : Rat) (l c mask draw : Nat) (xs : List PulseSet) : List PulseSet :=
  if draw = 0 then xs
  else xs.foldl (fun a x =>
    let n := x.sum + draw
    if decide ((n : Rat) ≤ limit) && !(a.any fun y => y.sum == n) then a ++ [{ x with sum := n, cells := x.cells ++ [(l, c, mask)] }] else a) xs

/-- The whole cells of a row whose currents on a rail add up nearest to a limit without exceeding it; cells whose queue of entries
is full are left out (09 R236). -/
def rowSelection (s : State) (rail row colour : Nat) (limit : Rat) : PulseSet :=
  ((agingCells s).foldl (fun xs (q, _) =>
      let mask := soundMask s q row colour
      match entryRoom s q.loop q.cell with
      | some (_ + 1) => addCell limit q.loop q.cell mask (maskDraw s q.loop q.cell mask rail) xs
      | _ => xs) [{ row := row }]).foldl (fun a b => if a.sum < b.sum then b else a) { row := row }

/-- Half of the effective budget of a rail in µA. -/
def halfBudget (s : State) (rail : Nat) : Rat := effectiveBudget s rail * 5000

/-- The selections of a colour on a rail in each of the 32 scan rows. -/
def colourSelection (s : State) (rail colour : Nat) : List PulseSet := (List.range 32).map fun row => rowSelection s rail row colour (halfBudget s rail)

/-- The colour of a rail whose selection in some row comes nearest to half of the effective budget, with the sum in µA. -/
def pulseColour (s : State) (rail : Nat) : Nat × Nat :=
  (List.range 3).foldl (fun a c =>
    let n := ((colourSelection s rail c).map (·.sum)).foldl max 0
    if a.2 < n then (c, n) else a) (0, 0)

/-- The refresh of the coming slot all of whose dead times lie outside the shutters and have headroom for pulses (12 R295). -/
def calRefresh (s : State) (draw : Nat → Nat) : Option Nat :=
  if presenting s && s.pres.next.isSome then
    (List.range ((comingPlan s).refreshes (targetSlot s).slot)).find? fun k => (List.range 32).all fun row =>
      outsideShutters s (deadTimeAt s k row) && pulsesFit s .calibration (windowOf s k row) draw
  else none

/-- The entries of one dead time: those of its row's selection, with their headroom. Granted pulses count as Twinkle pulses
(10 R263). -/
def sendRowPulses (k rail colour row : Nat) (s : State) : State :=
  (rowSelection s rail row colour (halfBudget s rail)).cells.foldl
    (fun t (l, c, mask) => sendEntry .calibration l c ⟨0, k, row, mask⟩ (maskDraw t l c mask) t) s

/-- The pulses of a rail sent as TWINKLE entries in every dead time of a refresh (12 R295). -/
def sendPulses (k rail colour : Nat) (s : State) : State :=
  (List.range 32).foldl (fun t row => sendRowPulses k rail colour row t) s

/-- Headroom asked for a rail's pulses. -/
def askPulses (rail : Nat) (s : State) : State × Bool :=
  let x := pulseColour s rail
  match calRefresh s fun r => if r = rail then x.2 else 0 with
  | some k => (sendPulses k rail x.1 (noteRefusal ⟨.calibration, Fin.ofNat 4 rail, 0, 0, 0⟩ true s), true)
  | none => (noteRefusal ⟨.calibration, Fin.ofNat 4 rail, 0, 0, 0⟩ false s, false)

/-! ### Slices -/

/-- The run of a state, changed. -/
def modCal (f : CalRun → CalRun) (s : State) : State := { s with trim.run := s.trim.run.map f }

/-- The ports that have stopped driving, and those that the measurement reports, are left out (12 Table 12-7). -/
def CalRun.leaveOut (x : CalRun) (s : State) (m : CalMeasure) : CalRun :=
  if isPortItem x.item then
    { x with leftOut := (List.range 48).foldl (fun a p =>
        if bitN x.ports p && !bitN x.leftOut p && (!(getPort s p).driving || m.leftOut.any fun q => q.val == p) then a + 2 ^ p else a) x.leftOut }
  else x

/-- A slice counted, and the item completed by its last one. -/
def CalRun.advance (x : CalRun) (good : TrimSet) (codes : List Int) : CalRun :=
  if x.slice + 1 < x.slices x.item then { x with slice := x.slice + 1 }
  else CalRun.skip good 10 (x.complete good codes)

/-- The run after a slice, its partial results kept (12 R301), and its end with the last item. -/
def afterSlice (x : CalRun) (s : State) : State :=
  if 10 ≤ x.item then endCalibrate x s
  else setPartials x.src x.tag x.results { s with trim.run := some x, trim.latest := some x.cand }

/-- The port of the coming slice of a port item. -/
def CalRun.slicePort (x : CalRun) : Nat :=
  x.measured.getD (x.slice / (match x.item with | 5 => 4 | 7 => 2 | _ => 16)) 0

/-- CALIBRATION_SLICE of a run: a port item's slices run between the uploads on their port, item 9's pulses outside the
shutters (12 R294, R295); events first (12 Table 12-7), then the measurement. -/
def calSlice (x : CalRun) (m : CalMeasure) (s : State) : State :=
  let good := lastGood s
  let x1 := x.leaveOut s m
  if blockUnusable s 0x0B10 then stopCalibration St.blockUnusable s
  else if s.ledger.refuseWork then s
  else if 10 ≤ x.item then endCalibrate x s
  else if x1.slices x1.item = 0 then afterSlice (CalRun.skip good 10 x1) s
  else if isPortItem x1.item && !portGap s 20000 x1.slicePort then s
  else if x1.item = 9 && !shutterFree s then s
  else if x.item = 3 && x.level != s.power.level.val then
    afterSlice ({ x1 with slice := 0, level := s.power.level.val }.advance good m.codes) s
  else if x.item = 9 && x.slice % 2 = 0 then
    let a := askPulses (x.measuredRails.getD (x.slice / 2) 0) s
    if a.2 then afterSlice (CalRun.advance { x1 with refusedSince := none } good m.codes) a.1
    else match (a.1.trim.run.bind (·.refusedSince)) with
      | some t => if t + 10000000000 ≤ nowNs s then stopCalibration St.budgetRefused a.1 else a.1
      | none => a.1
  else afterSlice ((if x.item = 3 then x1 else { x1 with level := s.power.level.val }).advance good m.codes) s

/-- CALIBRATION_SLICE. -/
def execCalibrationSlice (m : CalMeasure) (s : State) : Host.Outcome State Fault Refusal :=
  .next (match s.trim.run with
    | some x => if s.fw.running && meterOn s then calSlice x m s else s
    | none => s)

/-! ## TRIM_READ (12 R302) -/

def trimReadSpec : OpSpec where
  code := 0x0901
  check := fun r s => firstFail [lenIs 4 r, need (prm r 0 1 ≤ 3 && (prm r 0 1 != 3 || s.trim.latest.isSome))]
  run := fun r s => (s, .done St.ok (trimBytes (match prm r 0 1 with
    | 0 => trimsNow s
    | 1 => lastGood s
    | 2 => fuseSet s
    | _ => s.trim.latest.getD {})))

def execTrimRead (r : Req) (s : State) : Host.Outcome State Fault Refusal := .next (runPacket (period s) trimReadSpec r s)

/-! ## Boot (12 R304) -/

/-- Trims loaded after POR: the fuse defaults, then the last good set. -/
def loadTrims (s : State) : State :=
  let t := lastGood s
  { s with
    trim.inForce := t.analog
    chain.ports := s.chain.ports.zipIdx.map fun (q, p) => { q with trim := t.ports.getD p {}, nextTrim := none } }

/-- The boot calibration's run: items 0 to 8 on every port of the grade. -/
def bootRun (s : State) : CalRun :=
  { src := .host, tag := 0, apply := 0, wide := false, items := 0x1FF, ports := 2 ^ gradePorts s - 1, rails := 0
    status := (List.range 10).map fun i => b2n (i < 9), cand := trimsNow s, level := s.power.level.val }

/-- The ports at whose hop 1 no cell answers (12 R304). -/
def silentPorts (s : State) : List Nat :=
  (List.range 48).filter fun p => (readHop (getPlant s (portLoop p)) (portSide p) 1).isNone

/-- One item of the boot calibration: the ports that it leaves out keep their values. -/
def bootItem (good : TrimSet) (silent : List Nat) (x : CalRun) (item : Nat) (m : CalMeasure) : CalRun :=
  let out := ((m.leftOut.map (·.val)) ++ (if item = 6 || item = 8 then silent else [])).foldl (fun a p => if bitN a p then a else a + 2 ^ p) 0
  { (CalRun.finishItem { x with leftOut := out } good item m.codes) with leftOut := 0 }

/-- The boot calibration on its measurements, item 0 first: one candidate set that commits at once; a failure keeps the
loaded set and asserts ALERT_N. -/
def bootCalibrate (ms : List CalMeasure) (s : State) : State :=
  let good := lastGood s
  let x := (ms.take 9).zipIdx.foldl (fun x (m, i) => bootItem good (silentPorts s) x i m) (bootRun s)
  if x.firstFail = 0xFF then applyTrimSet x.cand x.cand s
  else raiseAlert 0x09 0x01 (tileTarget s) St.plausibilityFail 0 false s

end Sys2Proof.Machine
end

