-- ==== Sys2Proof/Machine/Registers.lean ====
section
/-! DEFINITION. The host window (00 R10, R11; 02 R39 to R45, R56, R71): the status word, the registers that the spec
maps, their access codes, and the host-port transactions that reach them; REG_READ and REG_WRITE (18 R400). -/

namespace Sys2Proof.Machine

/-! ## The status word (02 Table 2-3) -/

/-- POWER (02 Table 2-3; 16 R363 to R369). -/
def powerCode (s : State) : Nat :=
  match s.power.mode with
  | .enteringTwilight => 1
  | .twilight => 2
  | .enteringNadir | .nadir => 3
  | .waking | .wakeFailed | .leavingTwilight => 4
  | _ => 0

/-- UNUSABLE: a block is marked, presentation is frozen, or a wake has failed (02 Table 2-3, 16 R369). -/
def unusableBit (s : State) : Bool := anyUnusable s || s.fw.frozen || s.power.mode == .wakeFailed

/-- SAFE reports the light pair; an unused pair reads run (15 R343). -/
def safeCode (s : State) : Nat :=
  match s.safety.light.state with
  | .run | .unused => 0
  | .demand => 1
  | .lockout => 2
  | .interlock => 3

def statusWord (s : State) : Word :=
  BitVec.ofNat 32 (b2n s.host.busy * 2 ^ 31 + b2n s.host.done * 2 ^ 30 + b2n s.host.error * 2 ^ 29 + b2n (alertBit s) * 2 ^ 28 +
    b2n s.host.gated * 2 ^ 27 + b2n (partialBit s) * 2 ^ 26 + thermNow s * 2 ^ 24 + safeCode s * 2 ^ 22 + b2n (magBit s) * 2 ^ 21 +
    servoCode s.time.servo * 2 ^ 19 + b2n (healBit s) * 2 ^ 18 + b2n (unusableBit s) * 2 ^ 17 + b2n s.host.wake * 2 ^ 16 +
    s.host.lastTag.toNat * 2 ^ 8 + powerCode s * 2 ^ 5 + s.power.level.val * 2 ^ 3 + s.host.seq.toNat)

/-- HIRQ_N is low while DONE, ALERT or WAKE is set (02 R43). -/
def hirqNLow (s : State) : Bool := s.host.done || alertBit s || s.host.wake

/-! ## The registers -/

/-- The registers of the host window that the spec maps. -/
inductive Reg where
  | policy
  | portConfig (p : NetPort)
  | servoGains
  | inputLimit
  | portTrim (p : Nat)
  | portSkew (p : Nat)
  | check (u off : Nat)
  | plevel (k : Nat)
  | votes (v : Nat)
deriving DecidableEq, Repr

/-- The register at a window address, none outside the map. -/
def regAt (a : Nat) : Option Reg :=
  if a % 4 ≠ 0 then none
  else if a = 0x000104 then some .policy
  else if a = 0x010000 then some (.portConfig .A)
  else if a = 0x010004 then some (.portConfig .B)
  else if a = 0x010100 then some .servoGains
  else if a = 0x050000 then some .inputLimit
  else if 0x070000 ≤ a && a < 0x070180 then
    (if a % 8 = 0 then some (.portTrim ((a - 0x070000) / 8)) else some (.portSkew ((a - 0x070000) / 8)))
  else if 0x0B0000 ≤ a && a < 0x0B0100 && a % 64 ≤ 0x2C then some (.check ((a - 0x0B0000) / 64) (a % 64))
  else if 0x0D0020 ≤ a && a < 0x0D0030 then some (.plevel ((a - 0x0D0020) / 4))
  else if 0x0D0100 ≤ a && a < 0x0D0118 then some (.votes ((a - 0x0D0100) / 4))
  else none

/-- The domain that holds a register. -/
def regDomain : Reg → Domain
  | .portTrim p | .portSkew p => .scan (portGroup p)
  | .inputLimit => .meter
  | _ => .always

/-- A register whose block is powered off, isolated or marked unusable (02 R71, 14 R322). -/
def regGated (s : State) (x : Reg) : Bool :=
  !domainOn s (regDomain x) || (match x with
    | .portTrim p | .portSkew p => gradePorts s ≤ p
    | .check u _ => checkGated s u
    | _ => false)

/-- The value of COMMAND_POLICY (02 Table 2-7). -/
def policyWord (p : Policy) : Nat :=
  p.wakeAllow * 2 ^ 16 + p.maxGap * 2 ^ 8 + b2n p.aliveHost * 8 + b2n p.aliveNet * 4 + b2n p.authHost * 2 + b2n p.authNet

/-- The value of a PORT_CONFIG (03 Table 3-1). -/
def portConfigWord (x : PortState) : Nat :=
  x.vlan * 2 ^ 20 + x.pcp * 2 ^ 17 + b2n x.snoop * 2 ^ 12 + x.fec * 2 ^ 10 + x.mode * 2 ^ 8 + b2n x.link

/-- LIMITING (07 Table 7-5): the performance level stands below the ceiling, and the limit asks for one below it. -/
def levelLimited (s : State) : Bool := s.power.ceiling.val < s.ledger.inputLevel && s.power.ceiling.val < s.power.level.val

/-- The registers as they read. -/
def regValue (s : State) : Reg → Nat
  | .policy => policyWord s.cmd.policy
  | .portConfig p => portConfigWord (getNet s p)
  | .servoGains => s.time.alpha * 2 ^ 16 + s.time.beta
  | .inputLimit => b2n (levelLimited s) * 2 ^ 31 + s.ledger.limit
  | .portTrim p => b2n (getPort s p).driving * 2 ^ 31 + trimWord (getPort s p).coming
  | .portSkew p => skewWord (getPort s p).coming
  | .check u off => (getCheck s u).reg off
  | .plevel k => s.fuse.vcoreCode.getD k 0 % 256 * 2 ^ 16 + s.fuse.bias.getD k 0 % 64 * 2 ^ 6 + s.fuse.assist.getD k 0 % 64
  | .votes v => voterMask s v

/-! ## Writes (00 Table 0-4) -/

/-- COMMAND_POLICY: each field in range takes its value (02 R56, 00 R10). -/
def writePolicy (v : Nat) (p : Policy) : Policy :=
  { wakeAllow := field v 19 16
    maxGap := if 2 ≤ field v 15 8 && field v 15 8 ≤ 127 then field v 15 8 else p.maxGap
    aliveHost := bitN v 3
    aliveNet := bitN v 2
    authHost := bitN v 1
    authNet := bitN v 0 }

/-- Whether a write reaches COMMAND_POLICY (02 R56). -/
def policyOpen (s : State) (byRegWrite auth : Bool) : Bool := byRegWrite && (auth || s.cmd.sessionKey.isNone)

/-- A port's block is marked unusable (13 Table 13-3). -/
def portBlockLost (s : State) : NetPort → Bool
  | .A => blockUnusable s 0x0700
  | .B => blockUnusable s 0x0701

/-- PORT_CONFIG: a write to MODE or FEC restarts the link (03 R75). A word that leaves both as they are is not taken as a write to
them (DEDUCED: the word also carries VLAN_ID, PCP and SNOOP, which R75 does not name; notes/assumptions/34.md). -/
def writePortConfig (p : NetPort) (v : Nat) (s : State) : State :=
  let old := getNet s p
  let fec := if field v 11 10 = 3 then old.fec else field v 11 10
  let mode := if field v 9 8 = 3 then old.mode else field v 9 8
  let s1 := if fec != old.fec || mode != old.mode then linkDown p s else s
  setNet p (fun x => { x with vlan := field v 31 20, pcp := field v 19 17, snoop := bitN v 12, fec := fec, mode := mode })
    { s1 with flash.recordDue := true }

/-- A check unit's register. -/
def writeCheckReg (u off v : Nat) (s : State) : State :=
  let now := nowNs s
  let f (c : CheckUnit) : CheckUnit :=
    match off with
    | 0x00 => c.writeCtrl v
    | 0x04 => c.writePoly v
    | 0x08 => c.writeInit v
    | 0x0C => c.writeXor v
    | 0x10 => c.writeValue v
    | 0x18 => c.feed now 1 (v % 2 ^ 8)
    | 0x1C => c.feed now 2 (v % 2 ^ 16)
    | 0x20 => c.feed now 4 v
    | 0x24 => c.writeAliveCtrl v
    | 0x28 => c.aliveFeed (v % 2 ^ 8)
    | _ => c
  modCheck u f s

/-- A register written; `byRegWrite` and `auth` tell how, for COMMAND_POLICY. -/
def writeReg (x : Reg) (byRegWrite auth : Bool) (v : Nat) (s : State) : State :=
  match x with
  | .policy => if policyOpen s byRegWrite auth then { s with cmd.policy := writePolicy v s.cmd.policy } else s
  | .portConfig p => writePortConfig p v s
  | .servoGains => { s with time.alpha := v / 2 ^ 16 % 2 ^ 16, time.beta := v % 2 ^ 16 }
  | .inputLimit =>
    { s with ledger.limit := if 50 ≤ v % 2 ^ 16 && v % 2 ^ 16 ≤ 600 then v % 2 ^ 16 else s.ledger.limit }
  | .portTrim p => stageTrim p (trimOfWord (BitVec.ofNat 32 v)) s
  | .portSkew p => stageTrim p (skewOfWord (BitVec.ofNat 32 v)) s
  | .check u off => writeCheckReg u off v s
  | .plevel _ => s
  | .votes _ => s

/-- A word of a window write: dropped outside the map, and with GATED in a gated block (02 R71). -/
def windowWord (a v : Nat) (byRegWrite auth : Bool) (s : State) : State :=
  match regAt a with
  | none => s
  | some x => if regGated s x then { s with host.gated := true } else writeReg x byRegWrite auth v s

/-- A register write on its own: the window of a device that serves it. -/
def execRegisterWrite (addr : Nat) (v : Word) (s : State) : Host.Outcome State Fault Refusal :=
  .next (if windowServed s then windowWord addr v.toNat false false s else s)

def execCommandPolicyWrite (byRegWrite auth : Bool) (v : Word) (s : State) : Host.Outcome State Fault Refusal :=
  .next (if windowServed s then writeReg .policy byRegWrite auth v.toNat s else s)

def execPortConfigWrite (p : NetPort) (v : Word) (s : State) : Host.Outcome State Fault Refusal :=
  .next (if windowServed s then writeReg (.portConfig p) false false v.toNat s else s)

/-- A port gains or loses block lock (03 R75); a port that is disabled or lost gains none. -/
def execPortLinkChange (p : NetPort) (up : Bool) (s : State) : Host.Outcome State Fault Refusal :=
  .next (if !domainOn s .always || s.power.refinLost then s
    else if !up then linkDown p s
    else if (getNet s p).link || (getNet s p).mode = 0 || portBlockLost s p then s
    else logAlert 0x01 0x04 (tileTarget s) 0 (linkDetail p + 1) (clearAlertDetail 0x01 0x04 (linkDetail p) (setNet p (fun x => { x with link := true }) s)))

/-! ## Host-port transactions (02 R39 to R45) -/

/-- How the host port is served. -/
inductive HostService where
  | full
  /-- Nightwatch serves the status word (02 R45, 16 R369). -/
  | nightwatch
  /-- Only the wake receiver of HCS_N works: in NADIR, with VHOST wired to V3P3 (20 R446). -/
  | asleep
  /-- No supply, or the outputs are quiet. -/
  | none
deriving DecidableEq, Repr

def hostService (s : State) : HostService :=
  if domainOn s .always then .full
  else match s.power.mode with
    | .nadir | .waking | .wakeFailed => if s.fuse.vhost33 then .asleep else .nightwatch
    | _ => .none

/-- The start of a transaction: the edge of HCS_N is a wake event, and the snapshot of the status word is shifted out,
which clears GATED (02 R39, R45). -/
def beginTransaction (s : State) : State :=
  let s1 := wakeBy .hostPort s
  { s1 with host.shiftedStatus := statusWord s1, host.shifted := [], host.gated := false }

/-- The end of a transaction: ERROR tells whether it had a fault (02 R41). -/
def endTransaction (fault : Bool) (s : State) : State := { s with host.error := fault }

/-- STATUS, and any instruction that 02 Table 2-2 lacks, which sets ERROR (02 R41). The five of the table that have a data
phase are rows of their own. -/
def execStatus (code : BitVec 8) (s : State) : Host.Outcome State Fault Refusal :=
  .next (match hostService s with
    | .none => s
    | .asleep => wakeBy .hostPort s
    | _ => endTransaction (!([0x00, 0x02, 0x03, 0x40, 0x41].contains (code.toNat % 128))) (beginTransaction s))

/-- The words of a burst written from an address upward; past 0xFF_FFFC the address goes on from 0 (DESIGN CHOICE: the spec
does not say what follows; notes/assumptions/33.md). -/
def windowWords (a : Nat) (ws : List Word) (s : State) : State :=
  (ws.zipIdx).foldl (fun t (w, i) => windowWord ((a + 4 * i) % 2 ^ 24) w.toNat false false t) s

def execWindowWrite (_quad : Bool) (addr : BitVec 24) (words : List Word) (s : State) : Host.Outcome State Fault Refusal :=
  .next (match hostService s with
    | .none => s
    | .asleep => wakeBy .hostPort s
    | .nightwatch => endTransaction (addr.toNat % 4 != 0) (beginTransaction s)
    | .full =>
      let s1 := beginTransaction s
      if addr.toNat % 4 != 0 then endTransaction true s1 else endTransaction false (windowWords addr.toNat words s1))

/-- A word of a window read: 0 outside the map, and 0 with GATED in a gated block (02 R71). -/
def readWord (a : Nat) (s : State) : State :=
  match regAt a with
  | none => { s with host.shifted := s.host.shifted ++ u32 0 }
  | some x =>
    if regGated s x then { s with host.shifted := s.host.shifted ++ u32 0, host.gated := true }
    else { s with host.shifted := s.host.shifted ++ u32 (regValue s x) }

def execWindowRead (_quad : Bool) (addr : BitVec 24) (count : Nat) (s : State) : Host.Outcome State Fault Refusal :=
  .next (match hostService s with
    | .none => s
    | .asleep => wakeBy .hostPort s
    | .nightwatch =>
      let s1 := beginTransaction s
      if addr.toNat % 4 != 0 then endTransaction true s1
      else endTransaction false { s1 with host.shifted := zeros (4 * count), host.gated := s1.host.gated || count != 0 }
    | .full =>
      let s1 := beginTransaction s
      if addr.toNat % 4 != 0 then endTransaction true s1
      else endTransaction false ((List.range count).foldl (fun t i => readWord ((addr.toNat + 4 * i) % 2 ^ 24) t) s1))

/-- REPLY_READ: bytes past the reply's end read as 0; reading the last byte clears DONE (02 R42, Table 2-2). -/
def execReplyRead (_quad : Bool) (offset : BitVec 24) (count : Nat) (s : State) : Host.Outcome State Fault Refusal :=
  .next (match hostService s with
    | .none => s
    | .asleep => wakeBy .hostPort s
    | .nightwatch => endTransaction false (beginTransaction s)
    | .full =>
      let s1 := beginTransaction s
      let n := s1.host.reply.length
      endTransaction false { s1 with
        host.shifted := padTo count (slice s1.host.reply offset.toNat count)
        host.done := s1.host.done && !(offset.toNat < n && n ≤ offset.toNat + count) })

/-! ## REG_READ and REG_WRITE (18 R400) -/

/-- The addresses that a REG_READ or REG_WRITE names. -/
def regAddrs (r : Req) : List Nat := (List.range (prm r 4 2)).map fun i => prm r 0 4 + 4 * i

/-- BAD_PARAM unless every address lies in the window's map. -/
def regAddrsOk (r : Req) (most : Nat) : Nat :=
  need (prm r 0 4 < 2 ^ 24 && 1 ≤ prm r 4 2 && prm r 4 2 ≤ most && (regAddrs r).all fun a => (regAt a).isSome)

def regDomains (r : Req) : List Domain := ((regAddrs r).filterMap regAt).map regDomain

/-- A check unit that is marked unusable. -/
def regUnusable (r : Req) (s : State) : Bool :=
  ((regAddrs r).filterMap regAt).any fun x => match x with | .check u _ => checkGated s u | _ => false

def regReadSpec : OpSpec where
  code := 0x0008
  domains := fun r _ => regDomains r
  unusable := regUnusable
  check := fun r _ => firstFail [lenIs 8 r, regAddrsOk r 2048]
  run := fun r s => (s, .done St.ok (((regAddrs r).filterMap regAt).flatMap fun x => u32 (regValue s x)))

def execRegRead (r : Req) (s : State) : Host.Outcome State Fault Refusal := .next (runPacket (period s) regReadSpec r s)

def regWriteSpec : OpSpec where
  code := 0x0009
  domains := fun r _ => regDomains r
  unusable := regUnusable
  check := fun r _ => firstFail [lenIs (8 + 4 * prm r 4 2) r, regAddrsOk r 2046]
  run := fun r s =>
    ((((regAddrs r).filterMap regAt).zipIdx).foldl (fun t (x, i) => writeReg x true r.auth (prm r (8 + 4 * i) 4) t) s, .done St.ok [])

def execRegWrite (r : Req) (s : State) : Host.Outcome State Fault Refusal := .next (runPacket (period s) regWriteSpec r s)

end Sys2Proof.Machine
end

