-- ==== Sys2Proof/Machine/System.lean ====
section
/-! DEFINITION. The system opcodes (18 R400 to R413; 02 R62 to R68): NOP, IDENTIFY, QUERY, FETCH_PARTIAL, ABORT, RESET,
COMMIT, ALERT_READ, KEY_PROVISION and telemetry, with the expiry of results and held changes. -/

namespace Sys2Proof.Machine

/-! ## NOP and IDENTIFY -/

def nopSpec : OpSpec where
  code := 0x0000
  check := fun r _ => lenIs 0 r
  run := fun _ s => (s, .done St.ok [])

def execNop (r : Req) (s : State) : Host.Outcome State Fault Refusal := .next (runPacket (period s) nopSpec r s)

/-- IDENTIFY's results (18 Table 18-3). -/
def identifyBytes (s : State) : List Byte :=
  u16 (gradeCode s) ++ u8 s.fuse.siliconRev ++
    u8 (128 * b2n (restricted s) + 64 * b2n s.fuse.commissioned + 32 * b2n s.cmd.sessionKey.isSome +
      16 * b2n s.fw.probation.isSome + 8 * b2n (flashRestricted s)) ++
    u8 s.fw.major ++ u8 s.fw.minor ++ u16 s.fw.patch ++ ube 6 s.fuse.mac ++ u16 0 ++ u64 s.fuse.serial ++ u16 (screenNo s) ++
    u16 (tileNo s) ++ u32 (ownIp s)

def identifySpec : OpSpec where
  code := 0x0001
  check := fun r _ => lenIs 0 r
  run := fun _ s => (s, .done St.ok (identifyBytes s))

def execIdentify (r : Req) (s : State) : Host.Outcome State Fault Refusal := .next (runPacket (period s) identifySpec r s)

/-! ## QUERY and FETCH_PARTIAL (02 R63, R64) -/

/-- Whether the parameters name an operation that is held for the source. -/
def tagHeld (r : Req) (s : State) : Nat := need (findOp r.src (prm r 0 2) s).isSome

/-- The progress of an operation: of one that waits for data, the share of its blocks that is held (18 Table 18-14). -/
def progressOf (o : LongOp) : Nat :=
  match o.bulk with
  | some b => 1000 * ((List.range (blockCount b.length)).filter fun k => b.blocks.any fun x => x.1 == k).length / max 1 (blockCount b.length)
  | none => o.progress

/-- QUERY's results (02 Table 2-11). -/
def queryBytes (o : LongOp) : List Byte :=
  let res := if o.state = 1 then (if 8192 < o.results.length then summary o.results else o.results) else []
  u8 o.state ++ u8 0 ++ u16 (if o.state = 1 || o.state = 2 then o.final else St.accepted) ++ u16 (progressOf o) ++
    u16 res.length ++ res

def querySpec : OpSpec where
  code := 0x0002
  check := fun r s => firstFail [lenIs 4 r, tagHeld r s]
  run := fun r s => match findOp r.src (prm r 0 2) s with
    | some o => (s, .done St.ok (queryBytes o))
    | none => (s, .done St.badParam [])

def execQuery (r : Req) (s : State) : Host.Outcome State Fault Refusal := .next (runPacket (period s) querySpec r s)

/-- Whether an operation has ended. -/
def opEnded (o : LongOp) : Bool := !opLive o

/-- The bytes from which FETCH_PARTIAL reads: partial results of a running operation, final ones of a complete one. -/
def fetchable (o : LongOp) : List Byte := if opEnded o then o.results else o.partials

def fetchPartialSpec : OpSpec where
  code := 0x0003
  check := fun r s => firstFail [lenIs 8 r, tagHeld r s,
    (match findOp r.src (prm r 0 2) s with
      | some o => need (!opEnded o || prm r 4 4 ≤ (fetchable o).length)
      | none => St.badParam)]
  run := fun r s => match findOp r.src (prm r 0 2) s with
    | some o =>
      let part := slice (fetchable o) (prm r 4 4) 8192
      (modOp r.src (prm r 0 2) (fun o => { o with fetched := max o.fetched (prm r 4 4 + part.length) }) s,
        .done (if opEnded o then St.ok else St.partialResults) part)
    | none => (s, .done St.badParam [])

def execFetchPartial (r : Req) (s : State) : Host.Outcome State Fault Refusal := .next (runPacket (period s) fetchPartialSpec r s)

/-- Whether a completed operation's 60 s are over (02 R63). -/
def resultsOld (s : State) (o : LongOp) : Bool := opEnded o && o.doneAt + 60000000000 ≤ nowNs s

/-- RESULTS_EXPIRY. -/
def execResultsExpiry (s : State) : Host.Outcome State Fault Refusal :=
  .next { s with cmd.longOps := s.cmd.longOps.filter fun o => !resultsOld s o }

/-! ## ABORT (02 R65) -/

/-- Staged changes that will not commit, and that nothing holds any longer: cells whose shadows hold them go back to their live
configuration (09 R238), and a buffer that only they named is deallocated if its release is pending (04 R109). -/
def discardUnits (us : List StagedUnit) (s : State) : State :=
  sweepReleased (us.foldl (fun t u => if u.ref.kind == .cell then discardCell (u.ref.index / 100) (u.ref.index % 100) t else t) s)

/-- What an operation has staged and not committed, and its places in the Ephemeris and among the waiting, removed. -/
def unstageOp (src : Source) (tag : Nat) (s : State) : State :=
  let s1 := (s.cmd.ephemeris.filter fun e => e.req.src == src && e.req.tag == tag).foldl (fun t e => removeEntry e t) s
  let mine (j : CommitJob) : Bool := j.req.src == src && j.req.tag == tag
  let units := (s1.cmd.committing.filter mine).flatMap (·.units)
  discardUnits units { s1 with
    cmd.committing := s1.cmd.committing.filter fun j => !mine j
    cmd.waiting := s1.cmd.waiting.filter fun w => !(w.req.src == src && w.req.tag == tag) }

/-- The buffer that an operation fills. -/
def fillOf (src : Source) (tag : Nat) (s : State) : Option Buffer :=
  s.layers.buffers.find? fun b => b.state == .filling && b.opSrc == src && b.opTag == tag && b.filler != .stream && b.filler != .none

/-- The flash writes of an operation: a queued one is dropped, one at work is left torn. -/
def stopFlash (src : Source) (tag : Nat) (s : State) : State :=
  let mine (w : FlashWrite) : Bool := w.op == some (src, tag)
  let s1 := match s.flash.queue with
    | w :: _ => if mine w && w.begun then tearFront s else s
    | [] => s
  beginFlash { s1 with flash.queue := s1.flash.queue.filter fun w => !mine w }

/-- The fill, the write-backs and the flash writes of an operation stop. -/
def stopTransfers (src : Source) (tag : Nat) (s : State) : State :=
  let s1 := match fillOf src tag s with | some b => freeBuf b.handle s | none => s
  stopFlash src tag { s1 with layers.writeback := s1.layers.writeback.filter fun w => !(w.src == src && w.tag == tag) }

/-- The work of a running operation stopped (02 R65), by its opcode; its safe point is reached at once
(notes/assumptions/24.md). -/
def stopWork (o : LongOp) (s : State) : State :=
  let src := o.req.src
  let tag := o.req.tag
  let s2 := stopTransfers src tag s
  match o.code with
  | 0x0400 => match s2.almanac.loading with
    | some x => if x.src == src && x.tag == tag then modBank x.bank (fun b => { b with state := 0 }) { s2 with almanac.loading := none } else s2
    | none => s2
  | 0x0406 => match s2.almanac.recast with
    | some x => if x.op == some (src, tag) then modBank x.bank (fun b => { b with state := 0 }) { s2 with almanac.recast := none } else s2
    | none => s2
  | 0x0900 => { s2 with trim.run := s2.trim.run.filter fun x => !(x.src == src && x.tag == tag) }
  | 0x0A01 | 0x0A03 => { s2 with bist.ops := s2.bist.ops.filter fun x => !(x.src == src && x.tag == tag) }
  | 0x0B01 => (List.range 4).foldl (fun t u => match (getCheck t u).run with
      | some x => if x.src == src && x.tag == tag then abortCheckRun u x t else t
      | none => t) s2
  | 0x0C01 => match s2.safety.pending with
    | some c => if c.src == src && c.tag == tag then { s2 with safety := { s2.safety with pending := none } } else s2
    | none => s2
  | 0x0E02 => setSlot (otherSlot s2) .empty { s2 with flash.staged := false }
  | _ => s2

/-- ABORT of a live operation: it stops; a power change runs to its end, and the reply waits for it. -/
def abortOp (r : Req) (o : LongOp) (s : State) : State × Ans :=
  if o.code = 0x0D01 && o.state = 0 then (modOp r.src o.req.tag (fun x => { x with abortOwed := some r }) s, .later)
  else
    let s1 := unstageOp o.req.src o.req.tag (if o.state = 0 then stopWork o s else s)
    (endAborted o.req.src o.req.tag s1, .done St.ok [])

def abortSpec : OpSpec where
  code := 0x0004
  check := fun r s => firstFail [lenIs 4 r, tagHeld r s]
  run := fun r s => match findOp r.src (prm r 0 2) s with
    | some o => if opLive o then abortOp r o s else (s, .done o.final [])
    | none => (s, .done St.badParam [])

def execAbort (r : Req) (s : State) : Host.Outcome State Fault Refusal := .next (runPacket (period s) abortSpec r s)

/-! ## RESET (18 R400, 16 R373) -/

/-- RESET: the reply goes first, and the reset follows 1 ms later. -/
def resetSpec : OpSpec where
  code := 0x0005
  sched := true
  check := fun r _ => firstFail [lenIs 4 r, need (prm r 0 1 ≤ 1)]
  run := fun r s =>
    (if prm r 0 1 = 0 then { s with fw.resetCold := some (nowNs s + 1000000) } else { s with fw.resetWarm := some (nowNs s + 1000000) },
      .done St.ok [])

def execResetCold (r : Req) (s : State) : Host.Outcome State Fault Refusal := .next (runPacket (period s) resetSpec (withByte r 0 0) s)
def execResetWarm (r : Req) (s : State) : Host.Outcome State Fault Refusal := .next (runPacket (period s) resetSpec (withByte r 0 1) s)

/-! ## COMMIT (02 R68) -/

/-- COMMIT: OK without held changes; else the held changes commit at the next frame boundary and the reply waits. -/
def commitSpec : OpSpec where
  code := 0x0006
  sched := true
  check := fun r _ => lenIs 0 r
  run := fun r s =>
    if s.cmd.held.any fun h => h.src == r.src then (queueCommit 0x0006 r [] false s, .later) else (s, .done St.ok [])

def execCommit (r : Req) (s : State) : Host.Outcome State Fault Refusal := .next (runPacket (period s) commitSpec r s)

/-- Whether a source's held changes have waited 10 s, with no scheduled COMMIT of it in the Ephemeris. -/
def heldOver (s : State) (src : Source) : Bool :=
  ((s.cmd.held.filter fun h => h.src == src).all fun h => h.at_ + 10000000000 ≤ nowNs s) &&
    !(s.cmd.ephemeris.any fun e => e.code == 0x0006 && e.req.src == src) &&
    !(s.cmd.committing.any fun j => j.code == 0x0006 && j.req.src == src)

/-- HELD_CHANGES_DISCARD (02 R68): one alert for each source. -/
def discardHeld (s : State) : State :=
  let srcs := ((s.cmd.held.map (·.src)).eraseDups).filter (heldOver s)
  srcs.foldl (fun t src =>
    let mine := t.cmd.held.filter fun h => h.src == src
    logAlert 0x00 0x03 (tileTarget t) 0 mine.length
      (discardUnits (mine.map (·.unit)) { t with cmd.held := t.cmd.held.filter fun h => h.src != src })) s

def execHeldChangesDiscard (s : State) : Host.Outcome State Fault Refusal := .next (if s.fw.running then discardHeld s else s)

/-! ## ALERT_READ (18 R406) -/

/-- Whether ALERT_READ may return an entry: an unread one, or with ACTIVE_ONLY an active one. -/
def alertWanted (activeOnly : Bool) (a : Alert) : Bool := if activeOnly then a.active else !a.read

/-- The indices of the entries that ALERT_READ returns, oldest first. -/
def alertPick (activeOnly : Bool) (most : Nat) (l : List Alert) : List Nat :=
  ((l.zipIdx.filter fun x => alertWanted activeOnly x.1).map (·.2)).take most

/-- The record after the entries have been returned. -/
def markRead (ids : List Nat) (ack : Bool) (l : List Alert) : List Alert :=
  l.zipIdx.map fun (a, i) => if ids.contains i then { a with read := true, acked := a.acked || ack } else a

def alertReadSpec : OpSpec where
  code := 0x000A
  check := fun r _ => firstFail [lenIs 4 r, need (1 ≤ prm r 0 2 && prm r 0 2 ≤ 340 && field (prm r 2 1) 5 0 = 0)]
  run := fun r s =>
    let ids := alertPick (bitN (prm r 2 1) 6) (prm r 0 2) s.cmd.alerts
    let after := markRead ids (bitN (prm r 2 1) 7) s.cmd.alerts
    ({ s with cmd.alerts := after },
      .done St.ok (u16 ids.length ++ u16 (unread after) ++ zeros 4 ++ (ids.filterMap fun i => after[i]?).flatMap alertBytes))

def execAlertRead (r : Req) (s : State) : Host.Outcome State Fault Refusal := .next (runPacket (period s) alertReadSpec r s)

/-! ## KEY_PROVISION (18 R407) -/

/-- The key that the parameters wrap, none where the tag fails or the nonce has been accepted before. -/
def unwrapKey (r : Req) (s : State) : Option (List Byte) :=
  let nonce := slice r.params 4 12
  if s.cmd.nonces.contains nonce then none
  else gcmOpen s.fuse.transportKey nonce (r.params.take 4 ++ u64 s.fuse.serial) (slice r.params 16 32) (slice r.params 48 16)

/-- A key installed: a session command key clears the source table. -/
def installKey (r : Req) (key : List Byte) (s : State) : State :=
  let s1 := { s with cmd.nonces := (slice r.params 4 12 :: s.cmd.nonces).take 64 }
  if prm r 0 1 = 0 then { s1 with cmd.sessionKey := some key, cmd.sources := [] }
  else
    let at_ := (prm r 1 1, prm r 2 1)
    { s1 with cmd.streamKeys := s1.cmd.streamKeys.filter (fun x => x.1 != at_) ++ [(at_, key)] }

def keyProvisionSpec : OpSpec where
  code := 0x000C
  broadcastOk := false
  check := fun r _ => firstFail [lenIs 64 r,
    need (prm r 0 1 ≤ 1 && (if prm r 0 1 = 1 then prm r 1 1 ≤ 7 && prm r 2 1 ≤ 1 else prm r 1 1 = 0 && prm r 2 1 = 0))]
  run := fun r s => match unwrapKey r s with
    | some key => (installKey r key s, .done St.ok [])
    | none => (s, .done St.authFail [])

def execKeyProvision (r : Req) (s : State) : Host.Outcome State Fault Refusal := .next (runPacket (period s) keyProvisionSpec r s)

/-! ## Telemetry (18 R413, 17 R393) -/

/-- The staging status of a telemetry configuration. -/
def telemetryStatus (ps : List Byte) : Nat :=
  need (field (getB ps 1) 6 0 = 0 && 100 ≤ be ps 4 4 && be ps 4 4 ≤ 3600000)

/-- A telemetry configuration commits: the first datagram comes an interval later. -/
def applyTelemetry (ps : List Byte) (s : State) : State :=
  let t := s.cmd.telemetry
  { s with cmd.telemetry := { t with enable := bitN (getB ps 1) 7, interval := be ps 4 4, destIp := be ps 8 4, destPort := be ps 12 2, nextAt := nowNs s + be ps 4 4 * 1000000 } }

def telemetryConfigSpec : OpSpec where
  code := 0x0F00
  sched := true
  apply := true
  check := fun r _ => firstFail [lenIs 16 r, telemetryStatus r.params]
  units := fun r _ => [(⟨.telemetry, 0⟩, telemetryStatus r.params)]

def execTelemetryConfig (r : Req) (s : State) : Host.Outcome State Fault Refusal := .next (runPacket (period s) telemetryConfigSpec r s)

/-- Seconds since the last POR. -/
def uptime (s : State) : Nat := (((nowNs s : Int) - s.power.upFrom) / 1000000000).toNat

/-- The telemetry record (18 Table 18-13). -/
def telemetryBytes (s : State) : List Byte :=
  let trains := (s.chain.ports.map (·.missingTrains)).foldl (· + ·) 0
  u32 (statusWord s).toNat ++ u32 s.time.frame ++ u32 (uptime s) ++ sbe 2 (tcode s.therm.die) ++ u16 (hottestCode s) ++
    u16 (satN 0xFFFF s.ledger.vinCurrent) ++ u16 (satN 0xFFFF s.ledger.vinVoltage) ++ (s.ledger.rails.flatMap fun x => u16 x.m) ++
    u32 (satN 0xFFFFFFFF s.layers.occulted) ++ u32 (ingestDrops s) ++ u32 s.cmd.dropped ++ u32 (lateComposites s) ++
    u32 (eclipseFills s) ++ u32 (satN 0xFFFFFFFF s.almanac.abandoned) ++ u32 (satN 0xFFFFFFFF trains) ++
    u16 s.cmd.alertsDropped ++ u16 0 ++ u32 s.dram.corrected

def telemetryReadSpec : OpSpec where
  code := 0x0F01
  check := fun r _ => lenIs 0 r
  run := fun _ s => (s, .done St.ok (telemetryBytes s))

def execTelemetryRead (r : Req) (s : State) : Host.Outcome State Fault Refusal := .next (runPacket (period s) telemetryReadSpec r s)

/-- The key that authenticates telemetry datagrams: the session key, when AUTH_NET is set. -/
def telemetryKey (s : State) : Option (List Byte) := if s.cmd.policy.authNet then s.cmd.sessionKey else none

/-- A telemetry datagram, with the count of datagrams as its alive counter; the intervals that have passed besides are
counted and not queued. -/
def sendTelemetry (s : State) : State :=
  let t := s.cmd.telemetry
  let step := t.interval * 1000000
  let missed := (nowNs s - t.nextAt) / step
  sendUdp t.destIp t.destPort 49411 (replyBytes (telemetryKey s) true (t.count + 1) 0x0F01 0 (responder s 0) St.ok (telemetryBytes s))
    { s with cmd.telemetry := { t with count := t.count + 1, skipped := satN 0xFFFFFFFF (t.skipped + missed), nextAt := t.nextAt + (missed + 1) * step } }

/-- TELEMETRY_SEND: at each interval, while firmware runs. -/
def execTelemetrySend (s : State) : Host.Outcome State Fault Refusal :=
  .next (if s.fw.running && domainOn s .always && s.cmd.telemetry.enable && s.cmd.telemetry.destIp != 0 && s.cmd.telemetry.nextAt ≤ nowNs s then
      sendTelemetry s
    else s)

end Sys2Proof.Machine
end

