-- ==== Sys2Proof/Machine/Record.lean ====
section
/-! DEFINITION. The whole tile configuration record (17 R386, R387; 16 Table 16-15): the committed settings that it keeps,
and their return from it. Its layout is the model's (notes/assumptions/22.md). -/

namespace Sys2Proof.Machine

/-! ## Writing -/

/-- An entry of the record. -/
def recordEntry (code target : Nat) (ps : List Byte) : List Byte := u16 code ++ u64 target ++ u16 ps.length ++ ps

/-- The place of a loop in an entry's target. -/
def recordPlace (l : Nat) : Nat := l * 2 ^ 27

/-- A rail's record as BUDGET_SET states it (07 Table 7-1). -/
def railRecord (k : Nat) (r : Rail) : List Byte :=
  u8 k ++ u8 (128 * b2n r.enable) ++ u16 r.budget ++ u16 r.attack ++ u16 r.release ++ u8 r.theta ++ u8 r.shunt ++
    u16 r.resistance ++ u16 r.stagger ++ u16 0

/-- BUDGET_SET of all rails and the map. -/
def budgetParams (s : State) : List Byte :=
  u8 0 ++ u8 4 ++ u8 128 ++ u8 0 ++ (s.ledger.rails.zipIdx.flatMap fun (r, k) => railRecord k r) ++ s.ledger.map.flatMap u8

/-- AMBIENT_SET in force (07 R188). -/
def ambientParams (a : Ambient) : List Byte :=
  u8 a.mode ++ u8 a.address ++ u16 a.gain ++ padTo 32 (a.curve.flatMap fun p => u16 p.1 ++ u16 p.2)

/-- A sensor record (11 Table 11-7). -/
def sensorParams (c : SensorCfg) : List Byte :=
  u8 c.input ++ u8 (128 * b2n c.enable) ++ u8 c.col ++ u8 c.row ++ u32 c.nominal ++ u32 c.pullUp ++ u16 c.beta ++ u16 0

/-- THERMAL_CONFIG in force (11 Table 11-6). -/
def thermalParams (d : ThermalDesc) : List Byte :=
  u8 0 ++ u8 (128 * b2n d.bypass) ++ u8 d.sensors.length ++ u8 0 ++ d.die.flatMap (sbe 2) ++ sbe 2 d.dieHyst ++
    d.led.flatMap (sbe 2) ++ sbe 2 d.ledHyst ++ u16 d.u0 ++ u16 d.g ++ u16 d.uMin ++ u16 d.fall ++ u16 d.rise ++ u16 d.theta ++
    u16 d.tau ++ u16 d.thetaHs ++ sbe 2 d.ambient ++ u16 d.idle ++ zeros 8 ++ d.sensors.flatMap sensorParams

/-- A cell's committed configuration as CELL_CONFIG states it (09 Table 9-12). -/
def cellParams (x : CellCommitted) : List Byte :=
  let p := x.place.getD (0, 0, false)
  u8 0 ++ u8 (128 * b2n x.hasCurrent + 64 * b2n x.place.isSome + 32 * b2n x.outEn) ++ u16 0 ++ u16 x.red ++ u16 x.green ++
    u16 x.blue ++ u8 p.1 ++ u8 p.2.1 ++ u8 (b2n p.2.2) ++ zeros 3

/-- MERIDIAN_SET in force on a loop (10 R255). -/
def meridianParams (l : LoopState) : List Byte :=
  u8 0 ++ u8 (64 * b2n l.autoRestore) ++ u8 (l.configured.getD 0xFF) ++ u8 0 ++ u16 l.restoreInterval ++ u16 0

/-- A subscription as STREAM_SUBSCRIBE states it (18 Table 18-10). -/
def streamParams (h : Nat) (x : Stream) : List Byte :=
  let path (p : Path) : List Byte := u32 p.group ++ u32 p.source ++ u16 p.port ++ u16 0
  u8 0 ++ u8 (b2n x.native) ++ u8 (128 * b2n x.pathA.used + 64 * b2n x.pathB.used + 32 * b2n x.sealed + 16 * b2n x.fullRange) ++
    u8 x.payloadType ++ u8 x.sampling ++ u8 x.colorimetry ++ u8 x.transfer ++ u8 0 ++ u16 x.width ++ u16 x.height ++
    u32 x.streamId ++ path x.pathA ++ path x.pathB ++ u8 h ++ u8 x.ring.length ++ u16 x.cropX ++ u16 x.cropY ++ u16 x.cropW ++
    u16 x.cropH ++ padTo 8 (x.ring.flatMap u16) ++ u8 x.lossTimeout ++ u8 x.returnCount

/-- BIST_CONFIG in force (13 Table 13-2). -/
def bistParams (b : BistState) : List Byte :=
  u8 0 ++ u8 (128 * b2n b.enable) ++ u16 b.period ++ u8 b.excluded.length ++ zeros 3 ++ b.excluded.flatMap u16

/-- A port's register as a REG_WRITE states it. -/
def portParams (addr : Nat) (x : PortState) : List Byte := u32 addr ++ u16 1 ++ u16 0 ++ u32 (portConfigWord x)

/-- The entries of the record. -/
def recordBody (s : State) : List Byte :=
  recordEntry 0x0500 0 (budgetParams s) ++ recordEntry 0x0502 0 (ambientParams s.ledger.ambient) ++
    recordEntry 0x0800 0 (thermalParams s.therm.desc) ++
    (s.chain.loops.zipIdx.flatMap fun (l, k) => recordEntry 0x0702 (recordPlace k) (meridianParams l) ++
      recordEntry 0x0703 (recordPlace k) (l.config.flatMap fun c => u8 c.1 ++ cellParams c.2)) ++
    (s.layers.streams.zipIdx.flatMap fun (x, h) => match x with
      | some st => recordEntry 0x0200 0 (streamParams h st)
      | none => []) ++
    recordEntry 0x0009 0 (portParams 0x010000 s.net.portA) ++ recordEntry 0x0009 0 (portParams 0x010004 s.net.portB) ++
    recordEntry 0x0A00 0 (bistParams s.bist) ++ recordEntry 0xFFFE 0 (u16 s.i2c.kilohertz) ++
    ((List.range 24).flatMap fun l => recordEntry 0xFFFF (recordPlace l) ((loopSerials s l).flatMap fun x => u8 x.1.2 ++ ube 6 x.2))

/-- The whole record; none without an identity. -/
def recordBytes (s : State) : Option (List Byte) :=
  s.net.identity.map fun x => identityBytes s x ++ u16 (gradeCode s) ++ u16 s.chain.width ++ u16 s.chain.height ++ recordBody s

/-- The whole record queued for writing once a setting of it has changed (17 R386). -/
def flushRecord (s : State) : State :=
  if s.flash.recordDue && s.fw.running then
    match recordBytes s with
    | some d => enqueueFlash { type := 1, key := 1, data := d, use := .config, op := none } { s with flash.recordDue := false }
    | none => s
  else s

/-! ## Reading -/

/-- Whether a stream's parameters are within what the spec allows; its ring's buffers may be missing. -/
def storedStreamOk (ps : List Byte) : Bool := ps.length = 60 && networkPartOk ps && bindingFieldsOk ps

/-- The cells of a loop's entry, each its number and its parameters. -/
def storedCells (ps : List Byte) : List (Nat × List Byte) := (chunks 17 ps).map fun c => (getB c 0, c.drop 1)

/-- Whether a cell's parameters are in range for a raster. -/
def storedCellOk (w h : Nat) (ps : List Byte) : Bool :=
  (!cfgSetCurrent ps || (currentOk (be ps 4 2) && currentOk (be ps 6 2) && currentOk (be ps 8 2))) &&
    (!cfgSetPlace ps || (getB ps 12 ≤ 1 && getB ps 10 ≤ 127 && getB ps 11 ≤ 63 && placeInside w h (getB ps 10) (getB ps 11)))

/-- Whether an entry's settings may take effect. -/
def entryFits (s : State) (e : Nat × Nat × List Byte) : Bool :=
  match e.1 with
  | 0x0500 => ((railRecords e.2.2).all fun x => railStatus e.2.2 x.1 x.2 s == St.ok) &&
      (!budgetHasMap e.2.2 || railMapStatus e.2.2 s == St.ok)
  | 0x0502 => ambientSetSpec.check { src := .host, tag := 0, auth := false, alive := false, replyReq := false, broadcast := false, sched := none, target := 0, params := e.2.2 } s == St.ok
  | 0x0800 => thermalStatus e.2.2 s == St.ok
  | 0x0703 => (storedCells e.2.2).all fun c => storedCellOk s.chain.width s.chain.height c.2
  | 0x0200 => storedStreamOk e.2.2
  | 0x0A00 => bistStatus e.2.2 s == St.ok
  | _ => true

/-- Whether every entry's settings may take effect. -/
def recordFits (d : List Byte) (s : State) : Bool := (recordEntries d d.length 22).all (entryFits s)

/-- A subscription taken from the record in place of the one that its handle holds. -/
def restoreStream (ps : List Byte) (s : State) : State := applyStream ps (dropStream (streamHandle ps) s)

/-- The settings of one entry take effect at the boundary of frame `n`. -/
def applyEntry (n : Nat) (e : Nat × Nat × List Byte) (s : State) : State :=
  let ps := e.2.2
  if !entryFits s e then s
  else match e.1 with
    | 0x0500 =>
      let s1 := (railRecords ps).foldl (fun t x => applyRail ps x.1 t) s
      if budgetHasMap ps then applyRailMap ps s1 else s1
    | 0x0502 => setAmbient ps s
    | 0x0800 => applyThermal ps s
    | 0x0702 => applyMeridian ps (field e.2.1 31 27) s
    | 0x0703 => (storedCells ps).foldl (fun t c => applyCell c.2 (field e.2.1 31 27) c.1 n t) s
    | 0x0200 => restoreStream ps s
    | 0x0009 => writePortConfig (if be ps 0 4 = 0x010000 then .A else .B) (be ps 8 4) s
    | 0x0A00 => applyBist ps s
    | 0xFFFE => { s with i2c.kilohertz := be ps 0 2 }
    | _ => s

/-- A whole record takes effect: identity, raster, then each entry. -/
def applyRecord (n : Nat) (d : List Byte) (s : State) : State :=
  let s1 := applyRaster (be d 18 2) (be d 20 2) (setIdentity d { s with chain.recordSerials := recordSerials d })
  (recordEntries d d.length 22).foldl (fun t e => applyEntry n e t) s1

end Sys2Proof.Machine
end

