-- ==== Sys2Proof/Machine/Units.lean ====
section
/-! DEFINITION. Every opcode's row, and the units of committed configuration: how each is checked again at the commit
boundary and how it takes effect (02 R66 to R70; 18 Table 18-1, R402). -/

namespace Sys2Proof.Machine

/-- The rows of 18 Table 18-1. -/
def opTable : List OpSpec :=
  [nopSpec, identifySpec, querySpec, fetchPartialSpec, abortSpec, resetSpec, commitSpec, regReadSpec, regWriteSpec,
    alertReadSpec, keyProvisionSpec] ++
  [timeConfigSpec, timeStatusSpec, scheduleListSpec, scheduleCancelSpec, snapshotSpec, streamSubscribeSpec, streamDropSpec] ++
  [bufferAllocSpec, bufferReleaseSpec, bufferWriteSpec, layerSetSpec, layerClearSpec, backgroundSetSpec, writebackSpec,
    bufferStatusSpec, scalerCoeffLoadSpec, scalerStatusSpec] ++
  [almanacLoadSpec, almanacSwapSpec, almanacVerifySpec, colourSpaceSetSpec, binTableLoadSpec, agingReadSpec, agingRecastSpec] ++
  [budgetSetSpec, ledgerReadSpec, ambientSetSpec, programSetSpec, programStatusSpec, camsyncConfigSpec, freezeSpec, blankSpec] ++
  [chainEnumerateSpec, chainStatusSpec, meridianSetSpec, cellConfigSpec, faultMapReadSpec, diagRunSpec, twinkleConfigSpec,
    rasterSetSpec] ++
  [thermalConfigSpec, thermalReadSpec, calibrateSpec, trimReadSpec, bistConfigSpec, bistRunSpec, bistReportSpec,
    blockRestoreSpec] ++
  [checkConfigSpec, checkRunSpec, checkContextReadSpec, checkContextWriteSpec, safetyStatusSpec, safetyConfigSpec, safeOffSpec] ++
  [powerVoteSpec, powerStateSpec, plevelSetSpec, wakeRecordReadSpec, nvmReadSpec, nvmWriteSpec, imageStageSpec,
    imageActivateSpec, journalStatusSpec, telemetryConfigSpec, telemetryReadSpec]

/-- The row of an opcode. -/
def specOf (code : Nat) : Option OpSpec := opTable.find? fun o => o.code == code

/-! ## Applying a unit -/

/-- A unit takes effect at the boundary of frame `n`. -/
def applyPlain (n : Nat) (u : StagedUnit) (s : State) : State :=
  let ps := u.params
  let k := u.ref.index
  match u.ref.kind with
  | .time => applyTime ps s
  | .telemetry => applyTelemetry ps s
  | .stream => applyStream ps s
  | .layer => if u.code = 0x0206 then clearLayer k s else applyLayer ps k s
  | .background => applyBackground ps k s
  | .scaler => applyCoeffs ps k s
  | .almanac => applySwap ps s
  | .colourSpace => applySpace ps s
  | .binTables => applyBinTables ps s
  | .rail => applyRail ps k s
  | .railMap => applyRailMap ps s
  | .program => applyProgram ps s
  | .camsync => applySyncOf ps k s
  | .meridian => applyMeridian ps k s
  | .cell => applyCell ps (k / 100) (k % 100) n s
  | .twinkle => applyTwinkle ps s
  | .raster => extendAges (applyRaster (be ps 2 2) (be ps 4 2) s)
  | .thermal => applyThermal ps s
  | .trims => applyTrims ps s
  | .bist => applyBist ps s
  | .record => applyRecord n ps s

/-- The settings that the tile configuration record keeps (17 R386, 16 Table 16-15). -/
def inRecord : UnitKind → Bool
  | .stream | .rail | .railMap | .meridian | .cell | .raster | .thermal | .bist => true
  | _ => false

/-! ## The check at the boundary (02 R69) -/

/-- A request that stages the unit, as its check sees it. -/
def unitReq (u : StagedUnit) : Req :=
  { src := .host, tag := 0, auth := false, alive := false, replyReq := false, broadcast := false, sched := none, target := u.target, params := u.params }

/-- The state against which the units of an operation are judged: the raster, layers, scaler sets, rails and programs are
those that result from it. -/
def judgeState (n : Nat) (us : List StagedUnit) (s : State) : State :=
  (us.filter fun u => [UnitKind.raster, .layer, .scaler, .rail, .railMap, .program].contains u.ref.kind).foldl (fun t u => applyPlain n u t) s

/-- The layers of an operation (05 R148). -/
def layersOf (us : List StagedUnit) : List Nat := (us.filter fun u => u.ref.kind == .layer).map (·.ref.index)

/-- The status of a unit of an operation against the state in force. A cell that its loop no longer holds fails; a LAYER_CLEAR does
not. -/
def unitStatus (us : List StagedUnit) (s : State) (u : StagedUnit) : Nat :=
  match u.ref.kind with
  | .layer => match if u.code = 0x0205 then (layerDescs u.params).find? (·.1 == u.ref.index) else none with
    | some x => layerStatus s u.params (layersOf us) x.1 x.2
    | none => St.ok
  | .scaler => coeffStatus u.params (layersOf us) u.ref.index s
  | .record => need (recordOk u.params s && recordFits u.params s)
  | .trims => St.ok
  | .cell => if u.ref.index % 100 < loopCells s (u.ref.index / 100) then
      cellUnitStatus u.target u.params (u.ref.index / 100) (u.ref.index % 100) s
    else St.blockUnusable
  | _ => match specOf u.code with
    | some o => (((o.units (unitReq u) s).find? fun x => x.1 == u.ref).map (·.2)).getD St.ok
    | none => St.ok

/-- Whether an operation has a unit of a kind. -/
def hasKind (us : List StagedUnit) (ks : List UnitKind) : Bool := us.any fun u => ks.contains u.ref.kind

/-- The checks that judge the resulting configuration as a whole, in the order of 02 R69. -/
def wholeStatus (us : List StagedUnit) (t : State) : Nat :=
  if hasKind us [.layer] && !zDistinct t then St.badParam
  else if hasKind us [.layer, .scaler] && !scalersShared t then St.busy
  else if !spaceAgrees t then St.badParam
  else if hasKind us [.cell, .raster] && !originsDistinct t then St.badParam
  else need (!hasKind us [.cell, .raster, .almanac] || (placementsInside t && bankFitsRaster t))

end Sys2Proof.Machine
end

