-- ==== Sys2Proof/Machine/Commit.lean ====
section
/-! DEFINITION. What executes at a frame boundary: the commits that wait and the scheduled entries that are due (02 R66 to
R70; 03 R97 to R101). -/

namespace Sys2Proof.Machine

/-! ## Committing a set of units (02 R66, R69, R70) -/

/-- The outcome of a set of units: the state, the status and the results. -/
structure CommitResult where
  state : State
  status : Nat
  results : List Byte := []

/-- The record is due once a unit that it keeps has committed (17 R386). -/
def noteRecord (us : List StagedUnit) (s : State) : State :=
  { s with flash.recordDue := s.flash.recordDue || us.any fun u => inRecord u.ref.kind }

/-- A set of units that does not commit: nothing of it stays. -/
def refuseUnits (us : List StagedUnit) (sts : List Nat) (s : State) : CommitResult :=
  ⟨discardUnits us s, St.notCommitted, notCommittedResults sts⟩

/-- The final status of a set that commits: the warning of the boundary's check, which judges the configuration that results
(05 R145). -/
def warningOf (sts : List Nat) : Nat := if sts.contains St.tapsReduced then St.tapsReduced else St.ok

/-- The units of layers and scalers. -/
def scalerUnits (us : List StagedUnit) : List StagedUnit := us.filter fun u => u.ref.kind == .layer || u.ref.kind == .scaler

/-- The changes of layers and scalers that commit later at the same boundary, as a set at it sees them: those that stand in the
configuration that results from all of them together (05 R145; DESIGN CHOICE on one that will itself be refused,
notes/assumptions/37.md). -/
def laterUnits (n : Nat) (us later : List StagedUnit) (s : State) : List StagedUnit :=
  let both := scalerUnits later
  let t := judgeState n (us ++ both) s
  both.filter fun u => !failed (unitStatus both t u)

/-- A set of units at the boundary of frame `n`, where the units `later` commit after it: each checked again, then the configuration
as a whole, then all take effect. -/
def commitUnits (n : Nat) (us later : List StagedUnit) (s : State) : CommitResult :=
  let judged := judgeState n (us ++ laterUnits n us later s) s
  let sts := us.map (unitStatus us judged)
  if sts.any failed then refuseUnits us sts s
  else
    let t := us.foldl (fun t u => applyPlain n u t) s
    let whole := wholeStatus us t
    if whole = St.ok then ⟨noteRecord us (refreshTaps t), warningOf sts, []⟩
    else refuseUnits us (us.map fun _ => whole) s

/-! ## What is due at a boundary (03 R97; 18 R401) -/

/-- A commit that waits, or an entry of the Ephemeris. -/
inductive DueItem where
  | job (j : CommitJob)
  | entry (e : EphEntry)

/-- The order at a boundary: by schedule time, a waiting commit counting from its arrival, then by arrival; a RESET comes
last. -/
def DueItem.rank : DueItem → List Nat
  | .job j => [0, j.arrival, j.arrival]
  | .entry e => [b2n (e.code == 0x0005), e.time, e.arrival]

/-- Whether an entry commits a staged configuration, which needs no firmware (01 R30). -/
def commitsOnly (e : EphEntry) : Bool :=
  e.code == 0x0006 || (match specOf e.code with | some o => o.apply && !o.long e.req | none => false)

/-- Whether the domains of an entry are on. -/
def entryAwake (s : State) (e : EphEntry) : Bool :=
  match specOf e.code with | some o => (asleep o e.req s).isEmpty | none => true

/-- Whether an entry executes at the boundary of frame `n`: it waits past its boundary for a wake or for firmware. -/
def entryRuns (s : State) (n : Nat) (e : EphEntry) : Bool :=
  e.boundary ≤ n && (s.fw.running || commitsOnly e) && entryAwake s e

/-- An entry at a boundary that it reaches and cannot execute at: it waits for firmware, or for its wake. -/
def holdEntry (s : State) (n : Nat) (e : EphEntry) : EphEntry :=
  if n < e.boundary || entryRuns s n e then e
  else { e with state := if !s.fw.running && !commitsOnly e then 3 else 2 }

/-- The items that execute at the boundary of frame `n`, in order. -/
def dueItems (s : State) (n : Nat) : List DueItem :=
  ((s.cmd.committing.map DueItem.job) ++ ((s.cmd.ephemeris.filter (entryRuns s n)).map DueItem.entry)).mergeSort
    fun a b => !listLess b.rank a.rank

/-! ## Executing -/

/-- The changes that a source holds. -/
def heldUnits (src : Source) (s : State) : List StagedUnit := (s.cmd.held.filter fun h => h.src == src).map (·.unit)

/-- A set of units with which the source's held changes leave (02 R68). -/
def takeHeld (src : Source) (s : State) : State := { s with cmd.held := s.cmd.held.filter fun h => h.src != src }

/-- The units that a commit of an opcode concerns: of COMMIT, those that its source holds now. 02 R68 says so of a scheduled
COMMIT; that an unscheduled one, too, takes what was staged between its acceptance and its boundary is a DESIGN CHOICE
(notes/assumptions/28.md). -/
def unitsOf (code : Nat) (src : Source) (us : List StagedUnit) (s : State) : List StagedUnit :=
  if code = 0x0006 then heldUnits src s else us

/-- A commit of an opcode, with its outcome. -/
def commitOf (n code : Nat) (src : Source) (us later : List StagedUnit) (s : State) : CommitResult :=
  commitUnits n (unitsOf code src us s) later (if code = 0x0006 then takeHeld src s else s)

/-- The results that an outcome carries: those of a CALIBRATE are its own (12 R301). -/
def resultsOf (src : Source) (tag : Nat) (c : CommitResult) : List Byte :=
  match findOp src tag c.state with
  | some o => if o.code = 0x0900 && c.results.isEmpty then o.partials else c.results
  | none => c.results

/-- A waiting commit. -/
def runJob (n : Nat) (later : List StagedUnit) (j : CommitJob) (s : State) : State :=
  let c := commitOf n j.code j.req.src j.units later s
  let res := resultsOf j.req.src j.req.tag c
  if j.viaQuery then completeOp j.req.src j.req.tag c.status res c.state else answer j.code j.req c.status res c.state

/-- The record of a scheduled operation at its execution: it notes that it is late, and is made anew where a reset has
lost it. -/
def markEntry (e : EphEntry) (late : Bool) (s : State) : State :=
  let s1 := if late then { s with time.late := inc32 s.time.late } else s
  match findOp e.req.src e.req.tag s1 with
  | some _ => modOp e.req.src e.req.tag (fun o => { o with late := o.late || late }) s1
  | none => addOp { req := e.req, code := e.code, state := 3, long := (match specOf e.code with | some o => o.long e.req | none => false), late := late } s1

/-- The effect of an entry's opcode, with its conditions judged again. -/
def runEntryOp (e : EphEntry) (s : State) : State :=
  match specOf e.code with
  | none => completeOp e.req.src e.req.tag St.badOpcode [] s
  | some o =>
    if o.check e.req s ≠ St.ok then completeOp e.req.src e.req.tag (o.check e.req s) [] s
    else if o.unusable e.req s then completeOp e.req.src e.req.tag St.blockUnusable [] s
    else
      let s1 := modOp e.req.src e.req.tag (fun x => { x with state := 0 }) s
      let x := o.run e.req s1
      conclude o.code e.req true x.2 x.1

/-- A scheduled entry executes at the boundary of frame `n`; it is late where an earlier boundary was meant. -/
def runEntry (n : Nat) (later : List StagedUnit) (e : EphEntry) (s : State) : State :=
  let gone := { s with
    cmd.ephemeris := s.cmd.ephemeris.filter fun x => x.index != e.index
    cmd.waiting := s.cmd.waiting.filter fun w => !(w.req.src == e.req.src && w.req.tag == e.req.tag) }
  let s1 := markEntry e (e.late || e.boundary < n || e.state == 3) gone
  if commitsOnly e then
    let c := commitOf n e.code e.req.src e.units later s1
    let done := completeOp e.req.src e.req.tag c.status c.results c.state
    { done with cmd.held := done.cmd.held.map fun h => if e.code = 0x0006 && h.src == e.req.src then { h with at_ := nowNs s } else h }
  else runEntryOp e s1

def DueItem.run (n : Nat) (later : List StagedUnit) (s : State) : DueItem → State
  | .job j => runJob n later j s
  | .entry e => runEntry n later e s

/-- The units that an item will commit. -/
def DueItem.units (s : State) : DueItem → List StagedUnit
  | .job j => unitsOf j.code j.req.src j.units s
  | .entry e => if commitsOnly e then unitsOf e.code e.req.src e.units s else []

/-- Items in order, each with what commits after it at the same boundary. -/
def runDue (n : Nat) : List DueItem → State → State
  | [], s => s
  | d :: rest, s => runDue n rest (d.run n (rest.flatMap (DueItem.units s)) s)

/-- Everything that is due at the boundary of frame `n`. -/
def executeDue (n : Nat) (s : State) : State :=
  runDue n (dueItems s n) { s with cmd.committing := [], cmd.ephemeris := s.cmd.ephemeris.map (holdEntry s n) }

/-- The snapshots that wait for the boundary (03 R101). -/
def takeSnapshots (n : Nat) (s : State) : State :=
  s.cmd.snapshots.foldl (fun t r => answer 0x0104 r St.ok (snapshotBytes n t) t) { s with cmd.snapshots := [] }

/-! ## Requests whose domains have woken (02 R72) -/

/-- A waiting request whose domains are on runs; a scheduled one now waits for its boundary alone. -/
def runWoken (w : WaitingReq) (s : State) : State :=
  match specOf w.code with
  | none => s
  | some o =>
    if !(asleep o w.req s).isEmpty then s
    else
      let s1 := { s with cmd.waiting := s.cmd.waiting.filter fun x => !(x.req.src == w.req.src && x.req.tag == w.req.tag) }
      match w.entry with
      | some e => { s1 with cmd.ephemeris := s1.cmd.ephemeris.map fun x => if x.index == e.index && x.state == 2 then { x with state := 1 } else x }
      | none => begin_ o w.req true s1

/-- Every waiting request that can run. -/
def runAllWoken (s : State) : State := if s.fw.running then s.cmd.waiting.foldl (fun t w => runWoken w t) s else s

/-- A voted domain of TWILIGHT comes on; with MEM the DRAM leaves self-refresh (16 Table 16-7). -/
def wakeDomain (d : Domain) (s : State) : State :=
  runAllWoken { s with
    power.awake := s.power.awake ++ [d]
    dram.selfRefresh := s.dram.selfRefresh && d != .mem }

/-- DOMAIN_WAKE_COMPLETE. -/
def execDomainWakeComplete (d : Domain) (s : State) : Host.Outcome State Fault Refusal :=
  .next (if s.power.mode == .twilight && domainVoted s d && !domainAbsent s d && !domainOn s d then wakeDomain d s else s)

end Sys2Proof.Machine
end

