-- ==== Sys2Proof/Machine/Boundary.lean ====
section
/-! DEFINITION. The frame boundary (01 R18; 03 R93, R97; 04 R114; 08 R195, R202; 16 R363 to R365): what executes, what each
frame latches, the fades into the sleep states, and the counter's step. -/

namespace Sys2Proof.Machine

/-! ## The latch (04 R114, 08 R195, R200) -/

/-- Whether frame `n` is composed: the tile presents, and the frame is one of those of the upload divisor. -/
def composes (s : State) (n : Nat) : Bool := presenting s && n % max 1 (runningProgram s).divisor == 0

/-- The write-backs that capture frame `n`. -/
def startWritebacks (n : Nat) (s : State) : State :=
  { s with layers.writeback := s.layers.writeback.map fun w => if w.frame.isNone then { w with frame := some n } else w }

/-- The bin tables of the bank in force. -/
def binsInForce (s : State) : List Byte :=
  match bankInUse s with
  | some k => s.dram.mem.bytes (bankBase k + 0x1000) (480 * (getBank s k).bins)
  | none => []

/-- The configuration in force, as frame `n` latches it. -/
def latchedNow (n : Nat) (s : State) : Latched :=
  { frame := n
    prog := runningProgram s
    layers := s.layers.layer
    runs := s.layers.run
    background := s.layers.background
    scalers := s.layers.scaler
    bank := s.almanac.inForce
    banks := s.almanac.banks
    bins := binsInForce s
    space := s.almanac.space
    bypass := s.therm.desc.bypass
    width := s.chain.width
    height := s.chain.height
    cells := s.chain.loops.map (·.config)
    map := s.ledger.map }

/-- The layer latch of frame `n`: the configuration, the layers' buffers and the temperatures of its composites. The first frame
latched opens presentation (08 R203). -/
def latchFrame (n : Nat) (s : State) : State :=
  let s1 := startWritebacks n (latchAll n s)
  let x := latchedNow n s1
  { s1 with
    layers.latched := s1.layers.latched ++ [x]
    pres.next := s1.pres.next.orElse fun _ => some ⟨n, 0, latency s1, choosePhase s1⟩
    therm.latched := s1.therm.latched ++ [(n, s1.therm.zones.map (·.temp))] }

/-- The program that the slots of frame `n` will follow (08 R202). -/
def notePlan (n : Nat) (s : State) : State :=
  if presenting s then { s with pres.plans := s.pres.plans ++ [(n, runningProgram s)] } else s

/-! ## The fades (16 R363, R365) -/

/-- A rail's magnitude falls by its attack rate. -/
def fadeRail (s : State) (r : Rail) : Rail :=
  match r.phase with
  | .off => r
  | _ => { r with m := r.m - perFrame s r.attack }

/-- Whether every rail is dark. -/
def dark (s : State) : Bool := s.ledger.rails.all fun r => r.phase == .off || r.m = 0

/-- Whether the flash work that NADIR waits for is done (16 R365, step 2). -/
def flashDone (s : State) : Bool := s.flash.queue.isEmpty

/-- NADIR is entered: the groups are left, and the domains switched off. -/
def finishNadir (s : State) : State := endNadirEntry (leaveAllGroups s)

/-- The end of an entry to NADIR, once the tile is dark: a checkpoint that is due is written first (17 Table 17-12), and the flash work
ends. -/
def closeNadir (s : State) : State :=
  if flashDone s then (if checkpointDue s && s.therm.shutdownAt.isNone then queueCheckpoint .checkpoint none s else finishNadir s)
  else s

/-- The progress of an entry to TWILIGHT or NADIR at a boundary. -/
def fadeStep (s : State) : State :=
  match s.power.mode with
  | .enteringTwilight =>
    let s1 := modRails (fadeRail s) s
    if dark s1 then endTwilightEntry s1 else s1
  | .enteringNadir =>
    if s.power.fromTwilight then closeNadir s
    else
      let s1 := modRails (fadeRail s) s
      if !dark s1 then s1 else closeNadir (quietPorts (dropRails s1))
  | _ => s

/-- The exit from TWILIGHT (16 R364): the level rises, the domains come on, and every loop is enumerated. -/
def finishTwilight (s : State) : State :=
  if s.power.mode == .leavingTwilight then
    let s1 := { s with power.mode := .run, power.awake := [], dram.selfRefresh := false }
    let s2 := enumerateLoops (List.range (gradeLoops s1)) s1
    finishPowerOp St.ok (runAllWoken (setLevel (targetLevel s2) s2))
  else s

/-! ## The boundary -/

/-- The checkpoint written from outside is reloaded, and the reload logged (17 R387). -/
def reloadCheckpoint (s : State) : State :=
  if s.flash.reload then
    let s1 := { s with flash.reload := false }
    match objectData s1 6 0 with
    | some d => logAlert 0x0E 0x04 (tileTarget s) 0 0 (loadCheckpoint d s1)
    | none => s1
  else s

/-- The frame count of the counter's exact reading (00 R13). -/
def frameNow (s : State) : Nat := s.time.counter * (period s).den / ((period s).num * 2 ^ 48)

/-- A frame count moved by a difference. -/
def moved (d : Int) (n : Nat) : Nat := ((n : Int) + d).toNat

/-- An upload of a renumbered frame. -/
def Sent.renumbered (d : Int) (u : Sent) : Sent :=
  { u with
    id := { u.id with frame := moved d u.id.frame }
    fixed := { u.fixed with frame := moved d u.fixed.frame }
    image := u.image.map fun i => { i with frame := moved d i.frame } }

/-- The sums of a renumbered frame. -/
def FrameSums.renumbered (d : Int) (f : FrameSums) : FrameSums := { f with frame := moved d f.frame }

/-- The images, slots and sums of presentation renumbered. -/
def renumberScan (d : Int) (s : State) : State :=
  let image (i : ViewImage) : ViewImage := { i with frame := moved d i.frame }
  let slot (x : SlotAt) : SlotAt := { x with frame := moved d x.frame }
  { s with
    pres.images := s.pres.images.map image
    pres.presented := s.pres.presented.map (·.map image)
    pres.lastSent := s.pres.lastSent.map (·.map (Sent.renumbered d))
    pres.shown := s.pres.shown.map (Sent.renumbered d)
    pres.held := s.pres.held.map (Sent.renumbered d)
    pres.upload := s.pres.upload.map (Sent.renumbered d)
    pres.position := s.pres.position.map slot
    pres.next := s.pres.next.map slot
    pres.plans := s.pres.plans.map fun x => (moved d x.1, x.2)
    pres.frameStarted := moved d s.pres.frameStarted
    pres.unfreezeAt := s.pres.unfreezeAt.map (moved d)
    ledger.sums := s.ledger.sums.map (FrameSums.renumbered d)
    ledger.latest := s.ledger.latest.map (FrameSums.renumbered d)
    ledger.magnitudes := s.ledger.magnitudes.map fun x => { x with frame := moved d x.frame }
    ledger.grants := s.ledger.grants.map fun g => { g with window := moved (32768 * d) g.window } }

/-- What is in work keeps its place among the boundaries when a step of the counter renumbers them (03 R93): every frame count
that the engine, scan-out and the ledger hold moves with the number of the boundary. -/
def renumber (d : Int) (s : State) : State :=
  let s1 := renumberScan d s
  { s1 with
    layers.latched := s1.layers.latched.map fun c => { c with frame := moved d c.frame }
    layers.buffers := s1.layers.buffers.map fun b => { b with readFrame := moved d b.readFrame, readBefore := moved d b.readBefore }
    layers.writeback := s1.layers.writeback.map fun w => { w with frame := w.frame.map (moved d) }
    therm.latched := s1.therm.latched.map fun x => (moved d x.1, x.2)
    chain.loadAt := s1.chain.loadAt.map (moved d) }

/-- The counter steps (03 R93): frames are numbered by the stepped counter (00 R13), what is in work with them, and the RTC and
the uptime go on as they were. -/
def stepCounter (s : State) : State :=
  match s.time.pendingStep with
  | some d =>
    let before := nowNs s
    let counter := ((s.time.counter : Int) + d).toNat
    let s1 := { s with time.counter := counter, time.pendingStep := none, time.steps := inc32 s.time.steps, time.stamps := [] }
    let s2 := renumber ((frameNow s1 : Int) - (s.time.frame : Int)) s1
    { s2 with
      time.frame := frameNow s1
      power.rtc := rtcNow s
      power.rtcSetAt := nowNs s1
      power.upFrom := s.power.upFrom + ((nowNs s1 : Int) - (before : Int)) }
  | none => s

/-- Every upload ends where it is, and what waited for a gap is sent. -/
def endUploads (s : State) : State :=
  (List.range 48).foldl (fun t p => sendWaiting p t) { s with chain.ports := s.chain.ports.map fun p => { p.ended with prefetched := false } }

/-- The write-backs whose composite is in work are abandoned. -/
def abandonWritebacks (s : State) : State := (s.layers.writeback.filter fun w => w.frame.isSome).foldl (fun t w => abandonWriteback w t) s

/-- What the frames in work have left in the state is forgotten; the next slot is that of the first frame latched from here on. -/
def forgetFrames (s : State) : State :=
  { s with
    layers.latched := []
    layers.buffers := s.layers.buffers.map fun b => { b with readFrame := 0, readBefore := 0 }
    therm.latched := []
    ledger.sums := []
    ledger.magnitudes := []
    ledger.grants := []
    pres.plans := []
    pres.position := none
    pres.next := none
    pres.phase := phaseIn (period s).q (s.pres.phase : Nat)
    pres.upload := none
    pres.armed := false
    pres.launched := false
    pres.started := false
    pres.frameStarted := 0
    pres.unfreezeAt := List.replicate 4 0
    chain.loadAt := s.chain.loadAt.map fun _ => 0 }

/-- What holds frame numbers of the old rate starts anew (08 R203): the composites that have not reached their transit are
discarded with what was captured or summed for them, and the first latch of the new rate loads what the cells wait for. The
chain holds the last image that it showed. -/
def restartFrames (s : State) : State := forgetFrames (abandonWritebacks (endUploads s))

/-- A change of the latency (08 R205): a presentation frame that is to come and has no upload yet shows the composites that the
new latency gives, which repeats or skips frames. -/
def followLatency (before : Nat) (s : State) : State :=
  match s.pres.next with
  | some x =>
    if latency s != before && x.slot = 0 && s.pres.upload.isNone && !s.pres.armed then
      { s with pres.next := some { x with frame := x.frame + x.latency - latency s, latency := latency s } }
    else s
  | none => s

/-- What the boundary of frame `n` executes; a new frame rate renumbers the frames (08 R203). -/
def executeFrame (n : Nat) (s : State) : State :=
  let s1 := takeSnapshots n (executeDue n { s with time.frame := n - 1 })
  if period s1 = period s then { s1 with time.frame := n } else restartFrames s1

/-- The swap of a recast bank at a boundary, a unit of its own (06 R173); it is firmware-run. -/
def swapRecast (s : State) : State := if s.fw.running then recastSwapEffect s else s

/-- The choices that take effect at a boundary: a recast bank, returned blocks, scalers, program and shed layers. -/
def settleFrame (s : State) : State :=
  moveMeridians (applyShedding (chooseProgram (rehomeAll (returnBlocks (reloadCheckpoint (swapRecast s))))))

/-- The boundary of frame `n`. -/
def boundary (n : Nat) (s : State) : State :=
  let s0 := settleFrame (finishTwilight (executeFrame n s))
  let s1 := if period s0 = period s then noteSample s.time.frame n <| notePlan n (followLatency (latency s) s0) else s0
  let s2 := if period s1 = period s && composes s1 n then latchFrame n s1 else s1
  stepCounter (fadeStep (flushRecord (noteDemand s2)))

/-- Whether the counter has passed the next boundary (03 R90). -/
def boundaryDue (s : State) : Bool :=
  domainOn s .always && s.power.mode != .booting && !s.power.refinLost && s.time.frame < frameNow s

/-- RECAST_SWAP (06 R173): at a frame boundary, before what it latches. -/
def execRecastSwap (s : State) : Host.Outcome State Fault Refusal := .next (if boundaryDue s then swapRecast s else s)

/-- FRAME_BOUNDARY. -/
def execFrameBoundary (s : State) : Host.Outcome State Fault Refusal :=
  .next (if boundaryDue s then boundary (frameNow s) s else s)

end Sys2Proof.Machine
end

