-- ==== Sys2Proof/Machine/Reset.lean ====
section
/-! DEFINITION. The resets (16 R373, R374, R376, Tables 16-14 to 16-16; 01 R30; 02 R73; 19 R418 to R423; 13 R317, R318): what
each one loses, and the events that give them. -/

namespace Sys2Proof.Machine

/-! ## POR, BOR, PIN and COLD (16 Table 16-15) -/

/-- The flash after a reset: the entry at work is torn, what was queued is gone. -/
def tornFlash (s : State) : FlashState :=
  { (tearFront s).flash with queue := [], recordDue := false, reload := false, overrun := false, mapChanged := false }

/-- House time after a reset below POR: the counter counts on, never locked (notes/assumptions/25.md). -/
def resetTime (s : State) : TimeState :=
  { counter := s.time.counter, frame := s.time.counter * (periodOfRate 9).den / ((periodOfRate 9).num * 2 ^ 48) }

/-- Nightwatch's part of the power state, which every reset but POR keeps, with the supplies to come up from step 3. -/
def keptPower (s : State) : PowerState :=
  { rtc := s.power.rtc, rtcSetAt := s.power.rtcSetAt, rtcCrystal := s.power.rtcCrystal, crystalChanged := s.power.crystalChanged
    record := s.power.record, history := s.power.history, bootFaults := s.power.bootFaults, nrstLowSince := s.power.nrstLowSince
    nrstIgnored := s.power.nrstIgnored, nrstHighSince := s.power.nrstHighSince, refinLost := s.power.refinLost, vsafeLow := s.power.vsafeLow
    upFrom := s.power.upFrom, porBoot := s.power.porBoot, supplyStep := 3, supplyStepAt := nowNs s }

/-- A bank that was being built is not valid. -/
def bankInWork (s : State) (k : Nat) : Bool :=
  (match s.almanac.loading with | some x => x.bank == k | none => false) ||
    (match s.almanac.recast with | some x => x.bank == k | none => false)

/-- The banks as a PIN or COLD reset leaves them for their verification. -/
def keptBanks (s : State) : List Bank :=
  s.almanac.banks.zipIdx.map fun (b, k) => if bankInWork s k then { b with state := 0 } else b

/-- The banks as a WARM or WDT reset leaves them: one that a load was building is not valid, that of a recast stays building (06
Table 6-6). -/
def lostLoad (s : State) : List Bank :=
  s.almanac.banks.zipIdx.map fun (b, k) => if s.almanac.loading.any fun x => x.bank == k then { b with state := 0 } else b

/-- DRAM after a reset that keeps its contents: the Almanac banks alone are used again (16 R376). -/
def keptDram (s : State) : DramState :=
  { s.dram with mem := (s.dram.mem.clear 0 0x01000000).clear 0x04000000 dramSize, selfRefresh := false }

/-- The causes of FAULT_N from a reset on: the boot, and a lost REFIN. -/
def resetFaults (s : State) : List FaultCause := .notBooted :: (if s.power.refinLost then [.refin] else [])

/-- The state after a BOR, PIN or COLD reset, before its supplies have come up; `dramKept` for PIN and COLD. -/
def coldState (dramKept : Bool) (s : State) : State :=
  { fuse := s.fuse
    fw := { major := s.fw.major, minor := s.fw.minor, patch := s.fw.patch }
    time := resetTime s
    net := { tx := s.net.tx }
    cmd := { nonces := s.cmd.nonces }
    chain := { ports := s.chain.ports.map fun p => { trim := p.trim } }
    plant := quietPlant s
    power := keptPower s
    flash := tornFlash s
    dram := if dramKept then keptDram s else {}
    i2c := { stuck := s.i2c.stuck }
    almanac := { banks := if dramKept then keptBanks s else [{}, {}], last := s.almanac.last }
    trim := { inForce := s.trim.inForce }
    safety := s.safety
    faults := resetFaults s
    pending := s.pending
    freeCount := s.freeCount }

/-- A PIN or COLD reset of the given kind. -/
def coldReset (kind : Nat) (s : State) : State := coldState true (noteReset kind false s)

/-- POR: Nightwatch and the safety block start anew, the flash stays, and the reset history begins with this reset. -/
def porState (s : State) : State :=
  { fuse := s.fuse
    fw := { major := s.fw.major, minor := s.fw.minor, patch := s.fw.patch }
    net := { tx := s.net.tx }
    plant := quietPlant s
    power := { nrstLowSince := s.power.nrstLowSince, refinLost := s.power.refinLost }
    flash := { tornFlash s with torn := 0, missing := 0, lastCheckpoint := 0, scrubbedAt := 0 }
    i2c := { stuck := s.i2c.stuck }
    safety := porSafety s.safety.levels
    faults := resetFaults s
    pending := s.pending
    freeCount := s.freeCount }

/-- POR. -/
def execPor (s : State) : Host.Outcome State Fault Refusal := .next (porState s)

/-! ## WARM and WDT (01 R30, 02 R73) -/

/-- Operations and replies of the command state are lost; the source table itself is kept. An entry that wants a reply and has
neither stored one nor executes is one whose reply was lost. -/
def loseCommands (s : State) : State :=
  let s1 := discardUnits (s.cmd.held.map (·.unit) ++ s.cmd.committing.flatMap (·.units)) s
  { s1 with
    host := { wake := s.host.wake }
    cmd.held := []
    cmd.committing := []
    cmd.longOps := []
    cmd.snapshots := []
    cmd.checkFails := []
    cmd.waiting := s.cmd.waiting.filter fun w => w.entry.isSome
    cmd.sources := s.cmd.sources.map fun e => { e with stored := none, executing := false }
    power.implicit := []
    power.votes := (s.power.votes.set 0 0).set 1 0
    power.op := none }

/-- The work that firmware had in hand is lost: builds, calibration, self-test operations, write-backs and flash writes. A
queued tile configuration record is due again. -/
def loseWork (s : State) : State :=
  let staging := s.flash.queue.any fun w => w.use == .image
  let due := s.flash.recordDue || s.flash.queue.any fun w => w.use == .config
  let s1 := { s with
    flash := { (tearFront s).flash with queue := [], recordDue := due }
    layers.writeback := []
    trim.run := none
    trim.latest := none
    bist.ops := []
    almanac.banks := lostLoad s
    almanac.loading := none
    almanac.recast := none
    almanac.recastAgain := s.almanac.recastAgain || s.almanac.recast.isSome
    net.fragments := []
    check := s.check.map (checkReturn true) }
  if staging then setSlot (otherSlot s1) .empty { s1 with flash.staged := false } else s1

/-- A sleep state's entry that a WARM or WDT reset abandons (16 Table 16-16). -/
def abandonNadir (s : State) : State :=
  if s.power.mode == .enteringNadir then
    let back : PowerMode := if s.power.fromTwilight then .twilight else if s.chain.ports.any (·.driving) then .run else .leavingTwilight
    logAlert 0x0D 0x03 (tileTarget s) 0 0
      { s with power.mode := back, power.fromTwilight := false, power.shutdown := false, power.latchedWakes := [] }
  else s

/-- The control cores restart: no firmware until the restore handshake. -/
def stopFirmware (at_ : Nat) (s : State) : State :=
  { s with fw.running := false, fw.restartAt := some at_, fw.resetCold := none, fw.resetWarm := none }

/-- A WARM or WDT reset, its 2 s counted from `at_`. -/
def warmState (at_ : Nat) (s : State) : State := stopFirmware at_ (dropDomains (abandonNadir (loseWork (loseCommands s))))

/-- A WARM or WDT reset acts while the control cores run (16 R373). -/
def coresOn (s : State) : Bool := domainOn s .always && s.power.mode != .booting

/-- A WARM reset by RESET or IMAGE_ACTIVATE. -/
def warmReset (s : State) : State := warmState (nowNs s) (noteReset 6 false s)

/-- The start of the 2 s that a reversion keeps: the first restart's that still runs. -/
def restartBase (s : State) : Nat := s.fw.restartAt.getD (nowNs s)

/-- A firmware crash is reported through ALERT_N and the alert record (01 R33, R36). 18 Table 18-5 has no event of its own for
it: the entry is the self-test's transient failure of the control core's block (DESIGN CHOICE, notes/assumptions/61.md). -/
def reportCrash (core : Nat) (s : State) : State := raiseAlert 0x0A 0x01 (tileTarget s) 0 (0x0800 + core) false s

/-- WATCHDOG_EXPIRY: a WDT reset, which in probation reverts to the previous image (17 R392). -/
def execWatchdogExpiry (core : Fin 4) (s : State) : Host.Outcome State Fault Refusal :=
  .next (if coresOn s then
      (if s.fw.probation.isSome then reportCrash core (warmState (restartBase s) (revertImage (noteReset 5 false s)))
       else reportCrash core (warmState (nowNs s) (noteReset 5 false s)))
    else s)

/-- The probation's image has made no handshake 800 ms after its reset. -/
def probationLate (s : State) : Bool :=
  match s.fw.probation with
  | some p => coresOn s && !p.handshake && decide (p.since + 800000000 ≤ nowNs s)
  | none => false

/-- PROBATION_HANDSHAKE_TIMEOUT: a second WARM reset into the previous image (17 R392). -/
def execProbationHandshakeTimeout (s : State) : Host.Outcome State Fault Refusal :=
  .next (if probationLate s then warmState (restartBase s) (revertImage (noteReset 6 false s)) else s)

/-- The 2 s of 01 R31 are over. -/
def firmwareLate (s : State) : Bool :=
  match s.fw.restartAt with
  | some t => coresOn s && !s.fw.frozen && decide (t + 2000000000 ≤ nowNs s)
  | none => false

/-- FIRMWARE_ABSENT_2S: presentation freezes in every view, FAULT_N and UNUSABLE (01 R31). -/
def execFirmwareAbsent2s (s : State) : Host.Outcome State Fault Refusal :=
  .next (if firmwareLate s then raiseAlert 0x00 0x04 (tileTarget s) 0 0 true (assertFault .frozen { s with fw.frozen := true }) else s)

/-! ## The resets that RESET and IMAGE_ACTIVATE ask for -/

/-- Whether a time has come. -/
def timeCome (s : State) : Option Nat → Bool
  | some t => t ≤ nowNs s
  | none => false

/-- The reset that a command has asked for, once it is due (18 R400, 17 R392). -/
def dueReset (s : State) : State :=
  if coresOn s && timeCome s s.fw.resetCold then coldReset 4 s
  else if coresOn s && timeCome s s.fw.resetWarm then warmReset s
  else s

/-- What goes on by itself as time passes: the enumeration and the diagnosis operations in progress, the meridians that wait for a
gap, and the scrub of DRAM. -/
def upkeep (s : State) : State := scrubAdvance (moveMeridians (diagAdvance (enumAdvance s)))

/-- An idle tick: the counter advances, what is in progress goes on, and a reset that is due acts (notes/assumptions/2.md). -/
def tick (s : State) : State := dueReset (upkeep (clockTick s))

/-! ## NRST (16 R374) -/

/-- Whether the supplies stand far enough for NRST and BOR to act: VAON is up, and they have not failed for good. -/
def supplied (s : State) : Bool := !(s.power.mode == .poweringUp && s.power.supplyStep ≤ 1)

/-- The device held in the reset of NRST. -/
def holdReset (s : State) : State := { s with power.mode := .heldInReset }

/-- NRST counts again once the pin has been high for 100 ms. -/
def heedNrst (s : State) : State :=
  if s.power.nrstIgnored && s.power.nrstLowSince.isNone && s.power.nrstHighSince + 100000000 ≤ nowNs s then
    { s with power.nrstIgnored := false } else s

/-- A low pulse that counts: a PIN reset, held while NRST stays low; under a BOR only its level is noted. -/
def pinReset (s : State) : State :=
  let s1 := { heedNrst s with power.nrstLowSince := some (nowNs s) }
  if s1.power.nrstIgnored || !supplied s || s.power.mode == .heldInBor || s.power.mode == .heldInReset then s1
  else holdReset (coldReset 3 s1)

/-- NRST_ASSERT with the width of its low pulse in nanoseconds: below 200 ns nothing, from 1 µs on a PIN reset, between the
two either. -/
def execNrstAssert (width : Nat) (s : State) : Host.Outcome State Fault Refusal :=
  .next (if width < 200 || s.power.nrstLowSince.isSome then s
    else if 1000 ≤ width then pinReset s
    else if Config.nrstBetween s.freeCount then pinReset (nextFree s) else nextFree s)

/-- The supplies start at step 3. -/
def startSupplies (s : State) : State := { s with power.mode := .poweringUp, power.supplyStep := 3, power.supplyStepAt := nowNs s }

/-- NRST_RELEASE: the boot starts at the rising edge. -/
def execNrstRelease (s : State) : Host.Outcome State Fault Refusal :=
  let s1 := clearAlert 0x00 0x05 (tileTarget s) { s with power.nrstLowSince := none, power.nrstHighSince := nowNs s }
  .next (if s.power.nrstLowSince.isNone then s else if s.power.mode == .heldInReset then startSupplies s1 else s1)

/-- NRST has been low for 8 s. -/
def nrstStuckDue (s : State) : Bool :=
  s.power.mode == .heldInReset && (match s.power.nrstLowSince with | some t => decide (t + 8000000000 ≤ nowNs s) | none => false)

/-- The newest entry of the reset history with STUCK_RESET. -/
def markStuck : List ResetEntry → List ResetEntry
  | e :: t => { e with stuck := true } :: t
  | [] => []

/-- NRST_STUCK: Pevanak releases itself, records STUCK_RESET and logs it; NRST is ignored until it has been high for 100 ms. -/
def execNrstStuck (s : State) : Host.Outcome State Fault Refusal :=
  .next (if nrstStuckDue s then
      raiseAlert 0x00 0x05 (tileTarget s) 0 0 false
        (startSupplies { s with power.nrstIgnored := true, power.history := markStuck s.power.history })
    else s)

/-! ## BOR and supply faults (19 R418, R421) -/

/-- The row of 19 Table 19-7. -/
def borRow : BorCause → Nat
  | .vinLow => 1
  | .vinHigh => 2
  | .regulation => 3
  | .short => 4
  | .dieTrip => 5

/-- A BOR for a cause: entered in the reset history once, held until the causes have gone, logged at the next boot. -/
def enterBor (c : BorCause) (s : State) : State :=
  if !supplied s && s.power.supplyStep = 1 then s
  else if s.power.mode == .heldInBor then { s with power.borCauses := if s.power.borCauses.contains c then s.power.borCauses else s.power.borCauses ++ [c] }
  else
    let s1 := coldState false (noteReset 2 false s)
    { s1 with power.mode := .heldInBor, power.borCauses := [c], power.bootFaults := s.power.bootFaults ++ [borRow c] }

/-- VIN between the limits of a threshold: it may have crossed it or not. -/
def borOrNot (c : BorCause) (s : State) : State :=
  if Config.borBetween s.freeCount then enterBor c (nextFree s) else nextFree s

/-- BOR by the voltage at VIN (19 Table 19-5): below 3.75 V or above 27.0 V always, from 4.05 V to 26.0 V never, and between
the limits of a threshold either. Below 2.7 V the supply of the safety outputs fails until VIN is back (Table 19-16). -/
def execBor (vinMillivolts : Nat) (s : State) : Host.Outcome State Fault Refusal :=
  .next (if vinMillivolts < 3750 then enterBor .vinLow { s with power.vsafeLow := s.power.vsafeLow || decide (vinMillivolts < 2700) }
    else if vinMillivolts < 4050 then borOrNot .vinLow s
    else if vinMillivolts ≤ 26000 then s
    else if vinMillivolts ≤ 27000 then borOrNot .vinHigh s
    else enterBor .vinHigh s)

/-- SUPPLY_FAULT: out of regulation counts in RUN and TWILIGHT, a short always. -/
def execSupplyFault (_ : Buck) (shorted : Bool) (s : State) : Host.Outcome State Fault Refusal :=
  .next (if shorted then enterBor .short s
    else if s.power.mode == .run || s.power.mode == .twilight then enterBor .regulation s else s)

/-- DIE_TRIP. -/
def execDieTrip (s : State) : Host.Outcome State Fault Refusal := .next (enterBor .dieTrip s)

/-- BOR_RELEASE: the cause has gone; the supplies start at step 3, or NRST holds the reset. -/
def execBorRelease (s : State) : Host.Outcome State Fault Refusal :=
  let s1 := { s with power.borCauses := [], power.vsafeLow := false }
  .next (if s.power.mode == .heldInBor then
      (if s.power.nrstLowSince.isSome && !s.power.nrstIgnored then holdReset s1 else startSupplies s1)
    else s)

/-! ## REFIN and the crystal (19 R423, R424) -/

/-- What the device drives goes quiet: rails, chain ports and network ports. -/
def quietDevice (s : State) : State := linkDown .B (linkDown .A (quietPorts (dropRails s)))

/-- Whether REFIN is monitored: not in NADIR, nor in a wake before its PLLs have locked. -/
def refinMonitored (s : State) : Bool :=
  domainOn s .always || s.power.mode == .scan || (s.power.mode == .waking && 4 ≤ s.power.wakeStep)

/-- REFIN_LOST. -/
def execRefinLost (s : State) : Host.Outcome State Fault Refusal :=
  let s1 := { s with power.refinLost := true }
  .next (if s.power.refinLost then s
    else if refinMonitored s then logAlert 0x0F 0x02 (tileTarget s) 0 0 (assertFault .refin (quietDevice s1))
    else s1)

/-- REFIN_RESTORED: a COLD reset where its loss had stopped the device. -/
def execRefinRestored (s : State) : Host.Outcome State Fault Refusal :=
  let s1 := releaseFault .refin { s with power.refinLost := false }
  .next (if !s.power.refinLost then s
    else if s.faults.contains .refin && refinMonitored s then coldReset 4 s1 else s1)

/-- CRYSTAL_SOURCE_CHANGE: Nightwatch's clock source; logged at the next boot or wake. -/
def execCrystalSourceChange (crystal : Bool) (s : State) : Host.Outcome State Fault Refusal :=
  .next (if s.power.rtcCrystal == crystal then s else { s with power.rtcCrystal := crystal, power.crystalChanged := true })

/-! ## Scan test (13 R317, R318) -/

/-- SCAN_ENTER: rails low, ports and links down, FAULT_N, and the keys cleared. -/
def execScanEnter (s : State) : Host.Outcome State Fault Refusal :=
  .next (if domainOn s .always then
      let s1 := assertFault .scan (quietDevice s)
      { s1 with
        power.mode := .scan
        fw.running := false
        fw.restartAt := none
        cmd.sessionKey := none
        cmd.streamKeys := []
        cmd.sources := [] }
    else s)

/-- SCAN_EXIT: a COLD reset. -/
def execScanExit (s : State) : Host.Outcome State Fault Refusal := .next (if s.power.mode == .scan then coldReset 4 s else s)

/-! ## The I2C bus (19 R433) -/

/-- I2C_BUS_STUCK: logged and counted; a bus that the nine clocks do not free stays stuck. -/
def execI2cBusStuck (recovered : Bool) (s : State) : Host.Outcome State Fault Refusal :=
  .next (if domainOn s .always then
      logAlert 0x0F 0x05 (tileTarget s) 0 0 { s with i2c.stuck := !recovered, i2c.faults := inc16 s.i2c.faults }
    else s)

end Sys2Proof.Machine
end

