-- ==== Sys2Proof/Machine/Boot.lean ====
section
/-! DEFINITION. Power-up (19 R419), the boot (16 R375, R376; 17 R378, R382, R386, R387, R392; 06 R167; 12 R304; 13 R315;
19 R432) and the restore handshake (01 R30, R31; 16 R370). -/

namespace Sys2Proof.Machine

/-! ## Power-up (19 Table 19-6) -/

/-- The delays of steps 1 to 7 in nanoseconds. -/
def supplyDelay (k : Nat) : Nat := [0, 200000, 50000, 300000, 100000, 300000, 300000, 100000].getD k 0

/-- A step is at work; a lost REFIN holds the last one back. -/
def supplyAtWork (s : State) : Bool :=
  s.power.mode == .poweringUp && 1 ≤ s.power.supplyStep && !(s.power.supplyStep == 7 && s.power.refinLost)

/-- A ready step is followed by the next, the last one by the boot. -/
def nextSupply (s : State) : State :=
  if 7 ≤ s.power.supplyStep then { s with power.mode := .booting, power.supplyFailures := 0 }
  else { s with power.supplyStep := s.power.supplyStep + 1, power.supplyStepAt := nowNs s }

/-- POWER_UP_STEP: the ready check after the step's delay. -/
def execPowerUpStep (ready : Bool) (s : State) : Host.Outcome State Fault Refusal :=
  .next (if supplyAtWork s && ready && s.power.supplyStepAt + supplyDelay s.power.supplyStep ≤ nowNs s then nextSupply s else s)

/-- A step that is late: the supplies start again 10 ms later at the step after POR release; after three failures they stay
off with FAULT_N. -/
def failSupply (s : State) : State :=
  if 2 ≤ s.power.supplyFailures then assertFault .supply { s with power.supplyStep := 0, power.supplyFailures := 3 }
  else { s with
    power.supplyStep := 3
    power.supplyStepAt := nowNs s + 10000000
    power.supplyFailures := s.power.supplyFailures + 1 }

/-- POWER_UP_STEP_TIMEOUT: three times the delay. -/
def execPowerUpStepTimeout (s : State) : Host.Outcome State Fault Refusal :=
  .next (if supplyAtWork s && s.power.supplyStepAt + 3 * supplyDelay s.power.supplyStep ≤ nowNs s then failSupply s else s)

/-! ## The boot -/

/-- The firmware slot that boots (17 R378, R392): the default one, or the other where that holds no valid image. -/
def bootSlot (s : State) : Option Nat :=
  let first := if flashRestricted s then 0 else s.flash.defaultSlot
  if slotState s first == .valid then some first
  else if !flashRestricted s && slotState s (1 - first) == .valid then some (1 - first) else none

/-- The flash clock that trains, each step down logged (19 R432). -/
def trainFlash (f : BootFindings) (s : State) : State :=
  let down (t : State) : State := logAlert 0x0F 0x04 (tileTarget s) 0 0 t
  if f.flash200 then { s with flash.clock := 200 }
  else if f.flash133 then down { s with flash.clock := 133 }
  else down (down { s with flash.clock := 100 })

/-- The stored tile configuration record, where it is of this grade. -/
def storedRecord (s : State) : Option (List Byte) :=
  (objectData s 1 1).filter fun d => 22 ≤ d.length && identityOk d && be d 16 2 = gradeCode s

/-- An identity written later than the whole record. -/
def newerIdentity (s : State) : Option (List Byte) :=
  match entryOf s 1 0, entryOf s 1 1 with
  | some a, some b => if b.seq < a.seq then some a.data else none
  | some a, none => some a.data
  | none, _ => none

/-- Trims after POR (12 R304). -/
def bootTrims (s : State) : State := if s.power.porBoot then loadTrims s else s

/-- The ball test on every port of the grade, before enumeration (10 R259). -/
def bootBalls (s : State) : State := (List.range (gradePorts s)).foldl (fun t p => testBalls p t) s

/-- The loops enumerated, against the serial numbers of the record. -/
def bootChain (s : State) : State :=
  let serials := ((storedRecord s).map recordSerials).getD []
  enumerateLoops (List.range (gradeLoops s)) { s with chain.recordSerials := serials, flash.recordDue := false }

/-- The boot calibration after POR. -/
def bootCal (f : BootFindings) (s : State) : State := if s.power.porBoot then bootCalibrate f.calibration s else s

/-- Identity and tile configuration record (17 R386, R387); what they bring is on record already. -/
def bootConfig (s : State) : State :=
  let s1 := match storedRecord s with | some d => applyRecord s.time.frame d s | none => s
  let s2 := match newerIdentity s with | some d => setIdentity d s1 | none => s1
  { s2 with flash.recordDue := s.flash.recordDue }

/-- The stored fault map with what this boot's self-test, ball test and enumeration have found. -/
def mergeFaults (found : List FaultRec) (s : State) : State :=
  { s with chain.faults := (s.chain.faults.filter fun f => !(found.any fun g => g.isFor f.target f.kind f.detail)) ++ found }

/-- Stress counts, fault map and diagnosis ages (16 Table 16-15; 10 R263, R270). -/
def bootLedger (s : State) : State :=
  match objectData s 6 0 with
  | some d => resetAges (mergeFaults s.chain.faults (loadCheckpoint d s))
  | none => resetAges (mergeFaults s.chain.faults (noCheckpoint s))

/-- The safety configuration after POR (15 R351). -/
def bootSafety (s : State) : State := if s.power.porBoot then loadSafety s else s

/-- What Nightwatch has kept for the log (19 R421, R424). -/
def bootLog (s : State) : State :=
  let s1 := s.power.bootFaults.foldl (fun t row => logAlert 0x0F 0x01 (tileTarget t) 0 row t) s
  let s2 := if s.power.crystalChanged then logAlert 0x0F 0x03 (tileTarget s) 0 0 s1 else s1
  { s2 with power.bootFaults := [], power.crystalChanged := false }

/-- The end of the boot: the level in force is taken, and the device runs. -/
def finishBoot (s : State) : State :=
  let s1 := settleAlerts (takeVersion (releaseFault .notBooted { s with
    power.mode := .run
    power.porBoot := false
    fw.running := true
    time.bootAt := nowNs s }))
  setLevel (targetLevel s1) s1

/-- The boot from a slot (16 R375). The verification of the banks, step 5, reads what step 6 loads: the placements and the
aging ledger that a row is rebuilt from (06 R160, R166; notes/assumptions/57.md). -/
def bootFrom (slot : Nat) (f : BootFindings) (s : State) : State :=
  let s1 := trainFlash f { s with flash.active := slot }
  let s2 := if flashRestricted s1 then assertFault .flash s1 else s1
  let s3 := bootChain (bootBalls (bootTest f.failedBlocks (bootTrims s2)))
  let s4 := selectBank s3.almanac.last (bootLedger (bootConfig (bootCal f s3)))
  finishBoot (bootLog (scanJournal (bootSafety s4)))

/-- BOOT: with no valid image the device does not boot, and FAULT_N stays asserted (17 Table 17-9). -/
def execBoot (f : BootFindings) (s : State) : Host.Outcome State Fault Refusal :=
  .next (if s.power.mode == .booting then
      (match bootSlot s with
        | some k => bootFrom k f s
        | none => assertFault .flash s)
    else s)

/-! ## The restore handshake -/

/-- The FILLING buffers whose operation a reset has lost are free (04 R107). -/
def freeLost (s : State) : State :=
  let lost := s.layers.buffers.filter fun b =>
    b.state == .filling && b.filler != .stream && b.filler != .none && (findOp b.opSrc b.opTag s).isNone
  lost.foldl (fun t b => freeBuf b.handle t) s

/-- Presentation resumes at the next frame boundary (01 R31). -/
def thaw (s : State) : State :=
  if s.fw.frozen then
    clearAlert 0x00 0x04 (tileTarget s) (releaseFault .frozen { s with
      fw.frozen := false
      pres.unfreezeAt := List.replicate 4 (s.time.frame + 1) })
  else s

/-- A recast that was lost runs again (06 Table 6-6). -/
def recastLost (s : State) : State :=
  match (if s.almanac.recastAgain && !recastWaits s then storedFile s else none) with
  | some f => startRecast none f { s with almanac.recastAgain := false }
  | none => s

/-- Firmware is back after a WARM or WDT reset: it scans the journal and takes up what has happened meanwhile. -/
def resumeFirmware (s : State) : State :=
  let s1 := thaw (settleAlerts (takeVersion { s with
    fw.running := true
    fw.restartAt := none
    fw.probation := s.fw.probation.map fun p => { p with handshake := true } }))
  recastLost (syncFaults (scanJournal (freeLost s1)))

/-- A change of Nightwatch's clock source is logged at the wake (19 R424). -/
def wakeLog (s : State) : State :=
  if s.power.crystalChanged then logAlert 0x0F 0x03 (tileTarget s) 0 0 { s with power.crystalChanged := false } else s

/-- RESTORE_HANDSHAKE. -/
def execRestoreHandshake (s : State) : Host.Outcome State Fault Refusal :=
  .next (if s.power.mode == .waking && s.power.wakeStep = 7 && s.power.wakePause.isNone then wakeLog (finishWake s)
    else if coresOn s && s.fw.restartAt.isSome then resumeFirmware s
    else s)

end Sys2Proof.Machine
end

