-- ==== Sys2Proof/Machine/Engine.lean ====
section
/-! DEFINITION. The command engine's intake (02 R37, R38, R42, R46 to R59): steps 1 to 6 of Table 2-8 on the bytes of a packet,
whatever its transport, and bulk blocks (18 R404). -/

namespace Sys2Proof.Machine

/-! ## The header (02 Tables 2-4, 2-5) -/

/-- A packet's bytes with what they say of themselves. -/
structure Packet where
  src : Source
  unicast : Bool
  bytes : List Byte

def Packet.flag (p : Packet) (k : Nat) : Bool := bitN (getB p.bytes 1) k
def Packet.sched (p : Packet) : Bool := p.flag 7
def Packet.auth (p : Packet) : Bool := p.flag 6
def Packet.alive (p : Packet) : Bool := p.flag 5
def Packet.broadcast (p : Packet) : Bool := p.flag 3
def Packet.code (p : Packet) : Nat := be p.bytes 2 2
def Packet.tag (p : Packet) : Nat := be p.bytes 4 2
def Packet.counter (p : Packet) : Nat := getB p.bytes 6
def Packet.target (p : Packet) : BitVec 64 := BitVec.ofNat 64 (be p.bytes 8 8)
def Packet.paramLength (p : Packet) : Nat := be p.bytes 16 2

/-- Where the parameters begin. -/
def Packet.paramStart (p : Packet) : Nat := 20 + 8 * b2n p.sched

/-- The length that the header gives (02 R46). -/
def Packet.total (p : Packet) : Nat := p.paramStart + p.paramLength + 16 * b2n p.auth + 4

/-- Whether the packet came over the network. -/
def Packet.ofNet (p : Packet) : Bool := match p.src with | .host => false | .net _ _ => true

/-- The packet's content. -/
def Packet.req (p : Packet) : Req where
  src := p.src
  tag := p.tag
  auth := p.auth
  alive := p.alive
  replyReq := p.flag 4
  broadcast := p.broadcast
  sched := if p.sched then some (be p.bytes 20 8) else none
  target := p.target
  params := slice p.bytes p.paramStart p.paramLength

/-- Step 1: the length. -/
def Packet.lengthOk (p : Packet) : Bool := p.paramLength ≤ 8192 && p.bytes.length = p.total

/-- Step 2: the trailer (02 R47). -/
def Packet.crcOk (p : Packet) : Bool := crc32c (p.bytes.take (p.total - 4)) = be p.bytes (p.total - 4) 4

/-- Step 4: version and reserved bytes (02 R47). -/
def Packet.headerOk (p : Packet) : Bool := getB p.bytes 0 = 1 && getB p.bytes 7 = 0 && be p.bytes 18 2 = 0

/-- The part that an authenticator covers, and the authenticator (02 R52). -/
def Packet.covered (p : Packet) : List Byte := p.bytes.take (p.paramStart + p.paramLength)
def Packet.given (p : Packet) : List Byte := slice p.bytes (p.paramStart + p.paramLength) 16

/-! ## Refusals before step 7 -/

/-- A refusal, which leaves the reply that the source's last accepted packet has stored or still owes. -/
def refuse (p : Packet) (status : Nat) (s : State) : State :=
  let s1 := answer p.code p.req status [] s
  match findSource p.src s with
  | some e => modSource p.src (fun x => { x with stored := e.stored, executing := e.executing }) s1
  | none => s1

/-- A packet dropped and counted (02 R50). -/
def countDrop (s : State) : State := { s with cmd.dropped := inc32 s.cmd.dropped }

/-- A length that does not fit: refused and counted; a broadcast packet is not logged (02 R50). -/
def refuseLength (p : Packet) (s : State) : State := countDrop (if p.broadcast then s else refuse p St.badLength s)

/-- The CHECK_FAIL replies of the last second to a source. -/
def recentFails (src : Source) (s : State) : Nat :=
  (s.cmd.checkFails.filter fun x => x.1 == src && nowNs s < x.2 + 1000000000).length

/-- A packet whose trailer fails (02 R57): answered on the host port or to IPv4 unicast, at most 100 times a second, with no
alive counter and no authenticator. -/
def refuseCrc (p : Packet) (s : State) : State :=
  let s1 := countDrop s
  if p.broadcast || (p.ofNet && !p.unicast) || 100 ≤ recentFails p.src s then noHost s1
  else
    let s2 := { s1 with cmd.checkFails := (s.cmd.checkFails.filter fun x => nowNs s < x.2 + 1000000000) ++ [(p.src, nowNs s)] }
    deliver p.src p.tag (replyBytes none false 0 p.code p.tag (responder s p.target) St.checkFail []) s2
where
  noHost (t : State) : State := if p.ofNet then t else { t with host.busy := false }

/-! ## Step 3: screen and tile (02 R49, R50) -/

/-- Whether a network packet is for this tile. -/
def forTile (p : Packet) (s : State) : Bool :=
  (tgtScreen p.target = screenNo s || tgtScreen p.target = 0xFFFF) && (tgtTile p.target = tileNo s || tgtTile p.target = 0xFFFF)

/-- Whether a packet names every screen or every tile. -/
def namesAll (p : Packet) : Bool := tgtScreen p.target = 0xFFFF || tgtTile p.target = 0xFFFF

/-! ## Step 5: policy and authenticator (02 R52, R55, R56) -/

/-- The alive step d of a source's packet; a new source starts at 0. -/
def aliveStep (p : Packet) (s : State) : Nat :=
  (p.counter + 256 - ((findSource p.src s).map (·.last)).getD 0) % 256

/-- The extended sequence that an authenticated packet claims. -/
def claimedSeq (p : Packet) (s : State) : Nat := ((findSource p.src s).map (·.extSeq)).getD 0 + aliveStep p s

/-- Whether the policy asks for AUTH. -/
def authAsked (p : Packet) (s : State) : Bool :=
  s.cmd.sessionKey.isSome && (if p.ofNet then s.cmd.policy.authNet && 2 ≤ p.code else s.cmd.policy.authHost)

/-- Whether the policy asks for ALIVE. -/
def aliveAsked (p : Packet) (s : State) : Bool := if p.ofNet then s.cmd.policy.aliveNet else s.cmd.policy.aliveHost

/-- Step 5. -/
def policyStatus (p : Packet) (s : State) : Nat :=
  if p.auth then
    (match s.cmd.sessionKey with
      | none => St.authFail
      | some k => if p.alive && authenticator k (p.covered ++ u32 (claimedSeq p s)) == p.given then St.ok else St.authFail)
  else if authAsked p s then St.authFail
  else if aliveAsked p s && !p.alive then St.aliveGap else St.ok

/-! ## Step 6: the alive counter (02 R53, R54) -/

/-- The slot of a new source: the lowest free one, else that of the least recently used entry without AUTH. -/
def newSlot (s : State) : Option (Nat × Option Source) :=
  match (List.range 32).find? fun i => !(s.cmd.sources.any fun e => e.slot == i) with
  | some i => some (i, none)
  | none =>
    (((s.cmd.sources.filter fun e => !e.usesAuth).mergeSort fun a b => a.used ≤ b.used).head?).map fun e => (e.slot, some e.src)

/-- A source's entry after its packet has been accepted. -/
def takeSource (p : Packet) (s : State) : State :=
  let d := aliveStep p s
  modSource p.src (fun e => { e with
    last := if p.alive then p.counter else e.last
    extSeq := if p.auth then e.extSeq + d else e.extSeq
    tag := p.tag
    stored := none
    executing := true
    replyWanted := p.req.replyReq && !p.broadcast
    usesAuth := e.usesAuth || p.auth
    used := s.cmd.useClock + 1 }) { s with cmd.useClock := s.cmd.useClock + 1 }

/-- The log entry of a gap in the counters. -/
def logGap (p : Packet) (s : State) : State := logAlert 0x00 0x02 p.target St.aliveGap (aliveStep p s) s

/-- The entry of a new source, its alive value and sequence 0. -/
def addSource (p : Packet) (slot : Nat) (gone : Option Source) (s : State) : State :=
  { s with
    cmd.useClock := s.cmd.useClock + 1
    cmd.sources := s.cmd.sources.filter (fun e => some e.src != gone) ++
      [{ slot := slot, src := p.src, usesAuth := p.auth, used := s.cmd.useClock + 1 }] }

/-- What step 6 answers: the packet goes on, is refused, or ends here. -/
inductive AliveEnd where
  | pass (s : State)
  | refused (status : Nat) (s : State)
  | ended (s : State)

/-- A repeat of the last accepted packet (02 Table 2-6): its stored reply goes out again, but none to a packet with BROADCAST
(02 R50). -/
def repeatReply (p : Packet) (e : SourceEntry) (s : State) : AliveEnd :=
  let s1 := if p.ofNet then s else { s with host.busy := false }
  match e.stored with
  | some b => .ended (if p.broadcast then s1 else deliver p.src p.tag b s)
  | none => if e.replyWanted && !e.executing then .refused St.aliveRepeat s else .ended s1

/-- Step 6 for a source without an entry: its first packet with ALIVE set creates one, whatever Table 2-6 then says of the
packet; a full table of authenticated sources alone creates none (02 R53). -/
def aliveNew (p : Packet) (s : State) : AliveEnd :=
  match newSlot s with
  | none => .refused St.busy s
  | some (slot, gone) =>
    let d := aliveStep p s
    let t := addSource p slot gone s
    if !p.auth then .pass (takeSource p t)
    else if d = 0 then .refused St.aliveRepeat t
    else if s.cmd.policy.maxGap < d then .refused St.aliveGap t
    else .pass (takeSource p (if d = 1 then t else logGap p t))

/-- Step 6 for a source with an entry. -/
def aliveKnown (p : Packet) (e : SourceEntry) (s : State) : AliveEnd :=
  let d := aliveStep p s
  if d = 0 then (if e.tag = p.tag then repeatReply p e s else .refused St.aliveRepeat s)
  else if s.cmd.policy.maxGap < d then
    .refused St.aliveGap (if p.auth then s else modSource p.src (fun x => { x with last := p.counter }) s)
  else .pass (takeSource p (if d = 1 then s else logGap p s))

/-- Step 6. -/
def aliveCheck (p : Packet) (s : State) : AliveEnd :=
  if !p.alive then .pass (takeSource p s)
  else match findSource p.src s with
    | some e => aliveKnown p e s
    | none => aliveNew p s

/-! ## A packet -/

/-- Steps 7 to 12: the opcode's row, BAD_OPCODE without one. -/
def executePacket (p : Packet) (s : State) : State :=
  match specOf p.code with
  | some o => runPacket (period s) o p.req s
  | none => answer p.code p.req St.badOpcode [] s

/-- Steps 4 to 12. -/
def checkPacket (p : Packet) (s : State) : State :=
  if !p.headerOk then refuse p St.badParam s
  else if policyStatus p s ≠ St.ok then refuse p (policyStatus p s) s
  else match aliveCheck p s with
    | .pass t => executePacket p t
    | .refused st t => refuse p st t
    | .ended t => t

/-- A received packet (02 Table 2-8). -/
def receivePacket (p : Packet) (s : State) : State :=
  if !p.lengthOk then refuseLength p s
  else if !p.crcOk then refuseCrc p s
  else if p.ofNet then
    (if !forTile p s || (namesAll p && !p.broadcast) then countDrop s else checkPacket p s)
  else if forTile p s then checkPacket p s
  else if p.broadcast then countDrop s
  else refuse p St.badParam s

/-- BUSY clears at once for a packet that wants no reply (02 R42). -/
def clearBusy (p : Packet) (s : State) : State :=
  if p.broadcast || !p.flag 4 then { s with host.busy := false } else s

/-- A packet accepted on the host port: BUSY sets, and an unread reply is discarded. -/
def hostPacket (bytes : List Byte) (s : State) : State :=
  let p : Packet := ⟨.host, true, bytes⟩
  clearBusy p (receivePacket p { s with host.busy := true, host.done := false, host.reply := [] })

/-- PACKET_WRITE (02 R41, R42, R44): ignored with ERROR at another address than 0, while BUSY, and without firmware. -/
def execPacketWrite (_quad : Bool) (addr : BitVec 24) (bytes : List Byte) (s : State) : Host.Outcome State Fault Refusal :=
  .next (match hostService s with
    | .none => s
    | .asleep => wakeBy .hostPort s
    | .nightwatch => endTransaction (addr != 0) (beginTransaction s)
    | .full =>
      let s1 := beginTransaction s
      if addr != 0 || s1.host.busy || !s1.fw.running then endTransaction true s1
      else hostPacket bytes (endTransaction false s1))

/-! ## Bulk blocks (18 R404) -/

/-- The header fields of a block. -/
structure Block where
  bytes : List Byte

def Block.auth (b : Block) : Bool := bitN (getB b.bytes 3) 6
def Block.tag (b : Block) : Nat := be b.bytes 4 2
def Block.code (b : Block) : Nat := be b.bytes 6 2
def Block.number (b : Block) : Nat := be b.bytes 8 4
def Block.dataLength (b : Block) : Nat := be b.bytes 16 2
def Block.data (b : Block) : List Byte := slice b.bytes 20 b.dataLength

/-- The trailer, and the length of the datagram. -/
def Block.whole (b : Block) : Bool :=
  b.bytes.length = 24 + b.dataLength + 16 * b2n b.auth && crc32c (b.bytes.take (b.bytes.length - 4)) = be b.bytes (b.bytes.length - 4) 4

/-- Magic, version and direction. -/
def Block.headerOk (b : Block) : Bool := be b.bytes 0 2 = 0xC7B5 && getB b.bytes 2 = 1 && !bitN (getB b.bytes 3) 5

/-- Number, offset, length and LAST against the operation's length. -/
def Block.fits (b : Block) (n : Nat) : Bool :=
  b.number < blockCount n && be b.bytes 12 4 = 8192 * b.number &&
    b.dataLength = (if b.number + 1 = blockCount n then n - 8192 * b.number else 8192) &&
    bitN (getB b.bytes 3) 7 = (b.number + 1 = blockCount n : Bool)

/-- The authenticator against the policy, the key under which the operation started (R407) and the extended sequence of its
packet. -/
def Block.authOk (b : Block) (key : Option (List Byte)) (ext : Nat) (s : State) : Bool :=
  match key with
  | none => !b.auth
  | some k =>
    if b.auth then authenticator k (b.bytes.take (20 + b.dataLength) ++ u32 ext) == slice b.bytes (20 + b.dataLength) 16
    else !s.cmd.policy.authNet

/-- The operation that a block belongs to: of its IPv4 address, tag and opcode, waiting for data. -/
def blockOp (srcIp : Nat) (b : Block) (s : State) : Option LongOp :=
  s.cmd.longOps.find? fun o => waitsForData o && o.code == b.code && o.req.tag == b.tag &&
    (match o.req.src with | .net ip _ => ip == srcIp | .host => false)

/-- What a block that has been taken does at once. -/
def blockEffect (o : LongOp) (b : Block) (s : State) : State := if o.code = 0x0204 then bufferBlock o b.number b.data s else s

/-- What follows once all of an operation's blocks are held. -/
def dataReceived (o : LongOp) (data : List Byte) (s : State) : State :=
  match o.code with
  | 0x0204 => bufferReceived o data s
  | 0x0404 => binTablesReceived o data s
  | 0x0E01 => nvmReceived o.req data (endBulk o.req.src o.req.tag s)
  | 0x0E02 => imageReceived o.req data (endBulk o.req.src o.req.tag s)
  | _ => s

/-- A block stored for its operation. -/
def storeBlock (o : LongOp) (x : BulkIn) (b : Block) (s : State) : State :=
  let x1 := { x with blocks := x.blocks.filter (fun y => y.1 != b.number) ++ [(b.number, b.data)], lastAt := nowNs s }
  let s1 := blockEffect o b (modOp o.req.src o.req.tag (fun y => { y with bulk := some x1 }) s)
  if x1.complete then dataReceived o x1.data s1 else s1

/-- A bulk block of a source address. -/
def receiveBlock (srcIp : Nat) (b : Block) (s : State) : State :=
  match blockOp srcIp b s with
  | none => countDrop s
  | some o =>
    match o.bulk with
    | none => countDrop s
    | some x => if b.whole && b.headerOk && b.fits x.length && b.authOk x.key x.extSeq s then storeBlock o x b s else countDrop s

/-- BULK_BLOCK: without firmware no command is served (01 R30). -/
def execBulkBlock (srcIp : Nat) (payload : List Byte) (s : State) : Host.Outcome State Fault Refusal :=
  .next (if s.fw.running && domainOn s .always then receiveBlock srcIp ⟨payload⟩ s else s)

/-- An operation has had no block for 10 s. -/
def bulkLate (s : State) (o : LongOp) : Bool :=
  waitsForData o && (match o.bulk with | some x => decide (x.lastAt + 10000000000 ≤ nowNs s) | none => false)

/-- It ends with BAD_LENGTH, its data discarded. -/
def failBulk (o : LongOp) (s : State) : State :=
  completeOp o.req.src o.req.tag St.badLength [] (match fillOf o.req.src o.req.tag s with | some b => freeBuf b.handle s | none => s)

/-- BULK_OPERATION_TIMEOUT. -/
def execBulkOperationTimeout (s : State) : Host.Outcome State Fault Refusal :=
  .next (if s.fw.running then (s.cmd.longOps.filter (bulkLate s)).foldl (fun t o => failBulk o t) s else s)

end Sys2Proof.Machine
end

