-- ==== Sys2Proof/Machine/Frames.lean ====
section
/-! DEFINITION. Received frames (03 R76 to R80, Table 3-2): forwarding, consumption, ARP, ICMP, IGMP and UDP. The layouts of
Ethernet, ARP, IPv4, ICMP, IGMP and UDP are those of their standards (notes/assumptions/26.md). -/

namespace Sys2Proof.Machine

/-! ## Frame fields -/

/-- A frame without its FCS, a VLAN tag taken out. -/
structure Frame where
  bytes : List Byte

def Frame.dst (f : Frame) : Nat := be f.bytes 0 6
def Frame.src (f : Frame) : Nat := be f.bytes 6 6
def Frame.tagged (f : Frame) : Bool := be f.bytes 12 2 = 0x8100
def Frame.typeAt (f : Frame) : Nat := if f.tagged then 16 else 12
def Frame.etherType (f : Frame) : Nat := be f.bytes f.typeAt 2
def Frame.payload (f : Frame) : List Byte := f.bytes.drop (f.typeAt + 2)
def Frame.broadcast (f : Frame) : Bool := f.dst = 2 ^ 48 - 1
def Frame.multicast (f : Frame) : Bool := bitN (getB f.bytes 0) 0

/-- Whether a received frame's FCS is right. -/
def fcsOk (bytes : List Byte) : Bool :=
  18 ≤ bytes.length && fcsBytes (bytes.take (bytes.length - 4)) == bytes.drop (bytes.length - 4)

/-! ## IPv4 -/

/-- An IPv4 datagram or fragment. -/
structure Ip where
  src : Nat
  dst : Nat
  proto : Nat
  ident : Nat
  offset : Nat
  more : Bool
  data : List Byte

/-- The IPv4 datagram of a payload, none where its header does not hold. -/
def readIp (m : List Byte) : Option Ip :=
  let ihl := 4 * (getB m 0 % 16)
  let total := be m 2 2
  if getB m 0 / 16 = 4 && 20 ≤ ihl && ihl ≤ total && total ≤ m.length && wordSum (m.take ihl) = 0xFFFF then
    some { src := be m 12 4, dst := be m 16 4, proto := getB m 9, ident := be m 4 2, offset := 8 * (be m 6 2 % 8192)
           more := bitN (getB m 6) 5, data := slice m ihl (total - ihl) }
  else none

/-- The IPv4 datagram that a frame carries. -/
def frameIp (f : Frame) : Option Ip := if f.etherType = 0x0800 then readIp f.payload else none

/-- An IPv4 datagram sent on a port, fragmented where it is too long for one frame. -/
def sendIp (p : NetPort) (mac dst proto : Nat) (data : List Byte) (s : State) : State :=
  (ipFrames p mac (Config.ipIdent s.freeCount % 65536) dst proto data s).foldl (fun t f => send (.frame p f) t) (nextFree s)

/-! ## ARP and ICMP (03 R76) -/

/-- An ARP request for the tile's address is answered on its port. -/
def answerArp (p : NetPort) (mac ip target : Nat) (s : State) : State :=
  if target = ownIp s then
    send (.frame p (ownFrame p mac 0x0806 (u16 1 ++ u16 0x0800 ++ u8 6 ++ u8 4 ++ u16 2 ++ ube 6 s.fuse.mac ++ u32 (ownIp s) ++
      ube 6 mac ++ u32 ip) s)) s
  else s

/-- ARP_REQUEST. -/
def execArpRequest (p : NetPort) (senderMac senderIp targetIp : Nat) (s : State) : Host.Outcome State Fault Refusal :=
  .next (if portUp s p then answerArp p senderMac senderIp targetIp s else s)

/-- An ICMP echo reply: identifier, sequence and data come back. -/
def echoReply (body : List Byte) : List Byte := u16 0 ++ u16 (checksum (u32 0 ++ body)) ++ body

/-- An echo request to the tile's address is answered on its port. -/
def answerEcho (p : NetPort) (mac src dst : Nat) (body : List Byte) (s : State) : State :=
  if dst = ownIp s then sendIp p mac src 1 (echoReply body) s else s

/-- ICMP_ECHO_REQUEST. -/
def execIcmpEchoRequest (p : NetPort) (srcMac srcIp dstIp : Nat) (body : List Byte) (s : State) : Host.Outcome State Fault Refusal :=
  .next (if portUp s p then answerEcho p srcMac srcIp dstIp body s else s)

/-! ## Loops (03 R80) -/

/-- A frame with the tile's own source MAC. -/
def seeLoop (s : State) : State :=
  let s1 := { s with net.loopSince := some (nowNs s) }
  if s.net.loopSince.isSome then s1 else raiseAlert 0x01 0x03 (tileTarget s) 0 0 false s1

/-- OWN_MAC_FRAME. -/
def execOwnMacFrame (p : NetPort) (s : State) : Host.Outcome State Fault Refusal := .next (if portUp s p then seeLoop s else s)

/-- No such frame for 10 s. -/
def loopOver (s : State) : Bool := match s.net.loopSince with | some t => decide (t + 10000000000 ≤ nowNs s) | none => false

/-- LOOP_ALERT_CLEAR: forwarding resumes. -/
def execLoopAlertClear (s : State) : Host.Outcome State Fault Refusal :=
  .next (if loopOver s then clearAlert 0x01 0x03 (tileTarget s) { s with net.loopSince := none } else s)

/-! ## Forwarding (03 Table 3-2, R79) -/

/-- Groups that are always forwarded: 224.0.0.0/24, and PTP's 224.0.1.129. -/
def alwaysGroup (g : Nat) : Bool := g / 256 = 0xE00000 || g = 0xE0000181

/-- An IGMP report or leave. -/
def isReport (x : Ip) : Bool := x.proto = 2 && [0x12, 0x16, 0x17, 0x22].contains (getB x.data 0)

/-- Whether a membership report has opened a group out of a port. -/
def openGroup (s : State) (q : NetPort) (g : Nat) : Bool :=
  s.net.memberships.any fun m => m.port == q && m.group == g && !membershipOver s m

/-- Whether a multicast frame goes out of a port by IGMP snooping; what is not IPv4 is in no group. -/
def snoopPasses (s : State) (q : NetPort) (f : Frame) : Bool :=
  match frameIp f with
  | some x => alwaysGroup x.dst || isReport x || !(getNet s q).snoop || openGroup s q x.dst
  | none => true

/-- Whether a frame that arrives on the other port is forwarded out of `q`. -/
def forwards (s : State) (q : NetPort) (f : Frame) : Bool :=
  if !portUp s q || f.src = s.fuse.mac || f.dst = s.fuse.mac then false
  else if !f.multicast then true
  else !(q == .B && s.net.loopSince.isSome) && (f.broadcast || snoopPasses s q f)

/-- A PTP event message, whose forwarding with its correction is PTP_EVENT_MESSAGE's. -/
def isPtpEvent (f : Frame) : Bool :=
  match frameIp f with
  | some x => x.proto = 17 && x.offset = 0 && be x.data 2 2 = 319
  | none => false

/-! ## UDP (02 R37, R38; 18 R404; 03 R82, R85) -/

/-- A UDP datagram. -/
structure Udp where
  src : Nat
  dst : Nat
  sport : Nat
  dport : Nat
  data : List Byte

/-- The UDP datagram of an IPv4 payload; a checksum that is given must hold. -/
def readUdp (src dst : Nat) (m : List Byte) : Option Udp :=
  let n := be m 4 2
  let pseudo := u32 src ++ u32 dst ++ u8 0 ++ u8 17 ++ u16 n
  if 8 ≤ n && n ≤ m.length && (be m 6 2 = 0 || wordSum (pseudo ++ m.take n) = 0xFFFF) then
    some { src := src, dst := dst, sport := be m 0 2, dport := be m 2 2, data := slice m 8 (n - 8) }
  else none

/-- Whether a stream's path on a port takes a datagram. -/
def pathTakes (s : State) (x : Path) (u : Udp) : Bool :=
  x.used && x.port = u.dport && (x.source = 0 || x.source = u.src) && (if x.group = 0 then u.dst = ownIp s else x.group = u.dst)

/-- The stream that a datagram on a port belongs to. -/
def streamFor (s : State) (p : NetPort) (u : Udp) : Option (Nat × Bool) :=
  (List.range 8).findSome? fun h => match s.layers.streams.getD h none with
    | some st => if pathTakes s (match p with | .A => st.pathA | .B => st.pathB) u then some (h, st.native) else none
    | none => none

/-- A datagram to the tile or to a group that it has joined. -/
def takeUdp (p : NetPort) (u : Udp) (s : State) : State :=
  let served := s.fw.running && domainOn s .always
  match u.dport with
  | 49410 => if served then receivePacket ⟨.net u.src u.sport, u.dst = ownIp s, u.data⟩ s else s
  | 49411 => s
  | 49412 => if served then receiveBlock u.src ⟨u.data⟩ s else s
  | _ => match streamFor s p u with
    | some (h, true) => takeNative p h u.data false s
    | some (h, false) => takeSt2110 p h u.data false s
    | none => s

/-! ## Reassembly (02 R38, 18 R404) -/

/-- The largest datagrams that are reassembled, by port. -/
def reassemblyLimit (port : Nat) : Nat := if port = 49410 then 8240 else if port = 49412 then 8232 else 0

/-- Whether a fragment belongs to the datagram of another. -/
def sameDatagram (a b : Fragment) : Bool := a.src == b.src && a.ident == b.ident && a.dst == b.dst

/-- The payload of fragments in order, none while a part is missing. -/
def joinFragments : Nat → List Fragment → Option (List Byte)
  | _, [] => none
  | at_, x :: t =>
    if x.offset != at_ then none
    else if !x.more then some x.data
    else (joinFragments (at_ + x.data.length) t).map (x.data ++ ·)

/-- A fragment is held until its datagram is whole. -/
def takeFragment (p : NetPort) (x : Fragment) (s : State) : State :=
  let rest := s.net.fragments.filter fun y => !sameDatagram x y
  let mine := (s.net.fragments.filter fun y => sameDatagram x y && y.offset != x.offset) ++ [x]
  let sorted := mine.mergeSort fun a b => a.offset ≤ b.offset
  match joinFragments 0 sorted with
  | some m =>
    let s1 := { s with net.fragments := rest }
    match readUdp x.src x.dst m with
    | some u => if u.data.length ≤ reassemblyLimit u.dport then takeUdp p u s1 else s1
    | none => s1
  | none =>
    if 8248 < (mine.map (·.data.length)).foldl (· + ·) 0 then { s with net.fragments := rest }
    else { s with net.fragments := rest ++ mine }

/-! ## IGMP (03 R79, R84; RFC 2236, RFC 3376) -/

/-- The seconds of a query interval code. -/
def intervalOf (code : Nat) : Nat := if code < 128 then code else (code % 16 + 16) * 2 ^ (code / 16 % 8 + 3)

/-- A query: version 3 by its length, version 1 by its zero response time. -/
def readQuery (p : NetPort) (m : List Byte) (s : State) : State :=
  if 12 ≤ m.length then takeQuery p 3 (be m 4 4) (getB m 8 % 8) (intervalOf (getB m 9)) s
  else takeQuery p (if getB m 1 = 0 then 1 else 2) (be m 4 4) 0 0 s

/-- The groups that the records of a version 3 report join, from an offset on; `fuel` bounds the records. -/
def reportGroups (m : List Byte) : Nat → Nat → List Nat
  | 0, _ => []
  | fuel + 1, off =>
    let kind := getB m off
    let sources := be m (off + 2) 2
    let next := reportGroups m fuel (off + 8 + 4 * sources + 4 * getB m (off + 1))
    if kind = 2 || kind = 4 || ((kind = 1 || kind = 3 || kind = 5) && 0 < sources) then be m (off + 4) 4 :: next else next

/-- An IGMP message on a port. -/
def takeIgmp (p : NetPort) (m : List Byte) (s : State) : State :=
  match getB m 0 with
  | 0x11 => readQuery p m s
  | 0x12 | 0x16 => snoopReport p (be m 4 4) s
  | 0x22 => (reportGroups m (be m 6 2) 8).foldl (fun t g => snoopReport p g t) s
  | _ => s

/-! ## Consumption (03 Table 3-2) -/

/-- Whether a datagram is for this tile: to its address, or to a group that a subscription has joined on the port. -/
def ipForTile (s : State) (p : NetPort) (x : Ip) : Bool :=
  x.dst = ownIp s || s.net.joined.any fun j => j.port == p && j.group == x.dst

/-- An IPv4 datagram in a frame to the tile's MAC or to a multicast MAC. -/
def takeIp (p : NetPort) (mac : Nat) (x : Ip) (s : State) : State :=
  if x.proto = 2 then takeIgmp p x.data s
  else if !ipForTile s p x then s
  else if x.more || x.offset ≠ 0 then (if x.proto = 17 then takeFragment p ⟨x.src, x.ident, x.dst, x.offset, x.more, x.data⟩ s else s)
  else if x.proto = 1 && getB x.data 0 = 8 && getB x.data 1 = 0 && wordSum x.data = 0xFFFF then answerEcho p mac x.src x.dst (x.data.drop 4) s
  else if x.proto = 17 then (match readUdp x.src x.dst x.data with | some u => takeUdp p u s | none => s)
  else s

/-- An ARP message: a request for the tile's address. -/
def takeArp (p : NetPort) (m : List Byte) (s : State) : State :=
  if be m 0 2 = 1 && be m 2 2 = 0x0800 && be m 6 2 = 1 then answerArp p (be m 8 6) (be m 14 4) (be m 24 4) s else s

/-- What the tile itself does with a good frame. -/
def consume (p : NetPort) (f : Frame) (s : State) : State :=
  if f.broadcast || f.dst = s.fuse.mac then
    (if f.etherType = 0x0806 then takeArp p f.payload s
     else if f.broadcast then s
     else match frameIp f with | some x => takeIp p f.src x s | none => s)
  else if f.multicast then (match frameIp f with | some x => takeIp p f.src x s | none => s)
  else s

/-! ## Frames that are not whole -/

/-- A frame that is not whole: counted, and what has been forwarded of it is ended with an invalid FCS. -/
def passBroken (q : NetPort) (bytes : List Byte) (s : State) : State :=
  if forwards s q ⟨bytes⟩ then send (.truncated q bytes) s else s

/-- A frame that has arrived whole and from another MAC, for `k` to handle; the last three rows of 03 Table 3-2. -/
def screened (p : NetPort) (bytes : List Byte) (k : Frame → State → State) (s : State) : State :=
  let q := otherPort p
  let f : Frame := ⟨bytes.take (bytes.length - 4)⟩
  if 9022 < bytes.length then passBroken q (bytes.take 9022) { s with net.tooLong := inc32 s.net.tooLong }
  else if !fcsOk bytes then passBroken q bytes { s with net.badFcs := inc32 s.net.badFcs }
  else if f.src = s.fuse.mac then seeLoop s
  else k f s

/-! ## PTP event messages (03 R87, R88, Table 3-6) -/

/-- Where the message of a PTP event frame over IPv4 begins. -/
def ptpAt (f : Frame) : Nat := f.typeAt + 2 + 4 * (getB f.payload 0 % 16) + 8

/-- The messageType of a PTP event frame over IPv4 (IEEE 1588): 0 Sync, 1 Delay_Req, 2 and 3 Pdelay. -/
def ptpType (f : Frame) : Nat := getB f.bytes (ptpAt f) % 16

/-- PTP over Ethernet, or over UDP on IPv6: neither is corrected (03 Table 3-6). -/
def foreignPtp (f : Frame) : Bool :=
  f.etherType = 0x88F7 || (f.etherType = 0x86DD && getB f.payload 6 = 17 && (be f.payload 42 2 = 319 || be f.payload 42 2 = 320))

/-- The residence time on the sidereal counter of a message that leaves `ticks` ticks of the time clock after it came, between its
two timestamps, in the correctionField's units of 2^-16 ns (03 R88, R90). -/
def residence (s : State) (ticks : Nat) : Nat :=
  65536 * ((s.time.counter + ticks * tickAdvance s.time.rate) / 2 ^ 48 - nowNs s)

/-- The frame with the residence time added to its correctionField, its UDP checksum 0 and its FCS made anew (03 R88). -/
def correctedFrame (f : Frame) (time : Nat) : List Byte :=
  let a := ptpAt f
  let c := signed 64 (be f.bytes (a + 8) 8) + time
  let m := f.bytes.take (a - 2) ++ u16 0 ++ slice f.bytes a 8 ++ sbe 8 c ++ f.bytes.drop (a + 16)
  m ++ fcsBytes m

/-- A frame forwarded as it came, a PTP message that is not corrected counted (03 Table 3-6). -/
def passOn (q : NetPort) (f : Frame) (bytes : List Byte) (s : State) : State :=
  send (.forwarded q bytes) (if foreignPtp f then { s with net.uncorrected := inc32 s.net.uncorrected } else s)

/-- What goes out of the other port of a PTP event frame: Sync and Delay_Req corrected, other messages as they came. -/
def forwardPtp (p : NetPort) (f : Frame) (bytes : List Byte) (ticks : Nat) (s : State) : State :=
  let q := otherPort p
  if !forwards s q f then s
  else if ptpType f ≤ 1 then send (.forwarded q (correctedFrame f (residence s ticks))) s
  else send (.forwarded q bytes) s

/-- A timestamp taken (03 R88); the latest one of its port, direction and type stands. -/
def takeStamp (x : PtpStamp) (s : State) : State :=
  { s with time.stamps := (s.time.stamps.filter fun y => !(y.port == x.port && y.sent == x.sent && y.kind == x.kind)) ++ [x] }

/-- The clock identity that IEEE 1588 forms from the tile's MAC. -/
def clockIdentity (s : State) : Nat := s.fuse.mac / 2 ^ 24 * 2 ^ 40 + 0xFFFE * 2 ^ 24 + s.fuse.mac % 2 ^ 24

/-- A Delay_Req message (IEEE 1588), flagged where it is unicast. -/
def delayReqBytes (p : NetPort) (s : State) : List Byte :=
  u8 0x01 ++ u8 0x02 ++ u16 44 ++ u8 s.time.domain ++ u8 0 ++ u16 (if s.time.dreqUnicast then 0x0400 else 0) ++ zeros 8 ++ zeros 4 ++
    u64 (clockIdentity s) ++ u16 (match p with | .A => 1 | .B => 2) ++ u16 s.time.dreqSequence ++ u8 1 ++ u8 0x7F ++ zeros 10

/-- A Delay_Req sent on a port and timestamped: to 224.0.1.129, or to the master's address where TIME_CONFIG says so
(03 Table 3-6), there under the MAC that the Sync came from (DESIGN CHOICE, notes/assumptions/36.md). -/
def sendDelayReq (p : NetPort) (mac : Nat) (s : State) : State :=
  let dst := if s.time.dreqUnicast then s.time.masterAddr else 0xE0000181
  let hw := if s.time.dreqUnicast then mac else 0x01005E000181
  let s1 := sendIp p hw dst 17 (udpBytes (ownIp s) dst 319 319 (delayReqBytes p s)) s
  takeStamp ⟨p, true, 1, nowNs s⟩ { s1 with time.dreqSequence := (s.time.dreqSequence + 1) % 65536 }

/-- Whether a Delay_Req is due at a Sync on a port: the master's logMinDelayReqInterval has passed since the latest one; until a
Delay_Resp has told it, every Sync has one (03 Table 3-6; DESIGN CHOICE, notes/assumptions/36.md). -/
def delayReqDue (p : NetPort) (s : State) : Bool :=
  match s.time.logDelayReq, s.time.stamps.find? fun x => x.port == p && x.sent && x.kind == 1 with
  | some log, some x => decide (x.at_ + logNs log ≤ nowNs s)
  | _, _ => true

/-- A Sync of the configured domain from the selected master, on the port where it is heard. -/
def isMasterSync (p : NetPort) (f : Frame) (s : State) : Bool :=
  ptpType f == 0 && getB f.bytes (ptpAt f + 4) == s.time.domain &&
    (match s.time.selected with | some m => m.port == p && m.ann.identity == be f.bytes (ptpAt f + 20) 8 | none => false)

/-- A PTP event frame for the tile: timestamped, and a Sync of the master followed by a Delay_Req when one is due. -/
def consumePtp (p : NetPort) (f : Frame) (s : State) : State :=
  if f.multicast || f.dst = s.fuse.mac then
    let s1 := takeStamp ⟨p, false, ptpType f, nowNs s⟩ s
    if s.fw.running && isMasterSync p f s && delayReqDue p s then sendDelayReq p f.src s1 else s1
  else s

/-- A PTP event message on a port. -/
def takePtp (p : NetPort) (bytes : List Byte) (ticks : Nat) (f : Frame) (s : State) : State :=
  if isPtpEvent f then consumePtp p f (forwardPtp p f bytes ticks s)
  else if foreignPtp f && forwards s (otherPort p) f then passOn (otherPort p) f bytes s
  else s

/-- PTP_EVENT_MESSAGE (03 R88): a frame that carries one; `ticks` of the time clock pass until it leaves by the other port. -/
def execPtpEventMessage (p : NetPort) (frame : List Byte) (ticks : Nat) (s : State) : Host.Outcome State Fault Refusal :=
  .next (if portUp s p then screened p frame (takePtp p frame ticks) s else s)

/-! ## A frame -/

/-- A received frame; PTP event messages over IPv4 are PTP_EVENT_MESSAGE's. -/
def takeFrame (p : NetPort) (bytes : List Byte) (s : State) : State :=
  screened p bytes (fun f t => if isPtpEvent f then t else consume p f (if forwards t (otherPort p) f then passOn (otherPort p) f bytes t else t)) s

/-- ETHERNET_FRAME_RECEIVE. -/
def execEthernetFrameReceive (p : NetPort) (frame : List Byte) (s : State) : Host.Outcome State Fault Refusal :=
  .next (if portUp s p then takeFrame p frame s else s)

end Sys2Proof.Machine
end

