-- ==== Sys2Proof/Machine/Dispatch.lean ====
section
/-! DEFINITION. The command dispatch: one arm per command, each a direct call of its meaning. -/

namespace Sys2Proof.Machine

def exec (i : Instr) (s : State) : Host.Outcome State Fault Refusal :=
  match i with
  | .status code => Sys2Proof.Machine.execStatus code s
  | .windowWrite quad addr words => Sys2Proof.Machine.execWindowWrite quad addr words s
  | .windowRead quad addr count => Sys2Proof.Machine.execWindowRead quad addr count s
  | .packetWrite quad addr bytes => Sys2Proof.Machine.execPacketWrite quad addr bytes s
  | .replyRead quad offset count => Sys2Proof.Machine.execReplyRead quad offset count s
  | .nop r => Sys2Proof.Machine.execNop r s
  | .identify r => Sys2Proof.Machine.execIdentify r s
  | .query r => Sys2Proof.Machine.execQuery r s
  | .fetchPartial r => Sys2Proof.Machine.execFetchPartial r s
  | .abort r => Sys2Proof.Machine.execAbort r s
  | .resetCold r => Sys2Proof.Machine.execResetCold r s
  | .resetWarm r => Sys2Proof.Machine.execResetWarm r s
  | .commit r => Sys2Proof.Machine.execCommit r s
  | .regRead r => Sys2Proof.Machine.execRegRead r s
  | .regWrite r => Sys2Proof.Machine.execRegWrite r s
  | .alertRead r => Sys2Proof.Machine.execAlertRead r s
  | .keyProvision r => Sys2Proof.Machine.execKeyProvision r s
  | .timeConfig r => Sys2Proof.Machine.execTimeConfig r s
  | .timeStatus r => Sys2Proof.Machine.execTimeStatus r s
  | .scheduleList r => Sys2Proof.Machine.execScheduleList r s
  | .scheduleCancel r => Sys2Proof.Machine.execScheduleCancel r s
  | .snapshot r => Sys2Proof.Machine.execSnapshot r s
  | .streamSubscribe r => Sys2Proof.Machine.execStreamSubscribe r s
  | .streamDrop r => Sys2Proof.Machine.execStreamDrop r s
  | .bufferAlloc r => Sys2Proof.Machine.execBufferAlloc r s
  | .bufferRelease r => Sys2Proof.Machine.execBufferRelease r s
  | .bufferWrite r => Sys2Proof.Machine.execBufferWrite r s
  | .layerSet r => Sys2Proof.Machine.execLayerSet r s
  | .layerClear r => Sys2Proof.Machine.execLayerClear r s
  | .backgroundSet r => Sys2Proof.Machine.execBackgroundSet r s
  | .writeback r => Sys2Proof.Machine.execWriteback r s
  | .bufferStatus r => Sys2Proof.Machine.execBufferStatus r s
  | .scalerCoeffLoad r => Sys2Proof.Machine.execScalerCoeffLoad r s
  | .scalerStatus r => Sys2Proof.Machine.execScalerStatus r s
  | .almanacLoad r => Sys2Proof.Machine.execAlmanacLoad r s
  | .almanacSwap r => Sys2Proof.Machine.execAlmanacSwap r s
  | .almanacVerify r => Sys2Proof.Machine.execAlmanacVerify r s
  | .colourSpaceSet r => Sys2Proof.Machine.execColourSpaceSet r s
  | .binTableLoad r => Sys2Proof.Machine.execBinTableLoad r s
  | .agingRead r => Sys2Proof.Machine.execAgingRead r s
  | .agingRecastSetSchedule r => Sys2Proof.Machine.execAgingRecastSetSchedule r s
  | .agingRecastNow r => Sys2Proof.Machine.execAgingRecastNow r s
  | .agingRecastSuspend r => Sys2Proof.Machine.execAgingRecastSuspend r s
  | .budgetSet r => Sys2Proof.Machine.execBudgetSet r s
  | .ledgerRead r => Sys2Proof.Machine.execLedgerRead r s
  | .ambientSet r => Sys2Proof.Machine.execAmbientSet r s
  | .programSet r => Sys2Proof.Machine.execProgramSet r s
  | .programStatus r => Sys2Proof.Machine.execProgramStatus r s
  | .camsyncConfig r => Sys2Proof.Machine.execCamsyncConfig r s
  | .freeze r => Sys2Proof.Machine.execFreeze r s
  | .blank r => Sys2Proof.Machine.execBlank r s
  | .chainEnumerate r => Sys2Proof.Machine.execChainEnumerate r s
  | .chainStatus r => Sys2Proof.Machine.execChainStatus r s
  | .meridianSet r => Sys2Proof.Machine.execMeridianSet r s
  | .cellConfig r => Sys2Proof.Machine.execCellConfig r s
  | .faultMapRead r => Sys2Proof.Machine.execFaultMapRead r s
  | .diagRunShort r => Sys2Proof.Machine.execDiagRunShort r s
  | .diagRunAdjShort r => Sys2Proof.Machine.execDiagRunAdjShort r s
  | .diagRunOpen r => Sys2Proof.Machine.execDiagRunOpen r s
  | .diagRunBallTest r => Sys2Proof.Machine.execDiagRunBallTest r s
  | .twinkleConfig r => Sys2Proof.Machine.execTwinkleConfig r s
  | .rasterSet r => Sys2Proof.Machine.execRasterSet r s
  | .thermalConfig r => Sys2Proof.Machine.execThermalConfig r s
  | .thermalRead r => Sys2Proof.Machine.execThermalRead r s
  | .calibrate r => Sys2Proof.Machine.execCalibrate r s
  | .trimRead r => Sys2Proof.Machine.execTrimRead r s
  | .bistConfig r => Sys2Proof.Machine.execBistConfig r s
  | .bistRun r => Sys2Proof.Machine.execBistRun r s
  | .bistReport r => Sys2Proof.Machine.execBistReport r s
  | .blockRestore r => Sys2Proof.Machine.execBlockRestore r s
  | .checkConfig r => Sys2Proof.Machine.execCheckConfig r s
  | .checkRun r => Sys2Proof.Machine.execCheckRun r s
  | .checkContextRead r => Sys2Proof.Machine.execCheckContextRead r s
  | .checkContextWrite r => Sys2Proof.Machine.execCheckContextWrite r s
  | .safetyStatus r => Sys2Proof.Machine.execSafetyStatus r s
  | .safetyConfig r => Sys2Proof.Machine.execSafetyConfig r s
  | .safeOffRequest r => Sys2Proof.Machine.execSafeOffRequest r s
  | .powerVoteWithdraw r => Sys2Proof.Machine.execPowerVoteWithdraw r s
  | .powerVoteAdd r => Sys2Proof.Machine.execPowerVoteAdd r s
  | .powerVoteTakeOver r => Sys2Proof.Machine.execPowerVoteTakeOver r s
  | .powerStateRun r => Sys2Proof.Machine.execPowerStateRun r s
  | .powerStateTwilight r => Sys2Proof.Machine.execPowerStateTwilight r s
  | .powerStateNadir r => Sys2Proof.Machine.execPowerStateNadir r s
  | .orderlyShutdown r => Sys2Proof.Machine.execOrderlyShutdown r s
  | .plevelSet r => Sys2Proof.Machine.execPlevelSet r s
  | .wakeRecordRead r => Sys2Proof.Machine.execWakeRecordRead r s
  | .nvmRead r => Sys2Proof.Machine.execNvmRead r s
  | .nvmWrite r => Sys2Proof.Machine.execNvmWrite r s
  | .imageStage r => Sys2Proof.Machine.execImageStage r s
  | .imageActivateStaged r => Sys2Proof.Machine.execImageActivateStaged r s
  | .imageActivateRevert r => Sys2Proof.Machine.execImageActivateRevert r s
  | .imageActivateEndProbation r => Sys2Proof.Machine.execImageActivateEndProbation r s
  | .journalStatus r => Sys2Proof.Machine.execJournalStatus r s
  | .telemetryConfig r => Sys2Proof.Machine.execTelemetryConfig r s
  | .telemetryRead r => Sys2Proof.Machine.execTelemetryRead r s
  | .commandPolicyWrite byRegWrite auth v => Sys2Proof.Machine.execCommandPolicyWrite byRegWrite auth v s
  | .portConfigWrite p v => Sys2Proof.Machine.execPortConfigWrite p v s
  | .chainPortTrimWrite p v => Sys2Proof.Machine.execChainPortTrimWrite p v s
  | .chainPortSkewWrite p v => Sys2Proof.Machine.execChainPortSkewWrite p v s
  | .chkCtrlWrite u v => Sys2Proof.Machine.execChkCtrlWrite u v s
  | .chkRestart u => Sys2Proof.Machine.execChkRestart u s
  | .chkPolyWrite u v => Sys2Proof.Machine.execChkPolyWrite u v s
  | .chkInitWrite u v => Sys2Proof.Machine.execChkInitWrite u v s
  | .chkValueWrite u v => Sys2Proof.Machine.execChkValueWrite u v s
  | .feed8 u v => Sys2Proof.Machine.execFeed8 u v s
  | .feed16 u v => Sys2Proof.Machine.execFeed16 u v s
  | .feed32 u v => Sys2Proof.Machine.execFeed32 u v s
  | .aliveCtrlWrite u v => Sys2Proof.Machine.execAliveCtrlWrite u v s
  | .aliveFeed u v => Sys2Proof.Machine.execAliveFeed u v s
  | .registerWrite addr v => Sys2Proof.Machine.execRegisterWrite addr v s
  | .ethernetFrameReceive p frame => Sys2Proof.Machine.execEthernetFrameReceive p frame s
  | .arpRequest p senderMac senderIp targetIp => Sys2Proof.Machine.execArpRequest p senderMac senderIp targetIp s
  | .icmpEchoRequest p srcMac srcIp dstIp body => Sys2Proof.Machine.execIcmpEchoRequest p srcMac srcIp dstIp body s
  | .igmpQuery p version group robustness queryInterval => Sys2Proof.Machine.execIgmpQuery p version group robustness queryInterval s
  | .igmpReportSnooped p group => Sys2Proof.Machine.execIgmpReportSnooped p group s
  | .snoopMembershipExpiry p group => Sys2Proof.Machine.execSnoopMembershipExpiry p group s
  | .igmpReportRepeat => Sys2Proof.Machine.execIgmpReportRepeat s
  | .ownMacFrame p => Sys2Proof.Machine.execOwnMacFrame p s
  | .loopAlertClear => Sys2Proof.Machine.execLoopAlertClear s
  | .portLinkChange p up => Sys2Proof.Machine.execPortLinkChange p up s
  | .st2110Packet p h payload full => Sys2Proof.Machine.execSt2110Packet p h payload full s
  | .nativePacket p h payload full => Sys2Proof.Machine.execNativePacket p h payload full s
  | .bulkBlock srcIp payload => Sys2Proof.Machine.execBulkBlock srcIp payload s
  | .bulkOperationTimeout => Sys2Proof.Machine.execBulkOperationTimeout s
  | .ptpEventMessage p frame ticks => Sys2Proof.Machine.execPtpEventMessage p frame ticks s
  | .ptpAnnounce p a => Sys2Proof.Machine.execPtpAnnounce p a s
  | .announceReceiptTimeout p => Sys2Proof.Machine.execAnnounceReceiptTimeout p s
  | .offsetSample t => Sys2Proof.Machine.execOffsetSample t s
  | .holdoverEntry => Sys2Proof.Machine.execHoldoverEntry s
  | .holdover30s => Sys2Proof.Machine.execHoldover30s s
  | .rtcUpdate => Sys2Proof.Machine.execRtcUpdate s
  | .frameBoundary => Sys2Proof.Machine.execFrameBoundary s
  | .ephemerisLoad => Sys2Proof.Machine.execEphemerisLoad s
  | .streamLossTimeout l => Sys2Proof.Machine.execStreamLossTimeout l s
  | .streamReturn l => Sys2Proof.Machine.execStreamReturn l s
  | .magnitudeFix => Sys2Proof.Machine.execMagnitudeFix s
  | .presentationFrameStart => Sys2Proof.Machine.execPresentationFrameStart s
  | .prefetchStart => Sys2Proof.Machine.execPrefetchStart s
  | .uploadStart => Sys2Proof.Machine.execUploadStart s
  | .fifoUnderrun p row => Sys2Proof.Machine.execFifoUnderrun p row s
  | .latchWindowOpen => Sys2Proof.Machine.execLatchWindowOpen s
  | .latchLaunch => Sys2Proof.Machine.execLatchLaunch s
  | .transit => Sys2Proof.Machine.execTransit s
  | .camSyncEdge k t falling width => Sys2Proof.Machine.execCamSyncEdge k t falling width s
  | .syncEdgeMissing k => Sys2Proof.Machine.execSyncEdgeMissing k s
  | .genlockCheck k => Sys2Proof.Machine.execGenlockCheck k s
  | .heldChangesDiscard => Sys2Proof.Machine.execHeldChangesDiscard s
  | .resultsExpiry => Sys2Proof.Machine.execResultsExpiry s
  | .implicitVoteWithdraw => Sys2Proof.Machine.execImplicitVoteWithdraw s
  | .domainWakeComplete d => Sys2Proof.Machine.execDomainWakeComplete d s
  | .headroomRequest h => Sys2Proof.Machine.execHeadroomRequest h s
  | .railStart => Sys2Proof.Machine.execRailStart s
  | .railStaggerExpiry => Sys2Proof.Machine.execRailStaggerExpiry s
  | .railInRegulation r reported => Sys2Proof.Machine.execRailInRegulation r reported s
  | .shuntMeasurement r microamps => Sys2Proof.Machine.execShuntMeasurement r microamps s
  | .inputCurrentSample mean10ms mean1s => Sys2Proof.Machine.execInputCurrentSample mean10ms mean1s s
  | .inputOvercurrent1s => Sys2Proof.Machine.execInputOvercurrent1s s
  | .ambientSensorRead lux => Sys2Proof.Machine.execAmbientSensorRead lux s
  | .ambientFallbackTimeout => Sys2Proof.Machine.execAmbientFallbackTimeout s
  | .diodeConversion readings coreMilliwatts => Sys2Proof.Machine.execDiodeConversion readings coreMilliwatts s
  | .diodeBroken d => Sys2Proof.Machine.execDiodeBroken d s
  | .diodeReturn d => Sys2Proof.Machine.execDiodeReturn d s
  | .ntcConversion input ratio => Sys2Proof.Machine.execNtcConversion input ratio s
  | .zoneModelUpdate millivolts => Sys2Proof.Machine.execZoneModelUpdate millivolts s
  | .sensorBroken k => Sys2Proof.Machine.execSensorBroken k s
  | .sensorReturn k => Sys2Proof.Machine.execSensorReturn k s
  | .throttleFactorUpdate => Sys2Proof.Machine.execThrottleFactorUpdate s
  | .flashGraceWindowExpiry => Sys2Proof.Machine.execFlashGraceWindowExpiry s
  | .thermalShutdownEnd => Sys2Proof.Machine.execThermalShutdownEnd s
  | .reportTrain p errors => Sys2Proof.Machine.execReportTrain p errors s
  | .cellReadReply p errors => Sys2Proof.Machine.execCellReadReply p errors s
  | .cellReadTimeout p => Sys2Proof.Machine.execCellReadTimeout p s
  | .localisation p => Sys2Proof.Machine.execLocalisation p s
  | .takeoverBurst l => Sys2Proof.Machine.execTakeoverBurst l s
  | .takeoverCheck l => Sys2Proof.Machine.execTakeoverCheck l s
  | .linkWatchTimeout p => Sys2Proof.Machine.execLinkWatchTimeout p s
  | .restoreTrial l => Sys2Proof.Machine.execRestoreTrial l s
  | .diagSweep => Sys2Proof.Machine.execDiagSweep s
  | .diagMapRead l cell => Sys2Proof.Machine.execDiagMapRead l cell s
  | .cellFailed l cell => Sys2Proof.Machine.execCellFailed l cell s
  | .ageSweep => Sys2Proof.Machine.execAgeSweep s
  | .twinkleDispatch => Sys2Proof.Machine.execTwinkleDispatch s
  | .stressSample => Sys2Proof.Machine.execStressSample s
  | .recastDue => Sys2Proof.Machine.execRecastDue s
  | .recastSwap => Sys2Proof.Machine.execRecastSwap s
  | .almanacFileReceived => Sys2Proof.Machine.execAlmanacFileReceived s
  | .bistSlice pass => Sys2Proof.Machine.execBistSlice pass s
  | .bistRetest block pass => Sys2Proof.Machine.execBistRetest block pass s
  | .bistCycleOverrun => Sys2Proof.Machine.execBistCycleOverrun s
  | .dramCorrectedRead addr flips => Sys2Proof.Machine.execDramCorrectedRead addr flips s
  | .dramRowRemap die row => Sys2Proof.Machine.execDramRowRemap die row s
  | .dramScrub => Sys2Proof.Machine.execDramScrub s
  | .selfRefreshEntry => Sys2Proof.Machine.execSelfRefreshEntry s
  | .selfRefreshExit => Sys2Proof.Machine.execSelfRefreshExit s
  | .watchdogExpiry core => Sys2Proof.Machine.execWatchdogExpiry core s
  | .restoreHandshake => Sys2Proof.Machine.execRestoreHandshake s
  | .firmwareAbsent2s => Sys2Proof.Machine.execFirmwareAbsent2s s
  | .probationHandshakeTimeout => Sys2Proof.Machine.execProbationHandshakeTimeout s
  | .probationEnd => Sys2Proof.Machine.execProbationEnd s
  | .journalCommit => Sys2Proof.Machine.execJournalCommit s
  | .journalScan => Sys2Proof.Machine.execJournalScan s
  | .journalCompaction => Sys2Proof.Machine.execJournalCompaction s
  | .checkpointWrite => Sys2Proof.Machine.execCheckpointWrite s
  | .checkpointErase => Sys2Proof.Machine.execCheckpointErase s
  | .flashScrub bad => Sys2Proof.Machine.execFlashScrub bad s
  | .telemetrySend => Sys2Proof.Machine.execTelemetrySend s
  | .levelChange => Sys2Proof.Machine.execLevelChange s
  | .demandLevelLower => Sys2Proof.Machine.execDemandLevelLower s
  | .wakeEvent w => Sys2Proof.Machine.execWakeEvent w s
  | .wakeStepTimeout => Sys2Proof.Machine.execWakeStepTimeout s
  | .nrstAssert width => Sys2Proof.Machine.execNrstAssert width s
  | .nrstRelease => Sys2Proof.Machine.execNrstRelease s
  | .nrstStuck => Sys2Proof.Machine.execNrstStuck s
  | .por => Sys2Proof.Machine.execPor s
  | .powerUpStep ready => Sys2Proof.Machine.execPowerUpStep ready s
  | .powerUpStepTimeout => Sys2Proof.Machine.execPowerUpStepTimeout s
  | .boot f => Sys2Proof.Machine.execBoot f s
  | .bor vinMillivolts => Sys2Proof.Machine.execBor vinMillivolts s
  | .supplyFault b shorted => Sys2Proof.Machine.execSupplyFault b shorted s
  | .dieTrip => Sys2Proof.Machine.execDieTrip s
  | .refinLost => Sys2Proof.Machine.execRefinLost s
  | .refinRestored => Sys2Proof.Machine.execRefinRestored s
  | .crystalSourceChange crystal => Sys2Proof.Machine.execCrystalSourceChange crystal s
  | .i2cBusStuck recovered => Sys2Proof.Machine.execI2cBusStuck recovered s
  | .pmbusVoltageTimeout r => Sys2Proof.Machine.execPmbusVoltageTimeout r s
  | .scanEnter => Sys2Proof.Machine.execScanEnter s
  | .scanExit => Sys2Proof.Machine.execScanExit s
  | .safetyInputChange k on => Sys2Proof.Machine.execSafetyInputChange k on s
  | .discrepancyTimeout p => Sys2Proof.Machine.execDiscrepancyTimeout p s
  | .inputTestPulse fromB failed => Sys2Proof.Machine.execInputTestPulse fromB failed s
  | .outputTestPulse o readbackOk => Sys2Proof.Machine.execOutputTestPulse o readbackOk s
  | .edmTimeout p => Sys2Proof.Machine.execEdmTimeout p s
  | .resetPress milliseconds => Sys2Proof.Machine.execResetPress milliseconds s
  | .srstStuck => Sys2Proof.Machine.execSrstStuck s
  | .srstStuckClear => Sys2Proof.Machine.execSrstStuckClear s
  | .heartbeatLoss => Sys2Proof.Machine.execHeartbeatLoss s
  | .channelDisagreement p => Sys2Proof.Machine.execChannelDisagreement p s
  | .safetyMemoryFault => Sys2Proof.Machine.execSafetyMemoryFault s
  | .networkSafetyTimeout => Sys2Proof.Machine.execNetworkSafetyTimeout s
  | .safetyConfigTimeout => Sys2Proof.Machine.execSafetyConfigTimeout s
  | .wakeStepReady => Sys2Proof.Machine.execWakeStepReady s
  | .calibrationSlice m => Sys2Proof.Machine.execCalibrationSlice m s
  | .compositeComplete => Sys2Proof.Machine.execCompositeComplete s
  | .slideFillComplete => Sys2Proof.Machine.execSlideFillComplete s
  | .checkRunComplete u => Sys2Proof.Machine.execCheckRunComplete u s
  | .borRelease => Sys2Proof.Machine.execBorRelease s

end Sys2Proof.Machine
end

