-- ==== Sys2Proof/Safety.lean ====
section
/-! DEFINITION. What counts as a safe run of the block, and the terms in which claims speak: a step that completes, a
packet that is accepted, what an answer may touch, and the conditions that every step keeps. -/

namespace Sys2Proof

/-- A step that completes: it answers a next state. -/
def Completes (s : Machine.State) : Prop := ∃ t, Machine.step s = .next t

namespace Machine

/-- A command that answers a next state with the given properties. -/
def Effect (i : Instr) (s : State) (P : State → Prop) : Prop := ∃ t, exec i s = .next t ∧ P t

/-- The command leaves everything as it was. -/
def NoEffect (i : Instr) (s : State) : Prop := exec i s = .next s

/-! ## Packets -/

/-- The opcode and the request of a row that is carried by a command packet (18 Table 18-1); a row that stands for one action
of an opcode has its action byte. -/
def packetOf : Instr → Option (OpSpec × Req)
  | .nop r => some (nopSpec, r)
  | .identify r => some (identifySpec, r)
  | .query r => some (querySpec, r)
  | .fetchPartial r => some (fetchPartialSpec, r)
  | .abort r => some (abortSpec, r)
  | .resetCold r => some (resetSpec, withByte r 0 0)
  | .resetWarm r => some (resetSpec, withByte r 0 1)
  | .commit r => some (commitSpec, r)
  | .regRead r => some (regReadSpec, r)
  | .regWrite r => some (regWriteSpec, r)
  | .alertRead r => some (alertReadSpec, r)
  | .keyProvision r => some (keyProvisionSpec, r)
  | .timeConfig r => some (timeConfigSpec, r)
  | .timeStatus r => some (timeStatusSpec, r)
  | .scheduleList r => some (scheduleListSpec, r)
  | .scheduleCancel r => some (scheduleCancelSpec, r)
  | .snapshot r => some (snapshotSpec, r)
  | .streamSubscribe r => some (streamSubscribeSpec, r)
  | .streamDrop r => some (streamDropSpec, r)
  | .bufferAlloc r => some (bufferAllocSpec, r)
  | .bufferRelease r => some (bufferReleaseSpec, r)
  | .bufferWrite r => some (bufferWriteSpec, r)
  | .layerSet r => some (layerSetSpec, r)
  | .layerClear r => some (layerClearSpec, r)
  | .backgroundSet r => some (backgroundSetSpec, r)
  | .writeback r => some (writebackSpec, r)
  | .bufferStatus r => some (bufferStatusSpec, r)
  | .scalerCoeffLoad r => some (scalerCoeffLoadSpec, r)
  | .scalerStatus r => some (scalerStatusSpec, r)
  | .almanacLoad r => some (almanacLoadSpec, r)
  | .almanacSwap r => some (almanacSwapSpec, r)
  | .almanacVerify r => some (almanacVerifySpec, r)
  | .colourSpaceSet r => some (colourSpaceSetSpec, r)
  | .binTableLoad r => some (binTableLoadSpec, r)
  | .agingRead r => some (agingReadSpec, r)
  | .agingRecastSetSchedule r => some (agingRecastSpec, withByte r 0 0)
  | .agingRecastNow r => some (agingRecastSpec, withByte r 0 1)
  | .agingRecastSuspend r => some (agingRecastSpec, withByte r 0 2)
  | .budgetSet r => some (budgetSetSpec, r)
  | .ledgerRead r => some (ledgerReadSpec, r)
  | .ambientSet r => some (ambientSetSpec, r)
  | .programSet r => some (programSetSpec, r)
  | .programStatus r => some (programStatusSpec, r)
  | .camsyncConfig r => some (camsyncConfigSpec, r)
  | .freeze r => some (freezeSpec, r)
  | .blank r => some (blankSpec, r)
  | .chainEnumerate r => some (chainEnumerateSpec, r)
  | .chainStatus r => some (chainStatusSpec, r)
  | .meridianSet r => some (meridianSetSpec, r)
  | .cellConfig r => some (cellConfigSpec, r)
  | .faultMapRead r => some (faultMapReadSpec, r)
  | .diagRunShort r => some (diagRunSpec, withByte r 0 1)
  | .diagRunAdjShort r => some (diagRunSpec, withByte r 0 2)
  | .diagRunOpen r => some (diagRunSpec, withByte r 0 3)
  | .diagRunBallTest r => some (diagRunSpec, withByte r 0 4)
  | .twinkleConfig r => some (twinkleConfigSpec, r)
  | .rasterSet r => some (rasterSetSpec, r)
  | .thermalConfig r => some (thermalConfigSpec, r)
  | .thermalRead r => some (thermalReadSpec, r)
  | .calibrate r => some (calibrateSpec, r)
  | .trimRead r => some (trimReadSpec, r)
  | .bistConfig r => some (bistConfigSpec, r)
  | .bistRun r => some (bistRunSpec, r)
  | .bistReport r => some (bistReportSpec, r)
  | .blockRestore r => some (blockRestoreSpec, r)
  | .checkConfig r => some (checkConfigSpec, r)
  | .checkRun r => some (checkRunSpec, r)
  | .checkContextRead r => some (checkContextReadSpec, r)
  | .checkContextWrite r => some (checkContextWriteSpec, r)
  | .safetyStatus r => some (safetyStatusSpec, r)
  | .safetyConfig r => some (safetyConfigSpec, r)
  | .safeOffRequest r => some (safeOffSpec, r)
  | .powerVoteWithdraw r => some (powerVoteSpec, withByte r 0 0)
  | .powerVoteAdd r => some (powerVoteSpec, withByte r 0 1)
  | .powerVoteTakeOver r => some (powerVoteSpec, withByte r 0 2)
  | .powerStateRun r => some (powerStateSpec, withByte r 0 0)
  | .powerStateTwilight r => some (powerStateSpec, withByte r 0 1)
  | .powerStateNadir r => some (powerStateSpec, withByte r 0 2)
  | .orderlyShutdown r => some (powerStateSpec, withByte r 0 3)
  | .plevelSet r => some (plevelSetSpec, r)
  | .wakeRecordRead r => some (wakeRecordReadSpec, r)
  | .nvmRead r => some (nvmReadSpec, r)
  | .nvmWrite r => some (nvmWriteSpec, r)
  | .imageStage r => some (imageStageSpec, r)
  | .imageActivateStaged r => some (imageActivateSpec, withByte r 0 0)
  | .imageActivateRevert r => some (imageActivateSpec, withByte r 0 1)
  | .imageActivateEndProbation r => some (imageActivateSpec, withByte r 0 2)
  | .journalStatus r => some (journalStatusSpec, r)
  | .telemetryConfig r => some (telemetryConfigSpec, r)
  | .telemetryRead r => some (telemetryReadSpec, r)
  | _ => none

/-- A packet that executes at once: firmware runs, steps 7 to 11 of 02 Table 2-8 pass, no schedule, no sleeping domain. -/
def Accepted (o : OpSpec) (r : Req) (s : State) : Prop :=
  s.fw.running = true ∧ preChecks o r s = St.ok ∧ r.sched = none ∧ asleep o r s = []

/-- The state in which a short opcode executes: a completed operation of the same tag is forgotten (02 R62). -/
def startOf (r : Req) (s : State) : State := dropOp r.src r.tag s

/-- What an answer may change: the source table, the kept results, the alert record and the alerts owed, the host port's reply, and
what is sent, with the frames that carry it. -/
def ReplyFrame (s t : State) : Prop :=
  t = { s with
    cmd := { s.cmd with
      sources := t.cmd.sources
      longOps := t.cmd.longOps
      alerts := t.cmd.alerts
      alertsDropped := t.cmd.alertsDropped
      owed := t.cmd.owed }
    host := { s.host with reply := t.host.reply, busy := t.host.busy, done := t.host.done, lastTag := t.host.lastTag, seq := t.host.seq }
    net := { s.net with tx := t.net.tx, wire := t.net.wire } }

/-- The command may change, besides what an answer or an alert may change, only the parts that `parts` takes from the state after. -/
def Changes (i : Instr) (parts : State → State → State) : Prop := ∀ s t, exec i s = .next t → ReplyFrame (parts s t) t

/-- An accepted packet of the row answers OK with results of the state and changes nothing else. -/
def Reads (i : Req → Instr) (o : OpSpec) (res : Req → State → List Byte) : Prop :=
  ∀ r s, Accepted o r s →
    Effect (i r) s fun t => t = answerLarge o.code r St.ok (res r (startOf r s)) (startOf r s) ∧ ReplyFrame s t

/-- The request of a row: a row that stands for one action of an opcode has its action byte. -/
def asked (action : Option Nat) (r : Req) : Req :=
  match action with
  | some v => withByte r 0 v
  | none => r

/-- An accepted packet of the row has, where a condition holds, an immediate effect, and answers with a status and results;
nothing else changes. -/
def Acts (i : Req → Instr) (o : OpSpec) (action : Option Nat) (cond : Req → State → Prop) (status : Nat)
    (eff : Req → State → State) (res : Req → State → List Byte) : Prop :=
  ∀ r s, Accepted o (asked action r) s →
    let q := asked action r
    let s0 := startOf q s
    cond q s0 → Effect (i r) s fun t => t = answerLarge o.code q status (res q s0) (eff q s0) ∧ ReplyFrame (eff q s0) t

/-- An accepted packet of a long-running row begins, where a condition holds: it is answered ACCEPTED, its operation is on record,
and its effect takes place. -/
def Begins (i : Req → Instr) (o : OpSpec) (action : Option Nat) (cond : Req → State → Prop) (eff : Req → State → State) : Prop :=
  ∀ r s, Accepted o (asked action r) s → longCount s < 16 →
    let q := asked action r
    let s0 := addOp { req := q, code := o.code, state := 0, long := true } s
    cond q s0 → Effect (i r) s fun t => t = answer o.code q St.accepted [] (eff q s0) ∧ ReplyFrame (eff q s0) t

/-- An accepted packet of a long-running row is refused where a condition holds: it leaves no operation and no effect. -/
def Refuses (i : Req → Instr) (o : OpSpec) (action : Option Nat) (cond : Req → State → Prop) (status : Nat) : Prop :=
  ∀ r s, Accepted o (asked action r) s → longCount s < 16 →
    let q := asked action r
    cond q (addOp { req := q, code := o.code, state := 0, long := true } s) →
      Effect (i r) s fun t => t = answer o.code q status [] (dropOp q.src q.tag (addOp { req := q, code := o.code, state := 0, long := true } s)) ∧ ReplyFrame s t

/-- The staged units of a request with their statuses, those of other sources' held units BUSY (02 R68). -/
def unitsAsked (o : OpSpec) (r : Req) (s : State) : List (UnitRef × Nat) := lockUnits r.src (o.units r s) s

/-- An accepted packet of a row that changes committed configuration (02 R66 to R68): refused as a whole where a unit fails;
else held for COMMIT with apply mode 1, and committing at the next boundary in place of what the source held of the same units,
its reply owed, with apply mode 0. -/
def Stages (i : Req → Instr) (o : OpSpec) : Prop :=
  ∀ r s, Accepted o r s →
    let us := unitsAsked o r (startOf r s)
    (us.any (fun u => failed u.2) = true →
      Effect (i r) s fun t =>
        t = answerLarge o.code r St.notCommitted (notCommittedResults (us.map (·.2))) (startOf r s) ∧ ReplyFrame s t) ∧
    (us.any (fun u => failed u.2) = false → prm r 0 1 = 1 →
      Effect (i r) s fun t =>
        let h := holdUnits r.src (stagedOf o.code r us) (o.staged r (startOf r s))
        t = answerLarge o.code r St.deferred [] h ∧ ReplyFrame h t) ∧
    (us.any (fun u => failed u.2) = false → prm r 0 1 = 0 →
      Effect (i r) s fun t =>
        t = queueCommit o.code r (stagedOf o.code r us) false (replaceHeld r.src (stagedOf o.code r us) (o.staged r (startOf r s))))

/-- A write of a check unit's row changes that unit by the given function and nothing else; while the unit is marked unusable it is
dropped and sets GATED, and while the window is not served it does nothing. -/
def CheckRow (i : Instr) (u : Fin 4) (f : CheckUnit → CheckUnit) (s : State) : Prop :=
  (windowServed s = true → checkGated s u = false → Effect i s fun t => t = { s with check := modAt s.check u f }) ∧
  (windowServed s = true → checkGated s u = true → Effect i s fun t => t = { s with host.gated := true }) ∧
  (windowServed s = false → NoEffect i s)

/-- What a BOR, PIN or COLD reset leaves: no firmware, no operation, no key, no source; rails off and ports undriven; the fuses, the safety
block and the reset history; DRAM's banks only where DRAM is kept. -/
def ColdFacts (s t : State) : Prop :=
  t.fuse = s.fuse ∧ t.safety = s.safety ∧ t.fw.running = false ∧ t.cmd.sessionKey = none ∧ t.cmd.sources = [] ∧ t.cmd.longOps = [] ∧
  t.cmd.ephemeris = [] ∧ t.cmd.held = [] ∧ t.layers = {} ∧ t.pres = {} ∧ t.ledger = {} ∧ (∀ q ∈ t.chain.ports, q.driving = false) ∧
  FaultCause.notBooted ∈ t.faults ∧ t.time.servo = .neverLocked ∧ t.freeCount = s.freeCount

/-! ## What every step keeps -/

/-- The fuses of a chip since an earlier time: only the security version and the commissioned fuse can have been burnt, and
both only upward (17 R391, 15 R351). -/
def FusesSince (f : Fuses) (s : State) : Prop :=
  s.fuse = { f with secVersion := s.fuse.secVersion, commissioned := s.fuse.commissioned } ∧
    f.secVersion ≤ s.fuse.secVersion ∧ (f.commissioned = true → s.fuse.commissioned = true)

/-- A pair whose outputs a reset press must turn on, if anything can. -/
def Pair.locked (p : Pair) : Prop := p.state = .lockout ∨ p.state = .unused

/-- A pair that cannot turn on by itself. -/
def Pair.waits (p : Pair) : Prop := p.state = .interlock ∨ p.state = .lockout ∨ p.state = .unused

/-- The machine-safety condition: an internal lockout holds every used pair, and without a configuration no pair runs
(15 R335, R345, R351, Table 15-7). -/
def SafetyHolds (s : State) : Prop :=
  (0x10 ≤ s.safety.cause → s.safety.light.locked ∧ s.safety.motion.locked) ∧
    (s.safety.noRecord = true → s.safety.light.waits ∧ s.safety.motion.waits)

/-- The lengths of the state's fixed tables: the check units, the rails, the loops and their ports, the camera sync inputs, the
layers, the diodes, the rail voltages, the throttle factors and the safety inputs (00 Tables 0-1 and 0-2, 14, 15 Table 15-1). -/
def Shaped (s : State) : Prop :=
  s.check.length = 4 ∧ s.ledger.rails.length = 4 ∧ s.chain.loops.length = 24 ∧ s.chain.ports.length = 48 ∧ s.pres.sync.length = 5 ∧
    s.layers.run.length = 8 ∧ s.therm.diodes.length = 6 ∧ s.therm.volts.length = 4 ∧ s.therm.u.length = 4 ∧ s.safety.levels.length = 13

end Machine

end Sys2Proof
end

