-- ==== Sys2Proof/Certificates/Slice0/Obligations.lean ====
section
/-! DEFINITION. The statements for the provers: what the block's commands do, by family, and what every step keeps. -/

open Sys2Proof Sys2Proof.Machine

/-- Step takes the command at the front of the queue and is exec of it with the queue's rest. On an empty queue the block's
clock advances and a reset that is due happens (the model's choice, notes/assumptions/2.md). -/
def Obligations.StepRunsTheFrontCommand : Prop :=
  (
  ∀ (c : Instr) (q : List Instr) (s : State), step { s with pending := c :: q } = exec c { s with pending := q }
  ) ∧
  (
  ∀ s : State, s.pending = [] → step s = .next (tick s) ∧ (tick s).pending = []
  )

/-- Every command completes in every state: the block never faults and refuses nothing. No command changes the queue: of what
waits, a step takes the front command only. -/
def Obligations.EveryCommandCompletesAndKeepsTheQueue : Prop :=
  (
  ∀ (c : Instr) (s : State), ∃ t, exec c s = .next t
  ) ∧
  (
  (∀ (c : Instr) (s t : State), exec c s = .next t → t.pending = s.pending) ∧
    ∀ (c : Instr) (q : List Instr) (s t : State), s.pending = c :: q → step s = .next t → t.pending = q
  )

/-- Fuses are burnt once: whatever happens, of all fuses only the security version and the commissioned fuse change, and only
upward. -/
def Obligations.FusesOnlyGrow : Prop :=
∀ (f : Fuses) (s t : State), FusesSince f s → step s = .next t → FusesSince f t

/-- No step lets a pair out of an internal lockout, or lets a pair run without a configuration. -/
def Obligations.EveryStepKeepsSafetyHolds : Prop :=
∀ s t : State, SafetyHolds s → step s = .next t → SafetyHolds t

/-- Whatever step is taken, the state's fixed tables keep their lengths. -/
def Obligations.EveryStepKeepsTheShape : Prop :=
∀ s t : State, Shaped s → step s = .next t → Shaped t

/-- The state after reset meets the fuse condition for its own fuses. The state after reset meets the safety condition, and
no output is on. The state after reset, where the spec gives its values: firmware is not running and no image has been
judged, the queue of commands is empty, no rail is on and each holds magnitude 0, throttle factors are 1.0, every output pair
is in start interlock with its outputs off, and no FAULT cause stands. -/
def Obligations.ResetMeetsTheInvariants : Prop :=
  (
  FusesSince State.reset.fuse State.reset
  ) ∧
  (
  SafetyHolds State.reset ∧ ∀ p : OutPair, outputOn State.reset p = false
  ) ∧
  (
  State.reset.pending = [] ∧ State.reset.fw.running = false ∧ (∀ r ∈ State.reset.ledger.rails, r.phase = .off) ∧
  State.reset.safety.light.state = .interlock ∧ State.reset.safety.motion.state = .interlock ∧ State.reset.cmd.ephemeris = [] ∧ State.reset.cmd.longOps = [] ∧
  State.reset.therm.u = [0x8000, 0x8000, 0x8000, 0x8000] ∧ Shaped State.reset
  )

/-- An image whose security version is below the fuse counter is refused, and its slot is then not valid; passing probation
raises the counter to the image's version where that is higher; no step lowers it. -/
def Obligations.SecurityVersionIsNeverLowered : Prop :=
(∀ (s : State) (d : List Byte), be d 8 2 < s.fuse.secVersion → imageStatus s d ≠ St.ok) ∧
  (∀ (w : FlashWrite) (s : State), imageStatus s w.data ≠ St.ok → slotState (finishImage w s) (otherSlot s) ≠ .valid) ∧
  (∀ (s : State) (p : Probation), s.fw.probation = some p → (endProbation s).fuse.secVersion = max s.fuse.secVersion p.secVersion) ∧
  ∀ s t : State, step s = .next t → s.fuse.secVersion ≤ t.fuse.secVersion

/-- No reset but POR, no sleep state and no scan test changes the safety block: every pair, latch, timer and counter stands
as it was. After POR both pairs are in start interlock, their outputs off, and a boot that follows another reset leaves the
block alone. -/
def Obligations.NoResetButPorChangesTheSafetyBlock : Prop :=
∀ s : State,
    (∀ i ∈ [Instr.nrstRelease, .nrstStuck, .scanEnter, .scanExit, .refinLost, .refinRestored, .dieTrip, .borRelease, .firmwareAbsent2s,
        .probationHandshakeTimeout, .restoreHandshake, .wakeStepReady, .wakeStepTimeout], Effect i s fun t => t.safety = s.safety) ∧
    (∀ w, Effect (.nrstAssert w) s fun t => t.safety = s.safety) ∧
    (∀ v, Effect (.bor v) s fun t => t.safety = s.safety) ∧
    (∀ b h, Effect (.supplyFault b h) s fun t => t.safety = s.safety) ∧
    (∀ c, Effect (.watchdogExpiry c) s fun t => t.safety = s.safety) ∧
    (∀ w, Effect (.wakeEvent w) s fun t => t.safety = s.safety) ∧
    (∀ r, ∀ i ∈ [Instr.resetCold r, .resetWarm r, .powerStateTwilight r, .powerStateNadir r, .orderlyShutdown r, .powerVoteWithdraw r],
      Effect i s fun t => t.safety = s.safety) ∧
    (tick s).safety = s.safety ∧
    (∀ f, s.power.porBoot = false → Effect (.boot f) s fun t => t.safety = s.safety) ∧
    Effect .por s fun t => t.safety.light.state = .interlock ∧ t.safety.motion.state = .interlock ∧ ∀ p, outputOn t p = false

/-- HIRQ_N is low exactly while DONE, ALERT or WAKE is set; the status word shows the three as its bits 30, 28 and 16. -/
def Obligations.HirqFollowsDoneAlertAndWake : Prop :=
∀ s : State,
    (hirqNLow s = true ↔ s.host.done = true ∨ alertBit s = true ∨ s.host.wake = true) ∧
    (thermNow s < 4 → (statusWord s).getLsbD 30 = s.host.done ∧ (statusWord s).getLsbD 28 = alertBit s ∧ (statusWord s).getLsbD 16 = s.host.wake)

/-- Every opcode row is its opcode's packet through steps 7 to 12 of 02 Table 2-8. While no firmware runs, no opcode row has
an effect. A packet that fails one of steps 7 to 11 is answered with the first failing step's status and has no other effect.
The order of steps 7 to 11: each answers only where all before it pass. -/
def Obligations.PacketsRunThroughTheChecks : Prop :=
  (
  ∀ (i : Instr) (o : OpSpec) (r : Req) (s : State), packetOf i = some (o, r) → exec i s = .next (runPacket (period s) o r s)
  ) ∧
  (
  ∀ (i : Instr) (o : OpSpec) (r : Req) (s : State), packetOf i = some (o, r) → s.fw.running = false → NoEffect i s
  ) ∧
  (
  ∀ (i : Instr) (o : OpSpec) (r : Req) (s : State), packetOf i = some (o, r) → s.fw.running = true → preChecks o r s ≠ St.ok →
    Effect i s fun t => t = answer o.code r (preChecks o r s) [] s ∧ ReplyFrame s t
  ) ∧
  (
  ∀ (o : OpSpec) (r : Req) (s : State),
    (step7 o r s ≠ St.ok → preChecks o r s = step7 o r s) ∧
    (step7 o r s = St.ok → targetOk o.level r.target s = false → preChecks o r s = St.badParam) ∧
    (step7 o r s = St.ok → targetOk o.level r.target s = true → o.check r s ≠ St.ok → preChecks o r s = o.check r s) ∧
    (preChecks o r s = St.ok → ∀ t, r.sched = some t → t ≤ nowNs s + 86400000000000 ∧ s.cmd.ephemeris.length < 256) ∧
    (preChecks o r s = St.ok → o.unusable r s = false ∧ ∀ d ∈ o.domains r s, domainOn s d = true ∨ wakeAllowed s d = true)
  )

/-- A packet is answered only with REPLY_REQ set and BROADCAST clear: a host-port request then fills the reply buffer, clears
BUSY, sets DONE, and LAST_TAG and SEQ follow; otherwise the host port is as it was. -/
def Obligations.ReplyOnlyWhenAskedAndNotBroadcast : Prop :=
∀ (code : Nat) (r : Req) (st : Nat) (res : List Byte) (s : State),
    (r.broadcast = true ∨ r.replyReq = false → (answer code r st res s).host = s.host) ∧
    (r.broadcast = false → r.replyReq = true → r.src = .host →
      (answer code r st res s).host.busy = false ∧ (answer code r st res s).host.done = true ∧
      (answer code r st res s).host.lastTag = BitVec.ofNat 8 r.tag ∧ (answer code r st res s).host.seq = s.host.seq + 1 ∧
      (answer code r st res s).net = s.net) ∧
    (∀ ip port, r.broadcast = false → r.replyReq = true → r.src = .net ip port →
      (answer code r st res s).host = s.host ∧
      ∃ bytes, (answer code r st res s).net.tx = s.net.tx ++ [.datagram ip port 49410 bytes])

/-- A long-running opcode is refused with BUSY while 16 long operations run or wait. A packet that needs a sleeping domain
which policy lets it wake, and is not such a 17th: implicit votes, ACCEPTED with the wake latency, and the request waits. A
scheduled packet that is not refused takes an Ephemeris entry for its boundary, or for the first one that it is in time for,
and is then late. -/
def Obligations.ScheduledAndWaitingPackets : Prop :=
  (
  ∀ (i : Instr) (o : OpSpec) (r : Req) (s : State), packetOf i = some (o, r) → Accepted o r s → o.long r = true → 16 ≤ longCount s →
    Effect i s fun t => t = answer o.code r St.busy [] s ∧ ReplyFrame s t
  ) ∧
  (
  ∀ (i : Instr) (o : OpSpec) (r : Req) (s : State), packetOf i = some (o, r) → s.fw.running = true → preChecks o r s = St.ok →
    r.sched = none → asleep o r s ≠ [] → (o.long r = false ∨ longCount s < 16) →
    Effect i s fun t =>
      t.cmd.waiting = s.cmd.waiting ++ [⟨o.code, r, (asleep o r s).headD .always, none⟩] ∧
      (∀ d ∈ asleep o r s, ∃ v ∈ t.power.implicit, v.domain = d ∧ v.src = r.src ∧ v.tag = r.tag) ∧
      (∃ op ∈ t.cmd.longOps, isOp r.src r.tag op = true ∧ op.state = 3) ∧
      t = { s with cmd := t.cmd, host := t.host, net := { s.net with tx := t.net.tx, wire := t.net.wire }, power := { s.power with implicit := t.power.implicit } }
  ) ∧
  (
  ∀ (i : Instr) (o : OpSpec) (r : Req) (s : State) (at_ : Nat), packetOf i = some (o, r) → s.fw.running = true →
    preChecks o r s = St.ok → r.sched = some at_ → (unitsAsked o r s).any (fun u => failed u.2) = false → longCount s < 16 →
    Effect i s fun t => ∃ e : EphEntry, t.cmd.ephemeris = s.cmd.ephemeris ++ [e] ∧
      e.code = o.code ∧ e.req = r ∧ e.time = at_ ∧ e.arrival = nowNs s ∧ e.index = freeIndex s ∧
      (e.late = true ↔ e.boundary ≠ (period s).boundaryAfter at_) ∧
      (∃ op ∈ t.cmd.longOps, isOp r.src r.tag op = true ∧ op.state = 3)
  )

/-- The rows that only read answer OK with their results and leave the configuration, the ports and every unit as they are.
QUERY answers with the state of the source's operation of the tag, NVM_READ with the object's length, CRC and bytes. -/
def Obligations.ReadRowsAnswerWithoutEffect : Prop :=
  (
  Reads .nop nopSpec (fun _ _ => []) ∧
  Reads .identify identifySpec (fun _ s => identifyBytes s) ∧
  Reads .regRead regReadSpec (fun r s => ((regAddrs r).filterMap regAt).flatMap fun x => u32 (regValue s x)) ∧
  Reads .timeStatus timeStatusSpec (fun _ s => timeBytes s) ∧
  Reads .scheduleList scheduleListSpec (fun _ s =>
    u16 s.cmd.ephemeris.length ++ u16 0 ++ (s.cmd.ephemeris.mergeSort fun a b => a.index ≤ b.index).flatMap ephBytes) ∧
  Reads .bufferStatus bufferStatusSpec bufferStatusBytes ∧
  Reads .scalerStatus scalerStatusSpec (fun r s => (if prm r 0 1 = 0xFF then List.range 4 else [prm r 0 1]).flatMap (scalerBytes s)) ∧
  Reads .agingRead agingReadSpec (fun r s =>
    let es := targetEmitters s r.target
    (if bitN (prm r 0 1) 7 then es.filter fun x => isWorn s.almanac.cap (emitterGain s x.2.1 x.1 x.2.2.2) else es).flatMap (agingBytes s)) ∧
  Reads .ledgerRead ledgerReadSpec (fun r s => (enabledRails s).flatMap (railBytes s) ++
    (if prm r 0 1 = 1 then (enabledRails s).flatMap (railDetail s) else [])) ∧
  Reads .programStatus programStatusSpec (fun _ s => programBytes s) ∧
  Reads .chainStatus chainStatusSpec (fun r s => (targetLoops s r.target).flatMap (loopBytes s)) ∧
  Reads .thermalRead thermalReadSpec (fun r s => thermalBytes s ++
    (((List.range s.therm.desc.sensors.length).filter fun k => (sensorCfg s k).enable).flatMap (sensorBytes s)) ++
    (if prm r 0 1 = 1 && gridCols s != 0 then s.therm.zones.flatMap fun z => sbe 2 (tcode z.temp) else [])) ∧
  Reads .trimRead trimReadSpec (fun r s => trimBytes (match prm r 0 1 with
    | 0 => trimsNow s
    | 1 => lastGood s
    | 2 => fuseSet s
    | _ => s.trim.latest.getD {})) ∧
  Reads .bistReport bistReportSpec (fun r s => cycleBytes s ++
    (if prm r 0 1 = 1 then ((allBlocks s).map (blockBytes s)).filter fun x => getB x 2 != 0 else (allBlocks s).map (blockBytes s)).flatten) ∧
  Reads .checkContextRead checkContextReadSpec (fun r s => contextBytes (prm r 0 1) (getCheck s (prm r 0 1))) ∧
  Reads .safetyStatus safetyStatusSpec (fun _ s => safetyStatusBytes s) ∧
  Reads .journalStatus journalStatusSpec (fun _ s => journalBytes s) ∧
  Reads .telemetryRead telemetryReadSpec (fun _ s => telemetryBytes s)
  ) ∧
  (
  (∀ (r : Req) (s : State) (op : LongOp), Accepted querySpec r s → findOp r.src (prm r 0 2) (startOf r s) = some op →
    Effect (.query r) s fun t => t = answerLarge 0x0002 r St.ok (queryBytes op) (startOf r s) ∧ ReplyFrame s t) ∧
  (∀ (r : Req) (s : State) (d : List Byte), Accepted nvmReadSpec r s → nvmObject s (prm r 0 1) (prm r 4 4) = some d →
    Effect (.nvmRead r) s fun t =>
      t = answerLarge 0x0E00 r St.ok (u32 d.length ++ u32 (crc32 d) ++ d) (startOf r s) ∧ ReplyFrame s t)
  )

/-- The rows that change committed configuration stage whole units: refused as a whole, held, or committing. -/
def Obligations.ConfigurationRowsStageWholeUnits : Prop :=
Stages .telemetryConfig telemetryConfigSpec ∧ Stages .timeConfig timeConfigSpec ∧ Stages .streamSubscribe streamSubscribeSpec ∧
  Stages .layerSet layerSetSpec ∧ Stages .layerClear layerClearSpec ∧ Stages .backgroundSet backgroundSetSpec ∧
  Stages .scalerCoeffLoad scalerCoeffLoadSpec ∧ Stages .almanacSwap almanacSwapSpec ∧ Stages .colourSpaceSet colourSpaceSetSpec ∧
  Stages .budgetSet budgetSetSpec ∧ Stages .programSet programSetSpec ∧ Stages .camsyncConfig camsyncConfigSpec ∧
  Stages .meridianSet meridianSetSpec ∧ Stages .cellConfig cellConfigSpec ∧ Stages .rasterSet rasterSetSpec ∧
  Stages .twinkleConfig twinkleConfigSpec ∧ Stages .thermalConfig thermalConfigSpec ∧ Stages .bistConfig bistConfigSpec

/-- RESET answers and schedules its reset 1 ms later; COMMIT without held changes is OK, else the source's held changes
commit at the next boundary; ALERT_READ marks what it returns. KEY_PROVISION installs a key that unwraps with a fresh nonce,
and answers AUTH_FAIL with no effect otherwise. A session command key clears the source table; a stream key takes its stream
and phase. REG_WRITE writes each of its registers in order; SCHEDULE_CANCEL removes the source's entry of the tag, or is BUSY
where the entry has been loaded; an unscheduled SNAPSHOT waits for the next boundary, its reply owed. Check units:
CHECK_CONFIG loads the units of its mask with the named algorithm or the given one and restarts them; CHECK_CONTEXT_WRITE
writes a unit's context, and is BUSY where a CHECK_RUN owns the unit. -/
def Obligations.SystemRowsAct : Prop :=
  (
  Acts .resetCold resetSpec (some 0) (fun r _ => prm r 0 1 = 0) St.ok (fun _ s => { s with fw.resetCold := some (nowNs s + 1000000) }) (fun _ _ => []) ∧
  Acts .resetWarm resetSpec (some 1) (fun r _ => prm r 0 1 = 1) St.ok (fun _ s => { s with fw.resetWarm := some (nowNs s + 1000000) }) (fun _ _ => []) ∧
  Acts .commit commitSpec none (fun r s => ∀ h ∈ s.cmd.held, h.src ≠ r.src) St.ok (fun _ s => s) (fun _ _ => []) ∧
  (∀ r s, Accepted commitSpec r s → (∃ h ∈ s.cmd.held, h.src = r.src) →
    Effect (.commit r) s fun t => t = queueCommit 0x0006 r [] false (startOf r s)) ∧
  Acts .alertRead alertReadSpec none (fun _ _ => True) St.ok
    (fun r s => { s with cmd.alerts := markRead (alertPick (bitN (prm r 2 1) 6) (prm r 0 2) s.cmd.alerts) (bitN (prm r 2 1) 7) s.cmd.alerts })
    (fun r s =>
      let ids := alertPick (bitN (prm r 2 1) 6) (prm r 0 2) s.cmd.alerts
      let after := markRead ids (bitN (prm r 2 1) 7) s.cmd.alerts
      u16 ids.length ++ u16 (unread after) ++ zeros 4 ++ (ids.filterMap fun i => after[i]?).flatMap alertBytes)
  ) ∧
  (
  Acts .keyProvision keyProvisionSpec none (fun r s => unwrapKey r s = none) St.authFail (fun _ s => s) (fun _ _ => []) ∧
  ∀ (r : Req) (s : State) (key : List Byte), Accepted keyProvisionSpec r s → unwrapKey r (startOf r s) = some key →
    Effect (.keyProvision r) s fun t =>
      slice r.params 4 12 ∈ t.cmd.nonces ∧
      (prm r 0 1 = 0 → t.cmd.sessionKey = some key ∧ t.cmd.sources = [] ∧ t.cmd.streamKeys = s.cmd.streamKeys) ∧
      (prm r 0 1 = 1 → ((prm r 1 1, prm r 2 1), key) ∈ t.cmd.streamKeys ∧ t.cmd.sessionKey = s.cmd.sessionKey) ∧
      t = { s with cmd := t.cmd, host := t.host, net := { s.net with tx := t.net.tx, wire := t.net.wire } }
  ) ∧
  (
  Acts .regWrite regWriteSpec none (fun _ _ => True) St.ok
    (fun r s => (((regAddrs r).filterMap regAt).zipIdx).foldl (fun t (x, i) => writeReg x true r.auth (prm r (8 + 4 * i) 4) t) s) (fun _ _ => []) ∧
  (∀ r s e, Accepted scheduleCancelSpec r s → findEntry r.src (prm r 0 2) s = some e → e.loaded = true →
    Effect (.scheduleCancel r) s fun t => t = answerLarge 0x0103 r St.busy [] (startOf r s) ∧ ReplyFrame s t) ∧
  (∀ r s e, Accepted scheduleCancelSpec r s → findEntry r.src (prm r 0 2) s = some e → e.loaded = false →
    Effect (.scheduleCancel r) s fun t =>
      (∀ x ∈ t.cmd.ephemeris, x ∈ s.cmd.ephemeris ∧ x.index ≠ e.index) ∧
      (∀ x ∈ s.cmd.ephemeris, x.index ≠ e.index → x ∈ t.cmd.ephemeris) ∧
      (∀ x ∈ t.cmd.longOps, isOp r.src (prm r 0 2) x = true → opLive x = false)) ∧
  (∀ r s, Accepted snapshotSpec r s →
    Effect (.snapshot r) s fun t => t = { startOf r s with cmd.snapshots := s.cmd.snapshots ++ [r] })
  ) ∧
  (
  Acts .checkConfig checkConfigSpec none (fun _ _ => True) St.ok
    (fun r s => (List.range 4).foldl (fun t u => if bitN (prm r 0 1) u then modCheck u (configureCheck r.params) t else t) s) (fun _ _ => []) ∧
  Acts .checkContextWrite checkContextWriteSpec none (fun r s => (getCheck s (prm r 0 1)).owned = true) St.busy (fun _ s => s) (fun _ _ => []) ∧
  Acts .checkContextWrite checkContextWriteSpec none (fun r s => (getCheck s (prm r 0 1)).owned = false) St.ok
    (fun r s => modCheck (prm r 0 1) (fun c => { c with ctx := contextOf r.params }) s) (fun _ _ => [])
  )

/-- FETCH_PARTIAL returns the bytes from the offset on, at most 8,192: of a running operation its partial results with status
PARTIAL, of one that has ended its results. ABORT of an operation that has ended answers with its final status and changes
nothing. ABORT of a running power change waits for its end. ABORT of another live operation is answered OK: its Ephemeris
entry, its waiting commit and its wait for a wake are gone, and its record is aborted with final status NOT_COMMITTED. -/
def Obligations.PartialResultsAndAbort : Prop :=
  (
  ∀ (r : Req) (s : State) (op : LongOp), Accepted fetchPartialSpec r s → findOp r.src (prm r 0 2) (startOf r s) = some op →
    let part := slice (if opLive op then op.partials else op.results) (prm r 4 4) 8192
    let s1 := modOp r.src (prm r 0 2) (fun o => { o with fetched := max o.fetched (prm r 4 4 + part.length) }) (startOf r s)
    part.length ≤ 8192 ∧
    Effect (.fetchPartial r) s fun t =>
      t = answerLarge 0x0003 r (if opLive op then St.partialResults else St.ok) part s1 ∧ ReplyFrame s t
  ) ∧
  (
  ∀ (r : Req) (s : State) (op : LongOp), Accepted abortSpec r s → findOp r.src (prm r 0 2) (startOf r s) = some op →
    (opLive op = false →
      Effect (.abort r) s fun t => t = answerLarge 0x0004 r op.final [] (startOf r s) ∧ ReplyFrame s t) ∧
    (op.code = 0x0D01 → op.state = 0 →
      Effect (.abort r) s fun t => t = modOp r.src (prm r 0 2) (fun x => { x with abortOwed := some r }) (startOf r s)) ∧
    (opLive op = true → ¬ (op.code = 0x0D01 ∧ op.state = 0) →
      Effect (.abort r) s fun t =>
        (∀ e ∈ t.cmd.ephemeris, ¬ (e.req.src = r.src ∧ e.req.tag = prm r 0 2)) ∧
        (∀ j ∈ t.cmd.committing, ¬ (j.req.src = r.src ∧ j.req.tag = prm r 0 2)) ∧
        (∀ w ∈ t.cmd.waiting, ¬ (w.req.src = r.src ∧ w.req.tag = prm r 0 2)) ∧
        findOp r.src (prm r 0 2) t = some { op with state := 2, final := St.notCommitted, progress := 1000, bulk := none, doneAt := nowNs s })
  )

/-- FREEZE and BLANK mark the views of their mask for the next transit that shows them; AMBIENT_SET takes effect at once.
FAULT_MAP_READ returns the records that its target covers, cleared ones only with ALL, and with CLEAR forgets the cleared
ones that it returned. AGING_RECAST sets a schedule of whole intervals from its time of day, or suspends it. -/
def Obligations.ViewAmbientAndRecastRowsAct : Prop :=
  (
  Acts .freeze freezeSpec none (fun r _ => prm r 1 1 = 1) St.ok
    (fun r s => { s with pres.freezeNext := setNext s.pres.freezeNext (prm r 0 1) true }) (fun _ _ => []) ∧
  Acts .freeze freezeSpec none (fun r _ => prm r 1 1 ≠ 1) St.ok
    (fun r s => { s with
      pres.freezeNext := setNext s.pres.freezeNext (prm r 0 1) false
      pres.unfreezeAt := s.pres.unfreezeAt.zipIdx.map fun (x, v) =>
        if (prm r 0 1).testBit v && s.pres.frozen.getD v false then s.time.frame + 1 else x }) (fun _ _ => []) ∧
  Acts .blank blankSpec none (fun _ _ => True) St.ok
    (fun r s => { s with pres.blankNext := setNext s.pres.blankNext (prm r 0 1) (prm r 1 1 = 1) }) (fun _ _ => []) ∧
  Acts .ambientSet ambientSetSpec none (fun r s => prm r 0 1 = 0 ∧ s.ledger.ambient.failed = false) St.ok (fun r s => setAmbient r.params s) (fun _ _ => []) ∧
  Acts .ambientSet ambientSetSpec none (fun r s => prm r 0 1 = 1 ∧ s.ledger.ambient.failed = false) St.ok (fun r s => setAmbient r.params s) (fun _ _ => []) ∧
  ∀ (ps : List Byte) (s : State), getB ps 0 = 0 → (setAmbient ps s).ledger.ambient.a = be ps 2 2
  ) ∧
  (
  ∀ (r : Req) (s : State), Accepted faultMapReadSpec r s →
    Effect (.faultMapRead r) s fun t =>
      t.chain.faults = (s.chain.faults.filter fun f =>
        !(bitN (prm r 0 1) 6 && !f.active && faultWithin r.target f && bitN (prm r 0 1) 7)) ∧
      ReplyFrame { s with chain := { s.chain with faults := t.chain.faults } } t
  ) ∧
  (
  Acts .agingRecastSetSchedule agingRecastSpec (some 0) (fun r _ => prm r 0 1 = 0) St.ok
    (fun r s => { s with
        almanac.scheduled := true
        almanac.balance := bitN (prm r 1 1) 7
        almanac.interval := prm r 2 2
        almanac.timeOfDay := prm r 4 4
        almanac.cap := prm r 8 2
        almanac.nextRecast := some (nextTimeOfDay (prm r 4 4) (nowNs s)) }) (fun _ _ => []) ∧
  Acts .agingRecastSuspend agingRecastSpec (some 2) (fun r _ => prm r 0 1 = 2) St.ok (fun _ s => { s with almanac.scheduled := false }) (fun _ _ => [])
  )

/-- Pixel buffers and streams: BUFFER_ALLOC of a free granule count adds a free buffer under the lowest free handle, in the
lowest free granules (the model's placement, notes/assumptions/23.md); BUFFER_RELEASE removes an unused buffer and defers one
that is named; STREAM_DROP leaves the stream's groups and forgets it. -/
def Obligations.PixelDataRowsAct : Prop :=
Acts .bufferAlloc bufferAllocSpec none (fun r s => bitN (prm r 1 1) 6 = false ∧ allocBusy r.params s = false) St.ok
    (fun r s => { s with layers.buffers := s.layers.buffers ++ [newBuffer r.params s] })
    (fun r s => allocBytes (newBuffer r.params s)) ∧
  Acts .bufferAlloc bufferAllocSpec none (fun r s => bitN (prm r 1 1) 6 = false ∧ allocBusy r.params s = true) St.busy (fun _ s => s) (fun _ _ => []) ∧
  Acts .bufferRelease bufferReleaseSpec none (fun r s => inRing s (prm r 0 2) = true) St.busy (fun _ s => s) (fun _ _ => []) ∧
  Acts .bufferRelease bufferReleaseSpec none (fun r s => inRing s (prm r 0 2) = false ∧ isNamed s (prm r 0 2) = true) St.deferred
    (fun r s => modBuf (prm r 0 2) (fun b => { b with releasePending := true }) s) (fun _ _ => []) ∧
  (∀ r s b, Accepted bufferReleaseSpec r s → findBuf s (prm r 0 2) = some b → inRing s (prm r 0 2) = false → isNamed s (prm r 0 2) = false →
    b.state = .free ∨ b.state = .ready →
    Effect (.bufferRelease r) s fun t => findBuf t (prm r 0 2) = none ∧
      ∀ h, h ≠ prm r 0 2 → findBuf t h = findBuf s h) ∧
  Acts .streamDrop streamDropSpec none (fun _ _ => True) St.ok (fun r s => dropStream (prm r 0 1) s) (fun _ _ => []) ∧
  ∀ (h : Nat) (s : State), (dropStream h s).layers.streams.getD h none = none

/-- SAFE_OFF_REQUEST answers with the two pairs' states; no message turns an output on whose pair did not wait in a demand.
-/
def Obligations.SafeOffRequestNeverTurnsOn : Prop :=
Acts .safeOffRequest safeOffSpec none (fun _ _ => True) St.ok (fun r s => takeMessage r.params s)
    (fun r s => u8 (pairCode (takeMessage r.params s).safety.light.state) ++ u8 (pairCode (takeMessage r.params s).safety.motion.state)) ∧
  (∀ (m : List Byte) (s : State) (p : OutPair), (s.safety.pair p).state ≠ .demand → outputOn (takeMessage m s) p = true → outputOn s p = true) ∧
  ∀ (m : List Byte) (s : State) (p : OutPair), messageOk s.safety m = true → (bitN (getB m 5) 7 || bitN (getB m 5) 6) = true →
    s.safety.uses fNet = true → s.safety.sources p &&& fNet ≠ 0 → outputOn (takeMessage m s) p = false

/-- POWER_VOTE withdraws, adds or takes over votes for the source's voter and answers with the domains that are on;
PLEVEL_SET sets the ceiling and AUTO; WAKE_RECORD_READ clears WAKE. POWER_STATE: from RUN the entries to TWILIGHT and NADIR
begin, and from TWILIGHT the exit to RUN, each to report to its operation; the alarm and the PORT_A wake are armed as the
packet says; NADIR is BUSY while work is held. -/
def Obligations.PowerRowsAct : Prop :=
  (
  Acts .powerVoteWithdraw powerVoteSpec (some 0) (fun _ _ => True) St.ok (fun r s => castVote r.src (prm r 0 1) (prm r 2 2) s)
    (fun r s => u16 (domainMask (castVote r.src (prm r 0 1) (prm r 2 2) s))) ∧
  Acts .powerVoteAdd powerVoteSpec (some 1) (fun r _ => prm r 0 1 = 1) St.ok
    (fun r s => { s with power.votes := setAt s.power.votes (voterOf r.src) (s.power.votes.getD (voterOf r.src) 0 ||| prm r 2 2) })
    (fun r s => u16 (domainMask { s with power.votes := setAt s.power.votes (voterOf r.src) (s.power.votes.getD (voterOf r.src) 0 ||| prm r 2 2) })) ∧
  Acts .powerVoteTakeOver powerVoteSpec (some 2) (fun _ _ => True) St.ok (fun r s => castVote r.src (prm r 0 1) (prm r 2 2) s)
    (fun r s => u16 (domainMask (castVote r.src (prm r 0 1) (prm r 2 2) s))) ∧
  Acts .plevelSet plevelSetSpec none (fun _ _ => True) St.ok
    (fun r s => noteDemand { s with power.ceiling := Fin.ofNat 4 (prm r 0 1), power.auto := bitN (prm r 1 1) 7 }) (fun _ _ => []) ∧
  Acts .wakeRecordRead wakeRecordReadSpec none (fun _ _ => True) St.ok (fun _ s => { s with host.wake := false })
    (fun _ s => wakeRecordBytes s.power.record ++ padTo 64 (s.power.history.flatMap resetEntryBytes))
  ) ∧
  (
  Begins .powerStateRun powerStateSpec (some 0) (fun r s => prm r 0 1 = 0 ∧ s.power.mode = .twilight)
    (fun r s => { leaveTwilight (armWakes r s) with power.op := some ⟨r.src, r.tag⟩ }) ∧
  Begins .powerStateRun powerStateSpec (some 0) (fun r s => prm r 0 1 = 0 ∧ s.power.mode = .run) (fun r s => completeOp r.src r.tag St.ok [] (armWakes r s)) ∧
  Begins .powerStateTwilight powerStateSpec (some 1) (fun r s => prm r 0 1 = 1 ∧ s.power.mode = .run)
    (fun r s => { armWakes r s with power.mode := .enteringTwilight, power.op := some ⟨r.src, r.tag⟩ }) ∧
  Begins .powerStateNadir powerStateSpec (some 2) (fun r s => prm r 0 1 = 2 ∧ (s.power.mode = .run ∨ s.power.mode = .twilight) ∧ workHeld r s = false)
    (fun r s => enterNadir r false s) ∧
  Begins .orderlyShutdown powerStateSpec (some 3) (fun r s => prm r 0 1 = 3 ∧ (s.power.mode = .run ∨ s.power.mode = .twilight) ∧ workHeld r s = false)
    (fun r s => enterNadir r true s) ∧
  (∀ (r : Req) (orderly : Bool) (s : State), (enterNadir r orderly s).power.mode = .enteringNadir ∧
    (enterNadir r orderly s).power.op = some ⟨r.src, r.tag⟩ ∧ (enterNadir r orderly s).power.shutdown = orderly ∧
    (enterNadir r orderly s).power.portAWake = bitN (prm r 1 1) 6 ∧
    (enterNadir r orderly s).power.alarm = if bitN (prm r 1 1) 7 then some (prm r 4 4) else none) ∧
  (∀ r s, Accepted powerStateSpec (withByte r 0 2) s → longCount s < 16 → prm (withByte r 0 2) 0 1 = 2 →
    let q := withByte r 0 2
    let s0 := addOp { req := q, code := 0x0D01, state := 0, long := true } s
    (s.power.mode = .run ∨ s.power.mode = .twilight) → workHeld q s0 = true →
    Effect (.powerStateNadir r) s fun t => t = answer 0x0D01 q St.busy (voteMasks s0) (dropOp q.src q.tag s0) ∧ t.power = s.power)
  )

/-- IMAGE_ACTIVATE: activation begins probation on the staged slot; reverting within a probation ends it with a WARM reset;
ending a probation makes the slot the default and burns the security version; each is refused in the thermal shutdown. -/
def Obligations.ImageActivateRowsAct : Prop :=
Acts .imageActivateStaged imageActivateSpec (some 0)
    (fun r s => prm r 0 1 = 0 ∧ s.therm.shutdownAt = none ∧ s.flash.queue.any (fun w => w.use == .image) = false ∧ activateOk s 0 = true)
    St.ok (fun _ s => activateImage s) (fun _ _ => []) ∧
  Acts .imageActivateRevert imageActivateSpec (some 1)
    (fun r s => prm r 0 1 = 1 ∧ s.therm.shutdownAt = none ∧ s.flash.queue.any (fun w => w.use == .image) = false ∧ activateOk s 1 = true)
    St.ok (fun _ s => revertSlot s) (fun _ _ => []) ∧
  Acts .imageActivateEndProbation imageActivateSpec (some 2) (fun r s => prm r 0 1 = 2 ∧ s.therm.shutdownAt = none ∧ s.fw.probation.isSome = true)
    St.ok (fun _ s => endProbation s) (fun _ _ => []) ∧
  (∀ (s : State) (p : Probation), s.fw.probation = some p →
    endProbation s = { s with fw.probation := none, flash.defaultSlot := s.flash.active, fuse.secVersion := max s.fuse.secVersion p.secVersion }) ∧
  ∀ (i : Instr) (r : Req) (s : State), packetOf i = some (imageActivateSpec, r) → Accepted imageActivateSpec r s → s.therm.shutdownAt.isSome = true →
    Effect i s fun t => t = answerLarge 0x0E03 r St.thermalRefused [] (startOf r s) ∧ ReplyFrame s t

/-- An operation that takes its data in bulk blocks is on record with the length that it expects, and no block. -/
def Obligations.BulkOperationsAwaitTheirData : Prop :=
Begins .almanacLoad almanacLoadSpec none (fun r s => loadRuns s r = false ∧ swapPending s (inactiveBank s) = false ∧ prm r 0 1 = 0)
    (fun r s => awaitBulk r (prm r 4 4) s) ∧
  Begins .almanacLoad almanacLoadSpec none (fun r s => loadRuns s r = false ∧ swapPending s (inactiveBank s) = false ∧ prm r 0 1 ≠ 0) (fun _ s => s) ∧
  Refuses .almanacLoad almanacLoadSpec none (fun r s => loadRuns s r = true ∨ swapPending s (inactiveBank s) = true) St.busy ∧
  Begins .binTableLoad binTableLoadSpec none (fun _ _ => True) (fun r s => awaitBulk r (480 * prm r 1 1 + 64) s) ∧
  (∀ r s b, Accepted bufferWriteSpec r s → longCount s < 16 → findBuf s (prm r 0 2) = some b → writable s b = true →
    Effect (.bufferWrite r) s fun t =>
      (∃ op ∈ t.cmd.longOps, isOp r.src r.tag op = true ∧ op.state = 0 ∧ op.bulk.map (·.length) = some (prm r 8 4)) ∧
      (∃ x, findBuf t (prm r 0 2) = some x ∧ x.state = .filling ∧ x.filler = .bulkWrite ∧ x.mem = b.mem) ∧
      ∀ h, h ≠ prm r 0 2 → findBuf t h = findBuf s h) ∧
  Begins .nvmWrite nvmWriteSpec none (fun r s => flashStatus s = St.ok ∧ 8176 < prm r 8 4) (fun r s => awaitBulk r (prm r 8 4) s) ∧
  Begins .nvmWrite nvmWriteSpec none (fun r s => flashStatus s = St.ok ∧ prm r 8 4 ≤ 8176) (fun r s => nvmReceived r (inlineData r) s) ∧
  Begins .imageStage imageStageSpec none (fun r s => s.fw.probation = none ∧ stagingRuns s r = false ∧ s.therm.shutdownAt = none)
    (fun r s => awaitBulk r (prm r 0 4) s) ∧
  Refuses .imageStage imageStageSpec none (fun r s => s.fw.probation = none ∧ stagingRuns s r = false ∧ s.therm.shutdownAt.isSome = true) St.thermalRefused ∧
  ∀ (r : Req) (length : Nat) (s : State) (op : LongOp), findOp r.src r.tag s = some op →
    ∃ x, findOp r.src r.tag (awaitBulk r length s) = some { op with bulk := some x } ∧ x.length = length ∧ x.blocks = [] ∧ x.lastAt = nowNs s ∧ x.key = s.cmd.sessionKey

/-- Operations of the tile: WRITEBACK takes its free buffer, BUFFER_ALLOC with FROM_SLIDE a new one that fills; BIST_RUN and
BLOCK_RESTORE queue their blocks; CALIBRATE becomes the one running calibration; CHECK_RUN takes its unit; SAFETY_CONFIG
waits for its confirming press and is LOCKED while a used pair runs; AGING_RECAST now begins from the stored file, and ends
with NVM_TORN without one. -/
def Obligations.LongOperationsBegin : Prop :=
(∀ r s, Accepted bufferAllocSpec r s → longCount s < 16 → bitN (prm r 1 1) 6 = true → allocBusy r.params s = false →
    Effect (.bufferAlloc r) s fun t =>
      t.layers.buffers = s.layers.buffers ++
        [{ newBuffer r.params s with state := .filling, filler := .slide, opSrc := r.src, opTag := r.tag }]) ∧
  (∀ r s b, Accepted writebackSpec r s → longCount s < 16 → writebackStatus r s = St.ok → findBuf s (prm r 2 2) = some b →
    Effect (.writeback r) s fun t =>
      t.layers.writeback = s.layers.writeback ++ [{ src := r.src, tag := r.tag, view := prm r 0 1, tap := prm r 1 1, handle := prm r 2 2, x := prm r 4 2, y := prm r 6 2, width := prm r 8 2, height := prm r 10 2, frame := none }] ∧
      findBuf t (prm r 2 2) = some { b with state := .filling, filler := .writeback, opSrc := r.src, opTag := r.tag }) ∧
  Begins .bistRun bistRunSpec none (fun _ s => s.therm.shutdownAt = none)
    (fun r s => { s with bist.ops := s.bist.ops ++ [{ src := r.src, tag := r.tag, restore := false, blocks := namedBlocks r }] }) ∧
  Refuses .bistRun bistRunSpec none (fun _ s => s.therm.shutdownAt.isSome = true) St.thermalRefused ∧
  Begins .blockRestore blockRestoreSpec none (fun _ _ => True)
    (fun r s => { s with bist.ops := s.bist.ops ++ [{ src := r.src, tag := r.tag, restore := true, blocks := [prm r 0 2] }] }) ∧
  Begins .calibrate calibrateSpec none (fun _ s => s.therm.shutdownAt = none ∧ calibrating s = false) (fun r s => { s with trim.run := some (calRunOf r s), trim.latest := some (trimsNow s) }) ∧
  Refuses .calibrate calibrateSpec none (fun _ s => s.therm.shutdownAt = none ∧ calibrating s = true) St.busy ∧
  Refuses .checkRun checkRunSpec none (fun r s => (getCheck s (prm r 0 1)).owned = true) St.busy ∧
  (∀ r s, Accepted checkRunSpec r s → longCount s < 16 → Shaped s → (getCheck s (prm r 0 1)).owned = false →
    Effect (.checkRun r) s fun t =>
      let c := getCheck s (prm r 0 1)
      getCheck t (prm r 0 1) = { c with
        ctx := if bitN (prm r 1 1) 6 then c.ctx else c.ctx.reload
        run := some { src := r.src, tag := r.tag, saved := c.ctx, flash := bitN (prm r 1 1) 7, continue_ := bitN (prm r 1 1) 6, compare := bitN (prm r 1 1) 5, addr := prm r 4 4, length := prm r 8 4, expected := prm r 12 4, began := nowNs s } } ∧
      ∀ u, u ≠ prm r 0 1 → getCheck t u = getCheck s u) ∧
  Refuses .safetyConfig safetyConfigSpec none (fun _ s => s.safety.light.state = .run ∨ s.safety.motion.state = .run) St.locked ∧
  Refuses .safetyConfig safetyConfigSpec none
    (fun r s => s.safety.light.state ≠ .run ∧ s.safety.motion.state ≠ .run ∧ s.fuse.commissioned = true ∧ prm r 1 1 = 0) St.locked ∧
  Begins .safetyConfig safetyConfigSpec none
    (fun r s => s.safety.light.state ≠ .run ∧ s.safety.motion.state ≠ .run ∧ ¬ (s.fuse.commissioned = true ∧ prm r 1 1 = 0) ∧ s.safety.pending = none)
    (fun r s => { s with safety := { s.safety with pending := some ⟨safetyCfgOf r.params, r.src, r.tag, nowNs s⟩ } }) ∧
  Refuses .agingRecastNow agingRecastSpec (some 1) (fun r s => prm r 0 1 = 1 ∧ recastWaits s = true) St.busy ∧
  (∀ r s f, Accepted agingRecastSpec (withByte r 0 1) s → longCount s < 16 → prm (withByte r 0 1) 0 1 = 1 →
    let q := withByte r 0 1
    let s0 := addOp { req := q, code := 0x0406, state := 0, long := true } s
    recastWaits s0 = false → storedFile s0 = some f →
    Effect (.agingRecastNow r) s fun t => t = answer 0x0406 q St.accepted [] (startRecast (some (q.src, q.tag)) f s0) ∧
      t.almanac.recast = some ⟨some (q.src, q.tag), inactiveBank s0⟩) ∧
  Begins .agingRecastNow agingRecastSpec (some 1) (fun r s => prm r 0 1 = 1 ∧ recastWaits s = false ∧ storedFile s = none)
    (fun r s => completeOp r.src r.tag St.nvmTorn [] s)

/-- ALMANAC_VERIFY is answered ACCEPTED and is complete, its results those of what it measured (that it completes in one step
is the model's choice, notes/assumptions/27.md). CHAIN_ENUMERATE begins its run over the loops of its target, and is BUSY
while one runs. DIAG_RUN begins its run over the cells of its target, or over the port of its ball test; it is refused in the
thermal shutdown, and a ball test is BUSY where one end does not hold the port's loop. -/
def Obligations.MeasuringOperationsBegin : Prop :=
Begins .almanacVerify almanacVerifySpec none (fun _ _ => True)
    (fun r s => let v := verifyBanks (if prm r 0 1 = 2 then [0, 1] else [prm r 0 1]) s; completeOp r.src r.tag St.ok v.2 v.1) ∧
  Begins .chainEnumerate chainEnumerateSpec none (fun _ s => s.chain.enumRun = none)
    (fun r s => enumFrom ⟨r.src, r.tag, targetLoops s r.target, targetLoops s r.target, 0⟩ s) ∧
  Refuses .chainEnumerate chainEnumerateSpec none (fun _ s => s.chain.enumRun.isSome = true) St.busy ∧
  (∀ (i : Req → Instr) (mode : Nat), (i, mode) ∈ [((Instr.diagRunShort), 1), (Instr.diagRunAdjShort, 2), (Instr.diagRunOpen, 3)] →
    Begins i diagRunSpec (some mode) (fun r s => s.therm.shutdownAt = none ∧ prm r 0 1 = mode)
      (fun r s =>
        let cells := targetCells s r.target
        { s with chain.diagRuns := s.chain.diagRuns ++
            [⟨r.src, r.tag, mode, prm r 1 1, cells, diagRows cells, 0, cells ++ cells, nowNs s, activeRecords s⟩] })) ∧
  Begins .diagRunBallTest diagRunSpec (some 4)
    (fun r s => s.therm.shutdownAt = none ∧ prm r 0 1 = 4 ∧ fitsOneEnd s (prm r 1 1) = true)
    (fun r s => { s with chain.diagRuns := s.chain.diagRuns ++
      [⟨r.src, r.tag, 4, prm r 1 1, [], diagRows [], 0, [], nowNs s, activeRecords s⟩] }) ∧
  Refuses .diagRunBallTest diagRunSpec (some 4)
    (fun r s => s.therm.shutdownAt = none ∧ prm r 0 1 = 4 ∧ fitsOneEnd s (prm r 1 1) = false) St.busy ∧
  ∀ (i : Req → Instr) (mode : Nat), (i, mode) ∈ [((Instr.diagRunShort), 1), (Instr.diagRunAdjShort, 2), (Instr.diagRunOpen, 3), (Instr.diagRunBallTest, 4)] →
    Refuses i diagRunSpec (some mode) (fun _ s => s.therm.shutdownAt.isSome = true) St.thermalRefused

/-- STATUS, WINDOW_READ and REPLY_READ while the window is served: the status word of before is shifted out, GATED clears,
ERROR tells an instruction that 02 Table 2-2 lacks and a misaligned window address, whose data phase is ignored; nothing but
the host port changes. WINDOW_WRITE with a misaligned address writes nothing and sets ERROR; a single word is dropped outside
the map and, with GATED, in a gated block; else it is written. -/
def Obligations.HostWindow : Prop :=
  (
  ∀ s : State, domainOn s .always = true → s.power.mode ≠ .enteringNadir →
    (∀ code, Effect (.status code) s fun t => t = { s with host := { s.host with shiftedStatus := statusWord s, shifted := [], gated := false, error := t.host.error } } ∧
      (t.host.error = true ↔ code.toNat % 128 ∉ [0x00, 0x02, 0x03, 0x40, 0x41])) ∧
    (∀ quad addr n, Effect (.windowRead quad addr n) s fun t => t = { s with host := t.host } ∧ t.host.shiftedStatus = statusWord s ∧
      (t.host.error = true ↔ addr.toNat % 4 ≠ 0) ∧ (addr.toNat % 4 ≠ 0 → t.host.shifted = [])) ∧
    (∀ quad addr, addr.toNat % 4 = 0 → regAt addr.toNat = none →
      Effect (.windowRead quad addr 1) s fun t => t.host.shifted = u32 0 ∧ t.host.gated = false) ∧
    (∀ quad addr x, addr.toNat % 4 = 0 → regAt addr.toNat = some x → regGated s x = true →
      Effect (.windowRead quad addr 1) s fun t => t.host.shifted = u32 0 ∧ t.host.gated = true) ∧
    (∀ quad addr x, addr.toNat % 4 = 0 → regAt addr.toNat = some x → regGated s x = false →
      Effect (.windowRead quad addr 1) s fun t => t.host.shifted = u32 (regValue s x) ∧ t.host.gated = false) ∧
    ∀ quad off n, Effect (.replyRead quad off n) s fun t => t = { s with host := t.host } ∧ t.host.shiftedStatus = statusWord s ∧
      t.host.shifted.length = n ∧
      (t.host.done = true ↔ s.host.done = true ∧ ¬ (off.toNat < s.host.reply.length ∧ s.host.reply.length ≤ off.toNat + n))
  ) ∧
  (
  ∀ s : State, domainOn s .always = true → s.power.mode ≠ .enteringNadir →
    let begun : State := { s with host := { s.host with shiftedStatus := statusWord s, shifted := [], gated := false } }
    (∀ quad addr ws, addr.toNat % 4 ≠ 0 → Effect (.windowWrite quad addr ws) s fun t => t = { begun with host.error := true }) ∧
    (∀ quad addr w, addr.toNat % 4 = 0 → regAt addr.toNat = none → Effect (.windowWrite quad addr [w]) s fun t => t = { begun with host.error := false }) ∧
    (∀ quad addr w x, addr.toNat % 4 = 0 → regAt addr.toNat = some x → regGated begun x = true →
      Effect (.windowWrite quad addr [w]) s fun t => t = { begun with host.error := false, host.gated := true }) ∧
    ∀ quad addr w x, addr.toNat % 4 = 0 → regAt addr.toNat = some x → regGated begun x = false →
      Effect (.windowWrite quad addr [w]) s fun t => t = { writeReg x false false w.toNat begun with host.error := false }
  )

/-- While Nightwatch alone serves the port, a read of the window gives words of zeros and sets GATED, and a write does
nothing; with VHOST on V3P3 a transaction in NADIR is a wake event and nothing else. A register write of the window: SERVO_GAINS takes its two gains, INPUT_LIMIT its limit where it is from 50 to 600;
an address outside the map is dropped, and one in a gated block sets GATED; PLEVEL and POWER_VOTES registers are read-only.
COMMAND_POLICY changes only through a REG_WRITE that is authenticated or that comes while no session command key exists; each
field takes its value, but a MAX_GAP out of range, which keeps its own. PORT_CONFIG takes VLAN, PCP, SNOOP, MODE and FEC of
its port, a reserved MODE or FEC keeping its own; a write that changes neither MODE nor FEC leaves the link, and the other
port is as it was. -/
def Obligations.RegisterWrites : Prop :=
  (
  ∀ s : State, s.power.mode = .nadir → s.fuse.vhost33 = true →
    (∀ code, Effect (.status code) s fun t => t = startWake 2 0 s) ∧ (∀ quad addr n, Effect (.windowRead quad addr n) s fun t => t = startWake 2 0 s) ∧
    (∀ quad addr ws, Effect (.windowWrite quad addr ws) s fun t => t = startWake 2 0 s) ∧
    (∀ quad addr bytes, Effect (.packetWrite quad addr bytes) s fun t => t = startWake 2 0 s) ∧
    ∀ quad off n, Effect (.replyRead quad off n) s fun t => t = startWake 2 0 s
  ) ∧
  (
  ∀ s : State, s.power.mode = .waking ∨ s.power.mode = .wakeFailed → s.fuse.vhost33 = false →
    (∀ quad addr n, addr.toNat % 4 = 0 → 0 < n → Effect (.windowRead quad addr n) s fun t => t.host.shifted = zeros (4 * n) ∧ t.host.gated = true ∧
      t = { s with host := t.host, power := { s.power with record := t.power.record } }) ∧
    (∀ quad addr ws, Effect (.windowWrite quad addr ws) s fun t => t = { s with host := t.host, power := { s.power with record := t.power.record } }) ∧
    ∀ code, Effect (.status code) s fun t => t.host.shifted = [] ∧ t = { s with host := t.host, power := { s.power with record := t.power.record } }
  ) ∧
  (
  ∀ (v : Word) (s : State), domainOn s .always = true →
    (∀ a, regAt a = none → NoEffect (.registerWrite a v) s) ∧
    (∀ a x, regAt a = some x → regGated s x = true → Effect (.registerWrite a v) s fun t => t = { s with host.gated := true }) ∧
    (Effect (.registerWrite 0x010100 v) s fun t =>
      t = { s with time.alpha := (v.extractLsb' 16 16).toNat, time.beta := (v.extractLsb' 0 16).toNat }) ∧
    (domainOn s .meter = true → Effect (.registerWrite 0x050000 v) s fun t =>
      t = { s with ledger.limit := if 50 ≤ (v.extractLsb' 0 16).toNat ∧ (v.extractLsb' 0 16).toNat ≤ 600 then (v.extractLsb' 0 16).toNat else s.ledger.limit }) ∧
    (∀ a k, regAt a = some (.plevel k) → NoEffect (.registerWrite a v) s) ∧
    (∀ a k, regAt a = some (.votes k) → NoEffect (.registerWrite a v) s)
  ) ∧
  (
  ∀ (byRegWrite auth : Bool) (v : Word) (s : State), domainOn s .always = true →
    (byRegWrite = false ∨ (auth = false ∧ s.cmd.sessionKey.isSome = true) → NoEffect (.commandPolicyWrite byRegWrite auth v) s) ∧
    (byRegWrite = true → auth = true ∨ s.cmd.sessionKey = none →
      Effect (.commandPolicyWrite byRegWrite auth v) s fun t => t = { s with cmd.policy := {
        wakeAllow := (v.extractLsb' 16 4).toNat
        maxGap := if 2 ≤ (v.extractLsb' 8 8).toNat ∧ (v.extractLsb' 8 8).toNat ≤ 127 then (v.extractLsb' 8 8).toNat else s.cmd.policy.maxGap
        aliveHost := v.getLsbD 3
        aliveNet := v.getLsbD 2
        authHost := v.getLsbD 1
        authNet := v.getLsbD 0 } })
  ) ∧
  (
  ∀ (p : NetPort) (v : Word) (s : State), domainOn s .always = true →
    Effect (.portConfigWrite p v) s fun t =>
      (getNet t p).vlan = (v.extractLsb' 20 12).toNat ∧ (getNet t p).pcp = (v.extractLsb' 17 3).toNat ∧
      (getNet t p).snoop = v.getLsbD 12 ∧
      (getNet t p).fec = (if (v.extractLsb' 10 2).toNat = 3 then (getNet s p).fec else (v.extractLsb' 10 2).toNat) ∧
      (getNet t p).mode = (if (v.extractLsb' 8 2).toNat = 3 then (getNet s p).mode else (v.extractLsb' 8 2).toNat) ∧
      (getNet t p).link = ((getNet s p).link && (getNet t p).fec == (getNet s p).fec && (getNet t p).mode == (getNet s p).mode) ∧
      (∀ q, q ≠ p → getNet t q = getNet s q)
  )

/-- The control registers: a change of CHK_CTRL's algorithm, RESTART, and writes to CHK_POLY and CHK_INIT reload CHK_VALUE
from CHK_INIT, cut to the width; CHK_VALUE takes what is written, but while OWNED the write is dropped and COLLIDE sets. A write does nothing
while the window is not served, and is dropped with GATED while the unit is marked unusable. A
feed enters its bytes into the running value, most significant byte first; while OWNED it is dropped and COLLIDE sets.
CHECK_RUN_COMPLETE gives the unit back: the saved context is in force again and OWNED is clear; without a run it does
nothing. The alive-counter checker. ALIVE_CTRL: STEP 0 and a MAX_GAP outside 1 to 127 keep their fields; ENABLE starts it
unstarted with its counts clear. A counter received: the first starts; the same is REPEAT and a fault; one step on is OK; k
steps, k from 2 to MAX_GAP, are GAP; any other is OUT_OF_STEP and a fault, and is taken only with RESYNC. -/
def Obligations.CheckAndAliveRows : Prop :=
  (
  ∀ (u : Fin 4) (v : Word) (s : State),
    CheckRow (.chkRestart u) u (fun c => { c with ctx := { c.ctx with value := c.ctx.init % 2 ^ c.ctx.width } }) s ∧
    CheckRow (.chkPolyWrite u v) u (fun c => { c with ctx := { c.ctx with poly := v.toNat % 2 ^ c.ctx.width, value := c.ctx.init % 2 ^ c.ctx.width } }) s ∧
    CheckRow (.chkInitWrite u v) u (fun c => { c with ctx := { c.ctx with init := v.toNat % 2 ^ c.ctx.width, value := v.toNat % 2 ^ c.ctx.width % 2 ^ c.ctx.width } }) s ∧
    CheckRow (.chkValueWrite u v) u (fun c =>
      if c.run.isSome then { c with collide := true } else { c with ctx := { c.ctx with value := v.toNat % 2 ^ c.ctx.width } }) s ∧
    CheckRow (.chkCtrlWrite u v) u (fun c =>
      let w := (v.extractLsb' 0 5).toNat + 1
      let same := w = c.ctx.width ∧ v.getLsbD 8 = c.ctx.refIn ∧ v.getLsbD 9 = c.ctx.refOut
      { c with
        ctx := { c.ctx with
          width := w, refIn := v.getLsbD 8, refOut := v.getLsbD 9
          value := if same ∧ v.getLsbD 25 = false then c.ctx.value else c.ctx.init % 2 ^ w }
        collide := c.collide && !v.getLsbD 26 }) s
  ) ∧
  (
  ∀ (u : Fin 4) (v : Word) (s : State) (n : Nat) (i : Instr), (n, i) ∈ [(1, Instr.feed8 u v), (2, Instr.feed16 u v), (4, Instr.feed32 u v)] →
    (windowServed s = false → NoEffect i s) ∧
    (windowServed s = true → checkGated s u = true → Effect i s fun t => t = { s with host.gated := true }) ∧
    (windowServed s = true → checkGated s u = false → Shaped s → Effect i s fun t =>
      t = { s with check := t.check } ∧ (∀ w : Nat, w ≠ u.val → getCheck t w = getCheck s w) ∧
      ((getCheck s u).run.isSome = true → getCheck t u = { getCheck s u with collide := true }) ∧
      ((getCheck s u).run = none → (getCheck s u).queue = [] →
        getCheck t u = { getCheck s u with fedAt := some (nowNs s), ctx := { (getCheck s u).ctx with
          value := crcRun (getCheck s u).ctx.alg (getCheck s u).ctx.value (ube n v.toNat) } }))
  ) ∧
  (
  ∀ (u : Fin 4) (s : State), Shaped s →
    (∀ x, (getCheck s u).run = some x → Effect (.checkRunComplete u) s fun t =>
      getCheck t u = { getCheck s u with ctx := x.saved, run := none } ∧ (∀ w : Nat, w ≠ u.val → getCheck t w = getCheck s w)) ∧
    ((getCheck s u).run = none → NoEffect (.checkRunComplete u) s)
  ) ∧
  (
  ∀ (u : Fin 4) (v : Word) (s : State), windowServed s = true → checkGated s u = false → Shaped s →
    (Effect (.aliveCtrlWrite u v) s fun t =>
      let c := getCheck s u
      let d := getCheck t u
      t = { s with check := t.check } ∧
      d.ctx.step = (if (v.extractLsb' 16 8).toNat = 0 then c.ctx.step else (v.extractLsb' 16 8).toNat) ∧
      d.ctx.maxGap = (if 1 ≤ (v.extractLsb' 8 8).toNat ∧ (v.extractLsb' 8 8).toNat ≤ 127 then (v.extractLsb' 8 8).toNat else c.ctx.maxGap) ∧
      d.ctx.resync = v.getLsbD 1 ∧ d.enable = v.getLsbD 0 ∧ (v.getLsbD 0 = true → d.started = false ∧ d.gaps = 0 ∧ d.faults = 0)) ∧
    (Effect (.aliveFeed u v) s fun t =>
      let c := getCheck s u
      let d := getCheck t u
      let n := v.toNat % 256
      let diff := (n + 256 - c.last.toNat) % 256
      t = { s with check := t.check } ∧
      (c.enable = false → d = c) ∧
      (c.enable = true → c.started = false → d.started = true ∧ d.outcome = .start ∧ d.last = BitVec.ofNat 8 n) ∧
      (c.enable = true → c.started = true → diff = 0 → d.outcome = .repeat ∧ d.faults = min 255 (c.faults + 1) ∧ d.last = c.last) ∧
      (c.enable = true → c.started = true → diff ≠ 0 → 1 ≤ c.ctx.maxGap → diff = c.ctx.step % 256 →
        d.outcome = .ok ∧ d.last = BitVec.ofNat 8 n ∧ d.faults = c.faults) ∧
      (c.enable = true → c.started = true → diff ≠ 0 → diff ≠ c.ctx.step % 256 →
        (∃ k, 2 ≤ k ∧ k ≤ c.ctx.maxGap ∧ k * c.ctx.step % 256 = diff) →
        d.outcome = .gap ∧ d.gaps = min 255 (c.gaps + 1) ∧ d.last = BitVec.ofNat 8 n) ∧
      (c.enable = true → c.started = true → diff ≠ 0 → (∀ k, 1 ≤ k → k ≤ c.ctx.maxGap → k * c.ctx.step % 256 ≠ diff) →
        d.outcome = .outOfStep ∧ d.faults = min 255 (c.faults + 1) ∧ d.last = if c.ctx.resync then BitVec.ofNat 8 n else c.last))
  )

/-- A chain port's trim registers: the value written is the port's coming trim, at once while the port does not upload and at
the upload's end else; a port of a group that is off, or that the grade lacks, drops the write and sets GATED. Trains and
reads: the cells' train, with what errors it took, is collected while its port uploads, from its start code to its end code,
and one as long as the port's cells renews the port's watch; a valid reply within 25 µs ends the port's read and is kept, the
time-out ends it without, and an unanswered link-watch read marks the port for localisation; a link-watch read starts where
one is due. -/
def Obligations.ChainPortRows : Prop :=
  (
  ∀ (p : Fin 48) (v : Word) (s : State),
    (portRegsOn s p = false → (Effect (.chainPortTrimWrite p v) s fun t => t = { s with host.gated := true }) ∧
      Effect (.chainPortSkewWrite p v) s fun t => t = { s with host.gated := true }) ∧
    (portRegsOn s p = true → Shaped s →
      (Effect (.chainPortTrimWrite p v) s fun t =>
        (getPort t p).coming = { (getPort s p).coming with swing := (v.extractLsb' 16 6).toNat, preemph := (v.extractLsb' 12 4).toNat, term := (v.extractLsb' 5 5).toNat } ∧
        ((getPort s p).uploading = true → (getPort t p).trim = (getPort s p).trim) ∧
        ∀ q, q ≠ p.val → getPort t q = getPort s q) ∧
      Effect (.chainPortSkewWrite p v) s fun t =>
        (getPort t p).coming = { (getPort s p).coming with skew := [(v.extractLsb' 20 5).toNat, (v.extractLsb' 15 5).toNat, (v.extractLsb' 10 5).toNat, (v.extractLsb' 5 5).toNat, (v.extractLsb' 0 5).toNat] } ∧
        ((getPort s p).uploading = true → (getPort t p).trim = (getPort s p).trim) ∧
        ∀ q, q ≠ p.val → getPort t q = getPort s q)
  ) ∧
  (
  ∀ (p : Fin 48) (s : State), Shaped s →
    (∀ es, (getPort s p.val).uploading = false ∨ (arrivingTrain p.val es s).head? ≠ some 0xA5C3 → NoEffect (.reportTrain p es) s) ∧
    (∀ es, (getPort s p.val).uploading = true → (arrivingTrain p.val es s).head? = some 0xA5C3 → Effect (.reportTrain p es) s fun t =>
      let r := readTrain ((arrivingTrain p.val es s).drop 1)
      (getPort t p.val).reports = r.1 ∧ (getPort t p.val).trainEnded = r.2 ∧ (∀ q, q ≠ p.val → getPort t q = getPort s q) ∧
      (r.2 = true → (getPort s p.val).segments ≤ r.1.length → (getPort t p.val).lastTrainAt = nowNs s) ∧
      t = { s with chain := { s.chain with ports := t.chain.ports } }) ∧
    (∀ es ws, arrivingReply p.val es s = some ws → Effect (.cellReadReply p es) s fun t => (getPort t p.val).read = none ∧
      (getPort t p.val).answer = ws ∧ (getPort t p.val).missingNow = (getPort s p.val).missingNow) ∧
    (∀ es, arrivingReply p.val es s = none → NoEffect (.cellReadReply p es) s) ∧
    (∀ r, (getPort s p.val).read = some r → r.sentAt + 25000 ≤ nowNs s → Effect (.cellReadTimeout p) s fun t => (getPort t p.val).read = none ∧
      (getPort t p.val).missingNow = ((getPort s p.val).missingNow || r.use == .linkWatch)) ∧
    ((∀ r, (getPort s p.val).read = some r → nowNs s < r.sentAt + 25000) → NoEffect (.cellReadTimeout p) s) ∧
    (linkWatchDue s p.val = true → Effect (.linkWatchTimeout p) s fun t => ∃ r, (getPort t p.val).read = some r ∧ r.use = .linkWatch ∧ r.sentAt = nowNs s) ∧
    (linkWatchDue s p.val = false → NoEffect (.linkWatchTimeout p) s)
  )

/-- PACKET_WRITE at another address than 0, while BUSY is set, or while no firmware runs, is ignored and sets ERROR. A
PACKET_WRITE that is accepted sets BUSY and discards an unread reply; its packet then runs through the checks of 02 Table 2-8
in order: length, trailer, address, header, policy; a packet without ALIVE and with an opcode executes; BUSY clears at once
for a packet that wants no reply, and ERROR is clear. The alive counter of a packet with ALIVE from a known source: step 0
with another tag is ALIVE_REPEAT; a step beyond MAX_GAP is ALIVE_GAP and, without AUTH, takes the counter; a step from 1 to
MAX_GAP is accepted, one above 1 logged. -/
def Obligations.PacketWriteRunsThePacket : Prop :=
  (
  ∀ (quad : Bool) (addr : BitVec 24) (bytes : List Byte) (s : State), domainOn s .always = true → s.power.mode ≠ .enteringNadir →
    addr ≠ 0 ∨ s.host.busy = true ∨ s.fw.running = false →
    Effect (.packetWrite quad addr bytes) s fun t =>
      t = { s with host := { s.host with shiftedStatus := statusWord s, shifted := [], gated := false, error := true } }
  ) ∧
  (
  ∀ (quad : Bool) (bytes : List Byte) (s : State), domainOn s .always = true → s.power.mode ≠ .enteringNadir → s.host.busy = false →
    s.fw.running = true →
    let p : Packet := ⟨.host, true, bytes⟩
    let s1 : State := { s with host := { s.host with shiftedStatus := statusWord s, shifted := [], gated := false, error := false, busy := true, done := false, reply := [] } }
    (p.lengthOk = false → Effect (.packetWrite quad 0 bytes) s fun t => t = clearBusy p (refuseLength p s1)) ∧
    (p.lengthOk = true → p.crcOk = false → Effect (.packetWrite quad 0 bytes) s fun t => t = clearBusy p (refuseCrc p s1)) ∧
    (p.lengthOk = true → p.crcOk = true → forTile p s = false → p.broadcast = true → Effect (.packetWrite quad 0 bytes) s fun t => t = clearBusy p (countDrop s1)) ∧
    (p.lengthOk = true → p.crcOk = true → forTile p s = false → p.broadcast = false →
      Effect (.packetWrite quad 0 bytes) s fun t => t = clearBusy p (refuse p St.badParam s1)) ∧
    (p.lengthOk = true → p.crcOk = true → forTile p s = true → p.headerOk = false →
      Effect (.packetWrite quad 0 bytes) s fun t => t = clearBusy p (refuse p St.badParam s1)) ∧
    (p.lengthOk = true → p.crcOk = true → forTile p s = true → p.headerOk = true → policyStatus p s ≠ St.ok →
      Effect (.packetWrite quad 0 bytes) s fun t => t = clearBusy p (refuse p (policyStatus p s) s1)) ∧
    (p.lengthOk = true → p.crcOk = true → forTile p s = true → p.headerOk = true → policyStatus p s = St.ok → p.alive = false → specOf p.code = none →
      Effect (.packetWrite quad 0 bytes) s fun t => t = clearBusy p (answer p.code p.req St.badOpcode [] (takeSource p s1))) ∧
    ∀ o, p.lengthOk = true → p.crcOk = true → forTile p s = true → p.headerOk = true → policyStatus p s = St.ok → p.alive = false → specOf p.code = some o →
      Effect (.packetWrite quad 0 bytes) s fun t => t = clearBusy p (runPacket (period s) o p.req (takeSource p s1))
  ) ∧
  (
  ∀ (p : Packet) (s : State) (e : SourceEntry), p.alive = true → findSource p.src s = some e →
    (aliveStep p s = 0 → e.tag ≠ p.tag → aliveCheck p s = .refused St.aliveRepeat s) ∧
    (aliveStep p s ≠ 0 → s.cmd.policy.maxGap < aliveStep p s → p.auth = true → aliveCheck p s = .refused St.aliveGap s) ∧
    (aliveStep p s ≠ 0 → s.cmd.policy.maxGap < aliveStep p s → p.auth = false →
      aliveCheck p s = .refused St.aliveGap (modSource p.src (fun x => { x with last := p.counter }) s)) ∧
    (aliveStep p s = 1 → 1 ≤ s.cmd.policy.maxGap → aliveCheck p s = .pass (takeSource p s)) ∧
    (1 < aliveStep p s → aliveStep p s ≤ s.cmd.policy.maxGap → aliveCheck p s = .pass (takeSource p (logGap p s)))
  )

/-- Bulk blocks: one that belongs to no waiting operation, or that its checks reject, is dropped and counted; one that fits
is held for its operation; after 10 s without a block the operation ends with BAD_LENGTH. -/
def Obligations.BulkBlocksAreHeldOrDropped : Prop :=
∀ (srcIp : Nat) (payload : List Byte) (s : State), s.fw.running = true → domainOn s .always = true →
    (blockOp srcIp ⟨payload⟩ s = none → Effect (.bulkBlock srcIp payload) s fun t => t = { s with cmd.dropped := min 0xFFFFFFFF (s.cmd.dropped + 1) }) ∧
    (∀ o x, blockOp srcIp ⟨payload⟩ s = some o → o.bulk = some x → (Block.fits ⟨payload⟩ x.length && Block.whole ⟨payload⟩) = false →
      Effect (.bulkBlock srcIp payload) s fun t => t = { s with cmd.dropped := min 0xFFFFFFFF (s.cmd.dropped + 1) }) ∧
    (∀ o x, blockOp srcIp ⟨payload⟩ s = some o → o.bulk = some x →
      (Block.whole ⟨payload⟩ && Block.headerOk ⟨payload⟩ && Block.fits ⟨payload⟩ x.length && Block.authOk ⟨payload⟩ x.key x.extSeq s) = true →
      ({ x with blocks := x.blocks.filter (fun y => y.1 != Block.number ⟨payload⟩) ++ [(Block.number ⟨payload⟩, Block.data ⟨payload⟩)], lastAt := nowNs s } : BulkIn).complete = false →
      Effect (.bulkBlock srcIp payload) s fun t => t.cmd.dropped = s.cmd.dropped ∧
        t.cmd.longOps = s.cmd.longOps.map fun y => if isOp o.req.src o.req.tag y then
          { y with bulk := some { x with blocks := x.blocks.filter (fun y => y.1 != Block.number ⟨payload⟩) ++ [(Block.number ⟨payload⟩, Block.data ⟨payload⟩)], lastAt := nowNs s } } else y) ∧
    ((∀ o ∈ s.cmd.longOps, bulkLate s o = false) → NoEffect .bulkOperationTimeout s) ∧
    ∀ o, s.cmd.longOps = [o] → bulkLate s o = true → o.abortOwed = none → fillOf o.req.src o.req.tag s = none →
      Effect .bulkOperationTimeout s fun t =>
        t.cmd.longOps = [{ o with state := 1, final := St.badLength, progress := 1000, results := [], doneAt := nowNs s, bulk := none }]

/-- A frame on a port whose link is up: one above 9,022 bytes and one with a wrong FCS are counted and not consumed; one with
the tile's own source MAC marks a loop; a unicast frame for another station goes out of the other port unchanged and does
nothing else. ARP and ICMP: a request for the tile's own address is answered on its port with the tile's MAC, any other
leaves everything as it was. The layouts of the answers are presumed (notes/assumptions/26.md). -/
def Obligations.FramesAndAnswers : Prop :=
  (
  ∀ (p : NetPort) (bytes : List Byte) (s : State),
    let f : Frame := ⟨bytes.take (bytes.length - 4)⟩
    (portUp s p = false → NoEffect (.ethernetFrameReceive p bytes) s) ∧
    (portUp s p = true → 9022 < bytes.length → Effect (.ethernetFrameReceive p bytes) s fun t =>
      t = { s with net := { s.net with tooLong := min 0xFFFFFFFF (s.net.tooLong + 1), tx := t.net.tx } }) ∧
    (portUp s p = true → bytes.length ≤ 9022 → fcsOk bytes = false → Effect (.ethernetFrameReceive p bytes) s fun t =>
      t = { s with net := { s.net with badFcs := min 0xFFFFFFFF (s.net.badFcs + 1), tx := t.net.tx } }) ∧
    (portUp s p = true → bytes.length ≤ 9022 → fcsOk bytes = true → f.src = s.fuse.mac →
      Effect (.ethernetFrameReceive p bytes) s fun t => t.net.loopSince = some (nowNs s)) ∧
    (portUp s p = true → bytes.length ≤ 9022 → fcsOk bytes = true → f.src ≠ s.fuse.mac → f.dst ≠ s.fuse.mac → f.multicast = false → f.broadcast = false →
      isPtpEvent f = false → foreignPtp f = false → portUp s (otherPort p) = true →
      Effect (.ethernetFrameReceive p bytes) s fun t => t = send (.forwarded (otherPort p) bytes) s)
  ) ∧
  (
  ∀ (p : NetPort) (s : State) (mac ip dst : Nat) (body : List Byte),
    (portUp s p = false ∨ dst ≠ ownIp s → NoEffect (.arpRequest p mac ip dst) s ∧ NoEffect (.icmpEchoRequest p mac ip dst body) s) ∧
    (portUp s p = true → dst = ownIp s →
      (Effect (.arpRequest p mac ip dst) s fun t => t = send (.frame p (ownFrame p mac 0x0806
        (u16 1 ++ u16 0x0800 ++ u8 6 ++ u8 4 ++ u16 2 ++ ube 6 s.fuse.mac ++ u32 (ownIp s) ++ ube 6 mac ++ u32 ip) s)) s) ∧
      (body.length ≤ 1472 - 4 → Effect (.icmpEchoRequest p mac ip dst body) s fun t => ∃ bytes, t = send (.frame p bytes) (nextFree s)))
  )

/-- Group membership and loops: a report opens its group on its port until the membership interval has passed; a query of
version 2 or 3 sets that interval and is answered for each group joined on its port, one of version 1 is ignored; the second
reports that are due go out on their ports that are up; a frame with the own MAC marks a loop, whose alert clears after 10 s
without one. A port's link comes up only while the port is enabled and its block usable, and each change is logged; the
port's PTP masters are lost with the link. -/
def Obligations.GroupsLoopsAndLinks : Prop :=
  (
  ∀ (p : NetPort) (s : State) (group : Nat),
    (portUp s p = true → Effect (.igmpReportSnooped p group) s fun t =>
      ⟨p, group, nowNs s⟩ ∈ t.net.memberships ∧ ∀ m ∈ s.net.memberships, ¬ (m.port = p ∧ m.group = group) → m ∈ t.net.memberships) ∧
    (Effect (.snoopMembershipExpiry p group) s fun t =>
      t = { s with net.memberships := s.net.memberships.filter fun m => !(m.port == p && m.group == group && decide (m.reportAt + s.net.interval ≤ nowNs s)) }) ∧
    (∀ robustness interval, NoEffect (.igmpQuery p 1 group robustness interval) s) ∧
    (∀ robustness interval, portUp s p = true → 0 < robustness → 0 < interval → s.net.joined = [] →
      Effect (.igmpQuery p 3 group robustness interval) s fun t => t = { s with net.interval := (robustness * interval + 10) * 1000000000 }) ∧
    (Effect .igmpReportRepeat s fun t => t.net.reportRepeats = s.net.reportRepeats.filter (fun x => nowNs s < x.dueAt) ∧
      ((∀ x ∈ s.net.reportRepeats, x.dueAt ≤ nowNs s → portUp s x.port = true) →
        t.net.tx.length = s.net.tx.length + (s.net.reportRepeats.filter fun x => x.dueAt ≤ nowNs s).length)) ∧
    (portUp s p = true → Effect (.ownMacFrame p) s fun t => t.net.loopSince = some (nowNs s) ∧
      (s.net.loopSince.isSome = true → t = { s with net.loopSince := some (nowNs s) })) ∧
    (∀ at_, s.net.loopSince = some at_ → at_ + 10000000000 ≤ nowNs s → Effect .loopAlertClear s fun t => t.net.loopSince = none ∧
      ∀ a ∈ t.cmd.alerts, ¬ (isCause 0x01 0x03 (tileTarget s) a = true)) ∧
    (∀ at_, s.net.loopSince = some at_ → nowNs s < at_ + 10000000000 → NoEffect .loopAlertClear s)
  ) ∧
  (
  ∀ (p : NetPort) (s : State), domainOn s .always = true → s.power.refinLost = false →
    ((getNet s p).link = false → (getNet s p).mode ≠ 0 → portBlockLost s p = false →
      Effect (.portLinkChange p true) s fun t => (getNet t p).link = true ∧ ∀ q, q ≠ p → getNet t q = getNet s q) ∧
    ((getNet s p).link = true ∨ (getNet s p).mode = 0 ∨ portBlockLost s p = true → NoEffect (.portLinkChange p true) s) ∧
    ((getNet s p).link = true → Effect (.portLinkChange p false) s fun t => (getNet t p).link = false ∧
      (∀ m ∈ t.time.masters, m.port ≠ p) ∧ ∀ q, q ≠ p → getNet t q = getNet s q) ∧
    ((getNet s p).link = false → NoEffect (.portLinkChange p false) s)
  )

/-- A packet of a subscribed stream that matches its subscription, is new and belongs to the frame that its ring is filling
writes its pixels into that buffer alone; one that does not match is counted as malformed, and one that the full ingest
buffer turns away as dropped. Stream loss and return: a layer whose stream has been silent for its time is lost and alerted,
transparent where it is configured so; one whose stream has come back for its count is no longer lost. -/
def Obligations.StreamRows : Prop :=
  (
  ∀ (p : NetPort) (h : Fin 8) (payload : List Byte) (s : State) (st : Stream), s.layers.streams.getD h.val none = some st → portUp s p = true →
    st.usesPort p = true →
    (st.native = false → Effect (.st2110Packet p h payload true) s fun t => t = { s with layers.streams := setAt s.layers.streams h.val (some { st with drops := min 0xFFFFFFFF (st.drops + 1) }) }) ∧
    (st.native = true → Effect (.nativePacket p h payload true) s fun t => t = { s with layers.streams := setAt s.layers.streams h.val (some { st with drops := min 0xFFFFFFFF (st.drops + 1) }) }) ∧
    (st.native = false → readSt2110 st payload = none →
      Effect (.st2110Packet p h payload false) s fun t => t = { s with layers.streams := setAt s.layers.streams h.val (some { st with malformed := min 0xFFFFFFFF (st.malformed + 1) }) }) ∧
    (st.native = true → (nativeHeaderOk st payload && nativeLengthOk st payload) = false →
      Effect (.nativePacket p h payload false) s fun t => t = { s with layers.streams := setAt s.layers.streams h.val (some { st with malformed := min 0xFFFFFFFF (st.malformed + 1) }) }) ∧
    (∀ g n b, st.native = false → readSt2110 st payload = some g → st.newest = none → st.seen.contains g.seq = false → st.openKey = some g.key →
      st.openHandle = some n → findBuf s n = some b → b.state = .filling → g.last = false →
      Effect (.st2110Packet p h payload false) s fun t => t.layers.buffers = s.layers.buffers.map fun x => if x.handle == n then putPixels st g.pixels x else x) ∧
    (∀ data n b, st.native = true → nativeHeaderOk st payload = true → nativeLengthOk st payload = true → nativeData s h st payload = some data →
      st.newest = none → st.seen.contains (be payload 8 4) = false → st.openKey = some (be payload 12 4) → st.openHandle = some n →
      findBuf s n = some b → b.state = .filling → bitN (getB payload 3) 6 = false →
      Effect (.nativePacket p h payload false) s fun t => t.layers.buffers = s.layers.buffers.map fun x =>
        if x.handle == n then putPixels st (nativePixels st payload data) x else x) ∧
    (st.native = true → nativeHeaderOk st payload = true → nativeLengthOk st payload = true → nativeData s h st payload = none →
      Effect (.nativePacket p h payload false) s fun t => t = { s with layers.streams := setAt s.layers.streams h.val (some { st with drops := min 0xFFFFFFFF (st.drops + 1) }) })
  ) ∧
  (
  ∀ (l : Fin 8) (s : State), Shaped s →
    (lossDue s l.val = false → NoEffect (.streamLossTimeout l) s) ∧
    (lossDue s l.val = true → Effect (.streamLossTimeout l) s fun t =>
      (t.layers.run.getD l.val {}).lost = true ∧ (t.layers.run.getD l.val {}).transparent = ((s.layers.layer.getD l.val {}).loss == 2)) ∧
    (returnDue s l.val = false → NoEffect (.streamReturn l) s) ∧
    (returnDue s l.val = true → Effect (.streamReturn l) s fun t =>
      (t.layers.run.getD l.val {}).lost = false ∧ (t.layers.run.getD l.val {}).transparent = false)
  )

/-- PTP: a Sync or Delay_Req that goes out of the other port leaves with its residence time added to its correction, any
other event message unchanged; the arrival of one that the tile consumes is stamped from the counter; a message of layer 2 or
IPv6 is forwarded unchanged and counted; an Announce of the domain makes its master known from its port, one of another
domain is ignored; a port's masters that have been silent for their receipt timeout are forgotten. The servo takes a sample
from its own two stamps and the master's two times, and only at a supported Sync interval. While acquiring, an offset above 1
ms steps the counter at the next boundary; 16 samples in a row below 200 ns lock it. While locked, a sample of 10 µs or more
is discarded. Holdover begins 2 s after the last sample of a locked servo, its rate frozen, and is reported after 30 s. -/
def Obligations.TimeRows : Prop :=
  (
  ∀ (p : NetPort) (bytes : List Byte) (ticks : Nat) (s : State),
    let f : Frame := ⟨bytes.take (bytes.length - 4)⟩
    (portUp s p = false → NoEffect (.ptpEventMessage p bytes ticks) s) ∧
    (portUp s p = true → bytes.length ≤ 9022 → fcsOk bytes = true → f.src ≠ s.fuse.mac →
      (isPtpEvent f = true → forwards s (otherPort p) f = true → ptpType f ≤ 1 → Effect (.ptpEventMessage p bytes ticks) s fun t =>
        ∃ more, t.net.tx = s.net.tx ++ .forwarded (otherPort p) (correctedFrame f (residence s ticks)) :: more) ∧
      (isPtpEvent f = true → forwards s (otherPort p) f = true → 1 < ptpType f → Effect (.ptpEventMessage p bytes ticks) s fun t =>
        ∃ more, t.net.tx = s.net.tx ++ .forwarded (otherPort p) bytes :: more) ∧
      (isPtpEvent f = true → f.multicast = true ∨ f.dst = s.fuse.mac → Effect (.ptpEventMessage p bytes ticks) s fun t =>
        ⟨p, false, ptpType f, nowNs s⟩ ∈ t.time.stamps) ∧
      (isPtpEvent f = false → foreignPtp f = true → forwards s (otherPort p) f = true → Effect (.ptpEventMessage p bytes ticks) s fun t =>
        t = { s with net := { s.net with uncorrected := min 0xFFFFFFFF (s.net.uncorrected + 1), tx := s.net.tx ++ [.forwarded (otherPort p) bytes] } })) ∧
    (∀ a, s.fw.running = true → portUp s p = true → a.domain ≠ s.time.domain → NoEffect (.ptpAnnounce p a) s) ∧
    (∀ a, s.fw.running = true → portUp s p = true → a.domain = s.time.domain → Effect (.ptpAnnounce p a) s fun t => ⟨p, a, nowNs s⟩ ∈ t.time.masters) ∧
    (s.fw.running = true → Effect (.announceReceiptTimeout p) s fun t =>
      t.time.masters = s.time.masters.filter fun m => !(m.port == p && decide (m.at_ + s.time.announceTimeout * logNs m.ann.logInterval ≤ nowNs s))) ∧
    (s.fw.running = false → NoEffect (.announceReceiptTimeout p) s)
  ) ∧
  (
  ∀ (x : PtpTimes) (t2 t3 : Int) (s : State),
    let delays := (s.time.delays ++ [ptpDelay x t2 t3]).drop (s.time.delays.length + 1 - 16)
    let θ := mkRat (t2 - x.t1 - x.cSync) 65536 - meanDelay delays
    (s.fw.running = false ∨ ownStamps s = none → NoEffect (.offsetSample x) s) ∧
    (s.fw.running = true → ownStamps s = some (t2, t3) → x.logSync < -7 ∨ 1 < x.logSync → Effect (.offsetSample x) s fun t =>
      t = { s with time := { s.time with logDelayReq := some x.logDelayReq } }) ∧
    (s.fw.running = true → ownStamps s = some (t2, t3) → -7 ≤ x.logSync → x.logSync ≤ 1 →
      (Effect (.offsetSample x) s fun t => t.time.offset = θ ∧ t.time.delays = delays ∧ t.time.lastSample = some (nowNs s)) ∧
      (s.time.servo = .locked → 10000 ≤ absR θ → s.time.discardRun + 1 < 16 →
        Effect (.offsetSample x) s fun t => t.time.rate = s.time.rate ∧ t.time.integral = s.time.integral ∧ t.time.servo = .locked ∧
          t.time.discarded = min 0xFFFFFFFF (s.time.discarded + 1)) ∧
      (s.time.servo = .acquiring → s.time.pendingStep = none → 1000000 < absR θ →
        Effect (.offsetSample x) s fun t => t.time.pendingStep = some (roundQ (-θ * 281474976710656)) ∧ t.time.integral = 0 ∧ t.time.rate = s.time.rate) ∧
      (s.time.servo = .acquiring → s.time.pendingStep = none → absR θ < 200 → s.time.goodRun = 15 →
        Effect (.offsetSample x) s fun t => t.time.servo = .locked)) ∧
    (∀ at_, s.time.servo = .locked → s.time.lastSample = some at_ → at_ + 2000000000 ≤ nowNs s → Effect .holdoverEntry s fun t => t.time.servo = .holdover) ∧
    (s.time.servo ≠ .locked → NoEffect .holdoverEntry s) ∧
    (∀ at_, s.time.servo = .holdover → s.time.holdoverAlerted = false → s.time.holdoverSince = some at_ → at_ + 30000000000 ≤ nowNs s →
      Effect .holdover30s s fun t => t.time.holdoverAlerted = true ∧ t.time.servo = .holdover) ∧
    (s.time.servo ≠ .holdover → NoEffect .holdover30s s) ∧
    (s.time.servo = .locked → s.power.rtcSetAt + 1000000000 ≤ nowNs s → Effect .rtcUpdate s fun t =>
      t = { s with power.rtc := nowNs s * 32768 / 1000000000, power.rtcSetAt := nowNs s }) ∧
    (s.time.servo ≠ .locked → NoEffect .rtcUpdate s)
  )

/-- Levels: a level change goes up to the demand at once and down only as far as a limit forces it; the demand alone lowers
the level after it has stood slower for 1 s; while the sequencer is off both do nothing. Votes and domains: implicit votes
that are over are withdrawn; in TWILIGHT a voted domain that is off comes on, and no other; outside TWILIGHT the wake of a
domain does nothing. Wake events: in NADIR an enabled source starts the wake at step 1 and is its recorded source; during the
entry to NADIR it is latched; during a wake it is counted; in TWILIGHT only WAKE_N and the alarm lead out; in RUN it does
nothing. The wake sequence: a step from 1 to 6 whose delay has passed is followed by the next, the third only with a valid
REFIN; a first attempt that outlasts its step's limit pauses, and a second one fails the wake, with FAULT_N and a record of
WAKE_FAIL; the handshake of step 7 ends in RUN with firmware and WAKE. -/
def Obligations.LevelsDomainsAndWakeRows : Prop :=
  (
  ∀ s : State,
    (levelsRun s = false → NoEffect .levelChange s ∧ NoEffect .demandLevelLower s) ∧
    (levelsRun s = true → targetLevel s < s.power.level.val →
      Effect .levelChange s fun t => t = { s with power.level := Fin.ofNat 4 (targetLevel s), power.slowSince := none }) ∧
    (levelsRun s = true → s.power.level.val ≤ targetLevel s → s.power.level.val < limitLevel s →
      Effect .levelChange s fun t => t = { s with power.level := Fin.ofNat 4 (limitLevel s), power.slowSince := none }) ∧
    (∀ at_, levelsRun s = true → s.power.slowSince = some at_ → at_ + 1000000000 ≤ nowNs s → s.power.level.val < targetLevel s →
      Effect .demandLevelLower s fun t => t = { s with power.level := Fin.ofNat 4 (targetLevel s), power.slowSince := none }) ∧
    (∀ at_, s.power.slowSince = some at_ → nowNs s < at_ + 1000000000 → NoEffect .demandLevelLower s)
  ) ∧
  (
  ∀ s : State,
    ((∀ v ∈ s.power.implicit, voteOver s v = false) → NoEffect .implicitVoteWithdraw s) ∧
    ((∃ v ∈ s.power.implicit, voteOver s v = true) → Effect .implicitVoteWithdraw s fun t =>
      t.power.implicit = s.power.implicit.filter (fun v => !voteOver s v) ∧ t.power.votes = s.power.votes ∧
      ∀ d ∈ t.power.awake, d ∈ s.power.awake) ∧
    (∀ d, s.power.mode ≠ .twilight ∨ domainVoted s d = false ∨ domainAbsent s d = true ∨ domainOn s d = true → NoEffect (.domainWakeComplete d) s) ∧
    (∀ d, s.power.mode = .twilight → domainVoted s d = true → domainAbsent s d = false → domainOn s d = false → s.cmd.waiting = [] →
      Effect (.domainWakeComplete d) s fun t => t.power.awake = s.power.awake ++ [d] ∧ domainOn t d = true ∧
        (d = .mem → t.dram.selfRefresh = false))
  ) ∧
(
  ∀ (w : WakeSource) (s : State),
    (wakeEnabled s w = false → NoEffect (.wakeEvent w) s) ∧
    (wakeEnabled s w = true →
      (s.power.mode = .nadir → Effect (.wakeEvent w) s fun t => t.power.mode = .waking ∧ t.power.wakeStep = 1 ∧ t.power.wakeAttempt = 1 ∧
        t.power.record.source = wakeCode w ∧ t.power.wakeStart = nowNs s ∧ t = { s with power := t.power }) ∧
      (s.power.mode = .enteringNadir → Effect (.wakeEvent w) s fun t => t = { s with power.latchedWakes := s.power.latchedWakes ++ [wakeCode w] }) ∧
      (s.power.mode = .waking ∨ s.power.mode = .wakeFailed → Effect (.wakeEvent w) s fun t =>
        t.power.record.latched = min 0xFFFF (s.power.record.latched + 1) ∧ t.power.mode = s.power.mode ∧ t.power.wakeStep = s.power.wakeStep) ∧
      (s.power.mode = .twilight → Effect (.wakeEvent w) s fun t =>
        t.power.mode = if w = .wakeN ∨ w = .rtcAlarm then .leavingTwilight else .twilight) ∧
      (s.power.mode = .run → NoEffect (.wakeEvent w) s))
  ) ∧
  (
  ∀ s : State,
    (s.power.mode = .waking → s.power.wakePause = none → 1 ≤ s.power.wakeStep → s.power.wakeStep ≤ 6 →
      s.power.wakeStepAt + wakeDelay s.power.wakeStep ≤ nowNs s →
      (¬ (s.power.wakeStep = 3 ∧ s.power.refinLost = true) → Effect .wakeStepReady s fun t => t.power.wakeStep = s.power.wakeStep + 1 ∧
        t.power.mode = .waking ∧ (s.power.wakeStep = 5 → t.dram.selfRefresh = false) ∧ t = { s with power := t.power, dram := t.dram }) ∧
      (s.power.wakeStep = 3 → s.power.refinLost = true → NoEffect .wakeStepReady s)) ∧
    (s.power.mode ≠ .waking → NoEffect .wakeStepReady s ∧ NoEffect .wakeStepTimeout s) ∧
    (∀ at_, s.power.mode = .waking → s.power.wakePause = some at_ → at_ + 1000000 ≤ nowNs s → Effect .wakeStepReady s fun t =>
      t.power.wakeStep = 1 ∧ t.power.wakeAttempt = 2 ∧ t.power.record.attempts = 2 ∧ t.power.wakePause = none) ∧
    (s.power.mode = .waking → s.power.wakePause = none → 1 ≤ s.power.wakeStep → s.power.wakeStepAt + wakeLimit s.power.wakeStep ≤ nowNs s →
      (s.power.wakeAttempt = 1 → Effect .wakeStepTimeout s fun t => t.power.mode = .waking ∧ t.power.wakePause = some (nowNs s) ∧
        t.power.record.firstStep = s.power.wakeStep ∧ t.faults = s.faults) ∧
      (s.power.wakeAttempt ≠ 1 → Effect .wakeStepTimeout s fun t => t.power.mode = .wakeFailed ∧ FaultCause.wakeFailed ∈ t.faults ∧
        t.power.record.status = St.wakeFail ∧ t.power.record.finalStep = s.power.wakeStep)) ∧
    (s.power.mode = .waking → s.power.wakeStep = 7 → s.power.wakePause = none → s.power.crystalChanged = false →
      Effect .restoreHandshake s fun t => t.power.mode = .run ∧ t.fw.running = true ∧ t.host.wake = true ∧ t.time.servo = .acquiring ∧
        t.power.record.duration = (nowNs s - s.power.wakeStart) / 1000)
  )

/-- The resets: POR loses everything but fuses, flash and free values, and ends with the supplies at step 1; NRST from 1 µs
on and the end of scan test are resets of their own kinds; a watchdog's reset stops the firmware and keeps the configuration.
A WDT reset outside a probation: no firmware until its handshake, its time noted; running operations, held changes and stored
replies are lost; the committed configuration, the Ephemeris and the rails are kept; the safety block and the fuses are
untouched. Firmware absent for 2 s freezes presentation with FAULT_N; an image in probation that makes no handshake within
800 ms is reverted; the handshake resumes firmware and ends the freeze at the next frame. -/
def Obligations.ResetAndRestartRows : Prop :=
  (
  ∀ s : State,
    (Effect .por s fun t => t.fuse = s.fuse ∧ t.fw.running = false ∧ t.layers = {} ∧ t.cmd = {} ∧ t.dram = {} ∧ t.ledger = {} ∧
      t.safety.light.state = .interlock ∧ t.safety.motion.state = .interlock ∧ t.power.supplyStep = 1 ∧ t.time = {} ∧
      FaultCause.notBooted ∈ t.faults ∧ t.flash.entries = (tearFront s).flash.entries) ∧
    (∀ w, w < 200 → NoEffect (.nrstAssert w) s) ∧
    (∀ w, 1000 ≤ w → s.power.nrstLowSince = none → s.power.nrstIgnored = false → supplied s = true → s.power.mode ≠ .heldInBor →
      s.power.mode ≠ .heldInReset → Effect (.nrstAssert w) s fun t => ColdFacts s t ∧ t.power.mode = .heldInReset ∧
        (t.power.history.head?.map (·.kind)) = some 3 ∧ t.power.nrstLowSince = some (nowNs s)) ∧
    (∀ at_, s.power.nrstLowSince = some at_ → s.power.mode = .heldInReset → Effect .nrstRelease s fun t =>
      t.power.mode = .poweringUp ∧ t.power.supplyStep = 3 ∧ t.power.nrstLowSince = none ∧ t.power.nrstHighSince = nowNs s) ∧
    (s.power.nrstLowSince = none → NoEffect .nrstRelease s) ∧
    (∀ at_, s.power.nrstLowSince = some at_ → s.power.mode = .heldInReset → at_ + 8000000000 ≤ nowNs s → Effect .nrstStuck s fun t =>
      t.power.mode = .poweringUp ∧ t.power.nrstIgnored = true ∧ ∀ e, s.power.history.head? = some e → t.power.history.head? = some { e with stuck := true }) ∧
    (s.power.mode ≠ .heldInReset → NoEffect .nrstStuck s) ∧
    (s.power.mode = .scan → Effect .scanExit s fun t => ColdFacts s t ∧ t.power.mode = .poweringUp ∧ (t.power.history.head?.map (·.kind)) = some 4) ∧
    (s.power.mode ≠ .scan → NoEffect .scanExit s) ∧
    (domainOn s .always = true → Effect .scanEnter s fun t => t.power.mode = .scan ∧ t.fw.running = false ∧ t.cmd.sessionKey = none ∧
      t.cmd.streamKeys = [] ∧ t.cmd.sources = [] ∧ FaultCause.scan ∈ t.faults ∧ (getNet t .A).link = false ∧ (getNet t .B).link = false)
  ) ∧
(
  ∀ (core : Fin 4) (s : State), coresOn s = true → s.fw.probation = none →
    Effect (.watchdogExpiry core) s fun t =>
      t.fw.running = false ∧ t.fw.restartAt = some (nowNs s) ∧ t.cmd.longOps = [] ∧ t.cmd.held = [] ∧ t.cmd.committing = [] ∧
      (∀ e ∈ t.cmd.sources, e.stored = none) ∧ t.cmd.ephemeris = s.cmd.ephemeris ∧ t.cmd.policy = s.cmd.policy ∧
      t.layers.layer = s.layers.layer ∧ t.layers.streams = s.layers.streams ∧ t.pres.programs = s.pres.programs ∧
      t.ledger = s.ledger ∧ t.safety = s.safety ∧ t.fuse = s.fuse ∧ (t.power.history.head?.map (·.kind)) = some 5
  ) ∧
  (
  ∀ s : State,
    (∀ at_, s.fw.restartAt = some at_ → coresOn s = true → s.fw.frozen = false → at_ + 2000000000 ≤ nowNs s →
      Effect .firmwareAbsent2s s fun t => t.fw.frozen = true ∧ FaultCause.frozen ∈ t.faults) ∧
    (s.fw.restartAt = none → NoEffect .firmwareAbsent2s s) ∧
    (∀ p, s.fw.probation = some p → coresOn s = true → p.handshake = false → p.since + 800000000 ≤ nowNs s →
      Effect .probationHandshakeTimeout s fun t => t.fw.probation = none ∧ t.fw.running = false ∧ t.flash.active = p.previous) ∧
    (s.fw.probation = none → NoEffect .probationHandshakeTimeout s ∧ NoEffect .probationEnd s) ∧
    (coresOn s = true → s.fw.restartAt.isSome = true → Effect .restoreHandshake s fun t => t.fw.running = true ∧ t.fw.restartAt = none ∧
      (∀ p ∈ t.fw.probation, p.handshake = true) ∧ t.fw.frozen = false ∧ t.safety = s.safety ∧ t.fuse = s.fuse)
  )

/-- Power-up and boot: a ready step whose delay has passed is followed by the next, step 7 by the boot; the third failure
leaves the supplies off with FAULT_N; a boot without a valid image stays off with FAULT_N; with one, firmware runs from it
and FAULT_N's boot cause is gone. BOOT: with no valid image the device does not boot and FAULT_N is asserted; with one it
runs firmware from that slot. Supplies: VIN below 3.75 V or above 27.0 V, a short, a trip of the die temperature, and loss of
regulation in RUN or TWILIGHT give BOR, noted for the log; its release starts the supplies at step 3. BOR_RELEASE of a held
BOR: the supplies start at step 3, or the reset of NRST holds. REFIN, the crystal and the I2C bus: a lost REFIN asserts
FAULT_N, and rails, ports and links go quiet; its return gives a COLD reset; a change of Nightwatch's clock source is noted;
a stuck I2C bus is counted. -/
def Obligations.PowerUpSupplyAndClockRows : Prop :=
  (
  ∀ s : State, s.power.mode = .poweringUp → 1 ≤ s.power.supplyStep → ¬ (s.power.supplyStep = 7 ∧ s.power.refinLost = true) →
    (NoEffect (.powerUpStep false) s) ∧
    (s.power.supplyStepAt + supplyDelay s.power.supplyStep ≤ nowNs s → s.power.supplyStep < 7 → Effect (.powerUpStep true) s fun t =>
      t = { s with power.supplyStep := s.power.supplyStep + 1, power.supplyStepAt := nowNs s }) ∧
    (s.power.supplyStepAt + supplyDelay s.power.supplyStep ≤ nowNs s → s.power.supplyStep = 7 → Effect (.powerUpStep true) s fun t =>
      t = { s with power.mode := .booting, power.supplyFailures := 0 }) ∧
    (s.power.supplyStepAt + 3 * supplyDelay s.power.supplyStep ≤ nowNs s → s.power.supplyFailures < 2 → Effect .powerUpStepTimeout s fun t =>
      t = { s with power.supplyStep := 3, power.supplyStepAt := nowNs s + 10000000, power.supplyFailures := s.power.supplyFailures + 1 }) ∧
    (s.power.supplyStepAt + 3 * supplyDelay s.power.supplyStep ≤ nowNs s → 2 ≤ s.power.supplyFailures → Effect .powerUpStepTimeout s fun t =>
      t.power.supplyStep = 0 ∧ FaultCause.supply ∈ t.faults)
  ) ∧
  (
  ∀ (f : BootFindings) (s : State),
    (s.power.mode ≠ .booting → NoEffect (.boot f) s) ∧
    (s.power.mode = .booting → bootSlot s = none → Effect (.boot f) s fun t => t = assertFault .flash s ∧ FaultCause.flash ∈ t.faults) ∧
    (∀ k, s.power.mode = .booting → bootSlot s = some k → Effect (.boot f) s fun t => t.power.mode = .run ∧ t.fw.running = true ∧
      FaultCause.notBooted ∉ t.faults ∧ t.flash.active = k ∧ t.power.porBoot = false ∧ t.fuse = s.fuse)
  ) ∧
(
  ∀ s : State, supplied s = true → s.power.mode ≠ .heldInBor →
    (∀ v, v < 3750 → Effect (.bor v) s fun t => ColdFacts s t ∧ t.power.mode = .heldInBor ∧ t.power.bootFaults = s.power.bootFaults ++ [1] ∧
      t.dram = {} ∧ (t.power.history.head?.map (·.kind)) = some 2) ∧
    (∀ v, 27000 < v → Effect (.bor v) s fun t => ColdFacts s t ∧ t.power.mode = .heldInBor ∧ t.power.bootFaults = s.power.bootFaults ++ [2]) ∧
    (∀ v, 4050 ≤ v → v ≤ 26000 → NoEffect (.bor v) s) ∧
    (∀ b, s.power.mode = .run ∨ s.power.mode = .twilight → Effect (.supplyFault b false) s fun t => ColdFacts s t ∧ t.power.bootFaults = s.power.bootFaults ++ [3]) ∧
    (∀ b, Effect (.supplyFault b true) s fun t => ColdFacts s t ∧ t.power.bootFaults = s.power.bootFaults ++ [4]) ∧
    (Effect .dieTrip s fun t => ColdFacts s t ∧ t.power.mode = .heldInBor ∧ t.power.bootFaults = s.power.bootFaults ++ [5]) ∧
    NoEffect .borRelease s
  ) ∧
  (
  ∀ s : State, s.power.mode = .heldInBor →
    (s.power.nrstLowSince = none → Effect .borRelease s fun t =>
      t = { s with power.borCauses := [], power.vsafeLow := false, power.mode := .poweringUp, power.supplyStep := 3, power.supplyStepAt := nowNs s }) ∧
    (s.power.nrstLowSince.isSome = true → s.power.nrstIgnored = false → Effect .borRelease s fun t =>
      t = { s with power.borCauses := [], power.vsafeLow := false, power.mode := .heldInReset })
  ) ∧
  (
  ∀ s : State,
    (s.power.refinLost = true → NoEffect .refinLost s) ∧
    (s.power.refinLost = false → refinMonitored s = true → Effect .refinLost s fun t => t.power.refinLost = true ∧ FaultCause.refin ∈ t.faults ∧
      (∀ q ∈ t.chain.ports, q.driving = false) ∧ (getNet t .A).link = false ∧ (getNet t .B).link = false) ∧
    (s.power.refinLost = false → NoEffect .refinRestored s) ∧
    (s.power.refinLost = true → FaultCause.refin ∈ s.faults → refinMonitored s = true → Effect .refinRestored s fun t =>
      ColdFacts s t ∧ t.power.refinLost = false ∧ FaultCause.refin ∉ t.faults) ∧
    (s.power.refinLost = true → FaultCause.refin ∉ s.faults → Effect .refinRestored s fun t => t = releaseFault .refin { s with power.refinLost := false }) ∧
    (∀ c, s.power.rtcCrystal = c → NoEffect (.crystalSourceChange c) s) ∧
    (∀ c, s.power.rtcCrystal ≠ c → Effect (.crystalSourceChange c) s fun t => t = { s with power.rtcCrystal := c, power.crystalChanged := true }) ∧
    (∀ rec, domainOn s .always = true → Effect (.i2cBusStuck rec) s fun t => t.i2c.stuck = !rec ∧ t.i2c.faults = min 0xFFFF (s.i2c.faults + 1)) ∧
    (∀ rec, domainOn s .always = false → NoEffect (.i2cBusStuck rec) s)
  )

/-- Rail start-up: RAIL_START raises the lowest enabled rail that is off and only under its conditions; the stagger raises
the next; a rail in start-up goes on rising from magnitude 0 once its supply reports regulation, or 100 ms after LED_EN rose.
No rail starts while the light pair is used and not in run, in a thermal shutdown, without REFIN, or outside RUN. Headroom: a
granted request is entered in its window, a refused one is not, and a refused rail start-up waits 1 s. The input limit: a
current above 110 % starts an overcurrent with its alert, which after 1 s asserts FAULT_N and ends with the current; above 95
% the level goes down one step, at most one in 10 ms. The ambient ceiling: a good read takes a from the curve, a failed one
keeps it, and 10 s without a good read take the fixed value with an alert. -/
def Obligations.LedgerRows : Prop :=
  (
  ∀ s : State, Shaped s →
    (railStartDue s = false → NoEffect .railStart s) ∧
    (∀ r rest, railStartDue s = true → railsWaiting s = r :: rest → Effect .railStart s fun t =>
      (getRail t r).phase = .starting (nowNs s) ∧ (getRail t r).m = 0 ∧ (∀ q, q ≠ r → getRail t q = getRail s q) ∧ t = { s with ledger := t.ledger }) ∧
    (railsMayStart s = false → NoEffect .railStaggerExpiry s) ∧
    (∀ q r at_, s.ledger.started = some (q, at_) → nextInStart s = some r → railsMayStart s = true →
      at_ + (getRail s r).stagger * 1000000 ≤ nowNs s → Effect .railStaggerExpiry s fun t =>
      (getRail t r).phase = .starting (nowNs s) ∧ (getRail t r).m = 0 ∧ (∀ q, q ≠ r → getRail t q = getRail s q)) ∧
    (∀ r : Fin 4, ∀ at_, (getRail s r.val).phase = .starting at_ →
      (Effect (.railInRegulation r true) s fun t => (getRail t r.val).phase = .rising ∧ (getRail t r.val).m = 0 ∧ t.chain.lastAgeSweep = nowNs s ∧ ∀ q, q ≠ r.val → getRail t q = getRail s q) ∧
      (at_ + 100000000 ≤ nowNs s → Effect (.railInRegulation r false) s fun t => (getRail t r.val).phase = .rising) ∧
      (nowNs s < at_ + 100000000 → NoEffect (.railInRegulation r false) s))
  ) ∧
  (
  ∀ s : State, (s.safety.light.state ≠ .run ∧ s.safety.light.state ≠ .unused) ∨ s.therm.shutdownAt.isSome = true ∨ s.power.refinLost = true ∨ s.power.mode ≠ .run →
    NoEffect .railStart s ∧ NoEffect .railStaggerExpiry s
  ) ∧
  (
  ∀ (h : HeadroomReq) (s : State),
    (headroomOk s h = true → Effect (.headroomRequest h) s fun t => t.ledger.grants = s.ledger.grants ++ [⟨h.who, h.rail, h.window, h.current⟩]) ∧
    (headroomOk s h = false → Effect (.headroomRequest h) s fun t => t.ledger.grants = s.ledger.grants ∧
      (h.who = .railStart → t.ledger.retryAt = nowNs s + 1000000000)) ∧
    (h.who = .diagRun ∨ h.who = .twinkle ∨ h.who = .calibration → headroomOk s h = true →
      ((granted s h.rail h.window + h.current : Nat) : Rat) ≤ effectiveBudget s h.rail)
  ) ∧
  (
  ∀ (i1 i2 : Nat) (s : State),
    (Effect (.inputCurrentSample i1 i2) s fun t => t.ledger.vinCurrent = i1 ∧
      (110 * s.ledger.limit < 100 * i1 → s.ledger.overSince = none → t.ledger.overSince = some (nowNs s)) ∧
      (100 * i1 ≤ 110 * s.ledger.limit → t.ledger.overSince = none ∧ (s.ledger.overSince.isSome = true → FaultCause.inputOvercurrent ∉ t.faults)) ∧
      (95 * s.ledger.limit < 100 * i1 → s.power.level.val < 3 → s.ledger.lastStep + 10000000 ≤ nowNs s →
        s.power.level.val + 1 ≤ t.ledger.inputLevel ∧ t.ledger.lastStep = nowNs s) ∧
      (t.ledger.refuseWork = true ↔ 95 * s.ledger.limit < 100 * i1 ∧ s.power.level.val = 3)) ∧
    (∀ at_, s.ledger.overSince = some at_ → at_ + 1000000000 ≤ nowNs s → Effect .inputOvercurrent1s s fun t => t = assertFault .inputOvercurrent s ∧
      FaultCause.inputOvercurrent ∈ t.faults) ∧
    (s.ledger.overSince = none → NoEffect .inputOvercurrent1s s)
  ) ∧
  (
  ∀ s : State,
    (∀ lux, s.ledger.ambient.mode ≠ 1 ∨ s.fw.running = false → NoEffect (.ambientSensorRead lux) s) ∧
    (s.fw.running = true → s.ledger.ambient.mode = 1 → s.ledger.ambient.lastRead + 1000000000 ≤ nowNs s →
      (Effect (.ambientSensorRead none) s fun t => t = { s with ledger.ambient.lastRead := nowNs s }) ∧
      ∀ x, Effect (.ambientSensorRead (some x)) s fun t => t.ledger.ambient.lastGood = nowNs s ∧ t.ledger.ambient.failed = false ∧
        t.ledger.ambient.a = (curveEval (s.ledger.ambient.curve.map fun p => ((p.1 : Int), (p.2 : Int))) (x : Nat)).toNat) ∧
    (s.ledger.ambient.mode = 1 → s.ledger.ambient.failed = false → s.ledger.ambient.lastGood + 10000000000 ≤ nowNs s →
      Effect .ambientFallbackTimeout s fun t => t.ledger.ambient.a = s.ledger.ambient.gain ∧ t.ledger.ambient.failed = true) ∧
    (s.ledger.ambient.mode ≠ 1 → NoEffect .ambientFallbackTimeout s)
  )

/-- MAGNITUDE_FIX fixes the first frame whose sums are complete and whose magnitude is not fixed: a running rail's magnitude
goes no higher than its frame's required magnitude and rises by no more than its release rate, and while the tile goes dark
it does not rise; a rail that is off stays as it stands; the frame's magnitudes are on record. Without such a frame nothing
happens. A shunt measurement below 0.5 A is not judged; one above the tolerance band is counted, the eighth in a row lowers k
to expected over measured, not below 0.5; one within is counted as good. A rail without a shunt channel takes none. -/
def Obligations.MagnitudeAndShuntRows : Prop :=
  (
  ∀ (s : State),
    (unfixed s = [] → NoEffect .magnitudeFix s) ∧
    ∀ f later, unfixed s = f :: later → Shaped s →
      Effect .magnitudeFix s fun t =>
        (∀ r, r < 4 → (getRail s r).phase = .rising ∨ (getRail s r).phase = .on →
          (getRail t r).m ≤ requiredMagnitude s f r ∧ (getRail t r).m ≤ (getRail s r).m + perFrame s (getRail s r).release ∧
          (goingDark s = true → (getRail t r).m ≤ (getRail s r).m)) ∧
        (∀ r, r < 4 → (getRail s r).phase = .off → (getRail t r).m = (getRail s r).m) ∧
        t.ledger.latest = some f ∧
        ∃ x, t.ledger.magnitudes = s.ledger.magnitudes ++ [x] ∧ x.frame = f.frame ∧ x.m = t.ledger.rails.map (·.m)
  ) ∧
  (
  ∀ (r : Fin 4) (ua : Nat) (s : State), Shaped s →
    (15 < (getRail s r.val).shunt → NoEffect (.shuntMeasurement r ua) s) ∧
    ((getRail s r.val).shunt ≤ 15 → inputLost s (getRail s r.val).shunt = false → (getRail s r.val).shuntLost = false →
      let m : Rat := mkRat (ua * s.trim.inForce.shunt.getD r.val 0x8000) 32768
      let e := expectedCurrent s r.val
      (m < 500000 → Effect (.shuntMeasurement r ua) s fun t =>
        getRail t r.val = { getRail s r.val with measured := satN 0xFFFE (roundQ (m / 10000)).toNat } ∧ t = { s with ledger := t.ledger }) ∧
      (500000 ≤ m → e * mkRat (100 + (getRail s r.val).theta) 100 < m → (getRail s r.val).above + 1 < 8 → Effect (.shuntMeasurement r ua) s fun t =>
        (getRail t r.val).above = (getRail s r.val).above + 1 ∧ (getRail t r.val).k = (getRail s r.val).k) ∧
      (500000 ≤ m → e * mkRat (100 + (getRail s r.val).theta) 100 < m → 8 ≤ (getRail s r.val).above + 1 → Effect (.shuntMeasurement r ua) s fun t =>
        (getRail t r.val).mismatch = true ∧ 0x4000 ≤ (getRail t r.val).k ∧ (getRail t r.val).k ≤ 0x8000 ∧ (getRail t r.val).above = 0))
  )

/-- Diodes: a conversion, at most one in 10 ms and with METER on, gives each diode its reading with its trim, clamped to 16 bits; a diode that has broken is marked
and alerted, and one that has agreed again for its time is in use again. NTC sensors: an open or shorted input breaks its
sensor electrically; 16 frames held out break it by the check; 60 s of agreement return it. The zone model runs once a frame,
and takes the rail voltages that it is given; a voltage whose reads have failed for 1 s is taken as 0; each throttle factor
moves toward its rail's target by no more than its rate, once in 1 ms, and a factor that falls withdraws what the ledger granted. A
thermal shutdown ends only once every domain has left it and the rails have been off for 1 s; the flash operation at work when
it began ends, torn, after the 8 ms of its grace window. -/
def Obligations.TemperatureRows : Prop :=
  (
  ∀ (s : State),
    (∀ rs mw, diodesDue s = false → NoEffect (.diodeConversion rs mw) s) ∧
    (∀ rs mw, diodesDue s = true → Effect (.diodeConversion rs mw) s fun t => ∀ k, k < s.therm.diodes.length →
      ((t.therm.diodes.getD k {}).reading = clampI (-32768) 32767 (rs.getD k (s.therm.diodes.getD k {}).reading + 32 * s.trim.inForce.diode.getD k 0))) ∧
    (∀ d : Fin 6, diodeBreaks s d.val = false → NoEffect (.diodeBroken d) s) ∧
    (∀ d : Fin 6, diodeBreaks s d.val = true → Shaped s → Effect (.diodeBroken d) s fun t => (t.therm.diodes.getD d.val {}).broken = true) ∧
    (∀ d : Fin 6, diodeReturns s d.val = false → NoEffect (.diodeReturn d) s) ∧
    (∀ d : Fin 6, diodeReturns s d.val = true → Shaped s → Effect (.diodeReturn d) s fun t => (t.therm.diodes.getD d.val {}).broken = false)
  ) ∧
  (
  ∀ (i : Fin 16) (s : State),
    (meterOn s = false → ∀ x, NoEffect (.ntcConversion i x) s) ∧
    (∀ c x, meterOn s = true → s.therm.desc.sensors = [c] → s.therm.sensors.length = 1 → c.enable = true → c.input = i.val → ratioBroken x = true →
      sensorBrokenNow (getSensor s 0) = false → Effect (.ntcConversion i x) s fun t => (getSensor t 0).status = .brokenElectrically ∧ (getSensor t 0).ratio = x) ∧
    (∀ c x, meterOn s = true → s.therm.desc.sensors = [c] → s.therm.sensors.length = 1 → c.enable = true → c.input = i.val → ratioBroken x = false →
      inputLost s c.input = false → Effect (.ntcConversion i x) s fun t => (getSensor t 0).reading = ntcReading c x ∧ (getSensor t 0).converted = true) ∧
    ((getSensor s i.val).status = .heldOut → 16 ≤ (getSensor s i.val).held → i.val < s.therm.sensors.length → Effect (.sensorBroken i) s fun t =>
      (getSensor t i.val).status = .brokenByCheck) ∧
    ((getSensor s i.val).held < 16 → NoEffect (.sensorBroken i) s) ∧
    (∀ at_, sensorBrokenNow (getSensor s i.val) = true → (getSensor s i.val).agreeSince = some at_ → at_ + 60000000000 ≤ nowNs s → i.val < s.therm.sensors.length →
      Effect (.sensorReturn i) s fun t => (getSensor t i.val).status = .valid) ∧
    (sensorBrokenNow (getSensor s i.val) = false → NoEffect (.sensorReturn i) s)
  ) ∧
  (
  ∀ s : State,
    (∀ mv, meterOn s = false ∨ s.therm.lastZone = s.time.frame + 1 → NoEffect (.zoneModelUpdate mv) s) ∧
    (∀ mv, meterOn s = true → s.therm.lastZone ≠ s.time.frame + 1 → Effect (.zoneModelUpdate mv) s fun t => t.therm.lastZone = s.time.frame + 1 ∧
      t.therm.volts.length = s.therm.volts.length ∧
      ∀ k x, k < s.therm.volts.length → mv.getD k none = some x → (t.therm.volts.getD k {}).millivolts = x) ∧
    (∀ r : Fin 4, ∀ since, (s.therm.volts.getD r.val {}).millivolts ≠ 0 → (s.therm.volts.getD r.val {}).failedSince = some since →
      (s.therm.volts.getD r.val {}).goodAt + 1000000000 ≤ nowNs s → Shaped s →
      Effect (.pmbusVoltageTimeout r) s fun t => (t.therm.volts.getD r.val {}).millivolts = 0) ∧
    (∀ r : Fin 4, (s.therm.volts.getD r.val {}).failedSince = none → NoEffect (.pmbusVoltageTimeout r) s) ∧
    (factorsDue s = false → NoEffect .throttleFactorUpdate s) ∧
    (factorsDue s = true → Effect .throttleFactorUpdate s fun t =>
      t.therm = { s.therm with u := t.therm.u, factorsAt := some (nowNs s) } ∧ t.therm.u.length = s.therm.u.length ∧
      ((∀ r, r < s.therm.u.length → s.therm.u.getD r 0 ≤ railTarget s r) → t = { s with therm := t.therm }) ∧
      ((∃ r, r < s.therm.u.length ∧ railTarget s r < s.therm.u.getD r 0 ∧ 0 < s.therm.desc.fall) → t.ledger.grants = []) ∧
      ∀ r, r < s.therm.u.length →
        (railTarget s r < s.therm.u.getD r 0 → t.therm.u.getD r 0 = max (railTarget s r) (s.therm.u.getD r 0 - s.therm.desc.fall)) ∧
        (s.therm.u.getD r 0 ≤ railTarget s r → t.therm.u.getD r 0 = min (railTarget s r) (s.therm.u.getD r 0 + s.therm.desc.rise)))
  ) ∧
  (
  ∀ s : State,
    (s.therm.shutdownAt.isSome = true → thermNow s < 3 → railsOff s = true → s.ledger.offAt + 1000000000 ≤ nowNs s → Effect .thermalShutdownEnd s fun t =>
      t.therm.shutdownAt = none ∧ FaultCause.thermalShutdown ∉ t.faults) ∧
    (s.therm.shutdownAt = none ∨ 3 ≤ thermNow s ∨ railsOff s = false ∨ nowNs s < s.ledger.offAt + 1000000000 → NoEffect .thermalShutdownEnd s) ∧
    (∀ at_ w rest, s.therm.graceFrom = some at_ → s.flash.queue = w :: rest → at_ + 8000000 ≤ nowNs s → w.begun = false →
      Effect .flashGraceWindowExpiry s fun t => t = { s with therm.graceFrom := none }) ∧
    (∀ at_ w rest, s.therm.graceFrom = some at_ → s.flash.queue = w :: rest → at_ + 8000000 ≤ nowNs s → w.begun = true →
      Effect .flashGraceWindowExpiry s fun t => t.therm.graceFrom = none ∧ t = failWrite w (tearFront { s with therm.graceFrom := none })) ∧
    (s.therm.graceFrom = none → NoEffect .flashGraceWindowExpiry s)
  )

/-- Localisation: it runs only on a port whose train is missing; where not every fed cell answers, the first break of a whole
loop begins a move of the meridian to the broken link, gained by the other port; a break of a healed loop is a double fault.
The move: its burst is sent once and brings the new meridian into force; an answer of the gaining port's farthest cell
completes the heal, which is counted and recorded; silence starts localisation again from the gaining port. Restore trials
and failed cells: a trial runs only where one is due on a healed loop with one break, and is then noted; a cell that meets a
condition of failure is failed, its outputs off and its record active, once. -/
def Obligations.HealingRows : Prop :=
  (
  ∀ (p : Fin 48) (s : State), Shaped s →
    let l := portLoop p.val
    let e := portSide p.val
    let k := ((getLoop s l).fedCells e).length
    let j := answeringHops (getPlant s l) e k
    let b := linkAfter (getLoop s l).cells.length e j
    ((getPort s p.val).missingNow = false → NoEffect (.localisation p) s) ∧
    ((getPort s p.val).missingNow = true → (getLoop s l).move = none → j = k → Effect (.localisation p) s fun t =>
      (getPort t p.val).missingNow = false ∧ t = { s with chain := { s.chain with ports := t.chain.ports } }) ∧
    ((getPort s p.val).missingNow = true → (getLoop s l).move = none → j ≠ k → (getLoop s l).healed = false → Effect (.localisation p) s fun t =>
      ∃ mv, (getLoop t l).move = some mv ∧ mv.m = b ∧ mv.link = b ∧ mv.gaining = e.other ∧ mv.sent = false) ∧
    ((getPort s p.val).missingNow = true → (getLoop s l).move = none → j ≠ k → (getLoop s l).healed = true → (getLoop s l).trial = false →
      Effect (.localisation p) s fun t => (getLoop t l).doubleFault = true ∧ b ∈ (getLoop t l).broken)
  ) ∧
  (
  ∀ (l : Fin 24) (s : State), Shaped s →
    ((getLoop s l.val).move = none → NoEffect (.takeoverBurst l) s ∧ NoEffect (.takeoverCheck l) s) ∧
    (∀ mv, (getLoop s l.val).move = some mv → mv.sent = true → NoEffect (.takeoverBurst l) s) ∧
    (∀ mv, (getLoop s l.val).move = some mv → mv.sent = false → NoEffect (.takeoverCheck l) s ∧
      Effect (.takeoverBurst l) s fun t => (getLoop t l.val).m = mv.m ∧ (getLoop t l.val).move = some { mv with sent := true }) ∧
    (∀ mv, (getLoop s l.val).move = some mv → mv.sent = true → farthestAnswers l.val mv.gaining s = true → Effect (.takeoverCheck l) s fun t =>
      (getLoop t l.val).healed = true ∧ (getLoop t l.val).move = none ∧ mv.link ∈ (getLoop t l.val).broken ∧
      (getLoop t l.val).heals = min 0xFFFF ((getLoop s l.val).heals + 1)) ∧
    (∀ mv, (getLoop s l.val).move = some mv → mv.sent = true → farthestAnswers l.val mv.gaining s = false →
      Effect (.takeoverCheck l) s fun t => (getPort t (portOf l.val mv.gaining)).missingNow = true)
  ) ∧
  (
  ∀ (l : Fin 24) (s : State), Shaped s →
    (trialLink l.val s = none ∨ trialDue l.val s = false → NoEffect (.restoreTrial l) s) ∧
    (∀ b, trialLink l.val s = some b → trialDue l.val s = true → Effect (.restoreTrial l) s fun t =>
      (getLoop t l.val).lastTrial = nowNs s ∧ (getLoop t l.val).restoreNow = false) ∧
    (∀ c : Fin 100, (getLoop s l.val).cells[c.val]? = none → NoEffect (.cellFailed l c) s) ∧
    (∀ (c : Fin 100) x, (getLoop s l.val).cells[c.val]? = some x → cellFails (nowNs s) x = false → NoEffect (.cellFailed l c) s) ∧
    (∀ (c : Fin 100) x, (getLoop s l.val).cells[c.val]? = some x → cellFails (nowNs s) x = true → faultRoom s.chain.faults 4 = true → Effect (.cellFailed l c) s fun t =>
      (∃ y, (getLoop t l.val).cells[c.val]? = some y ∧ y.failed = true) ∧
      ∃ f ∈ t.chain.faults, f.target = cellTarget s l.val c.val ∧ f.kind = 4 ∧ f.active = true)
  )

/-- Presentation frames and prefetch: a frame start that is due takes its frame's phase and ends the grants of the frames
before; prefetch marks every active port; neither happens when it is not due. Uploads: t_U before a transit an upload of the
wanted image begins, or the ARM of an image that the cells hold is sent; a frame's late image is counted; an underrun row is
filled and counted once. Latch and transit: the window opens 70 µs before the transit of an uploaded slot and sends ARM, the
latch is launched 1,000 ns before, and the transit of a launched latch puts the slot's image in front and takes the freezes
and blanks that wait. -/
def Obligations.PresentationRows : Prop :=
  (
  ∀ s : State, Shaped s →
    (frameStartDue s = false → NoEffect .presentationFrameStart s) ∧
    (∀ x, frameInProgress s = some x → frameStartDue s = true → Effect .presentationFrameStart s fun t => t.pres.started = true ∧
      t.pres.frameStarted = x.frame + x.latency ∧ t.pres.phase = x.phase ∧ t.pres.phaseKnown = true ∧
      t.ledger.grants = s.ledger.grants.filter fun g => decide (x.frame ≤ windowFrame g.window)) ∧
    (uploadWanted s = false ∨ slotDue s (uploadPeriod (fullestPort s) + 100000) = false → NoEffect .prefetchStart s) ∧
    (uploadWanted s = true → slotDue s (uploadPeriod (fullestPort s) + 100000) = true → Effect .prefetchStart s fun t =>
      (∀ p ∈ activePorts s, p < 48 → (getPort t p).prefetched = true) ∧
      t = { s with chain := { s.chain with ports := t.chain.ports }, pres := { s.pres with fill := t.pres.fill } })
  ) ∧
  (
  ∀ s : State, Shaped s →
    (presenting s = false ∨ s.pres.upload.isSome = true ∨ s.pres.armed = true ∨ slotDue s (uploadPeriod (fullestPort s)) = false → NoEffect .uploadStart s) ∧
    (presenting s = true → s.pres.upload = none → s.pres.armed = false → slotDue s (uploadPeriod (fullestPort s)) = true → Effect .uploadStart s fun t =>
      t.pres.next = some (targetSlot s) ∧
      t.pres.late = (if (wantedImage s (targetSlot s)).2 then modAt s.pres.late ((planOf s (targetSlot s).frame).view (targetSlot s).slot) inc32 else s.pres.late) ∧
      (heldFor s (targetSlot s) (wantedImage s (targetSlot s)).1.1 = none → ∃ u, t.pres.upload = some u ∧ t.pres.armed = false ∧
        u.id = (wantedImage s (targetSlot s)).1.1 ∧ u.image = (wantedImage s (targetSlot s)).1.2) ∧
      (∀ u, heldFor s (targetSlot s) (wantedImage s (targetSlot s)).1.1 = some u → t.pres.upload = some u ∧ t.pres.armed = true)) ∧
    (∀ (p : Fin 48) (row : Fin 32), s.pres.upload = none ∨ (getPort s p.val).uploading = false ∨ row.val ∈ (getPort s p.val).underran → NoEffect (.fifoUnderrun p row) s) ∧
    (∀ (p : Fin 48) (row : Fin 32) u, s.pres.upload = some u → (getPort s p.val).uploading = true → row.val ∉ (getPort s p.val).underran → Effect (.fifoUnderrun p row) s fun t =>
      (getPort t p.val).underran = (getPort s p.val).underran ++ [row.val] ∧ t.pres.eclipse = modAt s.pres.eclipse p.val inc32)
  ) ∧
  (
  ∀ s : State,
    (windowDue s = false → NoEffect .latchWindowOpen s) ∧
    (windowDue s = true → Effect .latchWindowOpen s fun t => t.pres.armed = true ∧ t.chain.loadPending = false ∧ t.pres.upload = s.pres.upload) ∧
    (presenting s = false ∨ s.pres.armed = false ∨ s.pres.launched = true ∨ slotDue s 1000 = false → NoEffect .latchLaunch s) ∧
    (presenting s = true → s.pres.armed = true → s.pres.launched = false → slotDue s 1000 = true → Effect .latchLaunch s fun t =>
      t = { s with pres := { s.pres with launched := true } }) ∧
    (presenting s = false ∨ s.pres.launched = false ∨ slotDue s 0 = false → NoEffect .transit s) ∧
    (presenting s = true → s.pres.launched = true → slotDue s 0 = true → Effect .transit s fun t =>
      t.pres.position = some (targetSlot s) ∧ t.pres.next = some (slotAfter s (targetSlot s)) ∧ t.pres.launched = false ∧
      (s.pres.upload.isSome = true → t.pres.shown = s.pres.upload) ∧ (s.pres.upload = none → t.pres.shown = s.pres.shown) ∧
      t.pres.frozen = (s.pres.frozen.zip s.pres.freezeNext).map (fun x => x.2.getD x.1) ∧
      t.pres.blanked = (s.pres.blanked.zip s.pres.blankNext).map (fun x => x.2.getD x.1))
  )

/-- Camera sync: an edge of the configured polarity and width steps its input's loop, and one within 10 µs of the previous
edge is dropped and counted; a missing edge is counted, and the fourth loses the lock; the drift is judged every 10 s against
10 µs. The oldest latched frame is composed: its images and its sums are added, and the latch leaves the queue; a slide fill
ends its buffer ready, or free where the stored slide is not valid. -/
def Obligations.SyncAndCompositeRows : Prop :=
  (
  ∀ (i : Fin 5) (s : State), Shaped s →
    (∀ e falling width, edgeCounts (getSync s i.val) falling width = false → NoEffect (.camSyncEdge i e falling width) s) ∧
    (∀ e falling width, edgeCounts (getSync s i.val) falling width = true → 120 ≤ width → isGlitch e (getSync s i.val) = false →
      Effect (.camSyncEdge i e falling width) s fun t =>
        getSync t i.val = { syncEdge (period s).q e (getSync s i.val) with lastSeen := some e } ∧ ∀ j, j ≠ i.val → getSync t j = getSync s j) ∧
    (∀ e falling width, edgeCounts (getSync s i.val) falling width = true → 120 ≤ width → isGlitch e (getSync s i.val) = true →
      Effect (.camSyncEdge i e falling width) s fun t => getSync t i.val = dropEdge e (getSync s i.val) ∧ ∀ j, j ≠ i.val → getSync t j = getSync s j) ∧
    (edgeMissing s i.val = false → NoEffect (.syncEdgeMissing i) s) ∧
    (edgeMissing s i.val = true → Effect (.syncEdgeMissing i) s fun t => (getSync t i.val).missing = (getSync s i.val).missing + 1 ∧
      (getSync t i.val).state = (if 4 ≤ (getSync s i.val).missing + 1 then .lost else (getSync s i.val).state)) ∧
    (genlockDue s i.val = false → NoEffect (.genlockCheck i) s) ∧
    (genlockDue s i.val = true → Effect (.genlockCheck i) s fun t => (getSync t i.val).driftAt = nowNs s ∧ (getSync t i.val).driftPsi = (getSync s i.val).psi ∧
      ((getSync t i.val).notGenlocked = true ↔
        (10000 : Rat) < wrapQ (phaseQ (getSync s i.val).psi - phaseQ (getSync s i.val).driftPsi) (period s).q ∨
        wrapQ (phaseQ (getSync s i.val).psi - phaseQ (getSync s i.val).driftPsi) (period s).q < -10000))
  ) ∧
  (
  ∀ s : State,
    (nextComposite s = none → NoEffect .compositeComplete s) ∧
    (∀ c, nextComposite s = some c → Effect .compositeComplete s fun t =>
      (∃ new, t.pres.images = s.pres.images ++ new ∧ (∀ i ∈ new, i.frame = c.frame ∧ i.view ∈ c.prog.views ∧ frozenFor s c.frame i.view = false)) ∧
      (∃ x, t.ledger.sums = s.ledger.sums ++ [x] ∧ x.frame = c.frame) ∧
      ∀ x ∈ t.layers.latched, x ∈ s.layers.latched ∧ x.frame ≠ c.frame) ∧
    (slideFill s = none → NoEffect .slideFillComplete s) ∧
    (∀ b d, slideFill s = some b → objectData s 7 b.slide = some d → Effect .slideFillComplete s fun t =>
      ∀ x ∈ t.layers.buffers, x.handle = b.handle → x.state = .ready ∧ x.filler = .none) ∧
    (∀ b, slideFill s = some b → objectData s 7 b.slide = none → Effect .slideFillComplete s fun t =>
      ∀ x ∈ t.layers.buffers, x.handle = b.handle → x.state = .free)
  )

/-- Sweeps and readings: a short sweep that is due has its entries to send; a diagnosis map that is due is read, its cell
noting when, or not where the cell does not answer; the age sweep keeps its time, ages stand still with the rails off, and
pulses that are still to fire stay on record; twinkle pulses only emitters that the sweep selected. A received file is
refused where it would come over a stuck bus, by its CRC and by its sections, and else loads into the inactive bank; a stress
sample that is due is taken; a scheduled recast starts when it is due; at a boundary a swap that is due takes a valid bank of
the space in force, once. -/
def Obligations.DiagnosisAndAlmanacRows : Prop :=
  (
  ∀ s : State,
    (shortSweepDue s = false → NoEffect .diagSweep s) ∧
    (shortSweepDue s = true → Effect .diagSweep s fun t =>
      t = { s with chain := { s.chain with sweepLeft := sweepEntries (gradePorts s), lastShortSweep := nowNs s } }) ∧
    (∀ (l : Fin 24) (c : Fin 100), diagReadDue s l.val c.val = false → NoEffect (.diagMapRead l c) s) ∧
    (∀ (l : Fin 24) (c : Fin 100) codes, diagReadDue s l.val c.val = true → readCodes (fireCells l.val s) l.val c.val = some codes → Shaped s →
      Effect (.diagMapRead l c) s fun t => ∃ y, (getLoop t l.val).cells[c.val]? = some y ∧ y.diagReadAt = some (nowNs s) ∧ y.faultBits = false) ∧
    (∀ (l : Fin 24) (c : Fin 100), diagReadDue s l.val c.val = true → readCodes (fireCells l.val s) l.val c.val = none →
      Effect (.diagMapRead l c) s fun t => t = fireCells l.val s) ∧
    (nowNs s < s.chain.lastAgeSweep + 100000000 ∨ domainOn s .mem = false → NoEffect .ageSweep s) ∧
    (s.chain.lastAgeSweep + 100000000 ≤ nowNs s → domainOn s .mem = true → Effect .ageSweep s fun t =>
      (railsOn s = false → t = { s with chain := { s.chain with lastAgeSweep := nowNs s } }) ∧
      (railsOn s = true → t.chain.lastAgeSweep = s.chain.lastAgeSweep + 10000000 * ((nowNs s - s.chain.lastAgeSweep) / 10000000) ∧
        t.chain.pulsed = s.chain.pulsed.filter fun x => decide (nowNs s < x.2))) ∧
    (presenting s = false ∨ s.chain.twinkle.enable = false ∨ railsOn s = false → NoEffect .twinkleDispatch s) ∧
    (presenting s = true → s.chain.twinkle.enable = true → railsOn s = true → Effect .twinkleDispatch s fun t =>
      (∀ e ∈ t.chain.pulsed, e ∈ s.chain.pulsed ∨ e.1 ∈ s.chain.selected) ∧ (∀ e ∈ t.chain.selected, e ∈ s.chain.selected) ∧
      (∀ e ∈ s.chain.selected, e ∈ t.chain.selected ∨ ∃ at_, (e, at_) ∈ t.chain.pulsed))
  ) ∧
  (
  ∀ s : State,
    (loadReady s = none → NoEffect .almanacFileReceived s) ∧
    (∀ o f, loadReady s = some (o, f) → prm o.req 0 1 = 1 → s.i2c.stuck = true → Effect .almanacFileReceived s fun t =>
      t = completeOp o.req.src o.req.tag St.badParam [] s) ∧
    (∀ o f, loadReady s = some (o, f) → ¬ (prm o.req 0 1 = 1 ∧ s.i2c.stuck = true) → fileCrcOk f = false → Effect .almanacFileReceived s fun t => t = completeOp o.req.src o.req.tag St.checkFail [] s) ∧
    (∀ o f, loadReady s = some (o, f) → ¬ (prm o.req 0 1 = 1 ∧ s.i2c.stuck = true) → fileCrcOk f = true → (fileSectionsOk f && fileMatches o.req.src f s) = false → Effect .almanacFileReceived s fun t =>
      t = completeOp o.req.src o.req.tag St.badParam [] s) ∧
    (∀ o f, loadReady s = some (o, f) → ¬ (prm o.req 0 1 = 1 ∧ s.i2c.stuck = true) → fileCrcOk f = true → (fileSectionsOk f && fileMatches o.req.src f s) = true → Effect .almanacFileReceived s fun t =>
      t.almanac.loading = some ⟨o.req.src, o.req.tag, inactiveBank s, f, false⟩) ∧
    (sampleDue s = none → NoEffect .stressSample s) ∧
    (∀ f, sampleDue s = some f → Effect .stressSample s fun t => t.almanac.lastSample = nowNs s / 1000000000 ∧ t.almanac.sampleFrame = none) ∧
    (recastReady s = none → NoEffect .recastDue s) ∧
    (∀ f, recastReady s = some f → Effect .recastDue s fun t => t.almanac.recast = some ⟨none, inactiveBank s⟩ ∧
      t.almanac.nextRecast = some (recastAt s + s.almanac.interval * 3600000000000)) ∧
    (boundaryDue s = false ∨ s.fw.running = false ∨ s.almanac.swapDue = none → NoEffect .recastSwap s) ∧
    (∀ k, boundaryDue s = true → s.fw.running = true → s.almanac.swapDue = some k → Effect .recastSwap s fun t => t.almanac.swapDue = none ∧
      (recastSwapOk s k = true → t.almanac.inForce = some k) ∧ (recastSwapOk s k = false → t.almanac.inForce = s.almanac.inForce))
  )

/-- The self-test: outside its power states nothing runs; a slice refused by the input limit is counted; a retest that passes
brings its block back and is logged, one that fails makes its block unusable; a cycle longer than 600 s is counted once. The
DRAM: of a word read with up to two wrong bits one is corrected, counted and kept for an hour's count, and two lose the word;
a row that fails is remapped to a spare or, without one, withdrawn; scrub, self-refresh entry where it is allowed, and exit;
nothing of this without MEM. -/
def Obligations.SelfTestAndDramRows : Prop :=
  (
  ∀ s : State,
    (∀ pass, bistRuns s = false → NoEffect (.bistSlice pass) s) ∧
    (∀ pass, bistRuns s = true → s.ledger.refuseWork = true → Effect (.bistSlice pass) s fun t => t = { s with bist := { s.bist with refused := min 0xFFFF (s.bist.refused + 1) } }) ∧
    (∀ pass o rest, bistRuns s = true → s.ledger.refuseWork = false → s.bist.ops = o :: rest → Effect (.bistSlice pass) s fun t => t = opSlice o pass s) ∧
    (∀ pass, bistRuns s = true → s.ledger.refuseWork = false → s.bist.ops = [] → cycleDue s = true → Effect (.bistSlice pass) s fun t => t = cycleSlice pass s) ∧
    (∀ pass, s.bist.ops = [] → cycleDue s = false → s.ledger.refuseWork = false → NoEffect (.bistSlice pass) s) ∧
    (∀ block pass, bistRuns s = false ∨ retestDue s block = false → NoEffect (.bistRetest block pass) s) ∧
    (∀ block, bistRuns s = true → retestDue s block = true → Effect (.bistRetest block true) s fun t =>
      (blockRec t block).state = 0 ∧ (blockRec t block).retestAt = none ∧ (blockRec t block).lastPass = nowSeconds s) ∧
    (∀ block, bistRuns s = true → retestDue s block = true → Effect (.bistRetest block false) s fun t =>
      (blockRec t block).state = (if essential block then 4 else 2) ∧ (blockRec t block).retestAt = none ∧
      (blockRec t block).failures = min 0xFFFF ((blockRec s block).failures + 1)) ∧
    (s.fw.running = false ∨ overrunDue s = false → NoEffect .bistCycleOverrun s) ∧
    (s.fw.running = true → overrunDue s = true → Effect .bistCycleOverrun s fun t => t.bist.overruns = min 0xFFFF (s.bist.overruns + 1) ∧ t.bist.overrunLogged = true)
  ) ∧
  (
  ∀ s : State,
    (∀ a flips, dramPowered s = false ∨ dramSize ≤ a → NoEffect (.dramCorrectedRead a flips) s) ∧
    (∀ a flips, dramPowered s = true → a < dramSize → flips.eraseDups.length ≤ 2 →
      (eccRead (dramWord s (a / 8 * 8)) flips.eraseDups = .clean → NoEffect (.dramCorrectedRead a flips) s) ∧
      (∀ d, eccRead (dramWord s (a / 8 * 8)) flips.eraseDups = .corrected d → Effect (.dramCorrectedRead a flips) s fun t =>
        t.dram.corrected = min 0xFFFFFFFF (s.dram.corrected + 1) ∧ (a / 8 * 8, nowNs s) ∈ t.dram.corrections) ∧
      (eccRead (dramWord s (a / 8 * 8)) flips.eraseDups = .uncorrectable → Effect (.dramCorrectedRead a flips) s fun t =>
        t = loseWords (a / 8 * 8) 8 s)) ∧
    (∀ (die : Fin 2) row, dramPowered s = false ∨ rowExists row = false ∨ rowFails s die.val row = false → NoEffect (.dramRowRemap die row) s) ∧
    (∀ (die : Fin 2) row, dramPowered s = true → rowExists row = true → rowFails s die.val row = true → sparesUsed s die.val < spareRows s die.val →
      Effect (.dramRowRemap die row) s fun t => (die.val, row) ∈ t.dram.remapped ∧ t.dram.withdrawn = s.dram.withdrawn) ∧
    (∀ (die : Fin 2) row, dramPowered s = true → rowExists row = true → rowFails s die.val row = true → spareRows s die.val ≤ sparesUsed s die.val →
      Effect (.dramRowRemap die row) s fun t => (die.val, row) ∈ t.dram.withdrawn ∧ t.dram.remapped = s.dram.remapped) ∧
    (dramPowered s = true →
      (Effect .dramScrub s fun t => t = { s with dram := { s.dram with scrubbedAt := nowNs s } }) ∧
      (refreshAllowed s = true → Effect .selfRefreshEntry s fun t => t = { s with dram := { s.dram with selfRefresh := true } }) ∧
      (refreshAllowed s = false → NoEffect .selfRefreshEntry s) ∧
      (Effect .selfRefreshExit s fun t => t = { s with dram := { s.dram with selfRefresh := false } })) ∧
    (dramPowered s = false → NoEffect .dramScrub s ∧ NoEffect .selfRefreshEntry s ∧ NoEffect .selfRefreshExit s)
  )

/-- The journal: the front write commits; a scan marks every torn entry, counts them and logs them once; compaction frees the
oldest used block and keeps its live entries. Checkpoints and scrub: a checkpoint that is due is queued, or counted as an
overrun while one is queued or in a shutdown, and is left to an orderly one that is queued; the older generation is erased; a weekly scrub repairs what it finds. A
calibration slice: without a calibration, firmware or METER nothing happens; an unusable converter stops it; the input limit
makes it wait; after the last item its results are out. -/
def Obligations.StorageRows : Prop :=
  (
  ∀ s : State,
    (flashFront s = none → NoEffect .journalCommit s) ∧
    (∀ w, flashFront s = some w → Effect .journalCommit s fun t => t = commitFront w s) ∧
    (s.fw.running = false ∨ (∀ e ∈ s.flash.entries, e.committed = true ∨ e.torn = true) → NoEffect .journalScan s) ∧
    (s.fw.running = true → (∃ e ∈ s.flash.entries, e.committed = false ∧ e.torn = false) → Effect .journalScan s fun t =>
      (∀ e ∈ t.flash.entries, e.committed = true ∨ e.torn = true) ∧
      t.flash.torn = min 0xFFFF (s.flash.torn + (s.flash.entries.filter fun e => !e.committed && !e.torn).length)) ∧
    (s.fw.running = false ∨ s.therm.shutdownAt.isSome = true ∨ 8 ≤ erasedBlocks s → NoEffect .journalCompaction s) ∧
    (∀ b rest, s.fw.running = true → s.therm.shutdownAt = none → erasedBlocks s < 8 → s.flash.usedBlocks = b :: rest → Effect .journalCompaction s fun t =>
      t = compact s)
  ) ∧
  (
  ∀ s : State,
    (checkpointDue s = false → NoEffect .checkpointWrite s) ∧
    (checkpointDue s = true → s.therm.shutdownAt = none → s.flash.queue = [] → Effect .checkpointWrite s fun t =>
      ∃ w, t.flash.queue = [w] ∧ w.type = 6 ∧ w.use = .checkpoint ∧ w.data = checkpointBytes s) ∧
    ((∃ w ∈ s.flash.queue, w.use = .orderly) → NoEffect .checkpointWrite s) ∧
    (checkpointDue s = true → (∀ w ∈ s.flash.queue, w.use ≠ .orderly) → (s.therm.shutdownAt.isSome = true ∨ ∃ w ∈ s.flash.queue, w.type = 6) → Effect .checkpointWrite s fun t =>
      t.flash.overrun = true ∧ t.flash.queue = s.flash.queue) ∧
    (s.flash.dirty = none → NoEffect .checkpointErase s) ∧
    (∀ g, s.flash.dirty = some g → s.fw.running = true → s.therm.shutdownAt = none → s.power.mode ≠ .enteringNadir → (∀ w ∈ s.flash.queue, w.begun = false) →
      Effect .checkpointErase s fun t => t.flash.dirty = none ∧ ∀ e ∈ t.flash.entries, e.type = 6 → entryPlace e ≠ g) ∧
    (∀ bad, s.fw.running = false ∨ nowNs s < s.flash.scrubbedAt + 604800000000000 → NoEffect (.flashScrub bad) s) ∧
    (s.fw.running = true → s.flash.scrubbedAt + 604800000000000 ≤ nowNs s → Effect (.flashScrub []) s fun t => t = { s with flash := { s.flash with scrubbedAt := nowNs s } })
  ) ∧
  (
  ∀ (m : CalMeasure) (s : State),
    (s.trim.run = none ∨ s.fw.running = false ∨ meterOn s = false → NoEffect (.calibrationSlice m) s) ∧
    (∀ x, s.trim.run = some x → s.fw.running = true → meterOn s = true →
      (blockUnusable s 0x0B10 = true → Effect (.calibrationSlice m) s fun t => t = completeOp x.src x.tag St.blockUnusable [] { s with trim := { s.trim with run := none } }) ∧
      (blockUnusable s 0x0B10 = false → s.ledger.refuseWork = true → NoEffect (.calibrationSlice m) s) ∧
      (let y := x.leaveOut s m
       blockUnusable s 0x0B10 = false → s.ledger.refuseWork = false → x.item < 10 → y.slices y.item ≠ 0 → x.item ≠ 3 → x.item ≠ 9 → y.item ≠ 9 →
        (isPortItem y.item = true → portGap s 20000 y.slicePort = true) →
        Effect (.calibrationSlice m) s fun t =>
          t = afterSlice (CalRun.advance { y with level := s.power.level.val } (lastGood s) m.codes) s))
  )

/-- A set of units commits whole or not at all: where one unit fails, or the configuration as a whole, the units are
discarded, no configuration changes and the status is NOT_COMMITTED; else every unit takes effect in order. What a committed
unit leaves, by its kind: the value of its parameters, and nothing else of the state. -/
def Obligations.CommitIsAllOrNothing : Prop :=
  (
  ∀ (n : Nat) (us later : List StagedUnit) (s : State),
    let sts := us.map (unitStatus us (judgeState n (us ++ laterUnits n us later s) s))
    let t := us.foldl (fun t u => applyPlain n u t) s
    (sts.any failed = true →
      (commitUnits n us later s).status = St.notCommitted ∧ (commitUnits n us later s).state = discardUnits us s) ∧
    (sts.any failed = false → wholeStatus us t ≠ St.ok →
      (commitUnits n us later s).status = St.notCommitted ∧ (commitUnits n us later s).state = discardUnits us s) ∧
    (sts.any failed = false → wholeStatus us t = St.ok →
      (commitUnits n us later s).state = noteRecord us (refreshTaps t) ∧
      ((commitUnits n us later s).status = St.ok ∨ (commitUnits n us later s).status = St.tapsReduced))
  ) ∧
  (
  ∀ (n : Nat) (u : StagedUnit) (s : State),
    (u.ref.kind = .background → applyPlain n u s = { s with layers := { s.layers with
      background := setAt s.layers.background u.ref.index [be u.params 3 2, be u.params 5 2, be u.params 7 2] } }) ∧
    (u.ref.kind = .twinkle → applyPlain n u s = { s with chain := { s.chain with
        twinkle := (applyPlain n u s).chain.twinkle
        faults := s.chain.faults.map fun f => if f.kind == 2 || f.kind == 3 then { f with suppressed := bitN (getB u.params 1) 6 } else f } } ∧
      (applyPlain n u s).chain.twinkle.enable = bitN (getB u.params 1) 7 ∧ (applyPlain n u s).chain.twinkle.ageLimit = be u.params 2 2 ∧
      (applyPlain n u s).chain.twinkle.sweepInterval = be u.params 4 2) ∧
    (u.ref.kind = .raster → (applyPlain n u s).chain.width = be u.params 2 2 ∧ (applyPlain n u s).chain.height = be u.params 4 2) ∧
    (u.ref.kind = .bist → (applyPlain n u s).bist.enable = bitN (getB u.params 1) 7 ∧ (applyPlain n u s).bist.period = be u.params 2 2) ∧
    (u.ref.kind = .telemetry → (applyPlain n u s).cmd.telemetry.enable = bitN (getB u.params 1) 7 ∧ (applyPlain n u s).cmd.telemetry.interval = be u.params 4 4 ∧
      (applyPlain n u s).cmd.telemetry.nextAt = nowNs s + be u.params 4 4 * 1000000) ∧
    (u.ref.kind = .colourSpace → applyPlain n u s = { s with almanac := { s.almanac with space := spaceBlock u.params } }) ∧
    (u.ref.kind = .railMap → applyPlain n u s = { s with ledger := { s.ledger with map := budgetMap u.params } }) ∧
    (u.ref.kind = .thermal → (applyPlain n u s).therm.desc = thermalOf u.params)
  )

/-- The frame boundary executes once per frame: it is due from a frame's start, counts the frame, and ends a pending counter
step; without anything due nothing executes. The queue's own times: an entry loads 100 µs before its boundary, and its
domains are voted for earlier by their wake latency; ended results expire after 60 s; held changes of a source after 10 s;
telemetry is sent at its interval and counts what it skipped. -/
def Obligations.FrameBoundaryAndTimerRows : Prop :=
  (
  ∀ s : State,
    (boundaryDue s = false → NoEffect .frameBoundary s) ∧
    (boundaryDue s = true → Effect .frameBoundary s fun t => t = boundary (frameNow s) s ∧ t.time.pendingStep = none) ∧
    (∀ n, s.cmd.committing = [] → s.cmd.ephemeris = [] → s.cmd.snapshots = [] → executeFrame n s = { s with time := { s.time with frame := n } }) ∧
    (∀ n j, s.cmd.committing = [j] → s.cmd.ephemeris = [] →
      executeDue n s = runJob n [] j { s with cmd := { s.cmd with committing := [] } })
  ) ∧
  (
  ∀ s : State,
    (Effect .ephemerisLoad s fun t => t = { s with cmd := { s.cmd with ephemeris := s.cmd.ephemeris.map (loadEntry s) } } ∧
      ∀ e ∈ s.cmd.ephemeris, (period s).timeOf e.boundary ≤ nowNs s + 100000 → (loadEntry s e).loaded = true ∧ (loadEntry s e).voting = true) ∧
    (Effect .resultsExpiry s fun t => ∀ o, o ∈ t.cmd.longOps ↔ o ∈ s.cmd.longOps ∧ (opLive o = true ∨ nowNs s < o.doneAt + 60000000000)) ∧
    (s.fw.running = false → NoEffect .heldChangesDiscard s) ∧
    (s.fw.running = true → Effect .heldChangesDiscard s fun t => ∀ h, h ∈ t.cmd.held ↔ h ∈ s.cmd.held ∧ heldOver s h.src = false) ∧
    (s.fw.running = false ∨ domainOn s .always = false ∨ s.cmd.telemetry.enable = false ∨ s.cmd.telemetry.destIp = 0 ∨ nowNs s < s.cmd.telemetry.nextAt → NoEffect .telemetrySend s) ∧
    (s.fw.running = true → domainOn s .always = true → s.cmd.telemetry.enable = true → s.cmd.telemetry.destIp ≠ 0 → s.cmd.telemetry.nextAt ≤ nowNs s →
      0 < s.cmd.telemetry.interval → Effect .telemetrySend s fun t => t.cmd.telemetry.count = s.cmd.telemetry.count + 1 ∧ nowNs s < t.cmd.telemetry.nextAt ∧
        ∃ b, t.net.tx = s.net.tx ++ [.datagram s.cmd.telemetry.destIp s.cmd.telemetry.destPort 49411 b])
  )

/-- A safety input's new level takes effect once; an emergency-stop channel, a door channel or a light-curtain channel that
leaves its healthy level takes every running pair that its function drives out of run. The lockouts: each cause locks every
used pair, its outputs off, and an internal cause stands; where the condition does not hold nothing happens. Input test
pulses: an input that fails one pulse is noted and counted, and its second failure in a row locks out; with no failure
nothing but the notes of the tested inputs changes. -/
def Obligations.SafetyDemandAndLockoutRows : Prop :=
  (
  ∀ (i : SafetyInput) (on : Bool) (s : State),
    (s.safety.on i = on → NoEffect (.safetyInputChange i on) s) ∧
    (s.safety.on i ≠ on → Shaped s → Effect (.safetyInputChange i on) s fun t => t.safety.on i = on ∧ ∀ j, j ≠ i → t.safety.on j = s.safety.on j) ∧
    ∀ (f : Nat) (p : OutPair), Shaped s → s.safety.on i ≠ on →
      (f = fEstop ∧ (i = .estopA ∨ i = .estopB) ∧ on = false) ∨ (f = fDoor ∧ i = .doorNC ∧ on = false) ∨ (f = fDoor ∧ i = .doorNO ∧ on = true) ∨
        (f = fLc ∧ (i = .lcA ∨ i = .lcB) ∧ on = false) →
      s.safety.uses f = true → s.safety.sources p &&& f ≠ 0 → (s.safety.pair p).state = .run →
      Effect (.safetyInputChange i on) s fun t => (t.safety.pair p).state = .demand ∧ outputOn t p = false ∧ (t.safety.pair p).latched &&& f ≠ 0
  ) ∧
  (
  let locks (i : Instr) (cause : Nat) (s : State) : Prop := Effect i s fun t => t.safety.light.locked ∧ t.safety.motion.locked ∧
    outputOn t .light = false ∧ outputOn t .motion = false ∧ t.safety.cause = if 0x10 ≤ s.safety.cause then s.safety.cause else cause
  ∀ s : State,
    locks .heartbeatLoss 0x11 s ∧ locks .safetyMemoryFault 0x13 s ∧
    (∀ p, (s.safety.pair p).state = .unused → NoEffect (.channelDisagreement p) s) ∧
    (∀ p, (s.safety.pair p).state ≠ .unused → locks (.channelDisagreement p) 0x10 s) ∧
    (∀ o ok, (s.safety.pair (outPair o)).state ≠ .run ∨ ok = true → NoEffect (.outputTestPulse o ok) s) ∧
    (∀ o, (s.safety.pair (outPair o)).state = .run → locks (.outputTestPulse o false) 0x12 s) ∧
    (∀ p, s.safety.discrepancy.find? (·.1 == p) = none → NoEffect (.discrepancyTimeout p) s) ∧
    (∀ p q at_, s.safety.discrepancy.find? (·.1 == p) = some (q, at_) → nowNs s < at_ + s.safety.discrepancyTime p * 1000000 → NoEffect (.discrepancyTimeout p) s) ∧
    (∀ p q at_, s.safety.discrepancy.find? (·.1 == p) = some (q, at_) → at_ + s.safety.discrepancyTime p * 1000000 ≤ nowNs s → (∀ m ∈ s.safety.mend, m.1 ≠ p) →
      locks (.discrepancyTimeout p) (discrepancyCause p) s) ∧
    (∀ p, (s.safety.pair p).edmSince = none → NoEffect (.edmTimeout p) s) ∧
    (∀ p at_, (s.safety.pair p).edmSince = some at_ → at_ + s.safety.cfg.edmTime * 1000000 ≤ nowNs s → s.safety.edm p = true →
      s.safety.sfb p = ((s.safety.pair p).state == .run) → locks (.edmTimeout p) (match p with | .light => 0x06 | .motion => 0x07) s)
  ) ∧
  (
  ∀ (b : Bool) (i : SafetyInput) (s : State),
    (Effect (.inputTestPulse b []) s fun t => t = { s with safety := { s.safety with pulseFails := t.safety.pulseFails } } ∧
      ∀ j ∈ t.safety.pulseFails, j ∈ s.safety.pulseFails) ∧
    (fedByB i = some b → s.safety.on i = true → inputUsed s.safety i = true → i ∉ s.safety.pulseFails → Effect (.inputTestPulse b [i]) s fun t =>
      i ∈ t.safety.pulseFails ∧ t.safety.pulseFaults = min 0xFFFF (s.safety.pulseFaults + 1) ∧ t.safety.light = s.safety.light ∧ t.safety.motion = s.safety.motion) ∧
    (fedByB i = some b → s.safety.on i = true → inputUsed s.safety i = true → i ∈ s.safety.pulseFails → Effect (.inputTestPulse b [i]) s fun t =>
      t.safety.light.locked ∧ t.safety.motion.locked)
  )

/-- Reset presses: a press outside 0.1 s to 3 s has no effect, and one while SRST is stuck moves nothing; a press that can
move no waiting pair is counted as refused, and with no valid record it only ends; one that can move a pair without a two-hand demand puts it into run; one within
30 s of a pending change confirms it. SRST stuck after 3 s on and clear after 100 ms off; the network demand after its timeout; a
change that no press confirms within 30 s is dropped with its record complete. -/
def Obligations.SafetyPressAndTimerRows : Prop :=
  (
  ∀ (ms : Nat) (s : State),
    let off := { s.safety with levels := setAt s.safety.levels 10 false, pressSince := none, offSince := nowNs s }
    (ms < 100 ∨ 3000 < ms → NoEffect (.resetPress ms) s) ∧
    (100 ≤ ms → ms ≤ 3000 → s.safety.stuck = true → Effect (.resetPress ms) s fun t => t = { s with safety := off }) ∧
    (100 ≤ ms → ms ≤ 3000 → s.safety.stuck = false → s.safety.pending = none →
      (∃ p, (s.safety.pair p).state = .interlock ∨ (s.safety.pair p).state = .demand ∨ (s.safety.pair p).state = .lockout) → s.safety.noRecord = false → (∀ p, off.pressMoves (nowNs s) p = false) →
      Effect (.resetPress ms) s fun t => t = { s with safety := { off with refused := min 0xFFFF (s.safety.refused + 1) } }) ∧
    (∀ p, 100 ≤ ms → ms ≤ 3000 → s.safety.stuck = false → s.safety.pending = none → off.pressMoves (nowNs s) p = true → off.sources p &&& off.demandMask &&& fTwoHand = 0 →
      Effect (.resetPress ms) s fun t => (t.safety.pair p).state = .run ∧ outputOn t p = !s.power.vsafeLow) ∧
    (100 ≤ ms → ms ≤ 3000 → s.safety.stuck = false → s.safety.pending = none → s.safety.noRecord = true → Effect (.resetPress ms) s fun t => t = { s with safety := off }) ∧
    (∀ c, 100 ≤ ms → ms ≤ 3000 → s.safety.stuck = false → s.safety.pending = some c → nowNs s ≤ c.since + 30000000000 → Effect (.resetPress ms) s fun t =>
      t.safety.cfg = c.cfg ∧ t.safety.pending = none ∧ t.safety.light.waits ∧ t.safety.motion.waits ∧
      t.fuse = { s.fuse with commissioned := s.fuse.commissioned || c.cfg.functions != 0 })
  ) ∧
  (
  ∀ s : State,
    (s.safety.pressSince = none ∨ s.safety.stuck = true → NoEffect .srstStuck s) ∧
    (∀ at_, s.safety.pressSince = some at_ → s.safety.stuck = false → at_ + 3000000000 < nowNs s → Effect .srstStuck s fun t => t.safety.stuck = true ∧ t.safety.pressSince = none) ∧
    (s.safety.stuck = false ∨ s.safety.on .srst = true ∨ nowNs s < s.safety.offSince + 100000000 → NoEffect .srstStuckClear s) ∧
    (s.safety.stuck = true → s.safety.on .srst = false → s.safety.offSince + 100000000 ≤ nowNs s → Effect .srstStuckClear s fun t => t.safety.stuck = false) ∧
    (s.safety.netAt = none ∨ s.safety.uses fNet = false → NoEffect .networkSafetyTimeout s) ∧
    (∀ at_, s.safety.netAt = some at_ → s.safety.uses fNet = true → s.safety.netDemand = false → at_ + s.safety.cfg.netTimeout * 1000000 ≤ nowNs s →
      Effect .networkSafetyTimeout s fun t => t.safety.netDemand = true ∧
        ∀ p, (s.safety.pair p).state = .run → s.safety.sources p &&& fNet ≠ 0 → (t.safety.pair p).state = .demand) ∧
    (s.safety.pending = none → NoEffect .safetyConfigTimeout s) ∧
    (∀ c, s.safety.pending = some c → c.since + 30000000000 ≤ nowNs s → Effect .safetyConfigTimeout s fun t =>
      t.safety = { s.safety with pending := none } ∧ ∀ o ∈ t.cmd.longOps, isOp c.src c.tag o = true → opEnded o = true)
  )

/-- Every opcode row completes, by the meaning of its opcode: a short packet of accepted parameters runs it and is answered
as it says; one that stages configuration holds its units or queues their commit; a long-running one begins and is answered
ACCEPTED. FETCH_PARTIAL, ABORT, ALMANAC_VERIFY, AGING_RECAST, FREEZE, BLANK, AMBIENT_SET, FAULT_MAP_READ, CHAIN_ENUMERATE and
DIAG_RUN: their next states. -/
def Obligations.PacketRowsComplete : Prop :=
  (
  ∀ (i : Instr) (o : OpSpec) (r : Req) (s : State), packetOf i = some (o, r) → Accepted o r s →
    (o.long r = false → o.apply = false → ∀ x st res, o.run r (startOf r s) = (x, .done st res) → exec i s = .next (answerLarge o.code r st res x)) ∧
    (o.long r = false → o.apply = true → (unitsAsked o r (startOf r s)).any (fun u => failed u.2) = false →
      (prm r 0 1 = 1 → exec i s = .next (answerLarge o.code r St.deferred []
        (holdUnits r.src (stagedOf o.code r (unitsAsked o r (startOf r s))) (o.staged r (startOf r s))))) ∧
      (prm r 0 1 ≠ 1 → exec i s = .next (queueCommit o.code r (stagedOf o.code r (unitsAsked o r (startOf r s))) false
        (replaceHeld r.src (stagedOf o.code r (unitsAsked o r (startOf r s))) (o.staged r (startOf r s)))))) ∧
    (o.long r = true → longCount s < 16 → ∀ x, o.run r (addOp { req := r, code := o.code, state := 0, long := true } s) = (x, .accepted) →
      exec i s = .next (answer o.code r St.accepted [] x))
  ) ∧
  (
  (∀ r s op, Accepted fetchPartialSpec r s → findOp r.src (prm r 0 2) (startOf r s) = some op →
    let part := slice (if opLive op then op.partials else op.results) (prm r 4 4) 8192
    exec (.fetchPartial r) s = .next (answerLarge 0x0003 r (if opLive op then St.partialResults else St.ok) part
      (modOp r.src (prm r 0 2) (fun o => { o with fetched := max o.fetched (prm r 4 4 + part.length) }) (startOf r s)))) ∧
  (∀ r s op, Accepted abortSpec r s → findOp r.src (prm r 0 2) (startOf r s) = some op → opLive op = true → ¬ (op.code = 0x0D01 ∧ op.state = 0) →
    ∃ t, exec (.abort r) s = .next t ∧
      findOp r.src (prm r 0 2) t = some { op with state := 2, final := St.notCommitted, progress := 1000, bulk := none, doneAt := nowNs s }) ∧
  (∀ r s, Accepted almanacVerifySpec r s → longCount s < 16 →
    let v := verifyBanks (if prm r 0 1 = 2 then [0, 1] else [prm r 0 1]) (addOp { req := r, code := 0x0402, state := 0, long := true } s)
    exec (.almanacVerify r) s = .next (answer 0x0402 r St.accepted [] (completeOp r.src r.tag St.ok v.2 v.1))) ∧
  (∀ r s, Accepted agingRecastSpec (withByte r 0 0) s → prm (withByte r 0 0) 0 1 = 0 →
    let q := withByte r 0 0
    exec (.agingRecastSetSchedule r) s = .next (answerLarge 0x0406 q St.ok [] { startOf q s with
      almanac.scheduled := true
      almanac.balance := bitN (prm q 1 1) 7
      almanac.interval := prm q 2 2
      almanac.timeOfDay := prm q 4 4
      almanac.cap := prm q 8 2
      almanac.nextRecast := some (nextTimeOfDay (prm q 4 4) (nowNs s)) })) ∧
  (∀ r s, Accepted agingRecastSpec (withByte r 0 2) s → prm (withByte r 0 2) 0 1 = 2 →
    let q := withByte r 0 2
    exec (.agingRecastSuspend r) s = .next (answerLarge 0x0406 q St.ok [] { startOf q s with almanac.scheduled := false })) ∧
  (∀ r s, Accepted freezeSpec r s → prm r 1 1 = 1 → exec (.freeze r) s = .next (answerLarge 0x0603 r St.ok []
    { startOf r s with pres.freezeNext := setNext s.pres.freezeNext (prm r 0 1) true })) ∧
  (∀ r s, Accepted blankSpec r s → exec (.blank r) s = .next (answerLarge 0x0604 r St.ok []
    { startOf r s with pres.blankNext := setNext s.pres.blankNext (prm r 0 1) (prm r 1 1 = 1) })) ∧
  (∀ r s, Accepted ambientSetSpec r s → s.ledger.ambient.failed = false →
    exec (.ambientSet r) s = .next (answerLarge 0x0502 r St.ok [] (setAmbient r.params (startOf r s)))) ∧
  (∀ r s, Accepted faultMapReadSpec r s → ∃ t, exec (.faultMapRead r) s = .next t ∧
    t.chain.faults = s.chain.faults.filter fun f => !(bitN (prm r 0 1) 6 && !f.active && faultWithin r.target f && bitN (prm r 0 1) 7)) ∧
  (∀ r s, Accepted chainEnumerateSpec r s → longCount s < 16 → s.chain.enumRun = none →
    exec (.chainEnumerate r) s = .next (answer 0x0700 r St.accepted []
      (enumFrom ⟨r.src, r.tag, targetLoops s r.target, targetLoops s r.target, 0⟩ (addOp { req := r, code := 0x0700, state := 0, long := true } s)))) ∧
  (∀ (i : Req → Instr) (mode : Nat), (i, mode) ∈ [((Instr.diagRunShort), 1), (Instr.diagRunAdjShort, 2), (Instr.diagRunOpen, 3)] →
    ∀ r s, Accepted diagRunSpec (withByte r 0 mode) s → longCount s < 16 → s.therm.shutdownAt = none → prm (withByte r 0 mode) 0 1 = mode →
    ∃ t run, exec (i r) s = .next t ∧ t.chain.diagRuns = s.chain.diagRuns ++ [run] ∧ run.mode = mode ∧ run.cells = targetCells s r.target) ∧
  (∀ r s, Accepted diagRunSpec (withByte r 0 4) s → longCount s < 16 → s.therm.shutdownAt = none → prm (withByte r 0 4) 0 1 = 4 →
    fitsOneEnd s (prm (withByte r 0 4) 1 1) = true → ∃ t run, exec (.diagRunBallTest r) s = .next t ∧ t.chain.diagRuns = s.chain.diagRuns ++ [run] ∧ run.mode = 4)
  )

/-- The rows of the host port, of its window and of the check units complete: a transaction that the window serves runs its
data phase; a register write reaches its register; a write or a feed reaches its check unit. -/
def Obligations.HostAndRegisterRowsComplete : Prop :=
  (
  ∀ s : State, hostService s = .full →
    (∀ code, code.toNat % 128 ∈ [0x00, 0x02, 0x03, 0x40, 0x41] → exec (.status code) s = .next (endTransaction false (beginTransaction s))) ∧
    (∀ quad addr words, addr.toNat % 4 = 0 →
      exec (.windowWrite quad addr words) s = .next (endTransaction false (windowWords addr.toNat words (beginTransaction s)))) ∧
    (∀ quad addr n, addr.toNat % 4 = 0 → exec (.windowRead quad addr n) s =
      .next (endTransaction false ((List.range n).foldl (fun t i => readWord ((addr.toNat + 4 * i) % 2 ^ 24) t) (beginTransaction s)))) ∧
    (∀ quad bytes, (beginTransaction s).host.busy = false → (beginTransaction s).fw.running = true →
      exec (.packetWrite quad 0 bytes) s = .next (hostPacket bytes (endTransaction false (beginTransaction s)))) ∧
    (∀ quad off n, let b := beginTransaction s
      exec (.replyRead quad off n) s = .next (endTransaction false { b with
        host.shifted := padTo n (slice b.host.reply off.toNat n)
        host.done := b.host.done && !(off.toNat < b.host.reply.length && b.host.reply.length ≤ off.toNat + n) }))
  ) ∧
  (
  ∀ (v : Word) (s : State), windowServed s = true →
    (∀ a x, regAt a = some x → regGated s x = false → exec (.registerWrite a v) s = .next (writeReg x false false v.toNat s)) ∧
    (∀ auth, auth = true ∨ s.cmd.sessionKey = none →
      exec (.commandPolicyWrite true auth v) s = .next { s with cmd.policy := writePolicy v.toNat s.cmd.policy }) ∧
    (∀ p, exec (.portConfigWrite p v) s = .next (writePortConfig p v.toNat s)) ∧
    (∀ p : Fin 48, portRegsOn s p = true → exec (.chainPortTrimWrite p v) s = .next (stageTrim p (trimOfWord v) s)) ∧
    (∀ p : Fin 48, portRegsOn s p = true → exec (.chainPortSkewWrite p v) s = .next (stageTrim p (skewOfWord v) s))
  ) ∧
  (
  ∀ (u : Fin 4) (v : Word) (s : State), windowServed s = true → checkGated s u = false →
    exec (.chkCtrlWrite u v) s = .next (modCheck u (·.writeCtrl v.toNat) s) ∧
    exec (.chkRestart u) s = .next (modCheck u (·.restart) s) ∧
    exec (.chkPolyWrite u v) s = .next (modCheck u (·.writePoly v.toNat) s) ∧
    exec (.chkInitWrite u v) s = .next (modCheck u (·.writeInit v.toNat) s) ∧
    exec (.chkValueWrite u v) s = .next (modCheck u (·.writeValue v.toNat) s) ∧
    exec (.feed8 u v) s = .next (modCheck u (·.feed (nowNs s) 1 v.toNat) s) ∧
    exec (.feed16 u v) s = .next (modCheck u (·.feed (nowNs s) 2 v.toNat) s) ∧
    exec (.feed32 u v) s = .next (modCheck u (·.feed (nowNs s) 4 v.toNat) s) ∧
    exec (.aliveCtrlWrite u v) s = .next (modCheck u (·.writeAliveCtrl v.toNat) s) ∧
    exec (.aliveFeed u v) s = .next (modCheck u (·.aliveFeed v.toNat) s) ∧
    ∀ x, (getCheck s u).run = some x → exec (.checkRunComplete u) s = .next (finishCheckRun u x s)
  )

/-- The rows of the network, of bulk data, of house time, of the boundary and of the queue's times complete: where its
condition holds, each has its own effect. -/
def Obligations.NetworkAndTimeRowsComplete : Prop :=
  (
  ∀ (p : NetPort) (bytes : List Byte) (s : State), portUp s p = true →
    let f : Frame := ⟨bytes.take (bytes.length - 4)⟩
    (bytes.length ≤ 9022 → fcsOk bytes = true → f.src ≠ s.fuse.mac → isPtpEvent f = false → forwards s (otherPort p) f = false →
      exec (.ethernetFrameReceive p bytes) s = .next (consume p f s)) ∧
    (∀ ticks, bytes.length ≤ 9022 → fcsOk bytes = true → f.src ≠ s.fuse.mac → isPtpEvent f = true →
      exec (.ptpEventMessage p bytes ticks) s = .next (consumePtp p f (forwardPtp p f bytes ticks s))) ∧
    (∀ mac ip, exec (.arpRequest p mac ip (ownIp s)) s = .next (answerArp p mac ip (ownIp s) s)) ∧
    (∀ mac ip body, exec (.icmpEchoRequest p mac ip (ownIp s) body) s = .next (sendIp p mac ip 1 (echoReply body) s)) ∧
    (∀ version group robustness interval, version = 2 ∨ version = 3 →
      exec (.igmpQuery p version group robustness interval) s = .next (takeQuery p version group robustness interval s)) ∧
    (∀ group, exec (.igmpReportSnooped p group) s = .next (snoopReport p group s)) ∧
    exec (.ownMacFrame p) s = .next (seeLoop s) ∧
    (∀ (h : Fin 8) st g, s.layers.streams.getD h.val none = some st → st.usesPort p = true → st.native = false → readSt2110 st bytes = some g →
      exec (.st2110Packet p h bytes false) s = .next (takePacket h g s)) ∧
    (∀ (h : Fin 8) st data, s.layers.streams.getD h.val none = some st → st.usesPort p = true → st.native = true →
      nativeHeaderOk st bytes = true → nativeLengthOk st bytes = true → nativeData s h st bytes = some data →
      exec (.nativePacket p h bytes false) s =
        .next (takePacket h ⟨be bytes 8 4, be bytes 12 4, bitN (getB bytes 3) 6, nativePixels st bytes data⟩ s)) ∧
    (∀ a, s.fw.running = true → a.domain = s.time.domain → exec (.ptpAnnounce p a) s = .next (takeAnnounce p a s))
  ) ∧
  (
  ∀ (p : NetPort) (s : State),
    (∀ group, exec (.snoopMembershipExpiry p group) s =
      .next { s with net.memberships := s.net.memberships.filter fun m => !(m.port == p && m.group == group && membershipOver s m) }) ∧
    exec .igmpReportRepeat s = .next ((s.net.reportRepeats.filter fun x => x.dueAt ≤ nowNs s).foldl (fun t x => sendReport x.port x.group x.source x.join t)
      { s with net.reportRepeats := s.net.reportRepeats.filter fun x => nowNs s < x.dueAt }) ∧
    (loopOver s = true → exec .loopAlertClear s = .next (clearAlert 0x01 0x03 (tileTarget s) { s with net.loopSince := none })) ∧
    (domainOn s .always = true → s.power.refinLost = false → exec (.portLinkChange p false) s = .next (linkDown p s)) ∧
    (domainOn s .always = true → s.power.refinLost = false → (getNet s p).link = false → (getNet s p).mode ≠ 0 → portBlockLost s p = false →
      ∃ t, exec (.portLinkChange p true) s = .next t ∧ (getNet t p).link = true) ∧
    (∀ ip payload o x, s.fw.running = true → domainOn s .always = true → blockOp ip ⟨payload⟩ s = some o → o.bulk = some x →
      (Block.whole ⟨payload⟩ && Block.headerOk ⟨payload⟩ && Block.fits ⟨payload⟩ x.length && Block.authOk ⟨payload⟩ x.key x.extSeq s) = true →
      exec (.bulkBlock ip payload) s = .next (storeBlock o x ⟨payload⟩ s)) ∧
    (s.fw.running = true → exec .bulkOperationTimeout s = .next ((s.cmd.longOps.filter (bulkLate s)).foldl (fun t o => failBulk o t) s)) ∧
    (s.fw.running = true → exec (.announceReceiptTimeout p) s = .next (loseMasters p s)) ∧
    (∀ x a, s.fw.running = true → ownStamps s = some a → syncUsed x = true →
      exec (.offsetSample x) s = .next (takeOffset x a.1 a.2 { s with time.logDelayReq := some x.logDelayReq })) ∧
    (holdoverDue s = true → exec .holdoverEntry s = .next (enterHoldover s)) ∧
    (holdoverLong s = true → exec .holdover30s s = .next (raiseAlert 0x01 0x02 (tileTarget s) 0 0 false { s with time.holdoverAlerted := true })) ∧
    (s.time.servo = .locked → s.power.rtcSetAt + 1000000000 ≤ nowNs s → exec .rtcUpdate s = .next (setRtc (nowNs s * 32768 / 1000000000) s)) ∧
    (boundaryDue s = true → exec .frameBoundary s = .next (boundary (frameNow s) s)) ∧
    exec .ephemerisLoad s = .next { s with cmd.ephemeris := s.cmd.ephemeris.map (loadEntry s) } ∧
    (∀ l : Fin 8, lossDue s l = true → exec (.streamLossTimeout l) s = .next (relatch (settleBuffers s.time.frame (takeLoss l s)))) ∧
    (∀ l : Fin 8, returnDue s l = true → exec (.streamReturn l) s = .next (relatch (settleBuffers s.time.frame (returnStream l s)))) ∧
    (s.fw.running = true → exec .heldChangesDiscard s = .next (discardHeld s)) ∧
    exec .resultsExpiry s = .next { s with cmd.longOps := s.cmd.longOps.filter fun o => !resultsOld s o } ∧
    (s.fw.running = true → domainOn s .always = true → s.cmd.telemetry.enable = true → s.cmd.telemetry.destIp ≠ 0 → s.cmd.telemetry.nextAt ≤ nowNs s →
      exec .telemetrySend s = .next (sendTelemetry s))
  )

/-- The rows of the chains, of healing, of diagnosis and of the Almanac complete: where its condition holds, each has its own
effect. -/
def Obligations.ChainAndAlmanacRowsComplete : Prop :=
  (
  ∀ (p : Fin 48) (s : State),
    (∀ es, (getPort s p).uploading = true → exec (.reportTrain p es) s = .next (takeTrain p es s)) ∧
    (∀ es ws, arrivingReply p es s = some ws → exec (.cellReadReply p es) s = .next (modPort p (fun q => { q with read := none, answer := ws }) s)) ∧
    (readOverdue s p = true → exec (.cellReadTimeout p) s = .next (readUnanswered p s)) ∧
    (linkWatchDue s p = true → exec (.linkWatchTimeout p) s = .next (watchLink p s)) ∧
    ((getPort s p).missingNow = true → exec (.localisation p) s = .next (localise p s))
  ) ∧
  (
  ∀ (l : Fin 24) (s : State),
    (∀ mv, (getLoop s l).move = some mv → mv.sent = false → exec (.takeoverBurst l) s = .next (takeover l mv s)) ∧
    (∀ mv, (getLoop s l).move = some mv → mv.sent = true → farthestAnswers l mv.gaining s = true →
      exec (.takeoverCheck l) s = .next (completeMove l mv s)) ∧
    (∀ b, trialLink l s = some b → trialDue l s = true → exec (.restoreTrial l) s = .next (restoreTrial l b s)) ∧
    (∀ c : Fin 100, diagReadDue s l c = true → exec (.diagMapRead l c) s = .next (readDiagMap l c s)) ∧
    (∀ (c : Fin 100) x, (getLoop s l).cells[c.val]? = some x → cellFails (nowNs s) x = true → exec (.cellFailed l c) s = .next (failCell l c s))
  ) ∧
  (
  ∀ s : State,
    (shortSweepDue s = true → exec .diagSweep s =
      .next { s with chain.sweepLeft := sweepEntries (gradePorts s), chain.lastShortSweep := nowNs s }) ∧
    (s.chain.lastAgeSweep + 100000000 ≤ nowNs s → domainOn s .mem = true → exec .ageSweep s = .next (sweepAges s)) ∧
    (presenting s = true → s.chain.twinkle.enable = true → railsOn s = true → exec .twinkleDispatch s =
      .next ((agingCells s).foldl (fun t x => (List.range 32).foldl (fun u row => twinkleRow x.1 row u) t) s)) ∧
    (∀ f, sampleDue s = some f → exec .stressSample s = .next (takeSample f s)) ∧
    (∀ f, recastReady s = some f → exec .recastDue s =
      .next (startRecast none f { s with almanac.nextRecast := some (recastAt s + s.almanac.interval * 3600000000000) })) ∧
    (boundaryDue s = true → s.fw.running = true → exec .recastSwap s = .next (recastSwapEffect s)) ∧
    (∀ o f, loadReady s = some (o, f) → ¬ (prm o.req 0 1 = 1 ∧ s.i2c.stuck = true) → fileCrcOk f = true →
      fileSectionsOk f = true → fileMatches o.req.src f s = true → exec .almanacFileReceived s = .next (startLoad o f s))
  )

/-- The rows of presentation, of camera sync, of composition and of the power ledger complete: where its condition holds,
each has its own effect. -/
def Obligations.PresentationAndLedgerRowsComplete : Prop :=
  (
  ∀ s : State,
    (∀ x, frameInProgress s = some x → frameStartDue s = true → exec .presentationFrameStart s = .next (startFrame x s)) ∧
    (uploadWanted s = true → slotDue s (uploadPeriod (fullestPort s) + 100000) = true → exec .prefetchStart s =
      .next ((activePorts s).foldl (fun t p => modPort p (fun q => { q with prefetched := true }) { t with pres.fill := setAt t.pres.fill p fifoSize }) s)) ∧
    (presenting s = true → s.pres.upload = none → s.pres.armed = false → slotDue s (uploadPeriod (fullestPort s)) = true →
      exec .uploadStart s = .next (startUpload s)) ∧
    (∀ (p : Fin 48) (row : Fin 32) u, s.pres.upload = some u → (getPort s p).uploading = true → (getPort s p).underran.contains row.val = false →
      exec (.fifoUnderrun p row) s = .next (fillRow p row u s)) ∧
    (windowDue s = true → exec .latchWindowOpen s = .next (openWindow s)) ∧
    (presenting s = true → s.pres.armed = true → s.pres.launched = false → slotDue s 1000 = true →
      exec .latchLaunch s = .next { s with pres.launched := true }) ∧
    (transitDue s = true → exec .transit s = .next (sendDiag (sendSweep (transitTo (targetSlot s) s)))) ∧
    (∀ (i : Fin 5) e falling width, edgeCounts (getSync s i) falling width = true → 120 ≤ width →
      exec (.camSyncEdge i e falling width) s = .next (takeEdge i e s)) ∧
    (∀ i : Fin 5, edgeMissing s i = true → exec (.syncEdgeMissing i) s = .next (missEdge i s)) ∧
    (∀ i : Fin 5, genlockDue s i = true → exec (.genlockCheck i) s = .next (judgeGenlock i s)) ∧
    (∀ c, nextComposite s = some c → exec .compositeComplete s = .next (finishFrame c s)) ∧
    (∀ b, slideFill s = some b → exec .slideFillComplete s = .next (finishSlide b s))
  ) ∧
  (
  ∀ s : State,
    (∀ f later, unfixed s = f :: later → exec .magnitudeFix s = .next (fixFrame f later s)) ∧
    (∀ h, headroomOk s h = true → exec (.headroomRequest h) s =
      .next (noteRefusal h true { s with ledger.grants := s.ledger.grants ++ [⟨h.who, h.rail, h.window, h.current⟩] })) ∧
    (railStartDue s = true → exec .railStart s = .next (raiseRail ((railsWaiting s).headD 0) s)) ∧
    (∀ r, staggerDue s = some r → exec .railStaggerExpiry s = .next (raiseRail r s)) ∧
    (∀ (r : Fin 4) reported, regulationDue s r reported = true → exec (.railInRegulation r reported) s = .next (enterRegulation r s)) ∧
    (∀ (r : Fin 4) ua, (getRail s r).shunt ≤ 15 → exec (.shuntMeasurement r ua) s = .next (measureShunt r ua s)) ∧
    (∀ i1 i2, exec (.inputCurrentSample i1 i2) s =
      .next (judgeOver i1 (judgeRefusals i1 (judgeInput i1 i2 { s with ledger.vinCurrent := i1 })))) ∧
    (overcurrentDue s = true → exec .inputOvercurrent1s s = .next (assertFault .inputOvercurrent s)) ∧
    (∀ lux, ambientReadDue s = true → exec (.ambientSensorRead lux) s = .next (readAmbient lux s)) ∧
    (ambientFallbackDue s = true → exec .ambientFallbackTimeout s = .next (raiseAlert 0x05 0x06 (tileTarget s) 0 0 false
      { s with ledger.ambient.a := s.ledger.ambient.gain, ledger.ambient.failed := true }))
  )

/-- The rows of temperature, of calibration, of self-test, of the DRAM and of storage complete: where its condition holds,
each has its own effect. -/
def Obligations.TemperatureTestAndStorageRowsComplete : Prop :=
  (
  ∀ s : State,
    (∀ rs mw, diodesDue s = true → exec (.diodeConversion rs mw) s = .next (convertDiodes rs mw { s with therm.diodesAt := some (nowNs s) })) ∧
    (∀ d : Fin 6, diodeBreaks s d = true → exec (.diodeBroken d) s = .next (updateDie (raiseAlert 0x08 0x02 (tileTarget s) 0 d false
      (setDiode d (fun x => { x with broken := true, agreeSince := none, inRangeSince := none }) s)))) ∧
    (∀ d : Fin 6, diodeReturns s d = true → exec (.diodeReturn d) s = .next (updateDie (clearAlertDetail 0x08 0x02 d
      (setDiode d (fun x => { x with broken := false, disagree := 0 }) s)))) ∧
    (∀ (i : Fin 16) x, meterOn s = true → exec (.ntcConversion i x) s = .next ((List.range s.therm.desc.sensors.length).foldl (fun t k =>
      if (sensorCfg t k).enable && (sensorCfg t k).input == i.val then convertSensor k x t else t) s)) ∧
    (∀ mv, zoneUpdateDue s = true → exec (.zoneModelUpdate mv) s = .next (updateModel mv s)) ∧
    (∀ i : Fin 16, (getSensor s i).status = .heldOut → 16 ≤ (getSensor s i).held → exec (.sensorBroken i) s = .next (breakSensor i .brokenByCheck s)) ∧
    (∀ i : Fin 16, sensorReturns s i = true → exec (.sensorReturn i) s = .next (clearAlertDetail 0x08 0x03 i
      (setSensor i (fun x => { x with status := .valid, held := 0, agreeSince := none }) s))) ∧
    (factorsDue s = true → exec .throttleFactorUpdate s = .next (stepFactors s)) ∧
    (shutdownEnds s = true → exec .thermalShutdownEnd s = .next (beginFlash (releaseFault .thermalShutdown { s with
      therm.shutdownAt := none
      therm.graceFrom := none
      bist.paused := s.bist.paused + (nowNs s - s.bist.pausedSince.getD (nowNs s))
      bist.pausedSince := none }))) ∧
    (∀ r : Fin 4, voltageDue s r = true → exec (.pmbusVoltageTimeout r) s = .next (raiseAlert 0x0F 0x06 (tileTarget s) 0 r false
      { s with therm.volts := modAt s.therm.volts r fun v => { v with millivolts := 0 } })) ∧
    (∀ x m, s.trim.run = some x → s.fw.running = true → meterOn s = true → exec (.calibrationSlice m) s = .next (calSlice x m s))
  ) ∧
  (
  ∀ s : State,
    (∀ pass o rest, bistRuns s = true → s.ledger.refuseWork = false → s.bist.ops = o :: rest → exec (.bistSlice pass) s = .next (opSlice o pass s)) ∧
    (∀ pass, bistRuns s = true → s.ledger.refuseWork = false → s.bist.ops = [] → cycleDue s = true → exec (.bistSlice pass) s = .next (cycleSlice pass s)) ∧
    (∀ block, bistRuns s = true → retestDue s block = true → exec (.bistRetest block true) s = .next (logAlert 0x0A 0x01 (tileTarget s) 0 block
      (modBlock block (fun b => { b with state := 0, retestAt := none, failedNow := false, lastPass := nowSeconds s }) s))) ∧
    (s.fw.running = true → overrunDue s = true → exec .bistCycleOverrun s = .next (logAlert 0x0A 0x04 (tileTarget s) 0 (inc16 s.bist.overruns)
      { s with bist.overruns := inc16 s.bist.overruns, bist.overrunLogged := true })) ∧
    (dramPowered s = true →
      (∀ a flips, a < dramSize → exec (.dramCorrectedRead a flips) s = .next (readDram a flips s)) ∧
      (∀ (die : Fin 2) row, rowExists row = true → rowFails s die row = true → exec (.dramRowRemap die row) s = .next (remapRow die row s)) ∧
      exec .dramScrub s = .next { s with dram.scrubbedAt := nowNs s } ∧
      (refreshAllowed s = true → exec .selfRefreshEntry s = .next { s with dram.selfRefresh := true }) ∧
      exec .selfRefreshExit s = .next { s with dram.selfRefresh := false })
  ) ∧
  (
  ∀ s : State,
    (∀ w, flashFront s = some w → exec .journalCommit s = .next (commitFront w s)) ∧
    (s.fw.running = true → exec .journalScan s = .next (scanJournal s)) ∧
    (s.fw.running = true → s.therm.shutdownAt = none → erasedBlocks s < 8 → exec .journalCompaction s = .next (compact s)) ∧
    (∀ at_ w rest, s.therm.graceFrom = some at_ → s.flash.queue = w :: rest → at_ + 8000000 ≤ nowNs s → w.begun = true →
      exec .flashGraceWindowExpiry s = .next (failWrite w (tearFront { s with therm.graceFrom := none }))) ∧
    (checkpointDue s = true → s.therm.shutdownAt = none → s.flash.queue = [] →
      exec .checkpointWrite s = .next (queueCheckpoint .checkpoint none s)) ∧
    (∀ g, s.flash.dirty = some g → s.fw.running = true → s.therm.shutdownAt = none → s.power.mode ≠ .enteringNadir → (∀ w ∈ s.flash.queue, w.begun = false) →
      exec .checkpointErase s = .next (eraseCheckpoint g s)) ∧
    (∀ bad, s.fw.running = true → s.flash.scrubbedAt + 604800000000000 ≤ nowNs s → exec (.flashScrub bad) s =
      .next (bad.eraseDups.foldl (fun t x => scrubObject (1 < bad.count x) x t) { s with flash.scrubbedAt := nowNs s })) ∧
    (probationOver s = true → exec .probationEnd s = .next (endProbation s))
  )

/-- The rows of power, of the resets, of the supplies and of the safety block complete: where its condition holds, each has
its own effect. -/
def Obligations.PowerAndSafetyRowsComplete : Prop :=
  (
  ∀ s : State,
    (levelsRun s = true → exec .levelChange s = .next (changeLevel s)) ∧
    (demandLowerDue s = true → exec .demandLevelLower s = .next (setLevel (targetLevel s) s)) ∧
    (s.power.implicit.any (voteOver s) = true → exec .implicitVoteWithdraw s =
      .next (dropDomains { s with power.implicit := s.power.implicit.filter fun v => !voteOver s v })) ∧
    (∀ d, s.power.mode = .twilight → domainVoted s d = true → domainAbsent s d = false → domainOn s d = false →
      exec (.domainWakeComplete d) s = .next (wakeDomain d s)) ∧
    (∀ w, s.power.mode = .nadir → wakeEnabled s w = true → exec (.wakeEvent w) s = .next (startWake (wakeCode w) 0 s)) ∧
    (∀ w, s.power.mode = .twilight → wakeEnabled s w = true → w = .wakeN ∨ w = .rtcAlarm → exec (.wakeEvent w) s = .next (leaveTwilight s)) ∧
    (wakePauseOver s = false → wakeStepDone s = true → exec .wakeStepReady s = .next { s with
      power.wakeStep := s.power.wakeStep + 1
      power.wakeStepAt := nowNs s
      dram.selfRefresh := s.dram.selfRefresh && s.power.wakeStep != 5 }) ∧
    (wakeStepLate s = true → exec .wakeStepTimeout s = .next (failWakeStep s)) ∧
    (s.power.mode = .waking → s.power.wakeStep = 7 → s.power.wakePause = none → exec .restoreHandshake s = .next (wakeLog (finishWake s))) ∧
    (coresOn s = true → s.fw.restartAt.isSome = true → exec .restoreHandshake s = .next (resumeFirmware s)) ∧
    exec .por s = .next (porState s) ∧
    (∀ core, coresOn s = true → s.fw.probation = none → exec (.watchdogExpiry core) s =
      .next (reportCrash core (warmState (nowNs s) (noteReset 5 false s)))) ∧
    (probationLate s = true → exec .probationHandshakeTimeout s = .next (warmState (restartBase s) (revertImage (noteReset 6 false s)))) ∧
    (firmwareLate s = true → exec .firmwareAbsent2s s =
      .next (raiseAlert 0x00 0x04 (tileTarget s) 0 0 true (assertFault .frozen { s with fw.frozen := true }))) ∧
    (∀ w, 1000 ≤ w → s.power.nrstLowSince = none → exec (.nrstAssert w) s = .next (pinReset s)) ∧
    (s.power.nrstLowSince.isSome = true → s.power.mode = .heldInReset → exec .nrstRelease s = .next (startSupplies
      (clearAlert 0x00 0x05 (tileTarget s) { s with power.nrstLowSince := none, power.nrstHighSince := nowNs s }))) ∧
    (nrstStuckDue s = true → exec .nrstStuck s = .next (raiseAlert 0x00 0x05 (tileTarget s) 0 0 false
      (startSupplies { s with power.nrstIgnored := true, power.history := markStuck s.power.history })))
  ) ∧
  (
  ∀ s : State,
    (supplyAtWork s = true → s.power.supplyStepAt + supplyDelay s.power.supplyStep ≤ nowNs s → exec (.powerUpStep true) s = .next (nextSupply s)) ∧
    (supplyAtWork s = true → s.power.supplyStepAt + 3 * supplyDelay s.power.supplyStep ≤ nowNs s → exec .powerUpStepTimeout s = .next (failSupply s)) ∧
    (∀ f k, s.power.mode = .booting → bootSlot s = some k → exec (.boot f) s = .next (bootFrom k f s)) ∧
    (∀ v, v < 3750 → exec (.bor v) s = .next (enterBor .vinLow { s with power.vsafeLow := s.power.vsafeLow || decide (v < 2700) })) ∧
    (∀ v, 27000 < v → exec (.bor v) s = .next (enterBor .vinHigh s)) ∧
    (∀ b, exec (.supplyFault b true) s = .next (enterBor .short s)) ∧
    (∀ b, s.power.mode = .run ∨ s.power.mode = .twilight → exec (.supplyFault b false) s = .next (enterBor .regulation s)) ∧
    exec .dieTrip s = .next (enterBor .dieTrip s) ∧
    (s.power.mode = .heldInBor → s.power.nrstLowSince = none → exec .borRelease s = .next (startSupplies { s with power.borCauses := [], power.vsafeLow := false })) ∧
    (s.power.refinLost = false → refinMonitored s = true → exec .refinLost s =
      .next (logAlert 0x0F 0x02 (tileTarget s) 0 0 (assertFault .refin (quietDevice { s with power.refinLost := true })))) ∧
    (s.power.refinLost = true → s.faults.contains .refin = true → refinMonitored s = true → exec .refinRestored s =
      .next (coldReset 4 (releaseFault .refin { s with power.refinLost := false }))) ∧
    (∀ c, s.power.rtcCrystal ≠ c → exec (.crystalSourceChange c) s = .next { s with power.rtcCrystal := c, power.crystalChanged := true }) ∧
    (domainOn s .always = true → exec .scanEnter s = .next { assertFault .scan (quietDevice s) with
      power.mode := .scan
      fw.running := false
      fw.restartAt := none
      cmd.sessionKey := none
      cmd.streamKeys := []
      cmd.sources := [] }) ∧
    (s.power.mode = .scan → exec .scanExit s = .next (coldReset 4 s)) ∧
    (∀ rec, domainOn s .always = true → exec (.i2cBusStuck rec) s =
      .next (logAlert 0x0F 0x05 (tileTarget s) 0 0 { s with i2c.stuck := !rec, i2c.faults := inc16 s.i2c.faults }))
  ) ∧
  (
  ∀ s : State,
    (∀ i on, s.safety.on i ≠ on → exec (.safetyInputChange i on) s = .next (takeLevel i on s)) ∧
    (∀ p q at_, s.safety.discrepancy.find? (·.1 == p) = some (q, at_) → at_ + s.safety.discrepancyTime p * 1000000 ≤ nowNs s →
      (∀ m ∈ s.safety.mend, m.1 ≠ p) → exec (.discrepancyTimeout p) s =
        .next (lockout (discrepancyCause p) { s with safety := { s.safety with mend := (s.safety.mend.filter fun m => m.1 != p) ++ [(p, false, false)] } })) ∧
    (∀ b l, exec (.inputTestPulse b l) s = .next (testInputs b l s)) ∧
    (∀ o, (s.safety.pair (outPair o)).state = .run → exec (.outputTestPulse o false) s = .next (lockout 0x12 s)) ∧
    (∀ p at_, (s.safety.pair p).edmSince = some at_ → at_ + s.safety.cfg.edmTime * 1000000 ≤ nowNs s → s.safety.edm p = true →
      s.safety.sfb p = ((s.safety.pair p).state == .run) → exec (.edmTimeout p) s =
        .next (lockout (match p with | .light => 0x06 | .motion => 0x07)
          { s with safety := s.safety.setPair p { s.safety.pair p with edmSince := none } })) ∧
    (∀ ms, 100 ≤ ms → ms ≤ 3000 → s.safety.stuck = false → exec (.resetPress ms) s = .next (pressReset
      { s with safety := { s.safety with levels := setAt s.safety.levels 10 false, pressSince := none, offSince := nowNs s } })) ∧
    (∀ at_, s.safety.pressSince = some at_ → s.safety.stuck = false → at_ + 3000000000 < nowNs s → exec .srstStuck s =
      .next (raiseAlert 0x0C 0x02 (tileTarget s) 0 0 false { s with safety := { s.safety with stuck := true, pressSince := none } })) ∧
    (s.safety.stuck = true → s.safety.on .srst = false → s.safety.offSince + 100000000 ≤ nowNs s → exec .srstStuckClear s =
      .next (clearAlert 0x0C 0x02 (tileTarget s) { s with safety := { s.safety with stuck := false } })) ∧
    exec .heartbeatLoss s = .next (lockout 0x11 s) ∧
    (∀ p, (s.safety.pair p).state ≠ .unused → exec (.channelDisagreement p) s = .next (lockout 0x10 s)) ∧
    exec .safetyMemoryFault s = .next (lockout 0x13 s) ∧
    (∀ at_, s.safety.netAt = some at_ → s.safety.uses fNet = true → s.safety.netDemand = false → at_ + s.safety.cfg.netTimeout * 1000000 ≤ nowNs s →
      exec .networkSafetyTimeout s = .next (judgePairs { s with safety := { s.safety with netDemand := true } })) ∧
    (∀ c, s.safety.pending = some c → c.since + 30000000000 ≤ nowNs s → exec .safetyConfigTimeout s =
      .next (dropChange c s))
  )

/-- What the rows of the power ledger and of temperature may change, besides what an alert changes: the ledger, the
temperatures, FAULT_N's causes. What the rows of the chains and of presentation may change, besides what an alert changes:
the chains, the cells and presentation. -/
def Obligations.LedgerChainAndPresentationRowsChangeOnlyTheirParts : Prop :=
  (
  (∀ i ∈ [Instr.railStart, .railStaggerExpiry, .ambientFallbackTimeout], Changes i fun s t => { s with ledger := t.ledger }) ∧
  (∀ r b, Changes (.railInRegulation r b) fun s t => { s with ledger := t.ledger, chain := { s.chain with lastAgeSweep := t.chain.lastAgeSweep } }) ∧
  (∀ r n, Changes (.shuntMeasurement r n) fun s t => { s with ledger := t.ledger }) ∧
  (∀ x, Changes (.ambientSensorRead x) fun s t => { s with ledger := t.ledger }) ∧
  (∀ a b, Changes (.inputCurrentSample a b) fun s t => { s with ledger := t.ledger, faults := t.faults }) ∧
  Changes .inputOvercurrent1s (fun s t => { s with faults := t.faults }) ∧
  Changes .magnitudeFix (fun s t => { s with ledger := t.ledger, pres := t.pres }) ∧
  (∀ h, Changes (.headroomRequest h) fun s t => { s with ledger := t.ledger, trim := t.trim }) ∧
  Changes .throttleFactorUpdate (fun s t => { s with therm := t.therm, ledger := t.ledger, chain := t.chain, plant := t.plant }) ∧
  (∀ i x, Changes (.ntcConversion i x) fun s t => { s with therm := t.therm }) ∧
  (∀ i, Changes (.sensorBroken i) fun s t => { s with therm := t.therm }) ∧
  (∀ i, Changes (.sensorReturn i) fun s t => { s with therm := t.therm }) ∧
  ∀ r, Changes (.pmbusVoltageTimeout r) fun s t => { s with therm := t.therm }
  ) ∧
  (
  (∀ p es, Changes (.reportTrain p es) fun s t => { s with chain := t.chain }) ∧
  (∀ p ws, Changes (.cellReadReply p ws) fun s t => { s with chain := t.chain }) ∧
  (∀ p, ∀ i ∈ [Instr.cellReadTimeout p, .linkWatchTimeout p, .localisation p], Changes i fun s t => { s with chain := t.chain }) ∧
  (∀ l, Changes (.takeoverCheck l) fun s t => { s with chain := t.chain }) ∧
  (∀ l c, Changes (.diagMapRead l c) fun s t => { s with chain := t.chain, plant := t.plant }) ∧
  (∀ l, ∀ i ∈ [Instr.takeoverBurst l, .restoreTrial l], Changes i fun s t => { s with chain := t.chain, plant := t.plant }) ∧
  Changes .diagSweep (fun s t => { s with chain := t.chain }) ∧
  (∀ l c, Changes (.cellFailed l c) fun s t => { s with chain := t.chain, plant := t.plant }) ∧
  Changes .ageSweep (fun s t => { s with chain := t.chain, dram := t.dram }) ∧
  Changes .twinkleDispatch (fun s t => { s with chain := t.chain, plant := t.plant, ledger := t.ledger }) ∧
  Changes .prefetchStart (fun s t => { s with chain := t.chain, pres := t.pres }) ∧
  Changes .uploadStart (fun s t => { s with chain := t.chain, plant := t.plant, pres := t.pres, ledger := t.ledger }) ∧
  (∀ p r, Changes (.fifoUnderrun p r) fun s t => { s with chain := t.chain, plant := t.plant, pres := t.pres }) ∧
  Changes .latchWindowOpen (fun s t => { s with chain := t.chain, plant := t.plant, pres := t.pres }) ∧
  Changes .latchLaunch (fun s t => { s with pres := t.pres }) ∧
  Changes .presentationFrameStart (fun s t => { s with pres := t.pres, ledger := t.ledger, therm := t.therm }) ∧
  (∀ i e f w, Changes (.camSyncEdge i e f w) fun s t => { s with pres := t.pres, freeCount := t.freeCount }) ∧
  ∀ i, ∀ c ∈ [Instr.syncEdgeMissing i, .genlockCheck i], Changes c fun s t => { s with pres := t.pres }
  )

/-- What the rows of the network, of house time and of the streams may change, besides what an alert changes: their own
parts. What the rows of storage, self-test, memory, power and the check units may change, besides what an answer or an alert
changes: their own parts. -/
def Obligations.NetworkStorageAndPowerRowsChangeOnlyTheirParts : Prop :=
  (
  (∀ p mac ip d, Changes (.arpRequest p mac ip d) fun s _ => s) ∧
  (∀ p mac ip d b, Changes (.icmpEchoRequest p mac ip d b) fun s t => { s with freeCount := t.freeCount }) ∧
  (∀ p v g a b, Changes (.igmpQuery p v g a b) fun s t => { s with net := { s.net with portA := t.net.portA, portB := t.net.portB, interval := t.net.interval } }) ∧
  (∀ p g, ∀ i ∈ [Instr.igmpReportSnooped p g, .snoopMembershipExpiry p g], Changes i fun s t => { s with net := { s.net with memberships := t.net.memberships } }) ∧
  Changes .igmpReportRepeat (fun s t => { s with net := { s.net with reportRepeats := t.net.reportRepeats } }) ∧
  (∀ p, Changes (.ownMacFrame p) fun s t => { s with net := { s.net with loopSince := t.net.loopSince } }) ∧
  Changes .loopAlertClear (fun s t => { s with net := { s.net with loopSince := t.net.loopSince } }) ∧
  (∀ p up, Changes (.portLinkChange p up) fun s t => { s with net := { s.net with portA := t.net.portA, portB := t.net.portB }, time := t.time }) ∧
  (∀ p h b full, ∀ i ∈ [Instr.st2110Packet p h b full, .nativePacket p h b full], Changes i fun s t => { s with layers := t.layers }) ∧
  (∀ l, ∀ i ∈ [Instr.streamLossTimeout l, .streamReturn l], Changes i fun s t => { s with layers := t.layers }) ∧
  (∀ p f k, Changes (.ptpEventMessage p f k) fun s t => { s with
    net := { s.net with uncorrected := t.net.uncorrected, badFcs := t.net.badFcs, tooLong := t.net.tooLong, loopSince := t.net.loopSince },
    time := t.time, freeCount := t.freeCount }) ∧
  (∀ p a, Changes (.ptpAnnounce p a) fun s t => { s with time := t.time }) ∧
  (∀ p, Changes (.announceReceiptTimeout p) fun s t => { s with time := t.time }) ∧
  (∀ x, Changes (.offsetSample x) fun s t => { s with time := t.time, pres := t.pres }) ∧
  ∀ i ∈ [Instr.holdoverEntry, .holdover30s], Changes i fun s t => { s with time := t.time }
  ) ∧
  (
  (∀ i ∈ [Instr.journalScan, .journalCompaction, .checkpointWrite, .checkpointErase], Changes i fun s t => { s with flash := t.flash }) ∧
  (∀ b, Changes (.flashScrub b) fun s t => { s with flash := t.flash, faults := t.faults }) ∧
  (∀ p, Changes (.bistSlice p) fun s t => { s with
    bist := t.bist, power := { s.power with awake := t.power.awake, implicit := t.power.implicit, history := t.power.history } }) ∧
  Changes .bistCycleOverrun (fun s t => { s with bist := t.bist }) ∧
  (∀ a f, Changes (.dramCorrectedRead a f) fun s t => { s with dram := t.dram, layers := t.layers, freeCount := t.freeCount }) ∧
  (∀ d r, Changes (.dramRowRemap d r) fun s t => { s with
    almanac := t.almanac, bist := t.bist, dram := t.dram, faults := t.faults, layers := t.layers, pres := t.pres }) ∧
  Changes .slideFillComplete (fun s t => { s with layers := t.layers, power := { s.power with implicit := t.power.implicit } }) ∧
  (∀ u, Changes (.checkRunComplete u) fun s t => { s with check := t.check, freeCount := t.freeCount, power := { s.power with implicit := t.power.implicit } }) ∧
  (∀ b, Changes (.i2cBusStuck b) fun s t => { s with i2c := t.i2c }) ∧
  (∀ i ∈ [Instr.levelChange, .demandLevelLower, .rtcUpdate, .nrstRelease, .nrstStuck, .borRelease], Changes i fun s t => { s with power := t.power }) ∧
  (∀ w, Changes (.wakeEvent w) fun s t => { s with power := t.power }) ∧
  Changes .powerUpStepTimeout (fun s t => { s with power := t.power, faults := t.faults }) ∧
  Changes .wakeStepReady (fun s t => { s with power := t.power, dram := t.dram }) ∧
  Changes .wakeStepTimeout (fun s t => { s with power := t.power, dram := t.dram, faults := t.faults }) ∧
  ∀ u v, ∀ i ∈ [Instr.chkCtrlWrite u v, .chkRestart u, .chkPolyWrite u v, .chkInitWrite u v, .chkValueWrite u v, .feed8 u v, .feed16 u v, .feed32 u v,
    .aliveCtrlWrite u v, .aliveFeed u v], Changes i fun s t => { s with check := t.check, host := { s.host with gated := t.host.gated } }
  )

/-- What the rows of the safety block may change, besides what an alert changes: the block, the rails and Nightwatch's wake;
a press that confirms a change also the flash and the commissioned fuse. The light pair out of run leaves every rail off. -/
def Obligations.SafetyRowsChangeOnlyTheirParts : Prop :=
(∀ (s t : State) (i : Instr),
    i ∈ [Instr.heartbeatLoss, .safetyMemoryFault, .networkSafetyTimeout] ∨ (∃ x on, i = .safetyInputChange x on) ∨ (∃ p, i = .discrepancyTimeout p) ∨
      (∃ b l, i = .inputTestPulse b l) ∨ (∃ o ok, i = .outputTestPulse o ok) ∨ (∃ p, i = .edmTimeout p) ∨ (∃ p, i = .channelDisagreement p) →
    exec i s = .next t →
      ReplyFrame { s with safety := t.safety, ledger := t.ledger, power := t.power, chain := t.chain, plant := t.plant } t ∧
      (s.safety.light.state = .run → t.safety.light.state ≠ .run → railsOff t = true) ∧
      (t.safety.light = s.safety.light → t.safety.motion = s.safety.motion → t.ledger = s.ledger ∧ t.power = s.power)) ∧
  (∀ i ∈ [Instr.srstStuck, .srstStuckClear], Changes i fun s t => { s with safety := t.safety }) ∧
  Changes .safetyConfigTimeout (fun s t => { s with safety := t.safety, power := { s.power with implicit := t.power.implicit } }) ∧
  ∀ ms, Changes (.resetPress ms) fun s t => { s with
    safety := t.safety, ledger := t.ledger, power := t.power, flash := t.flash, fuse := t.fuse, chain := t.chain, plant := t.plant }
end

