-- ==== Sys2Proof/Laws/Kept.lean ====
section
/-! SUPPORT. Of each operation that leaves the fuses, the queue, the output pairs and the lengths of the fixed tables as they are: that
it does. A proof cites the lemma and does not unfold the operation. -/

namespace Sys2Proof.Machine
/-- A step of the machine that leaves the fuses, the queue, the output pairs and the fixed tables' lengths as they are. -/
abbrev Kept (s t : State) : Prop := t.fuse = s.fuse ∧
  t.pending = s.pending ∧
  t.safety.light = s.safety.light ∧
  t.safety.motion = s.safety.motion ∧
  t.safety.cause = s.safety.cause ∧
  t.safety.noRecord = s.safety.noRecord ∧
  t.check.length = s.check.length ∧
  t.ledger.rails.length = s.ledger.rails.length ∧
  t.chain.loops.length = s.chain.loops.length ∧
  t.chain.ports.length = s.chain.ports.length ∧
  t.pres.sync.length = s.pres.sync.length ∧
  t.layers.run.length = s.layers.run.length ∧
  t.therm.diodes.length = s.therm.diodes.length ∧
  t.therm.volts.length = s.therm.volts.length ∧
  t.therm.u.length = s.therm.u.length ∧
  t.safety.levels.length = s.safety.levels.length

theorem Kept.refl (s : State) : Kept s s := by simp [Kept]

theorem Kept.trans {s t u : State} (h : Kept t u) (g : Kept s t) : Kept s u :=
  ⟨h.1.trans g.1, h.2.1.trans g.2.1, h.2.2.1.trans g.2.2.1, h.2.2.2.1.trans g.2.2.2.1, h.2.2.2.2.1.trans g.2.2.2.2.1, h.2.2.2.2.2.1.trans g.2.2.2.2.2.1, h.2.2.2.2.2.2.1.trans g.2.2.2.2.2.2.1, h.2.2.2.2.2.2.2.1.trans g.2.2.2.2.2.2.2.1, h.2.2.2.2.2.2.2.2.1.trans g.2.2.2.2.2.2.2.2.1, h.2.2.2.2.2.2.2.2.2.1.trans g.2.2.2.2.2.2.2.2.2.1, h.2.2.2.2.2.2.2.2.2.2.1.trans g.2.2.2.2.2.2.2.2.2.2.1, h.2.2.2.2.2.2.2.2.2.2.2.1.trans g.2.2.2.2.2.2.2.2.2.2.2.1, h.2.2.2.2.2.2.2.2.2.2.2.2.1.trans g.2.2.2.2.2.2.2.2.2.2.2.2.1, h.2.2.2.2.2.2.2.2.2.2.2.2.2.1.trans g.2.2.2.2.2.2.2.2.2.2.2.2.2.1, h.2.2.2.2.2.2.2.2.2.2.2.2.2.2.1.trans g.2.2.2.2.2.2.2.2.2.2.2.2.2.2.1, h.2.2.2.2.2.2.2.2.2.2.2.2.2.2.2.trans g.2.2.2.2.2.2.2.2.2.2.2.2.2.2.2⟩

theorem foldl_kept {α : Type} {f : State → α → State} (h : ∀ t a, Kept t (f t a)) (l : List α) (s : State) :
    Kept s (l.foldl f s) := by
  induction l generalizing s with
  | nil => exact .refl _
  | cons a t ih => exact (ih _).trans (h _ _)

theorem kept_ite {c : Prop} [Decidable c] {s a b : State} (ha : Kept s a) (hb : Kept s b) : Kept s (if c then a else b) := by
  split
  · exact ha
  · exact hb

@[simp] theorem modAt_length {α : Type} (l : List α) (i : Nat) (f : α → α) : (modAt l i f).length = l.length := by simp [modAt]
@[simp] theorem setAt_length {α : Type} (l : List α) (i : Nat) (v : α) : (setAt l i v).length = l.length := by simp [setAt]

theorem foldl_kept1 {α β : Type} {f : State × β → α → State × β} (h : ∀ t a, Kept t.1 (f t a).1) (l : List α) (x : State × β) :
    Kept x.1 (l.foldl f x).1 := by
  induction l generalizing x with
  | nil => exact .refl _
  | cons a t ih => exact (ih _).trans (h _ _)
theorem foldl_kept2 {α β : Type} {f : β × State → α → β × State} (h : ∀ t a, Kept t.2 (f t a).2) (l : List α) (x : β × State) :
    Kept x.2 (l.foldl f x).2 := by
  induction l generalizing x with
  | nil => exact .refl _
  | cons a t ih => exact (ih _).trans (h _ _)
/-! ### Of Machine/Clock.lean -/
@[simp] theorem clockTick_kept (s : State) : Kept s (clockTick s) := by simp [Kept, clockTick]
/-! ### Of Machine/Packet.lean -/
@[simp] theorem setNet_kept (p : NetPort) (f : PortState → PortState) (s : State) : Kept s (setNet p f s) := by unfold setNet; split <;> simp [Kept]
@[simp] theorem send_kept (t : Tx) (s : State) : Kept s (send t s) := by simp [Kept, send]
@[simp] theorem sendUdp_kept (dst : Nat) (dport : Nat) (sport : Nat) (payload : List Byte) (s : State) : Kept s (sendUdp dst dport sport payload s) := by
  unfold sendUdp
  repeat' first
    | (with_reducible exact .refl _)
    | (simp [Kept]; done)
    | split
    | (refine (foldl_kept (fun _ _ => ?_) _ _).trans ?_)
    | simp only []
    | simp [Kept]
/-! ### Of Machine/Ops.lean -/
@[simp] theorem sendAlert_kept (a : Alert) (s : State) : Kept s (sendAlert a s) := by unfold sendAlert; split <;> simp [Kept]
@[simp] theorem recordAlert_kept (a : Alert) (s : State) : Kept s (recordAlert a s) := by
  unfold recordAlert
  repeat' first
    | (with_reducible exact .refl _)
    | (simp [Kept]; done)
    | split
    | (refine (foldl_kept (fun _ _ => ?_) _ _).trans ?_)
    | simp only []
    | simp [Kept]
@[simp] theorem addAlert_kept (a : Alert) (s : State) : Kept s (addAlert a s) := by unfold addAlert; split <;> simp [Kept]
@[simp] theorem settleAlerts_kept (s : State) : Kept s (settleAlerts s) := by
  unfold settleAlerts
  repeat' first
    | (with_reducible exact .refl _)
    | (simp [Kept]; done)
    | split
    | (refine (foldl_kept (fun _ _ => ?_) _ _).trans ?_)
    | simp only []
    | simp [Kept]
@[simp] theorem logAlert_kept (cls : Nat) (event : Nat) (target : BitVec 64) (status : Nat) (detail : Nat) (s : State) : Kept s (logAlert cls event target status detail s) := by simp [Kept, logAlert]
@[simp] theorem raiseAlert_kept (cls : Nat) (event : Nat) (target : BitVec 64) (status : Nat) (detail : Nat) (faultN : Bool) (s : State) : Kept s (raiseAlert cls event target status detail faultN s) := by simp [Kept, raiseAlert]
@[simp] theorem clearAlert_kept (cls : Nat) (event : Nat) (target : BitVec 64) (s : State) : Kept s (clearAlert cls event target s) := by simp [Kept, clearAlert]
@[simp] theorem clearAlertOf_kept (cls : Nat) (event : Nat) (target : BitVec 64) (detail : Nat) (s : State) : Kept s (clearAlertOf cls event target detail s) := by simp [Kept, clearAlertOf]
@[simp] theorem clearAlertDetail_kept (cls : Nat) (event : Nat) (detail : Nat) (s : State) : Kept s (clearAlertDetail cls event detail s) := by simp [Kept, clearAlertDetail]
@[simp] theorem assertFault_kept (c : FaultCause) (s : State) : Kept s (assertFault c s) := by simp [Kept, assertFault]
@[simp] theorem releaseFault_kept (c : FaultCause) (s : State) : Kept s (releaseFault c s) := by simp [Kept, releaseFault]
@[simp] theorem modSource_kept (src : Source) (f : SourceEntry → SourceEntry) (s : State) : Kept s (modSource src f s) := by simp [Kept, modSource]
@[simp] theorem deliver_kept (src : Source) (tag : Nat) (bytes : List Byte) (s : State) : Kept s (deliver src tag bytes s) := by unfold deliver; split <;> simp [Kept]
@[simp] theorem noReply_kept (src : Source) (s : State) : Kept s (noReply src s) := by simp [Kept, noReply]
@[simp] theorem logBroadcast_kept (target : BitVec 64) (status : Nat) (s : State) : Kept s (logBroadcast target status s) := by unfold logBroadcast; split <;> simp [Kept]
@[simp] theorem sendReply_kept (code : Nat) (r : Req) (status : Nat) (results : List Byte) (s : State) : Kept s (sendReply code r status results s) := by unfold sendReply; split <;> simp [Kept]
@[simp] theorem answer_kept (code : Nat) (r : Req) (status : Nat) (results : List Byte) (s : State) : Kept s (answer code r status results s) := by
  unfold answer; repeat' first | (with_reducible exact .refl _) | (simp [Kept]; done) | split | simp only []
@[simp] theorem modOp_kept (src : Source) (tag : Nat) (f : LongOp → LongOp) (s : State) : Kept s (modOp src tag f s) := by simp [Kept, modOp]
@[simp] theorem dropOp_kept (src : Source) (tag : Nat) (s : State) : Kept s (dropOp src tag s) := by simp [Kept, dropOp]
@[simp] theorem endImplicit_kept (src : Source) (tag : Nat) (s : State) : Kept s (endImplicit src tag s) := by
  unfold endImplicit
  repeat' first
    | (with_reducible exact .refl _)
    | (simp [Kept]; done)
    | split
    | (refine (foldl_kept (fun _ _ => ?_) _ _).trans ?_)
    | simp only []
    | simp [Kept]
@[simp] theorem finishOp_kept (src : Source) (tag : Nat) (status : Nat) (results : List Byte) (s : State) : Kept s (finishOp src tag status results s) := by simp [Kept, finishOp]
@[simp] theorem addOp_kept (o : LongOp) (s : State) : Kept s (addOp o s) := by simp [Kept, addOp]
@[simp] theorem setPartials_kept (src : Source) (tag : Nat) (bytes : List Byte) (s : State) : Kept s (setPartials src tag bytes s) := by simp [Kept, setPartials]
@[simp] theorem sendBlocks_kept (r : Req) (code : Nat) (results : List Byte) (s : State) : Kept s (sendBlocks r code results s) := by
  unfold sendBlocks
  repeat' first
    | (with_reducible exact .refl _)
    | (simp [Kept]; done)
    | split
    | (refine (foldl_kept (fun _ _ => ?_) _ _).trans ?_)
    | simp only []
    | simp [Kept]
@[simp] theorem keepResults_kept (code : Nat) (r : Req) (status : Nat) (results : List Byte) (s : State) : Kept s (keepResults code r status results s) := by simp [Kept, keepResults]
@[simp] theorem answerLarge_kept (code : Nat) (r : Req) (status : Nat) (results : List Byte) (s : State) : Kept s (answerLarge code r status results s) := by
  unfold answerLarge; repeat' first | (with_reducible exact .refl _) | (simp [Kept]; done) | split | simp only []
@[simp] theorem nextFree_kept (s : State) : Kept s (nextFree s) := by simp [Kept, nextFree]
/-! ### Of Machine/PowerOps.lean -/
@[simp] theorem addImplicit_kept (r : Req) (d : Domain) (s : State) : Kept s (addImplicit r d s) := by unfold addImplicit; split <;> simp [Kept]
@[simp] theorem dropUnvoted_kept (s : State) : Kept s (dropUnvoted s) := by simp [Kept, dropUnvoted]
/-! ### Of Machine/Opcode.lean -/
@[simp] theorem holdUnits_kept (src : Source) (us : List StagedUnit) (s : State) : Kept s (holdUnits src us s) := by simp [Kept, holdUnits]
@[simp] theorem queueCommit_kept (code : Nat) (r : Req) (us : List StagedUnit) (viaQuery : Bool) (s : State) : Kept s (queueCommit code r us viaQuery s) := by simp [Kept, queueCommit]
@[simp] theorem replaceHeld_kept (src : Source) (us : List StagedUnit) (s : State) : Kept s (replaceHeld src us s) := by
  unfold replaceHeld
  repeat' first
    | (with_reducible exact .refl _)
    | (simp [Kept]; done)
    | split
    | (refine (foldl_kept (fun _ _ => ?_) _ _).trans ?_)
    | simp only []
    | simp [Kept]
@[simp] theorem answerAbort_kept (o : LongOp) (s : State) : Kept s (answerAbort o s) := by unfold answerAbort; split <;> simp [Kept]
@[simp] theorem completeOp_kept (src : Source) (tag : Nat) (status : Nat) (results : List Byte) (s : State) : Kept s (completeOp src tag status results s) := by
  unfold completeOp; repeat' first | (with_reducible exact .refl _) | (simp [Kept]; done) | split | simp only []
@[simp] theorem conclude_kept (code : Nat) (r : Req) (viaQuery : Bool) (a : Ans) (s : State) : Kept s (conclude code r viaQuery a s) := by
  unfold conclude; repeat' first | (with_reducible exact .refl _) | (simp [Kept]; done) | split | simp only []
@[simp] theorem awaitWake_kept (o : OpSpec) (r : Req) (s : State) : Kept s (awaitWake o r s) := by
  unfold awaitWake
  repeat' first
    | (with_reducible exact .refl _)
    | (simp [Kept]; done)
    | split
    | (refine (foldl_kept (fun _ _ => ?_) _ _).trans ?_)
    | simp only []
    | simp [Kept]
/-! ### Of Machine/Chain.lean -/
@[simp] theorem modPort_kept (p : Nat) (f : ChainPort → ChainPort) (s : State) : Kept s (modPort p f s) := by simp [Kept, modPort]
@[simp] theorem modLoop_kept (l : Nat) (f : LoopState → LoopState) (s : State) : Kept s (modLoop l f s) := by simp [Kept, modLoop]
@[simp] theorem modPlant_kept (l : Nat) (f : PlantLoop → PlantLoop) (s : State) : Kept s (modPlant l f s) := by simp [Kept, modPlant]
@[simp] theorem settleLoop_kept (l : Nat) (s : State) : Kept s (settleLoop l s) := by simp [Kept, settleLoop]
@[simp] theorem setDriving_kept (p : Nat) (on : Bool) (s : State) : Kept s (setDriving p on s) := by simp [Kept, setDriving]
@[simp] theorem portSend_kept (p : Nat) (f : LaneFrame) (s : State) : Kept s (portSend p f s) := by
  unfold portSend
  repeat' first
    | (with_reducible exact .refl _)
    | (simp [Kept]; done)
    | split
    | (refine (foldl_kept (fun _ _ => ?_) _ _).trans ?_)
    | simp only []
    | simp [Kept]
@[simp] theorem sendCommand_kept (p : Nat) (c : CellCommand) (s : State) : Kept s (sendCommand p c s) := by
  unfold sendCommand
  repeat' first
    | (with_reducible exact .refl _)
    | (simp [Kept]; done)
    | split
    | (refine (foldl_kept (fun _ _ => ?_) _ _).trans ?_)
    | simp only []
    | simp [Kept]
@[simp] theorem sendWaiting_kept (p : Nat) (s : State) : Kept s (sendWaiting p s) := by
  unfold sendWaiting
  repeat' first
    | (with_reducible exact .refl _)
    | (simp [Kept]; done)
    | split
    | (refine (foldl_kept (fun _ _ => ?_) _ _).trans ?_)
    | simp only []
    | simp [Kept]
@[simp] theorem commandTo_kept (l : Nat) (c : Nat) (op : Nat) (reg : Nat) (words : List Nat) (s : State) : Kept s (commandTo l c op reg words s) := by
  unfold commandTo
  repeat' first
    | (with_reducible exact .refl _)
    | (simp [Kept]; done)
    | split
    | (refine (foldl_kept (fun _ _ => ?_) _ _).trans ?_)
    | simp only []
    | simp [Kept]
@[simp] theorem addFault_kept (target : BitVec 64) (kind : Nat) (detail : Nat) (suppressed : Bool) (double : Bool) (s : State) : Kept s (addFault target kind detail suppressed double s) := by
  unfold addFault; repeat' first | (with_reducible exact .refl _) | (simp [Kept]; done) | split | simp only []
@[simp] theorem clearFault_kept (target : BitVec 64) (kind : Nat) (detail : Nat) (s : State) : Kept s (clearFault target kind detail s) := by
  simp only [clearFault]; split <;> simp [Kept, clearAlertOf]
@[simp] theorem refeed_kept (l : Nat) (s : State) : Kept s (refeed l s) := by simp [Kept, refeed]
@[simp] theorem writeCommitted_kept (l : Nat) (s : State) : Kept s (writeCommitted l s) := by
  unfold writeCommitted
  repeat' first
    | (with_reducible exact .refl _)
    | (simp [Kept]; done)
    | split
    | (refine (foldl_kept (fun _ _ => ?_) _ _).trans ?_)
    | simp only []
    | simp [Kept]
@[simp] theorem judgeCells_kept (l : Nat) (s : State) : Kept s (judgeCells l s) := by
  unfold judgeCells
  repeat' first
    | (with_reducible exact .refl _)
    | (simp [Kept]; done)
    | split
    | (refine (foldl_kept (fun _ _ => ?_) _ _).trans ?_)
    | simp only []
    | simp [Kept]
@[simp] theorem reportReplaced_kept (l : Nat) (c : Nat) (s : State) : Kept s (reportReplaced l c s) := by
  unfold reportReplaced
  repeat' first
    | (with_reducible exact .refl _)
    | (simp [Kept]; done)
    | split
    | (refine (foldl_kept (fun _ _ => ?_) _ _).trans ?_)
    | simp only []
    | simp [Kept]
@[simp] theorem markReplaced_kept (l : Nat) (s : State) : Kept s (markReplaced l s) := by
  unfold markReplaced
  repeat' first
    | (with_reducible exact .refl _)
    | (simp [Kept]; done)
    | split
    | (refine (foldl_kept (fun _ _ => ?_) _ _).trans ?_)
    | simp only []
    | simp [Kept]
@[simp] theorem recordEnumeration_kept (l : Nat) (s : State) : Kept s (recordEnumeration l s) := by
  unfold recordEnumeration
  repeat' first
    | (with_reducible exact .refl _)
    | (simp [Kept]; done)
    | split
    | (refine (foldl_kept (fun _ _ => ?_) _ _).trans ?_)
    | simp only []
    | simp [Kept]
@[simp] theorem noteSerials_kept (l : Nat) (s : State) : Kept s (noteSerials l s) := by simp [Kept, noteSerials]
@[simp] theorem enumerateLoop_kept (l : Nat) (s : State) : Kept s (enumerateLoop l s) := by simp [Kept, enumerateLoop]
@[simp] theorem enumerateLoops_kept (ls : List Nat) (s : State) : Kept s (enumerateLoops ls s) := foldl_kept (fun _ _ => enumerateLoop_kept _ _) _ _
@[simp] theorem reportEffects_kept (l : Nat) (c : Nat) (good : Bool) (w : Nat) (before : CellRec) (s : State) : Kept s (reportEffects l c good w before s) := by
  unfold reportEffects
  repeat' first
    | (with_reducible exact .refl _)
    | (simp [Kept]; done)
    | split
    | (refine (foldl_kept (fun _ _ => ?_) _ _).trans ?_)
    | simp only []
    | simp [Kept]
@[simp] theorem judgeReport_kept (l : Nat) (c : Nat) (w : Nat) (s : State) : Kept s (judgeReport l c w s) := by unfold judgeReport; split <;> simp [Kept]
@[simp] theorem judgePort_kept (p : Nat) (s : State) : Kept s (judgePort p s) := by
  unfold judgePort
  repeat' first
    | (with_reducible exact .refl _)
    | (simp [Kept]; done)
    | split
    | (refine (foldl_kept (fun _ _ => ?_) _ _).trans ?_)
    | simp only []
    | simp [Kept]
@[simp] theorem stageCells_kept (r : Req) (s : State) : Kept s (stageCells r s) := by
  unfold stageCells
  repeat' first
    | (with_reducible exact .refl _)
    | (simp [Kept]; done)
    | split
    | (refine (foldl_kept (fun _ _ => ?_) _ _).trans ?_)
    | simp only []
    | simp [Kept]
@[simp] theorem discardCell_kept (l : Nat) (c : Nat) (s : State) : Kept s (discardCell l c s) := by simp [Kept, discardCell]
@[simp] theorem applyCell_kept (ps : List Byte) (l : Nat) (c : Nat) (frame : Nat) (s : State) : Kept s (applyCell ps l c frame s) := by simp [Kept, applyCell]
@[simp] theorem applyRaster_kept (w : Nat) (h : Nat) (s : State) : Kept s (applyRaster w h s) := by unfold applyRaster; split <;> simp [Kept]
@[simp] theorem burst_kept (l : Nat) (m : Nat) (s : State) : Kept s (burst l m s) := by
  unfold burst; repeat' first | (with_reducible exact .refl _) | (simp [Kept]; done) | split | simp only []
@[simp] theorem applyMeridian_kept (ps : List Byte) (l : Nat) (s : State) : Kept s (applyMeridian ps l s) := by
  unfold applyMeridian; repeat' first | (with_reducible exact .refl _) | (simp [Kept]; done) | split | simp only []
/-! ### Of Machine/Blocks.lean -/
@[simp] theorem modBlock_kept (id : Nat) (f : BlockRec → BlockRec) (s : State) : Kept s (modBlock id f s) := by simp [Kept, modBlock]
/-! ### Of Machine/Program.lean -/
@[simp] theorem reschedule_kept (p : Period) (s : State) : Kept s (reschedule p s) := by simp [Kept, reschedule]
@[simp] theorem applyProgram_kept (ps : List Byte) (s : State) : Kept s (applyProgram ps s) := by
  unfold applyProgram; simp only []; split <;> split <;> simp [Kept]
@[simp] theorem noteFits_kept (s : State) : Kept s (noteFits s) := by
  unfold noteFits
  repeat' first
    | (with_reducible exact .refl _)
    | (simp [Kept]; done)
    | split
    | (refine (foldl_kept (fun _ _ => ?_) _ _).trans ?_)
    | simp only []
    | simp [Kept]
@[simp] theorem runProgram_kept (k : Nat) (s : State) : Kept s (runProgram k s) := by
  unfold runProgram
  repeat' first
    | (with_reducible exact .refl _)
    | (simp [Kept]; done)
    | split
    | (refine (foldl_kept (fun _ _ => ?_) _ _).trans ?_)
    | simp only []
    | simp [Kept]
@[simp] theorem chooseProgram_kept (s : State) : Kept s (chooseProgram s) := by
  unfold chooseProgram; repeat' first | (with_reducible exact .refl _) | (simp [Kept]; done) | split | simp only []
@[simp] theorem applySync_kept (ps : List Byte) (i : Nat) (s : State) : Kept s (applySync ps i s) := by
  unfold applySync; simp only []; split <;> simp [Kept]
@[simp] theorem judgeOverlap_kept (s : State) : Kept s (judgeOverlap s) := by
  unfold judgeOverlap; repeat' first | (with_reducible exact .refl _) | (simp [Kept]; done) | split | simp only []
@[simp] theorem logSync_kept (i : Nat) (old : SyncLock) (new : SyncLock) (s : State) : Kept s (logSync i old new s) := by
  unfold logSync; repeat' first | (with_reducible exact .refl _) | (simp [Kept]; done) | split | simp only []
@[simp] theorem setSync_kept (i : Nat) (x : SyncInput) (s : State) : Kept s (setSync i x s) := by simp [Kept, setSync]
@[simp] theorem takeEdge_kept (i : Nat) (t : Nat) (s : State) : Kept s (takeEdge i t s) := by
  unfold takeEdge; simp only []; split <;> simp [Kept]
@[simp] theorem missEdge_kept (i : Nat) (s : State) : Kept s (missEdge i s) := by simp [Kept, missEdge]
@[simp] theorem judgeGenlock_kept (i : Nat) (s : State) : Kept s (judgeGenlock i s) := by
  unfold judgeGenlock; repeat' first | (with_reducible exact .refl _) | (simp [Kept]; done) | split | simp only []
/-! ### Of Machine/Ledger.lean -/
@[simp] theorem modRail_kept (r : Nat) (f : Rail → Rail) (s : State) : Kept s (modRail r f s) := by simp [Kept, modRail]
@[simp] theorem modRails_kept (f : Rail → Rail) (s : State) : Kept s (modRails f s) := by simp [Kept, modRails]
@[simp] theorem applyRail_kept (ps : List Byte) (k : Nat) (s : State) : Kept s (applyRail ps k s) := by unfold applyRail; split <;> simp [Kept]
@[simp] theorem applyRailMap_kept (ps : List Byte) (s : State) : Kept s (applyRailMap ps s) := by simp [Kept, applyRailMap]
@[simp] theorem dropRails_kept (s : State) : Kept s (dropRails s) := by simp [Kept, dropRails]
@[simp] theorem raiseRail_kept (r : Nat) (s : State) : Kept s (raiseRail r s) := by simp [Kept, raiseRail]
@[simp] theorem enterRegulation_kept (r : Nat) (s : State) : Kept s (enterRegulation r s) := by
  unfold enterRegulation
  repeat' first
    | (with_reducible exact .refl _)
    | (simp [Kept]; done)
    | split
    | (refine (foldl_kept (fun _ _ => ?_) _ _).trans ?_)
    | simp only []
    | simp [Kept]
@[simp] theorem judgeResidue_kept (s : State) : Kept s (judgeResidue s) := by
  unfold judgeResidue; repeat' first | (with_reducible exact .refl _) | (simp [Kept]; done) | split | simp only []
@[simp] theorem clearMismatch_kept (s : State) : Kept s (clearMismatch s) := by
  unfold clearMismatch
  repeat' first
    | (with_reducible exact .refl _)
    | (simp [Kept]; done)
    | split
    | (refine (foldl_kept (fun _ _ => ?_) _ _).trans ?_)
    | simp only []
    | simp [Kept]
@[simp] theorem fixFrame_kept (f : FrameSums) (later : List FrameSums) (s : State) : Kept s (fixFrame f later s) := by simp [Kept, fixFrame]
@[simp] theorem fixUpTo_kept (f : Nat) (l : List FrameSums) (s : State) : Kept s (fixUpTo f l s) := by
  induction l generalizing s with
  | nil => exact .refl _
  | cons a t ih =>
    unfold fixUpTo; split
    · exact (ih _).trans (fixFrame_kept _ _ _)
    · exact .refl _
@[simp] theorem ensureFixed_kept (f : Nat) (s : State) : Kept s (ensureFixed f s) := by
  unfold ensureFixed; simp only []; split
  · exact fixUpTo_kept _ _ _
  · exact (fixFrame_kept _ _ _).trans (fixUpTo_kept _ _ _)
@[simp] theorem refix_kept (f : Nat) (v : Nat) (img : ViewImage) (s : State) : Kept s (refix f v img s) := by
  unfold refix
  repeat' first
    | (with_reducible exact .refl _)
    | (simp [Kept]; done)
    | split
    | (refine (foldl_kept (fun _ _ => ?_) _ _).trans ?_)
    | simp only []
    | simp [Kept]
@[simp] theorem takeMismatch_kept (rail : Nat) (m : Rat) (e : Rat) (s : State) : Kept s (takeMismatch rail m e s) := by
  unfold takeMismatch; repeat' first | (with_reducible exact .refl _) | (simp [Kept]; done) | split | simp only []
@[simp] theorem judgeShunt_kept (rail : Nat) (m : Rat) (s : State) : Kept s (judgeShunt rail m s) := by
  unfold judgeShunt; repeat' first | (with_reducible exact .refl _) | (simp [Kept]; done) | split | simp only []
@[simp] theorem measureShunt_kept (rail : Nat) (microamps : Nat) (s : State) : Kept s (measureShunt rail microamps s) := by
  unfold measureShunt; repeat' first | (with_reducible exact .refl _) | (simp [Kept]; done) | split | simp only []
@[simp] theorem noteRefusal_kept (h : HeadroomReq) (ok : Bool) (s : State) : Kept s (noteRefusal h ok s) := by
  unfold noteRefusal; repeat' first | (with_reducible exact .refl _) | (simp [Kept]; done) | split | simp only []
@[simp] theorem askHeadroom_kept (h : HeadroomReq) (s : State) : Kept s (askHeadroom h s) := by unfold askHeadroom; split <;> simp [Kept]
@[simp] theorem withdrawGrants_kept (s : State) : Kept s (withdrawGrants s) := by
  unfold withdrawGrants
  repeat' first
    | (with_reducible exact .refl _)
    | (simp [Kept]; done)
    | split
    | (refine (foldl_kept (fun _ _ => ?_) _ _).trans ?_)
    | simp only []
    | simp [Kept]
@[simp] theorem setAmbient_kept (ps : List Byte) (s : State) : Kept s (setAmbient ps s) := by simp [Kept, setAmbient]
@[simp] theorem readAmbient_kept (lux : Option Nat) (s : State) : Kept s (readAmbient lux s) := by
  unfold readAmbient; repeat' first | (with_reducible exact .refl _) | (simp [Kept]; done) | split | simp only []
@[simp] theorem judgeInput_kept (mean10ms : Nat) (mean1s : Nat) (s : State) : Kept s (judgeInput mean10ms mean1s s) := by
  unfold judgeInput; repeat' first | (with_reducible exact .refl _) | (simp [Kept]; done) | split | simp only []
@[simp] theorem judgeRefusals_kept (mean10ms : Nat) (s : State) : Kept s (judgeRefusals mean10ms s) := by
  unfold judgeRefusals; repeat' first | (with_reducible exact .refl _) | (simp [Kept]; done) | split | simp only []
@[simp] theorem judgeOver_kept (mean10ms : Nat) (s : State) : Kept s (judgeOver mean10ms s) := by
  unfold judgeOver; repeat' first | (with_reducible exact .refl _) | (simp [Kept]; done) | split | simp only []
/-! ### Of Machine/Storage.lean -/
@[simp] theorem dramWrite_kept (a : Nat) (bs : List Byte) (s : State) : Kept s (dramWrite a bs s) := by simp [Kept, dramWrite]
@[simp] theorem flashProgram_kept (a : Nat) (bs : List Byte) (s : State) : Kept s (flashProgram a bs s) := by simp [Kept, flashProgram]
@[simp] theorem flashErase_kept (a : Nat) (n : Nat) (s : State) : Kept s (flashErase a n s) := by simp [Kept, flashErase]
/-! ### Of Machine/Store.lean -/
@[simp] theorem advanceHead_kept (n : Nat) (avoid : Option Nat) (s : State) : Kept s (advanceHead n avoid s) := by
  unfold advanceHead; repeat' first | (with_reducible exact .refl _) | (simp [Kept]; done) | split | simp only []
@[simp] theorem putEntry_kept (type : Nat) (key : Nat) (data : List Byte) (committed : Bool) (fresh : Bool) (avoid : Option Nat) (s : State) : Kept s (putEntry type key data committed fresh avoid s) := by simp [Kept, putEntry]
@[simp] theorem putObject_kept (type : Nat) (key : Nat) (data : List Byte) (committed : Bool) (fresh : Bool) (s : State) : Kept s (putObject type key data committed fresh s) := by unfold putObject; split <;> simp [Kept]
@[simp] theorem countErase_kept (a : Nat) (n : Nat) (s : State) : Kept s (countErase a n s) := by simp [Kept, countErase]
@[simp] theorem eraseRegion_kept (a : Nat) (n : Nat) (s : State) : Kept s (eraseRegion a n s) := by simp [Kept, eraseRegion]
@[simp] theorem programSlide_kept (blocks : List Nat) (data : List Byte) (s : State) : Kept s (programSlide blocks data s) := by
  unfold programSlide
  repeat' first
    | (with_reducible exact .refl _)
    | (simp [Kept]; done)
    | split
    | (refine (foldl_kept (fun _ _ => ?_) _ _).trans ?_)
    | simp only []
    | simp [Kept]
@[simp] theorem eraseCheckpoint_kept (g : Nat) (s : State) : Kept s (eraseCheckpoint g s) := by simp [Kept, eraseCheckpoint]
@[simp] theorem cleanCheckpoint_kept (g : Nat) (s : State) : Kept s (cleanCheckpoint g s) := by unfold cleanCheckpoint; split <;> simp [Kept]
@[simp] theorem commitObject_kept (w : FlashWrite) (s : State) : Kept s (commitObject w s) := by
  unfold commitObject; repeat' first | (with_reducible exact .refl _) | (simp [Kept]; done) | split | simp only []
@[simp] theorem beginFlash_kept (s : State) : Kept s (beginFlash s) := by
  unfold beginFlash; repeat' first | (with_reducible exact .refl _) | (simp [Kept]; done) | split | simp only []
@[simp] theorem enqueueFlash_kept (w : FlashWrite) (s : State) : Kept s (enqueueFlash w s) := by simp [Kept, enqueueFlash]
/-! ### Of Machine/AlmanacFile.lean -/
@[simp] theorem modBank_kept (k : Nat) (f : Bank → Bank) (s : State) : Kept s (modBank k f s) := by simp [Kept, modBank]
@[simp] theorem setStress_kept (e : Nat) (v : Nat) (s : State) : Kept s (setStress e v s) := by simp [Kept, setStress]
theorem buildCell_kept1 (k w : Nat) (rule : Option GainRule) (ag : Nat → List (Int × Int)) (m : List Byte) (q : Placed) (x : State × Memory) :
    Kept x.1 (buildCell k w rule ag m q x).1 := by
  unfold buildCell
  generalize List.range 512 = l
  induction l generalizing x with
  | nil => simp [Kept]
  | cons a t ih =>
    rw [List.foldl_cons]
    refine Kept.trans (ih _) ?_
    simp [Kept]
theorem dw {s t : State} (a : Nat) (d : List Byte) (h : Kept s t) : Kept s (dramWrite a d t) := Kept.trans (dramWrite_kept a d t) h
theorem mb {s t : State} (k : Nat) (f : Bank → Bank) (h : Kept s t) : Kept s (modBank k f t) := Kept.trans (modBank_kept k f t) h
@[simp] theorem writeRowChecks_kept (k : Nat) (s : State) : Kept s (writeRowChecks k s) := by
  unfold writeRowChecks
  repeat' first
    | (with_reducible exact .refl _)
    | (simp [Kept]; done)
    | split
    | (refine (foldl_kept (fun _ _ => ?_) _ _).trans ?_)
    | simp only []
    | simp [Kept]
@[simp] theorem buildFull_kept (k : Nat) (f : List Byte) (rule : GainRule) (content : Nat) (s : State) : Kept s (buildFull k f rule content s).1 := by
  unfold buildFull; simp only []
  refine Kept.trans (writeRowChecks_kept _ _) ?_
  refine Kept.trans (foldl_kept1 (fun t a => buildCell_kept1 _ _ _ _ _ _ _) _ _) ?_
  simp only []
  refine Kept.trans (foldl_kept (fun t a => dramWrite_kept _ _ _) _ _) ?_
  apply dw; apply dw; apply mb
  simp [Kept]
@[simp] theorem buildPartial_kept (k : Nat) (f : List Byte) (crc : Nat) (s : State) : Kept s (buildPartial k f crc s).1 := by
  unfold buildPartial; simp only []
  refine Kept.trans (writeRowChecks_kept _ _) ?_
  refine Kept.trans (foldl_kept1 (fun t a => ?_) _ _) ?_
  · split
    · exact buildCell_kept1 _ _ _ _ _ _ _
    · simp [Kept]
  simp only []
  refine Kept.trans (foldl_kept (fun t a => dramWrite_kept _ _ _) _ _) ?_
  apply mb
  simp [Kept]
/-! ### Of Machine/Buffers.lean -/
@[simp] theorem modBuf_kept (h : Nat) (f : Buffer → Buffer) (s : State) : Kept s (modBuf h f s) := by simp [Kept, modBuf]
@[simp] theorem dropBuf_kept (h : Nat) (s : State) : Kept s (dropBuf h s) := by simp [Kept, dropBuf]
@[simp] theorem nextOrder_kept (s : State) : Kept s (nextOrder s) := by simp [Kept, nextOrder]
@[simp] theorem freeBuf_kept (h : Nat) (s : State) : Kept s (freeBuf h s) := by
  unfold freeBuf; repeat' first | (with_reducible exact .refl _) | (simp [Kept]; done) | split | simp only []
@[simp] theorem readyBuf_kept (h : Nat) (s : State) : Kept s (readyBuf h s) := by simp [Kept, readyBuf]
@[simp] theorem abortFill_kept (b : Buffer) (s : State) : Kept s (abortFill b s) := by unfold abortFill; split <;> simp [Kept]
@[simp] theorem sweepReleased_kept (s : State) : Kept s (sweepReleased s) :=
  foldl_kept (fun _ _ => (dropBuf_kept _ _).trans (abortFill_kept _ _)) _ _
@[simp] theorem releaseBuf_kept (h : Nat) (s : State) : Kept s (releaseBuf h s).1 := by
  unfold releaseBuf
  repeat' first
    | (with_reducible exact .refl _)
    | (simp [Kept]; done)
    | split
    | (refine (foldl_kept (fun _ _ => ?_) _ _).trans ?_)
    | simp only []
    | simp [Kept]
@[simp] theorem retap_kept (on : Nat → Bool) (s : State) : Kept s (retap on s) := by
  unfold retap
  repeat' first
    | (with_reducible exact .refl _)
    | (simp [Kept]; done)
    | split
    | (refine (foldl_kept (fun _ _ => ?_) _ _).trans ?_)
    | simp only []
    | simp [Kept]
@[simp] theorem refreshTaps_kept (s : State) : Kept s (refreshTaps s) := by simp [Kept, refreshTaps]
@[simp] theorem forgetLoss_kept (k : Nat) (s : State) : Kept s (forgetLoss k s) := by
  unfold forgetLoss
  repeat' first
    | (with_reducible exact .refl _)
    | (simp [Kept]; done)
    | split
    | (refine (foldl_kept (fun _ _ => ?_) _ _).trans ?_)
    | simp only []
    | simp [Kept]
@[simp] theorem applyLayer_kept (ps : List Byte) (k : Nat) (s : State) : Kept s (applyLayer ps k s) := by
  unfold applyLayer; split
  · exact .refl _
  · simp only []
    refine (sweepReleased_kept _).trans ?_
    split <;> simp [Kept]
@[simp] theorem clearLayer_kept (k : Nat) (s : State) : Kept s (clearLayer k s) := by simp [Kept, clearLayer]
@[simp] theorem rehome_kept (i : Nat) (s : State) : Kept s (rehome i s) := by
  unfold rehome; repeat' first | (with_reducible exact .refl _) | (simp [Kept]; done) | split | simp only []
@[simp] theorem rehomeAll_kept (s : State) : Kept s (rehomeAll s) := by
  unfold rehomeAll; generalize List.range 8 = l; exact foldl_kept (fun _ _ => rehome_kept _ _) _ _
@[simp] theorem passOver_kept (k : Nat) (chosen : Buffer) (s : State) : Kept s (passOver k chosen s) := by
  unfold passOver
  repeat' first
    | (with_reducible exact .refl _)
    | (simp [Kept]; done)
    | split
    | (refine (foldl_kept (fun _ _ => ?_) _ _).trans ?_)
    | simp only []
    | simp [Kept]
@[simp] theorem setRun_kept (i : Nat) (f : LayerRun → LayerRun) (s : State) : Kept s (setRun i f s) := by simp [Kept, setRun]
@[simp] theorem takeLoss_kept (i : Nat) (s : State) : Kept s (takeLoss i s) := by simp [Kept, takeLoss]
@[simp] theorem latchStream_kept (i : Nat) (n : Nat) (s : State) : Kept s (latchStream i n s) := by
  unfold latchStream; repeat' first | (with_reducible exact .refl _) | (simp [Kept]; done) | split | simp only []
@[simp] theorem latchBuffer_kept (i : Nat) (s : State) : Kept s (latchBuffer i s) := by
  unfold latchBuffer; repeat' first | (with_reducible exact .refl _) | (simp [Kept]; done) | split | simp only []
@[simp] theorem latchLayer_kept (n : Nat) (i : Nat) (s : State) : Kept s (latchLayer n i s) := by
  unfold latchLayer; repeat' first | (with_reducible exact .refl _) | (simp [Kept]; done) | split | simp only []
@[simp] theorem settleBuffers_kept (n : Nat) (s : State) : Kept s (settleBuffers n s) := by simp [Kept, settleBuffers]
@[simp] theorem applyShedding_kept (s : State) : Kept s (applyShedding s) := by
  unfold applyShedding; repeat' first | (with_reducible exact .refl _) | (simp [Kept]; done) | split | simp only []
@[simp] theorem latchAll_kept (n : Nat) (s : State) : Kept s (latchAll n s) := by
  unfold latchAll; generalize List.range 8 = l
  refine Kept.trans (settleBuffers_kept _ _) ?_
  exact foldl_kept (fun _ _ => latchLayer_kept _ _ _) _ _
@[simp] theorem relatch_kept (s : State) : Kept s (relatch s) := by simp [Kept, relatch]
@[simp] theorem returnStream_kept (i : Nat) (s : State) : Kept s (returnStream i s) := by
  unfold returnStream; repeat' first | (with_reducible exact .refl _) | (simp [Kept]; done) | split | simp only []
@[simp] theorem retireBuffers_kept (frame : Nat) (s : State) : Kept s (retireBuffers frame s) := by
  unfold retireBuffers
  repeat' first
    | (with_reducible exact .refl _)
    | (simp [Kept]; done)
    | split
    | (refine (foldl_kept (fun _ _ => ?_) _ _).trans ?_)
    | simp only []
    | simp [Kept]
/-! ### Of Machine/Bulk.lean -/
@[simp] theorem awaitBulk_kept (r : Req) (length : Nat) (s : State) : Kept s (awaitBulk r length s) := by simp [Kept, awaitBulk]
@[simp] theorem endBulk_kept (src : Source) (tag : Nat) (s : State) : Kept s (endBulk src tag s) := by simp [Kept, endBulk]
@[simp] theorem endAborted_kept (src : Source) (tag : Nat) (s : State) : Kept s (endAborted src tag s) := by simp [Kept, endAborted]
/-! ### Of Machine/Almanac.lean -/
@[simp] theorem applySpace_kept (ps : List Byte) (s : State) : Kept s (applySpace ps s) := by simp [Kept, applySpace]
@[simp] theorem abandonRecast_kept (s : State) : Kept s (abandonRecast s) := by
  unfold abandonRecast; repeat' first | (with_reducible exact .refl _) | (simp [Kept]; done) | split | simp only []
@[simp] theorem startLoad_kept (o : LongOp) (f : List Byte) (s : State) : Kept s (startLoad o f s) := by simp [Kept, startLoad]
@[simp] theorem takeFile_kept (o : LongOp) (f : List Byte) (s : State) : Kept s (takeFile o f s) := by
  unfold takeFile; repeat' first | (with_reducible exact .refl _) | (simp [Kept]; done) | split | simp only []
@[simp] theorem buildLoaded_kept (stored : List Byte) (s : State) : Kept s (buildLoaded stored s) := by
  unfold buildLoaded; repeat' first | (with_reducible exact .refl _) | (simp [Kept]; done) | split | simp only []
@[simp] theorem validate_kept (k : Nat) (s : State) : Kept s (validate k s) := by simp [Kept, validate]
@[simp] theorem finishLoad_kept (s : State) : Kept s (finishLoad s) := by unfold finishLoad; split <;> simp [Kept]
@[simp] theorem resetCellStress_kept (l : Nat) (c : Nat) (s : State) : Kept s (resetCellStress l c s) := by
  unfold resetCellStress
  repeat' first
    | (with_reducible exact .refl _)
    | (simp [Kept]; done)
    | split
    | (refine (foldl_kept (fun _ _ => ?_) _ _).trans ?_)
    | simp only []
    | simp [Kept]
@[simp] theorem bringBank_kept (k : Nat) (s : State) : Kept s (bringBank k s) := by
  unfold bringBank
  repeat' first
    | (with_reducible exact .refl _)
    | (simp [Kept]; done)
    | split
    | (refine (foldl_kept (fun _ _ => ?_) _ _).trans ?_)
    | simp only []
    | simp [Kept]
@[simp] theorem takeBank_kept (k : Nat) (s : State) : Kept s (takeBank k s) := by
  unfold takeBank
  repeat' first
    | (with_reducible exact .refl _)
    | (simp [Kept]; done)
    | split
    | (refine (foldl_kept (fun _ _ => ?_) _ _).trans ?_)
    | simp only []
    | simp [Kept]
@[simp] theorem applySwap_kept (ps : List Byte) (s : State) : Kept s (applySwap ps s) := by simp [Kept, applySwap]
@[simp] theorem clearUncorrectable_kept (a : Nat) (n : Nat) (s : State) : Kept s (clearUncorrectable a n s) := by simp [Kept, clearUncorrectable]
theorem verifyRow_kept (k y : Nat) (x : State × VerifyCount) : Kept x.1 (verifyRow k y x).1 := by
  unfold verifyRow; simp only []; repeat' split
  all_goals first | exact .refl _ | (simp [Kept]; done)
@[simp] theorem verifyBank_kept (k : Nat) (s : State) : Kept s (verifyBank k s).1 := by
  unfold verifyBank; split
  · exact foldl_kept1 (fun _ _ => verifyRow_kept _ _ _) _ _
  · exact .refl _
@[simp] theorem verifyBanks_kept (ks : List Nat) (s : State) : Kept s (verifyBanks ks s).1 := by
  unfold verifyBanks
  generalize ([] : List Byte) = z
  induction ks generalizing s z with
  | nil => simp [Kept]
  | cons a t ih => exact (ih _ _).trans (verifyBank_kept _ _)
@[simp] theorem bootBank_kept (k : Nat) (s : State) : Kept s (bootBank k s) := by simp [Kept, bootBank]
@[simp] theorem selectBank_kept (before : Option Nat) (s : State) : Kept s (selectBank before s) := by
  unfold selectBank
  repeat' first
    | (with_reducible exact .refl _)
    | (simp [Kept]; done)
    | split
    | (refine (foldl_kept (fun _ _ => ?_) _ _).trans ?_)
    | simp only []
    | simp [Kept]
@[simp] theorem applyBinTables_kept (ps : List Byte) (s : State) : Kept s (applyBinTables ps s) := by unfold applyBinTables; split <;> simp [Kept]
@[simp] theorem countWorn_kept (s : State) : Kept s (countWorn s) := by
  unfold countWorn; repeat' first | (with_reducible exact .refl _) | (simp [Kept]; done) | split | simp only []
@[simp] theorem startRecast_kept (op : Option (Source × Nat)) (f : List Byte) (s : State) : Kept s (startRecast op f s) := by simp [Kept, startRecast]
@[simp] theorem finishRecast_kept (s : State) : Kept s (finishRecast s) := by
  unfold finishRecast; repeat' first | (with_reducible exact .refl _) | (simp [Kept]; done) | split | simp only []
@[simp] theorem recastSwapEffect_kept (s : State) : Kept s (recastSwapEffect s) := by
  unfold recastSwapEffect; repeat' first | (with_reducible exact .refl _) | (simp [Kept]; done) | split | simp only []
@[simp] theorem addStress_kept (e : Nat) (d : Rat) (s : State) : Kept s (addStress e d s) := by simp [Kept, addStress]
@[simp] theorem stressAll_kept (f : FrameSums) (n : Nat) (s : State) : Kept s (stressAll f n s) := by
  unfold stressAll
  repeat' first
    | (with_reducible exact .refl _)
    | (simp [Kept]; done)
    | split
    | (refine (foldl_kept (fun _ _ => ?_) _ _).trans ?_)
    | simp only []
    | simp [Kept]
@[simp] theorem takeSample_kept (f : FrameSums) (s : State) : Kept s (takeSample f s) := by
  unfold takeSample; simp [Kept]
@[simp] theorem noteSample_kept (before n : Nat) (s : State) : Kept s (noteSample before n s) := by
  unfold noteSample; simp only []; split
  · exact .refl _
  · simp [Kept]

end Sys2Proof.Machine
end

