-- ==== Sys2Proof/Laws/KeptFrames.lean ====
section
/-! SUPPORT. Of each operation that leaves the fuses, the queue, the output pairs and the lengths of the fixed tables as they are,
of the layers, the scan-out, the sensors and the diagnosis: that it does. A proof cites the lemma and does not unfold the operation. -/

namespace Sys2Proof.Machine
/-! ### Of Machine/Scale.lean -/
@[simp] theorem applyCoeffs_kept (ps : List Byte) (k : Nat) (s : State) : Kept s (applyCoeffs ps k s) := by simp [Kept, applyCoeffs]
/-! ### Of Machine/Layers.lean -/
@[simp] theorem finishFill_kept (h : Nat) (s : State) : Kept s (finishFill h s) := by
  unfold finishFill; repeat' first | (with_reducible exact .refl _) | (simp [Kept]; done) | split | simp only []
@[simp] theorem finishSlide_kept (b : Buffer) (s : State) : Kept s (finishSlide b s) := by unfold finishSlide; split <;> simp [Kept]
@[simp] theorem bufferBlock_kept (o : LongOp) (k : Nat) (data : List Byte) (s : State) : Kept s (bufferBlock o k data s) := by
  unfold bufferBlock; repeat' first | (with_reducible exact .refl _) | (simp [Kept]; done) | split | simp only []
@[simp] theorem bufferReceived_kept (o : LongOp) (data : List Byte) (s : State) : Kept s (bufferReceived o data s) := by unfold bufferReceived; split <;> simp [Kept]
@[simp] theorem applyBackground_kept (ps : List Byte) (v : Nat) (s : State) : Kept s (applyBackground ps v s) := by simp [Kept, applyBackground]
@[simp] theorem abandonWriteback_kept (w : Writeback) (s : State) : Kept s (abandonWriteback w s) := by simp [Kept, abandonWriteback]
/-! ### Of Machine/Compose.lean -/
@[simp] theorem takeWriteback_kept (w : Writeback) (image : List (List Nat)) (s : State) : Kept s (takeWriteback w image s) := by unfold takeWriteback; split <;> simp [Kept]
@[simp] theorem takeWritebacks_kept (frame : Nat) (views : List Nat) (stage2 : Nat → List (List Nat)) (stage3 : Nat → List (List Nat)) (s : State) : Kept s (takeWritebacks frame views stage2 stage3 s) := by
  unfold takeWritebacks
  repeat' first
    | (with_reducible exact .refl _)
    | (simp [Kept]; done)
    | split
    | (refine (foldl_kept (fun _ _ => ?_) _ _).trans ?_)
    | simp only []
    | simp [Kept]
@[simp] theorem finishFrame_kept (c : Latched) (s : State) : Kept s (finishFrame c s) := by simp [Kept, finishFrame]
/-! ### Of Machine/Healing.lean -/
@[simp] theorem takeTrain_kept (p : Nat) (errors : List (BitVec 16)) (s : State) : Kept s (takeTrain p errors s) := by
  unfold takeTrain
  repeat' first
    | (with_reducible exact .refl _)
    | (simp [Kept]; done)
    | split
    | (refine (foldl_kept (fun _ _ => ?_) _ _).trans ?_)
    | simp only []
    | simp [Kept]
@[simp] theorem readUnanswered_kept (p : Nat) (s : State) : Kept s (readUnanswered p s) := by simp [Kept, readUnanswered]
@[simp] theorem watchLink_kept (p : Nat) (s : State) : Kept s (watchLink p s) := by
  unfold watchLink
  repeat' first
    | (with_reducible exact .refl _)
    | (simp [Kept]; done)
    | split
    | (refine (foldl_kept (fun _ _ => ?_) _ _).trans ?_)
    | simp only []
    | simp [Kept]
@[simp] theorem recordLink_kept (l : Nat) (b : Nat) (double : Bool) (s : State) : Kept s (recordLink l b double s) := by unfold recordLink; split <;> simp [Kept]
@[simp] theorem markDead_kept (l : Nat) (h : Nat) (s : State) : Kept s (markDead l h s) := by unfold markDead; split <;> simp [Kept]
@[simp] theorem doubleFault_kept (l : Nat) (b : Nat) (s : State) : Kept s (doubleFault l b s) := by
  unfold doubleFault; simp only []
  exact (raiseAlert_kept _ _ _ _ _ _ _).trans ((recordLink_kept _ _ _ _).trans
    ((foldl_kept (fun _ _ => markDead_kept _ _ _) _ _).trans (modLoop_kept _ _ _)))
@[simp] theorem beginMove_kept (l : Nat) (m : Nat) (gaining : Side) (link : Nat) (s : State) : Kept s (beginMove l m gaining link s) := by simp [Kept, beginMove]
@[simp] theorem localise_kept (p : Nat) (s : State) : Kept s (localise p s) := by
  unfold localise; repeat' first | (with_reducible exact .refl _) | (simp [Kept]; done) | split | simp only []
@[simp] theorem takeover_kept (l : Nat) (mv : Move) (s : State) : Kept s (takeover l mv s) := by
  unfold takeover; repeat' first | (with_reducible exact .refl _) | (simp [Kept]; done) | split | simp only []
@[simp] theorem completeMove_kept (l : Nat) (mv : Move) (s : State) : Kept s (completeMove l mv s) := by simp [Kept, completeMove]
@[simp] theorem failPort_kept (p : Nat) (s : State) : Kept s (failPort p s) := by
  unfold failPort; repeat' first | (with_reducible exact .refl _) | (simp [Kept]; done) | split | simp only []
@[simp] theorem unfailPort_kept (p : Nat) (s : State) : Kept s (unfailPort p s) := by simp [Kept, unfailPort]
@[simp] theorem bothMeridian_kept (l : Nat) (m : Nat) (k : Nat) (s : State) : Kept s (bothMeridian l m k s) := by
  unfold bothMeridian; repeat' first | (with_reducible exact .refl _) | (simp [Kept]; done) | split | simp only []
@[simp] theorem restoreTrial_kept (l : Nat) (b : Nat) (s : State) : Kept s (restoreTrial l b s) := by
  unfold restoreTrial
  repeat' first
    | (with_reducible exact .refl _)
    | (simp [Kept]; done)
    | split
    | (refine (foldl_kept (fun _ _ => ?_) _ _).trans ?_)
    | simp only []
    | simp [Kept]
@[simp] theorem failCell_kept (l : Nat) (c : Nat) (s : State) : Kept s (failCell l c s) := by simp [Kept, failCell]
@[simp] theorem stageTrim_kept (p : Nat) (f : PortTrim → PortTrim) (s : State) : Kept s (stageTrim p f s) := by simp [Kept, stageTrim]
@[simp] theorem enterFault_kept (target : BitVec 64) (kind : Nat) (detail : Nat) (double : Bool) (s : State) : Kept s (enterFault target kind detail double s) := by
  unfold enterFault
  repeat' first
    | (with_reducible exact .refl _)
    | (simp [Kept]; done)
    | split
    | (refine (foldl_kept (fun _ _ => ?_) _ _).trans ?_)
    | simp only []
    | simp [Kept]
@[simp] theorem syncLoop_kept (s : State) (l : Nat) : Kept s (syncLoop s l) := by
  unfold syncLoop
  refine (foldl_kept (fun x c => ?_) _ _).trans (foldl_kept (fun x b => ?_) _ _)
  · split <;> simp [Kept]
  · simp [Kept]
@[simp] theorem syncPort_kept (s : State) (p : Nat) : Kept s (syncPort s p) := by unfold syncPort; split <;> simp [Kept]
@[simp] theorem syncFaults_kept (s : State) : Kept s (syncFaults s) := by
  unfold syncFaults
  generalize List.range 48 = a
  generalize List.range 24 = b
  exact (foldl_kept syncPort_kept _ _).trans (foldl_kept syncLoop_kept _ _)
/-! ### Of Machine/Scan.lean -/
@[simp] theorem uploadPort_kept (x : Fixed) (img : Option ViewImage) (p : Nat) (s : State) : Kept s (uploadPort x img p s) := by
  unfold uploadPort; simp only []
  exact (foldl_kept (fun _ _ => portSend_kept _ _ _) _ _).trans (modPort_kept _ _ _)
@[simp] theorem sendArm_kept (x : SlotAt) (seqs : List Nat) (hold : Bool) (s : State) : Kept s (sendArm x seqs hold s) := by
  unfold sendArm
  repeat' first
    | (with_reducible exact .refl _)
    | (simp [Kept]; done)
    | split
    | (refine (foldl_kept (fun _ _ => ?_) _ _).trans ?_)
    | simp only []
    | simp [Kept]
@[simp] theorem armHeld_kept (x : SlotAt) (u : Sent) (s : State) : Kept s (armHeld x u s) := by
  unfold armHeld
  repeat' first
    | (with_reducible exact .refl _)
    | (simp [Kept]; done)
    | split
    | (refine (foldl_kept (fun _ _ => ?_) _ _).trans ?_)
    | simp only []
    | simp [Kept]
@[simp] theorem refixShown_kept (f : Nat) (v : Nat) (img : Option ViewImage) (s : State) : Kept s (refixShown f v img s) := by
  unfold refixShown
  repeat' first
    | (with_reducible exact .refl _)
    | (simp [Kept]; done)
    | split
    | (refine (foldl_kept (fun _ _ => ?_) _ _).trans ?_)
    | simp only []
    | simp [Kept]
@[simp] theorem uploadAll_kept (x : Fixed) (img : Option ViewImage) (s : State) : Kept s (uploadAll x img s) := by
  unfold uploadAll
  repeat' first
    | (with_reducible exact .refl _)
    | (simp [Kept]; done)
    | split
    | (refine (foldl_kept (fun _ _ => ?_) _ _).trans ?_)
    | simp only []
    | simp [Kept]
@[simp] theorem startUpload_kept (s : State) : Kept s (startUpload s) := by
  unfold startUpload; simp only []; split
  · exact (armHeld_kept _ _ _).trans (by simp [Kept])
  · exact (uploadAll_kept _ _ _).trans ((refixShown_kept _ _ _ _).trans ((ensureFixed_kept _ _).trans (by simp [Kept])))
@[simp] theorem fillRow_kept (p : Nat) (row : Nat) (u : Sent) (s : State) : Kept s (fillRow p row u s) := by
  unfold fillRow
  repeat' first
    | (with_reducible exact .refl _)
    | (simp [Kept]; done)
    | split
    | (refine (foldl_kept (fun _ _ => ?_) _ _).trans ?_)
    | simp only []
    | simp [Kept]
@[simp] theorem judgePorts_kept (s : State) : Kept s (judgePorts s) := by
  unfold judgePorts
  repeat' first
    | (with_reducible exact .refl _)
    | (simp [Kept]; done)
    | split
    | (refine (foldl_kept (fun _ _ => ?_) _ _).trans ?_)
    | simp only []
    | simp [Kept]
@[simp] theorem openWindow_kept (s : State) : Kept s (openWindow s) := by
  unfold openWindow
  repeat' first
    | (with_reducible exact .refl _)
    | (simp [Kept]; done)
    | split
    | (refine (foldl_kept (fun _ _ => ?_) _ _).trans ?_)
    | simp only []
    | simp [Kept]
@[simp] theorem latchCells_kept (lit : Rat) (s : State) : Kept s (latchCells lit s) := by
  unfold latchCells
  repeat' first
    | (with_reducible exact .refl _)
    | (simp [Kept]; done)
    | split
    | (refine (foldl_kept (fun _ _ => ?_) _ _).trans ?_)
    | simp only []
    | simp [Kept]
@[simp] theorem takeFreeze_kept (s : State) : Kept s (takeFreeze s) := by simp [Kept, takeFreeze]
@[simp] theorem dropWritebacks_kept (f : Nat) (s : State) : Kept s (dropWritebacks f s) := by
  unfold dropWritebacks
  repeat' first
    | (with_reducible exact .refl _)
    | (simp [Kept]; done)
    | split
    | (refine (foldl_kept (fun _ _ => ?_) _ _).trans ?_)
    | simp only []
    | simp [Kept]
@[simp] theorem present_kept (x : SlotAt) (s : State) : Kept s (present x s) := by
  unfold present
  repeat' first
    | (with_reducible exact .refl _)
    | (simp [Kept]; done)
    | split
    | (refine (foldl_kept (fun _ _ => ?_) _ _).trans ?_)
    | simp only []
    | simp [Kept]
@[simp] theorem transitTo_kept (x : SlotAt) (s : State) : Kept s (transitTo x s) := by
  unfold transitTo
  repeat' first
    | (with_reducible exact .refl _)
    | (simp [Kept]; done)
    | split
    | (refine (foldl_kept (fun _ _ => ?_) _ _).trans ?_)
    | simp only []
    | simp [Kept]
@[simp] theorem moveMeridians_kept (s : State) : Kept s (moveMeridians s) := by
  unfold moveMeridians
  repeat' first
    | (with_reducible exact .refl _)
    | (simp [Kept]; done)
    | split
    | (refine (foldl_kept (fun _ _ => ?_) _ _).trans ?_)
    | simp only []
    | simp [Kept]
@[simp] theorem dropOld_kept (f : Nat) (s : State) : Kept s (dropOld f s) := by simp [Kept, dropOld]
@[simp] theorem startFrame_kept (x : SlotAt) (s : State) : Kept s (startFrame x s) := by
  unfold startFrame
  repeat' first
    | (with_reducible exact .refl _)
    | (simp [Kept]; done)
    | split
    | (refine (foldl_kept (fun _ _ => ?_) _ _).trans ?_)
    | simp only []
    | simp [Kept]
@[simp] theorem applySyncOf_kept (ps : List Byte) (input : Nat) (s : State) : Kept s (applySyncOf ps input s) := by unfold applySyncOf; split <;> simp [Kept]
/-! ### Of Machine/Thermal.lean -/
@[simp] theorem stopCalibration_kept (status : Nat) (s : State) : Kept s (stopCalibration status s) := by unfold stopCalibration; split <;> simp [Kept]
@[simp] theorem enterShutdown_kept (s : State) : Kept s (enterShutdown s) := by simp [Kept, enterShutdown]
@[simp] theorem reportThermal_kept (s : State) : Kept s (reportThermal s) := by
  unfold reportThermal; repeat' first | (with_reducible exact .refl _) | (simp [Kept]; done) | split | simp only []
@[simp] theorem updateDie_kept (s : State) : Kept s (updateDie s) := by simp [Kept, updateDie]
@[simp] theorem convertDiodes_kept (readings : List Int) (coreMilliwatts : Nat) (s : State) : Kept s (convertDiodes readings coreMilliwatts s) := by simp [Kept, convertDiodes]
@[simp] theorem setDiode_kept (k : Nat) (f : Diode → Diode) (s : State) : Kept s (setDiode k f s) := by simp [Kept, setDiode]
@[simp] theorem setSensor_kept (k : Nat) (f : Sensor → Sensor) (s : State) : Kept s (setSensor k f s) := by simp [Kept, setSensor]
@[simp] theorem breakSensor_kept (k : Nat) (st : SensorStatus) (s : State) : Kept s (breakSensor k st s) := by simp [Kept, breakSensor]
@[simp] theorem convertSensor_kept (k : Nat) (ratio : Nat) (s : State) : Kept s (convertSensor k ratio s) := by
  unfold convertSensor; repeat' first | (with_reducible exact .refl _) | (simp [Kept]; done) | split | simp only []
@[simp] theorem fitGrid_kept (s : State) : Kept s (fitGrid s) := by unfold fitGrid; split <;> simp [Kept]
@[simp] theorem updateRises_kept (s : State) : Kept s (updateRises s) := by simp [Kept, updateRises]
@[simp] theorem judgeSensors_kept (s : State) : Kept s (judgeSensors s) := by simp [Kept, judgeSensors]
@[simp] theorem updateZones_kept (s : State) : Kept s (updateZones s) := by simp [Kept, updateZones]
@[simp] theorem readVolts_kept (mv : List (Option Nat)) (s : State) : Kept s (readVolts mv s) := by simp [Kept, readVolts]
@[simp] theorem clearVolts_kept (mv : List (Option Nat)) (s : State) : Kept s (clearVolts mv s) := by
  unfold clearVolts
  repeat' first
    | (with_reducible exact .refl _)
    | (simp [Kept]; done)
    | split
    | (refine (foldl_kept (fun _ _ => ?_) _ _).trans ?_)
    | simp only []
    | simp [Kept]
@[simp] theorem updateModel_kept (mv : List (Option Nat)) (s : State) : Kept s (updateModel mv s) := by simp [Kept, updateModel]
@[simp] theorem applyThermal_kept (ps : List Byte) (s : State) : Kept s (applyThermal ps s) := by simp [Kept, applyThermal]
/-! ### Of Machine/HouseTime.lean, Machine/Wake.lean and the fall of a link -/
@[simp] theorem setServo_kept (x : Servo) (s : State) : Kept s (setServo x s) := by
  unfold setServo; repeat' first | (with_reducible exact .refl _) | (simp [Kept]; done) | split | simp only []
@[simp] theorem enterHoldover_kept (s : State) : Kept s (enterHoldover s) := by simp [Kept, enterHoldover]
@[simp] theorem runBmca_kept (s : State) : Kept s (runBmca s) := by
  unfold runBmca; repeat' first | (with_reducible exact .refl _) | (simp [Kept]; done) | split | simp only []
@[simp] theorem noteReset_kept (kind : Nat) (stuck : Bool) (s : State) : Kept s (noteReset kind stuck s) := by simp [Kept, noteReset]
@[simp] theorem linkDown_kept (p : NetPort) (s : State) : Kept s (linkDown p s) := by
  unfold linkDown; repeat' first | (with_reducible exact .refl _) | (simp [Kept]; done) | split | simp only []
@[simp] theorem loseInput_kept (k : Nat) (s : State) : Kept s (loseInput k s) := by
  unfold loseInput; refine foldl_kept (fun _ _ => ?_) _ _; simp only []; split <;> simp [Kept]
/-! ### Of Machine/Bist.lean -/
@[simp] theorem judgeEssential_kept (s : State) : Kept s (judgeEssential s) := by unfold judgeEssential; split <;> simp [Kept]
@[simp] theorem loseBlock_kept (id : Nat) (s : State) : Kept s (loseBlock id s) := by
  unfold loseBlock; repeat' first | (with_reducible exact .refl _) | (simp [Kept]; done) | split | simp only []
@[simp] theorem markBlock_kept (id : Nat) (s : State) : Kept s (markBlock id s) := by
  unfold markBlock; repeat' first | (with_reducible exact .refl _) | (simp [Kept]; done) | split | simp only []
@[simp] theorem returnBlock_kept (id : Nat) (s : State) : Kept s (returnBlock id s) := by unfold returnBlock; split <;> simp [Kept]
@[simp] theorem returnBlocks_kept (s : State) : Kept s (returnBlocks s) := by
  unfold returnBlocks
  repeat' first
    | (with_reducible exact .refl _)
    | (simp [Kept]; done)
    | split
    | (refine (foldl_kept (fun _ _ => ?_) _ _).trans ?_)
    | simp only []
    | simp [Kept]
@[simp] theorem passSlice_kept (id : Nat) (s : State) : Kept s (passSlice id s) := by simp [Kept, passSlice]
@[simp] theorem failSlice_kept (id : Nat) (slice : Nat) (s : State) : Kept s (failSlice id slice s) := by simp [Kept, failSlice]
@[simp] theorem takeSlice_kept (id : Nat) (slice : Nat) (pass : Bool) (s : State) : Kept s (takeSlice id slice pass s) := by
  unfold takeSlice; simp only []
  split <;> split <;> simp [Kept]
@[simp] theorem endCycle_kept (s : State) : Kept s (endCycle s) := by simp [Kept, endCycle]
@[simp] theorem atBlock_kept (i : Nat) (s : State) : Kept s (atBlock i s) := by
  unfold atBlock
  repeat' first
    | (with_reducible exact .refl _)
    | (simp [Kept]; done)
    | split
    | (refine (foldl_kept (fun _ _ => ?_) _ _).trans ?_)
    | simp only []
    | simp [Kept]
theorem seekBlock_kept (n i : Nat) (s : State) : Kept s (seekBlock n i s).2 := by
  induction n generalizing i s with
  | zero => exact .refl _
  | succ n ih =>
    unfold seekBlock; repeat' split
    · exact .refl _
    · exact (ih _ _).trans (modBlock_kept _ _ _)
    · exact .refl _
@[simp] theorem nextCycleBlock_kept (s : State) : Kept s (nextCycleBlock s) := by
  unfold nextCycleBlock; simp only []; split
  · exact (endCycle_kept _).trans ((atBlock_kept _ _).trans (seekBlock_kept _ _ _))
  · exact (atBlock_kept _ _).trans (seekBlock_kept _ _ _)
@[simp] theorem stepCycle_kept (id : Nat) (s : State) : Kept s (stepCycle id s) := by
  unfold stepCycle; simp only []; split <;> simp [Kept]
@[simp] theorem notePostponed_kept (now : Nat) (s : State) : Kept s (notePostponed now s) := by
  unfold notePostponed
  repeat' first
    | (with_reducible exact .refl _)
    | (simp [Kept]; done)
    | split
    | (refine (foldl_kept (fun _ _ => ?_) _ _).trans ?_)
    | simp only []
    | simp [Kept]
@[simp] theorem cycleSlice_kept (pass : Bool) (s : State) : Kept s (cycleSlice pass s) := by
  unfold cycleSlice; simp only []
  have h := seekBlock_kept 256 s.bist.block s
  generalize seekBlock 256 s.bist.block s = x at *
  have h1 : Kept s (if (x.1 != s.bist.block) = true then atBlock x.1 x.2 else x.2) := by
    split
    · exact (atBlock_kept _ _).trans h
    · exact h
  generalize (if (x.1 != s.bist.block) = true then atBlock x.1 x.2 else x.2) = s1 at *
  repeat' split
  · exact (endCycle_kept _).trans h1
  · exact (stepCycle_kept _ _).trans ((takeSlice_kept _ _ _ _).trans ((notePostponed_kept _ _).trans h1))
  · exact h1
@[simp] theorem endBistOp_kept (o : BistOp) (s : State) : Kept s (endBistOp o s) := by
  unfold endBistOp; repeat' first | (with_reducible exact .refl _) | (simp [Kept]; done) | split | simp only []
@[simp] theorem passOverBlock_kept (o : BistOp) (s : State) : Kept s (passOverBlock o s) := by
  unfold passOverBlock; repeat' first | (with_reducible exact .refl _) | (simp [Kept]; done) | split | simp only []
@[simp] theorem opSlice_kept (o : BistOp) (pass : Bool) (s : State) : Kept s (opSlice o pass s) := by
  unfold opSlice; repeat' first | (with_reducible exact .refl _) | (simp [Kept]; done) | split | simp only []
@[simp] theorem runSlice_kept (pass : Bool) (s : State) : Kept s (runSlice pass s) := by
  unfold runSlice; split
  · simp [Kept]
  · split
    · simp [Kept]
    · split
      · exact cycleSlice_kept _ _
      · simp [Kept]
@[simp] theorem applyBist_kept (ps : List Byte) (s : State) : Kept s (applyBist ps s) := by simp [Kept, applyBist]
@[simp] theorem bootTest_kept (failedBlocks : List (Nat × Nat)) (s : State) : Kept s (bootTest failedBlocks s) := by
  unfold bootTest
  repeat' first
    | (with_reducible exact .refl _)
    | (simp [Kept]; done)
    | split
    | (refine (foldl_kept (fun _ _ => ?_) _ _).trans ?_)
    | simp only []
    | simp [Kept]
/-! ### Of Machine/Diagnosis.lean -/
@[simp] theorem quietLoop_kept (l : Nat) (s : State) : Kept s (quietLoop l s) := by
  unfold quietLoop
  repeat' first
    | (with_reducible exact .refl _)
    | (simp [Kept]; done)
    | split
    | (refine (foldl_kept (fun _ _ => ?_) _ _).trans ?_)
    | simp only []
    | simp [Kept]
@[simp] theorem enumFrom_kept (r : EnumRun) (s : State) : Kept s (enumFrom r s) := by
  unfold enumFrom
  repeat' first
    | (with_reducible exact .refl _)
    | (simp [Kept]; done)
    | split
    | (refine (foldl_kept (fun _ _ => ?_) _ _).trans ?_)
    | simp only []
    | simp [Kept]
@[simp] theorem enumNext_kept (r : EnumRun) (s : State) : Kept s (enumNext r s) := by
  unfold enumNext; split
  · simp [Kept]
  · rename_i l rest _
    have h := enumerateLoop_kept l s
    simp only []
    generalize enumerateLoop l s = s1 at *
    repeat' split
    · exact h
    · exact (completeOp_kept _ _ _ _ _).trans h
    · exact (enumFrom_kept _ _).trans h
@[simp] theorem enumAdvance_kept (s : State) : Kept s (enumAdvance s) := by
  unfold enumAdvance
  repeat' first
    | (with_reducible exact .refl _)
    | (simp [Kept]; done)
    | split
    | (refine (foldl_kept (fun _ _ => ?_) _ _).trans ?_)
    | simp only []
    | simp [Kept]
@[simp] theorem setAge_kept (e : Nat) (v : Nat) (s : State) : Kept s (setAge e v s) := by simp [Kept, setAge]
@[simp] theorem startAges_kept (from_ : Nat) (s : State) : Kept s (startAges from_ s) := by
  unfold startAges
  repeat' first
    | (with_reducible exact .refl _)
    | (simp [Kept]; done)
    | split
    | (refine (foldl_kept (fun _ _ => ?_) _ _).trans ?_)
    | simp only []
    | simp [Kept]
@[simp] theorem resetAges_kept (s : State) : Kept s (resetAges s) := by simp [Kept, resetAges]
@[simp] theorem extendAges_kept (s : State) : Kept s (extendAges s) := by
  unfold extendAges
  repeat' first
    | (with_reducible exact .refl _)
    | (simp [Kept]; done)
    | split
    | (refine (foldl_kept (fun _ _ => ?_) _ _).trans ?_)
    | simp only []
    | simp [Kept]
@[simp] theorem senseRead_kept (l : Nat) (c : Nat) (codes : List (Nat × Nat)) (since : Option Nat) (x : Sensed) (s : State) : Kept s (senseRead l c codes since x s) := by
  unfold senseRead
  repeat' first
    | (with_reducible exact .refl _)
    | (simp [Kept]; done)
    | split
    | (refine (foldl_kept (fun _ _ => ?_) _ _).trans ?_)
    | simp only []
    | simp [Kept]
@[simp] theorem fireCells_kept (l : Nat) (s : State) : Kept s (fireCells l s) := by
  unfold fireCells
  repeat' first
    | (with_reducible exact .refl _)
    | (simp [Kept]; done)
    | split
    | (refine (foldl_kept (fun _ _ => ?_) _ _).trans ?_)
    | simp only []
    | simp [Kept]
@[simp] theorem readDiagMap_kept (l c : Nat) (s : State) : Kept s (readDiagMap l c s) := by
  unfold readDiagMap
  repeat' first
    | (with_reducible exact .refl _)
    | (simp [Kept]; done)
    | split
    | (refine (foldl_kept (fun _ _ => ?_) _ _).trans ?_)
    | simp only []
    | simp [Kept]
@[simp] theorem grantPulses_kept (who : Requester) (window : Nat) (draw : Nat → Nat) (s : State) : Kept s (grantPulses who window draw s) := by
  unfold grantPulses
  repeat' first
    | (with_reducible exact .refl _)
    | (simp [Kept]; done)
    | split
    | (refine (foldl_kept (fun _ _ => ?_) _ _).trans ?_)
    | simp only []
    | simp [Kept]
@[simp] theorem sendEntry_kept (who : Requester) (l : Nat) (c : Nat) (n : CellEntry) (draw : Nat → Nat) (s : State) : Kept s (sendEntry who l c n draw s) := by
  unfold sendEntry
  repeat' first
    | (with_reducible exact .refl _)
    | (simp [Kept]; done)
    | split
    | (refine (foldl_kept (fun _ _ => ?_) _ _).trans ?_)
    | simp only []
    | simp [Kept]
@[simp] theorem shortBall_kept (p : Nat) (i : Nat) (s : State) : Kept s (shortBall p i s) := by
  unfold shortBall
  repeat' first
    | (with_reducible exact .refl _)
    | (simp [Kept]; done)
    | split
    | (refine (foldl_kept (fun _ _ => ?_) _ _).trans ?_)
    | simp only []
    | simp [Kept]
@[simp] theorem testBalls_kept (p : Nat) (s : State) : Kept s (testBalls p s) := by
  unfold testBalls; simp only []; repeat' split
  · exact (shortBall_kept _ _ _).trans (shortBall_kept _ _ _)
  · exact shortBall_kept _ _ _
  · exact shortBall_kept _ _ _
  · exact .refl _
@[simp] theorem ballRun_kept (p : Nat) (s : State) : Kept s (ballRun p s) := by
  unfold ballRun; simp only []; split <;> split <;> simp [Kept]
@[simp] theorem beginDiag_kept (r : Req) (s : State) : Kept s (beginDiag r s) := by
  unfold beginDiag
  repeat' first
    | (with_reducible exact .refl _)
    | (simp [Kept]; done)
    | split
    | (refine (foldl_kept (fun _ _ => ?_) _ _).trans ?_)
    | simp only []
    | simp [Kept]
theorem diagRow_kept (x : Nat × Nat × Nat) (a : DiagRun × State) : Kept a.2 (diagRow x a).2 := by
  unfold diagRow; simp only []; repeat' split
  all_goals first | exact .refl _ | exact sendEntry_kept _ _ _ _ _ _
@[simp] theorem sendRows_kept (d : DiagRun) (s : State) : Kept s (sendRows d s).2 :=
  foldl_kept2 (fun _ _ => diagRow_kept _ _) _ _
@[simp] theorem sendDiag_kept (s : State) : Kept s (sendDiag s) := by
  unfold sendDiag
  repeat' first
    | (with_reducible exact .refl _)
    | (simp [Kept]; done)
    | split
    | (refine (foldl_kept (fun _ _ => ?_) _ _).trans ?_)
    | simp only []
    | simp [Kept]
@[simp] theorem readRun_kept (d : DiagRun) (s : State) : Kept s (readRun d s).2 := by
  refine foldl_kept2 (fun a x => ?_) _ _
  repeat' split
  · exact .refl _
  · exact readDiagMap_kept _ _ _
  · exact .refl _
@[simp] theorem diagStep_kept (d : DiagRun) (s : State) : Kept s (diagStep d s).2 := by
  unfold diagStep
  repeat' first
    | (with_reducible exact .refl _)
    | (simp [Kept]; done)
    | split
    | (refine (foldl_kept (fun _ _ => ?_) _ _).trans ?_)
    | simp only []
    | simp [Kept]
@[simp] theorem diagAdvance_kept (s : State) : Kept s (diagAdvance s) := by
  unfold diagAdvance
  repeat' first
    | (with_reducible exact .refl _)
    | (simp [Kept]; done)
    | split
    | (refine (foldl_kept (fun _ _ => ?_) _ _).trans ?_)
    | simp only []
    | simp [Kept]
@[simp] theorem applyTwinkle_kept (ps : List Byte) (s : State) : Kept s (applyTwinkle ps s) := by simp [Kept, applyTwinkle]
@[simp] theorem sweepEmitter_kept (n : Nat) (q : Placed) (complete : Bool) (e : Nat) (p : Nat) (c : Nat) (s : State) : Kept s (sweepEmitter n q complete e p c s) := by unfold sweepEmitter; split <;> simp [Kept]
@[simp] theorem reportOverdue_kept (n : Nat) (s : State) : Kept s (reportOverdue n s) := by unfold reportOverdue; split <;> simp [Kept]
@[simp] theorem sweepAges_kept (s : State) : Kept s (sweepAges s) := by
  unfold sweepAges
  repeat' first
    | (with_reducible exact .refl _)
    | (simp [Kept]; done)
    | split
    | (refine (foldl_kept (fun _ _ => ?_) _ _).trans ?_)
    | simp only []
    | simp [Kept]
@[simp] theorem twinkleRow_kept (q : Placed) (row : Nat) (s : State) : Kept s (twinkleRow q row s) := by
  unfold twinkleRow; repeat' first | (with_reducible exact .refl _) | (simp [Kept]; done) | split | simp only []
@[simp] theorem sweepEntry_kept (x : Nat × Nat × Nat) (s : State) : Kept s (sweepEntry x s) := by
  unfold sweepEntry
  repeat' first
    | (with_reducible exact .refl _)
    | (simp [Kept]; done)
    | split
    | (refine (foldl_kept (fun _ _ => ?_) _ _).trans ?_)
    | simp only []
    | simp [Kept]
@[simp] theorem sendSweep_kept (s : State) : Kept s (sendSweep s) := by
  unfold sendSweep
  repeat' first
    | (with_reducible exact .refl _)
    | (simp [Kept]; done)
    | split
    | (refine (foldl_kept (fun _ _ => ?_) _ _).trans ?_)
    | simp only []
    | simp [Kept]
/-! ### Of Machine/Dram.lean -/
@[simp] theorem loseWords_kept (a : Nat) (n : Nat) (s : State) : Kept s (loseWords a n s) := by
  unfold loseWords
  repeat' first
    | (with_reducible exact .refl _)
    | (simp [Kept]; done)
    | split
    | (refine (foldl_kept (fun _ _ => ?_) _ _).trans ?_)
    | simp only []
    | simp [Kept]
@[simp] theorem loseBank_kept (k : Nat) (s : State) : Kept s (loseBank k s) := by unfold loseBank; split <;> simp [Kept]
@[simp] theorem rebuildInUse_kept (k : Nat) (a : Nat) (s : State) : Kept s (rebuildInUse k a s) := by unfold rebuildInUse; split <;> simp [Kept]
@[simp] theorem rebuildAging_kept (a : Nat) (s : State) : Kept s (rebuildAging a s) := by simp [Kept, rebuildAging]
@[simp] theorem rebuildView_kept (a : Nat) (s : State) : Kept s (rebuildView a s) := by
  unfold rebuildView
  repeat' first
    | (with_reducible exact .refl _)
    | (simp [Kept]; done)
    | split
    | (refine (foldl_kept (fun _ _ => ?_) _ _).trans ?_)
    | simp only []
    | simp [Kept]
@[simp] theorem rebuildPool_kept (a : Nat) (s : State) : Kept s (rebuildPool a s) := by
  unfold rebuildPool
  repeat' first
    | (with_reducible exact .refl _)
    | (simp [Kept]; done)
    | split
    | (refine (foldl_kept (fun _ _ => ?_) _ _).trans ?_)
    | simp only []
    | simp [Kept]
@[simp] theorem rebuildRow_kept (a : Nat) (s : State) : Kept s (rebuildRow a s) := by
  unfold rebuildRow; repeat' split
  all_goals first
    | (with_reducible exact .refl _) | (with_reducible exact rebuildInUse_kept _ _ _) | (with_reducible exact loseBank_kept _ _)
    | (with_reducible exact rebuildAging_kept _ _) | (with_reducible exact rebuildView_kept _ _) | (with_reducible exact rebuildPool_kept _ _)
@[simp] theorem remapRow_kept (die : Nat) (row : Nat) (s : State) : Kept s (remapRow die row s) := by unfold remapRow; split <;> simp [Kept]
@[simp] theorem writeBack_kept (w : Nat) (d : BitVec 64) (s : State) : Kept s (writeBack w d s) := by
  unfold writeBack
  repeat' first
    | (with_reducible exact .refl _)
    | (simp [Kept]; done)
    | split
    | (refine (foldl_kept (fun _ _ => ?_) _ _).trans ?_)
    | simp only []
    | simp [Kept]
@[simp] theorem noteCorrection_kept (w : Nat) (s : State) : Kept s (noteCorrection w s) := by
  unfold noteCorrection
  repeat' first
    | (with_reducible exact .refl _)
    | (simp [Kept]; done)
    | split
    | (refine (foldl_kept (fun _ _ => ?_) _ _).trans ?_)
    | simp only []
    | simp [Kept]
@[simp] theorem takeRead_kept (w : Nat) (r : EccRead) (s : State) : Kept s (takeRead w r s) := by
  unfold takeRead
  repeat' first
    | (with_reducible exact .refl _)
    | (simp [Kept]; done)
    | split
    | (refine (foldl_kept (fun _ _ => ?_) _ _).trans ?_)
    | simp only []
    | simp [Kept]
@[simp] theorem readDram_kept (addr : Nat) (flips : List (Fin 72)) (s : State) : Kept s (readDram addr flips s) := by
  unfold readDram
  repeat' first
    | (with_reducible exact .refl _)
    | (simp [Kept]; done)
    | split
    | (refine (foldl_kept (fun _ _ => ?_) _ _).trans ?_)
    | simp only []
    | simp [Kept]
@[simp] theorem scrubDram_kept (s : State) : Kept s (scrubDram s) := by
  unfold scrubDram
  repeat' first
    | (with_reducible exact .refl _)
    | (simp [Kept]; done)
    | split
    | (refine (foldl_kept (fun _ _ => ?_) _ _).trans ?_)
    | simp only []
    | simp [Kept]
@[simp] theorem scrubAdvance_kept (s : State) : Kept s (scrubAdvance s) := by
  unfold scrubAdvance
  repeat' first
    | (with_reducible exact .refl _)
    | (simp [Kept]; done)
    | split
    | (refine (foldl_kept (fun _ _ => ?_) _ _).trans ?_)
    | simp only []
    | simp [Kept]

end Sys2Proof.Machine
end

