-- ==== Sys2Proof/Laws/KeptSystem.lean ====
section
/-! SUPPORT. Of each operation that leaves the fuses, the queue, the output pairs and the lengths of the fixed tables as they are,
of the stores, the time, the power, the register space and the boundary: that it does. A proof cites the lemma and does not unfold the operation. -/

namespace Sys2Proof.Machine
/-! ### Of Machine/Check.lean -/
@[simp] theorem modCheck_kept (u : Nat) (f : CheckUnit → CheckUnit) (s : State) : Kept s (modCheck u f s) := by simp [Kept, modCheck]
@[simp] theorem checkWrite_kept (u : Nat) (f : CheckUnit → CheckUnit) (s : State) : Kept s (checkWrite u f s) := by
  unfold checkWrite; repeat' first | (with_reducible exact .refl _) | (simp [Kept]; done) | split
@[simp] theorem releaseCheck_kept (u : Nat) (s : State) : Kept s (releaseCheck u s) := by simp [Kept, releaseCheck]
@[simp] theorem abortCheckRun_kept (u : Nat) (x : CheckRun) (s : State) : Kept s (abortCheckRun u x s) := by simp [Kept, abortCheckRun]
@[simp] theorem finishCheckRun_kept (u : Nat) (x : CheckRun) (s : State) : Kept s (finishCheckRun u x s) := by simp [Kept, finishCheckRun]
/-! ### Of Machine/Flash.lean -/
@[simp] theorem setIdentity_kept (d : List Byte) (s : State) : Kept s (setIdentity d s) := by simp [Kept, setIdentity]
@[simp] theorem loadCheckpoint_kept (d : List Byte) (s : State) : Kept s (loadCheckpoint d s) := by simp [Kept, loadCheckpoint]
@[simp] theorem noCheckpoint_kept (s : State) : Kept s (noCheckpoint s) := by simp [Kept, noCheckpoint]
@[simp] theorem queueCheckpoint_kept (use : FlashUse) (op : Option (Source × Nat)) (s : State) : Kept s (queueCheckpoint use op s) := by simp [Kept, queueCheckpoint]
@[simp] theorem afterCheckpoint_kept (before : Option Nat) (s : State) : Kept s (afterCheckpoint before s) := by simp [Kept, afterCheckpoint]
@[simp] theorem setSlot_kept (k : Nat) (x : SlotState) (s : State) : Kept s (setSlot k x s) := by simp [Kept, setSlot]
@[simp] theorem takeVersion_kept (s : State) : Kept s (takeVersion s) := by
  unfold takeVersion
  repeat' first
    | (with_reducible exact .refl _)
    | (simp [Kept]; done)
    | split
    | (refine (foldl_kept (fun _ _ => ?_) _ _).trans ?_)
    | simp only []
    | simp [Kept]
@[simp] theorem finishImage_kept (w : FlashWrite) (s : State) : Kept s (finishImage w s) := by
  unfold finishImage; repeat' first | (with_reducible exact .refl _) | (simp [Kept]; done) | split | simp only []
@[simp] theorem nvmEffect_kept (w : FlashWrite) (s : State) : Kept s (nvmEffect w s) := by
  unfold nvmEffect; repeat' first | (with_reducible exact .refl _) | (simp [Kept]; done) | split | simp only []
@[simp] theorem commitEffect_kept (w : FlashWrite) (before : Option Nat) (s : State) : Kept s (commitEffect w before s) := by
  unfold commitEffect; repeat' first | (with_reducible exact .refl _) | (simp [Kept]; done) | split | simp only []
@[simp] theorem nextFlash_kept (s : State) : Kept s (nextFlash s) := by simp [Kept, nextFlash]
@[simp] theorem commitFront_kept (w : FlashWrite) (s : State) : Kept s (commitFront w s) := by unfold commitFront; split <;> simp [Kept]
@[simp] theorem failWrite_kept (w : FlashWrite) (s : State) : Kept s (failWrite w s) := by
  unfold failWrite; repeat' first | (with_reducible exact .refl _) | (simp [Kept]; done) | split | simp only []
@[simp] theorem tearFront_kept (s : State) : Kept s (tearFront s) := by
  unfold tearFront; repeat' first | (with_reducible exact .refl _) | (simp [Kept]; done) | split | simp only []
@[simp] theorem scanJournal_kept (s : State) : Kept s (scanJournal s) := by
  unfold scanJournal; repeat' first | (with_reducible exact .refl _) | (simp [Kept]; done) | split | simp only []
@[simp] theorem compact_kept (s : State) : Kept s (compact s) := by
  unfold compact
  repeat' first
    | (with_reducible exact .refl _)
    | (simp [Kept]; done)
    | split
    | (refine (foldl_kept (fun _ _ => ?_) _ _).trans ?_)
    | simp only []
    | simp [Kept]
@[simp] theorem overrunCheckpoint_kept (s : State) : Kept s (overrunCheckpoint s) := by unfold overrunCheckpoint; split <;> simp [Kept]
@[simp] theorem missObject_kept (type : Nat) (key : Nat) (s : State) : Kept s (missObject type key s) := by
  unfold missObject; repeat' first | (with_reducible exact .refl _) | (simp [Kept]; done) | split | simp only []
@[simp] theorem loseDouble_kept (type : Nat) (e : JEntry) (s : State) : Kept s (loseDouble type e s) := by
  unfold loseDouble
  repeat' first
    | (with_reducible exact .refl _)
    | (simp [Kept]; done)
    | split
    | (refine (foldl_kept (fun _ _ => ?_) _ _).trans ?_)
    | simp only []
    | simp [Kept]
@[simp] theorem scrubObject_kept (both : Bool) (x : Nat × Nat) (s : State) : Kept s (scrubObject both x s) := by
  unfold scrubObject loseDouble; repeat' first | (with_reducible exact .refl _) | (simp [Kept]; done) | split | simp only []
@[simp] theorem nvmReceived_kept (req : Req) (d : List Byte) (s : State) : Kept s (nvmReceived req d s) := by
  unfold nvmReceived; repeat' first | (with_reducible exact .refl _) | (simp [Kept]; done) | split | simp only []
@[simp] theorem imageReceived_kept (req : Req) (d : List Byte) (s : State) : Kept s (imageReceived req d s) := by simp [Kept, imageReceived]
@[simp] theorem switchSlot_kept (s : State) : Kept s (switchSlot s) := by simp [Kept, switchSlot]
@[simp] theorem activateImage_kept (s : State) : Kept s (activateImage s) := by simp [Kept, activateImage]
@[simp] theorem revertImage_kept (s : State) : Kept s (revertImage s) := by unfold revertImage; split <;> simp [Kept]
@[simp] theorem revertSlot_kept (s : State) : Kept s (revertSlot s) := by unfold revertSlot; split <;> simp [Kept]
/-! ### Of Machine/Streams.lean -/
@[simp] theorem sendReport_kept (p : NetPort) (group : Nat) (source : Nat) (join : Bool) (s : State) : Kept s (sendReport p group source join s) := by unfold sendReport; split <;> simp [Kept]
@[simp] theorem changeReport_kept (p : NetPort) (group : Nat) (source : Nat) (join : Bool) (s : State) : Kept s (changeReport p group source join s) := by simp [Kept, changeReport]
@[simp] theorem joinPath_kept (h : Nat) (p : NetPort) (x : Path) (s : State) : Kept s (joinPath h p x s) := by unfold joinPath; split <;> simp [Kept]
@[simp] theorem leaveGroups_kept (h : Nat) (s : State) : Kept s (leaveGroups h s) := by
  unfold leaveGroups
  repeat' first
    | (with_reducible exact .refl _)
    | (simp [Kept]; done)
    | split
    | (refine (foldl_kept (fun _ _ => ?_) _ _).trans ?_)
    | simp only []
    | simp [Kept]
@[simp] theorem applyStream_kept (ps : List Byte) (s : State) : Kept s (applyStream ps s) := by simp [Kept, applyStream]
@[simp] theorem dropStream_kept (h : Nat) (s : State) : Kept s (dropStream h s) := by
  unfold dropStream
  repeat' first
    | (with_reducible exact .refl _)
    | (simp [Kept]; done)
    | split
    | (refine (foldl_kept (fun _ _ => ?_) _ _).trans ?_)
    | simp only []
    | simp [Kept]
@[simp] theorem completeFrame_kept (h : Nat) (s : State) : Kept s (completeFrame h s) := by
  unfold completeFrame; repeat' first | (with_reducible exact .refl _) | (simp [Kept]; done) | split | simp only []
@[simp] theorem setStream_kept (h : Nat) (st : Stream) (s : State) : Kept s (setStream h st s) := by simp [Kept, setStream]
@[simp] theorem openFrame_kept (h : Nat) (key : Nat) (st : Stream) (s : State) : Kept s (openFrame h key st s) := by
  unfold openFrame; repeat' first | (with_reducible exact .refl _) | (simp [Kept]; done) | split | simp only []
@[simp] theorem dropPacket_kept (h : Nat) (st : Stream) (s : State) : Kept s (dropPacket h st s) := by simp [Kept, dropPacket]
@[simp] theorem malformedPacket_kept (h : Nat) (st : Stream) (s : State) : Kept s (malformedPacket h st s) := by simp [Kept, malformedPacket]
@[simp] theorem strayWrite_kept (h : Nat) (s : State) : Kept s (strayWrite h s) := by simp [Kept, strayWrite]
@[simp] theorem writePacket_kept (h : Nat) (st : Stream) (g : Ingest) (s : State) : Kept s (writePacket h st g s) := by
  unfold writePacket; repeat' first | (with_reducible exact .refl _) | (simp [Kept]; done) | split | simp only []
@[simp] theorem takePacket_kept (h : Nat) (g : Ingest) (s : State) : Kept s (takePacket h g s) := by
  unfold takePacket; simp only []
  repeat' split
  all_goals simp [Kept]
@[simp] theorem takeSt2110_kept (p : NetPort) (h : Nat) (payload : List Byte) (full : Bool) (s : State) : Kept s (takeSt2110 p h payload full s) := by
  unfold takeSt2110
  repeat' first
    | (with_reducible exact .refl _)
    | (simp [Kept]; done)
    | split
    | (refine (foldl_kept (fun _ _ => ?_) _ _).trans ?_)
    | simp only []
    | simp [Kept]
@[simp] theorem takeNative_kept (p : NetPort) (h : Nat) (payload : List Byte) (full : Bool) (s : State) : Kept s (takeNative p h payload full s) := by
  unfold takeNative
  repeat' first
    | (with_reducible exact .refl _)
    | (simp [Kept]; done)
    | split
    | (refine (foldl_kept (fun _ _ => ?_) _ _).trans ?_)
    | simp only []
    | simp [Kept]
@[simp] theorem takeQuery_kept (p : NetPort) (version : Nat) (group : Nat) (robustness : Nat) (queryInterval : Nat) (s : State) : Kept s (takeQuery p version group robustness queryInterval s) := by
  unfold takeQuery
  repeat' first
    | (with_reducible exact .refl _)
    | (simp [Kept]; done)
    | split
    | (refine (foldl_kept (fun _ _ => ?_) _ _).trans ?_)
    | simp only []
    | simp [Kept]
@[simp] theorem snoopReport_kept (p : NetPort) (group : Nat) (s : State) : Kept s (snoopReport p group s) := by simp [Kept, snoopReport]
/-! ### Of Machine/HouseTime.lean -/
@[simp] theorem takeAnnounce_kept (p : NetPort) (a : Announce) (s : State) : Kept s (takeAnnounce p a s) := by unfold takeAnnounce; split <;> simp [Kept]
@[simp] theorem loseMasters_kept (p : NetPort) (s : State) : Kept s (loseMasters p s) := by simp [Kept, loseMasters]
@[simp] theorem steer_kept (θ : Rat) (s : State) : Kept s (steer θ s) := by simp [Kept, steer]
@[simp] theorem discardSample_kept (s : State) : Kept s (discardSample s) := by simp [Kept, discardSample]
@[simp] theorem acceptSample_kept (s : State) : Kept s (acceptSample s) := by simp [Kept, acceptSample]
@[simp] theorem sampleAcquiring_kept (θ : Rat) (s : State) : Kept s (sampleAcquiring θ s) := by
  unfold sampleAcquiring; repeat' first | (with_reducible exact .refl _) | (simp [Kept]; done) | split | simp only []
@[simp] theorem sampleLocked_kept (θ : Rat) (s : State) : Kept s (sampleLocked θ s) := by
  unfold sampleLocked; repeat' first | (with_reducible exact .refl _) | (simp [Kept]; done) | split | simp only []
@[simp] theorem sampleHoldover_kept (θ : Rat) (s : State) : Kept s (sampleHoldover θ s) := by unfold sampleHoldover; split <;> simp [Kept]
@[simp] theorem takeOffset_kept (t : PtpTimes) (t2 : Int) (t3 : Int) (s : State) : Kept s (takeOffset t t2 t3 s) := by
  unfold takeOffset
  repeat' first
    | (with_reducible exact .refl _)
    | (simp [Kept]; done)
    | split
    | (refine (foldl_kept (fun _ _ => ?_) _ _).trans ?_)
    | simp only []
    | simp [Kept]
@[simp] theorem applyTime_kept (ps : List Byte) (s : State) : Kept s (applyTime ps s) := by simp [Kept, applyTime]
@[simp] theorem removeEntry_kept (e : EphEntry) (s : State) : Kept s (removeEntry e s) := by
  unfold removeEntry
  repeat' first
    | (with_reducible exact .refl _)
    | (simp [Kept]; done)
    | split
    | (refine (foldl_kept (fun _ _ => ?_) _ _).trans ?_)
    | simp only []
    | simp [Kept]
/-! ### Of Machine/Wake.lean -/
@[simp] theorem setRtc_kept (v : Nat) (s : State) : Kept s (setRtc v s) := by simp [Kept, setRtc]
@[simp] theorem startWake_kept (code : Nat) (latched : Nat) (s : State) : Kept s (startWake code latched s) := by simp [Kept, startWake]
@[simp] theorem leaveTwilight_kept (s : State) : Kept s (leaveTwilight s) := by simp [Kept, leaveTwilight]
@[simp] theorem wakeBy_kept (w : WakeSource) (s : State) : Kept s (wakeBy w s) := by
  unfold wakeBy; repeat' first | (with_reducible exact .refl _) | (simp [Kept]; done) | split | simp only []
/-! ### Of Machine/Power.lean -/
@[simp] theorem setLevel_kept (k : Nat) (s : State) : Kept s (setLevel k s) := by simp [Kept, setLevel]
@[simp] theorem noteDemand_kept (s : State) : Kept s (noteDemand s) := by simp [Kept, noteDemand]
@[simp] theorem changeLevel_kept (s : State) : Kept s (changeLevel s) := by
  unfold changeLevel; repeat' first | (with_reducible exact .refl _) | (simp [Kept]; done) | split | simp only []
@[simp] theorem dropDomains_kept (s : State) : Kept s (dropDomains s) := by unfold dropDomains; split <;> simp [Kept]
@[simp] theorem castVote_kept (src : Source) (action : Nat) (mask : Nat) (s : State) : Kept s (castVote src action mask s) := by unfold castVote; split <;> simp [Kept]
@[simp] theorem armWakes_kept (r : Req) (s : State) : Kept s (armWakes r s) := by simp [Kept, armWakes]
@[simp] theorem queueOrderly_kept (s : State) : Kept s (queueOrderly s) := by simp [Kept, queueOrderly]
@[simp] theorem enterNadir_kept (r : Req) (orderly : Bool) (s : State) : Kept s (enterNadir r orderly s) := by unfold enterNadir; split <;> simp [Kept]
@[simp] theorem alreadyThere_kept (r : Req) (s : State) : Kept s (alreadyThere r s).1 := by
  unfold alreadyThere
  repeat' first
    | (with_reducible exact .refl _)
    | (simp [Kept]; done)
    | split
    | (refine (foldl_kept (fun _ _ => ?_) _ _).trans ?_)
    | simp only []
    | simp [Kept]
@[simp] theorem finishPowerOp_kept (status : Nat) (s : State) : Kept s (finishPowerOp status s) := by unfold finishPowerOp; split <;> simp [Kept]
@[simp] theorem quietPorts_kept (s : State) : Kept s (quietPorts s) := by simp [Kept, quietPorts]
@[simp] theorem endTwilightEntry_kept (s : State) : Kept s (endTwilightEntry s) := by simp [Kept, endTwilightEntry]
@[simp] theorem restModels_kept (s : State) : Kept s (restModels s) := by simp [Kept, restModels]
@[simp] theorem endNadirEntry_kept (s : State) : Kept s (endNadirEntry s) := by
  unfold endNadirEntry; repeat' first | (with_reducible exact .refl _) | (simp [Kept]; done) | split | simp only []
@[simp] theorem leaveAllGroups_kept (s : State) : Kept s (leaveAllGroups s) := by
  unfold leaveAllGroups
  repeat' first
    | (with_reducible exact .refl _)
    | (simp [Kept]; done)
    | split
    | (refine (foldl_kept (fun _ _ => ?_) _ _).trans ?_)
    | simp only []
    | simp [Kept]
@[simp] theorem nextWakeStep_kept (s : State) : Kept s (nextWakeStep s) := by
  unfold nextWakeStep; repeat' first | (with_reducible exact .refl _) | (simp [Kept]; done) | split | simp only []
@[simp] theorem failWakeStep_kept (s : State) : Kept s (failWakeStep s) := by unfold failWakeStep; split <;> simp [Kept]
@[simp] theorem rejoinGroups_kept (s : State) : Kept s (rejoinGroups s) := by
  unfold rejoinGroups; generalize List.range 8 = l; exact foldl_kept (fun t h => by split <;> simp [Kept]) _ _
@[simp] theorem finishWake_kept (s : State) : Kept s (finishWake s) := by simp [Kept, finishWake]
/-! ### Of Machine/SafetyBlock.lean -/
@[simp] theorem endActuation_kept (before : State) (s : State) : Kept s (endActuation before s) := by
  unfold endActuation
  repeat' first
    | (with_reducible exact .refl _)
    | (simp [Kept]; done)
    | split
    | (refine (foldl_kept (fun _ _ => ?_) _ _).trans ?_)
    | simp only []
    | simp [Kept]
@[simp] theorem reportPairs_kept (before : State) (s : State) : Kept s (reportPairs before s) := by
  unfold reportPairs
  repeat' first
    | (with_reducible exact .refl _)
    | (simp [Kept]; done)
    | split
    | (refine (foldl_kept (fun _ _ => ?_) _ _).trans ?_)
    | simp only []
    | simp [Kept]
/-! ### Of Machine/Trim.lean -/
@[simp] theorem applyTrimSet_kept (t kept : TrimSet) (s : State) : Kept s (applyTrimSet t kept s) := by
  unfold applyTrimSet
  simp only []
  refine Kept.trans (enqueueFlash_kept _ _) ?_
  refine Kept.trans (foldl_kept (fun u p => stageTrim_kept _ _ _) _ _) ?_
  simp [Kept]
@[simp] theorem applyTrims_kept (ps : List Byte) (s : State) : Kept s (applyTrims ps s) := by unfold applyTrims; split <;> simp [Kept]
@[simp] theorem endCalibrate_kept (x : CalRun) (s : State) : Kept s (endCalibrate x s) := by
  unfold endCalibrate; repeat' first | (with_reducible exact .refl _) | (simp [Kept]; done) | split | simp only []
@[simp] theorem sendRowPulses_kept (k rail colour row : Nat) (s : State) : Kept s (sendRowPulses k rail colour row s) :=
  foldl_kept (fun _ _ => sendEntry_kept ..) _ _
@[simp] theorem sendPulses_kept (k rail colour : Nat) (s : State) : Kept s (sendPulses k rail colour s) := by
  unfold sendPulses
  repeat' first
    | (with_reducible exact .refl _)
    | (simp [Kept]; done)
    | split
    | (refine (foldl_kept (fun _ _ => ?_) _ _).trans ?_)
    | simp only []
    | simp [Kept]
@[simp] theorem askPulses_kept (rail : Nat) (s : State) : Kept s (askPulses rail s).1 := by
  unfold askPulses
  repeat' first
    | (with_reducible exact .refl _)
    | (simp [Kept]; done)
    | split
    | (refine (foldl_kept (fun _ _ => ?_) _ _).trans ?_)
    | simp only []
    | simp [Kept]
@[simp] theorem modCal_kept (f : CalRun → CalRun) (s : State) : Kept s (modCal f s) := by simp [Kept, modCal]
@[simp] theorem afterSlice_kept (x : CalRun) (s : State) : Kept s (afterSlice x s) := by unfold afterSlice; split <;> simp [Kept]
@[simp] theorem calSlice_kept (x : CalRun) (m : CalMeasure) (s : State) : Kept s (calSlice x m s) := by
  have step : ∀ y u, Kept s u → Kept s (afterSlice y u) := fun y u h => (afterSlice_kept y u).trans h
  unfold calSlice; simp only []
  refine kept_ite (stopCalibration_kept _ _) <| kept_ite (.refl _) <| kept_ite (endCalibrate_kept _ _) <|
    kept_ite (step _ _ (.refl _)) <| kept_ite (.refl _) <| kept_ite (.refl _) <| kept_ite (step _ _ (.refl _)) <|
    kept_ite (kept_ite (step _ _ (askPulses_kept _ _)) ?_) (step _ _ (.refl _))
  split
  · exact kept_ite ((stopCalibration_kept _ _).trans (askPulses_kept _ _)) (askPulses_kept _ _)
  · exact askPulses_kept _ _
@[simp] theorem loadTrims_kept (s : State) : Kept s (loadTrims s) := by simp [Kept, loadTrims]
@[simp] theorem bootCalibrate_kept (ms : List CalMeasure) (s : State) : Kept s (bootCalibrate ms s) := by
  unfold bootCalibrate; repeat' first | (with_reducible exact .refl _) | (simp [Kept]; done) | split | simp only []
/-! ### Of Machine/Registers.lean -/
@[simp] theorem writePortConfig_kept (p : NetPort) (v : Nat) (s : State) : Kept s (writePortConfig p v s) := by
  unfold writePortConfig; repeat' first | (with_reducible exact .refl _) | (simp [Kept]; done) | split | simp only []
@[simp] theorem writeCheckReg_kept (u : Nat) (off : Nat) (v : Nat) (s : State) : Kept s (writeCheckReg u off v s) := by simp [Kept, writeCheckReg]
@[simp] theorem writeReg_kept (x : Reg) (byRegWrite : Bool) (auth : Bool) (v : Nat) (s : State) : Kept s (writeReg x byRegWrite auth v s) := by
  unfold writeReg; repeat' first | (with_reducible exact .refl _) | (simp [Kept]; done) | split | simp only []
@[simp] theorem windowWord_kept (a : Nat) (v : Nat) (byRegWrite : Bool) (auth : Bool) (s : State) : Kept s (windowWord a v byRegWrite auth s) := by
  unfold windowWord; repeat' first | (with_reducible exact .refl _) | (simp [Kept]; done) | split | simp only []
@[simp] theorem beginTransaction_kept (s : State) : Kept s (beginTransaction s) := by simp [Kept, beginTransaction]
@[simp] theorem endTransaction_kept (fault : Bool) (s : State) : Kept s (endTransaction fault s) := by simp [Kept, endTransaction]
@[simp] theorem windowWords_kept (a : Nat) (ws : List Word) (s : State) : Kept s (windowWords a ws s) := by
  unfold windowWords
  repeat' first
    | (with_reducible exact .refl _)
    | (simp [Kept]; done)
    | split
    | (refine (foldl_kept (fun _ _ => ?_) _ _).trans ?_)
    | simp only []
    | simp [Kept]
@[simp] theorem readWord_kept (a : Nat) (s : State) : Kept s (readWord a s) := by
  unfold readWord; repeat' first | (with_reducible exact .refl _) | (simp [Kept]; done) | split | simp only []
/-! ### Of Machine/System.lean -/
@[simp] theorem discardUnits_kept (us : List StagedUnit) (s : State) : Kept s (discardUnits us s) := by
  unfold discardUnits
  repeat' first
    | (with_reducible exact .refl _)
    | (simp [Kept]; done)
    | split
    | (refine (foldl_kept (fun _ _ => ?_) _ _).trans ?_)
    | simp only []
    | simp [Kept]
@[simp] theorem unstageOp_kept (src : Source) (tag : Nat) (s : State) : Kept s (unstageOp src tag s) := by
  unfold unstageOp
  repeat' first
    | (with_reducible exact .refl _)
    | (simp [Kept]; done)
    | split
    | (refine (foldl_kept (fun _ _ => ?_) _ _).trans ?_)
    | simp only []
    | simp [Kept]
@[simp] theorem stopFlash_kept (src : Source) (tag : Nat) (s : State) : Kept s (stopFlash src tag s) := by
  unfold stopFlash; repeat' first | (with_reducible exact .refl _) | (simp [Kept]; done) | split | simp only []
@[simp] theorem stopTransfers_kept (src : Source) (tag : Nat) (s : State) : Kept s (stopTransfers src tag s) := by unfold stopTransfers; simp only []; split <;> simp [Kept]
@[simp] theorem stopWork_kept (o : LongOp) (s : State) : Kept s (stopWork o s) := by
  unfold stopWork
  simp only []
  refine Kept.trans ?_ (stopTransfers_kept o.req.src o.req.tag s)
  generalize stopTransfers o.req.src o.req.tag s = s2
  split
  · split
    · split <;> simp [Kept]
    · simp [Kept]
  · split
    · split <;> simp [Kept]
    · simp [Kept]
  · simp [Kept]
  · simp [Kept]
  · simp [Kept]
  · refine foldl_kept (fun t u => ?_) _ _
    split
    · split <;> simp [Kept]
    · simp [Kept]
  · split
    · split <;> simp [Kept]
    · simp [Kept]
  · simp [Kept]
  · simp [Kept]
@[simp] theorem abortOp_kept (r : Req) (o : LongOp) (s : State) : Kept s (abortOp r o s).1 := by
  unfold abortOp
  repeat' first
    | (with_reducible exact .refl _)
    | (simp [Kept]; done)
    | split
    | (refine (foldl_kept (fun _ _ => ?_) _ _).trans ?_)
    | simp only []
    | simp [Kept]
@[simp] theorem discardHeld_kept (s : State) : Kept s (discardHeld s) := by
  unfold discardHeld
  repeat' first
    | (with_reducible exact .refl _)
    | (simp [Kept]; done)
    | split
    | (refine (foldl_kept (fun _ _ => ?_) _ _).trans ?_)
    | simp only []
    | simp [Kept]
@[simp] theorem installKey_kept (r : Req) (key : List Byte) (s : State) : Kept s (installKey r key s) := by unfold installKey; split <;> simp [Kept]
@[simp] theorem applyTelemetry_kept (ps : List Byte) (s : State) : Kept s (applyTelemetry ps s) := by simp [Kept, applyTelemetry]
@[simp] theorem sendTelemetry_kept (s : State) : Kept s (sendTelemetry s) := by simp [Kept, sendTelemetry]
/-! ### Of Machine/Record.lean -/
@[simp] theorem flushRecord_kept (s : State) : Kept s (flushRecord s) := by
  unfold flushRecord; repeat' first | (with_reducible exact .refl _) | (simp [Kept]; done) | split | simp only []
@[simp] theorem restoreStream_kept (ps : List Byte) (s : State) : Kept s (restoreStream ps s) := by simp [Kept, restoreStream]
@[simp] theorem applyEntry_kept (n : Nat) (e : Nat × Nat × List Byte) (s : State) : Kept s (applyEntry n e s) := by
  unfold applyEntry
  repeat' first
    | (with_reducible exact .refl _)
    | (simp [Kept]; done)
    | split
    | (refine (foldl_kept (fun _ _ => ?_) _ _).trans ?_)
    | simp only []
    | simp [Kept]
@[simp] theorem applyRecord_kept (n : Nat) (d : List Byte) (s : State) : Kept s (applyRecord n d s) := by
  unfold applyRecord
  repeat' first
    | (with_reducible exact .refl _)
    | (simp [Kept]; done)
    | split
    | (refine (foldl_kept (fun _ _ => ?_) _ _).trans ?_)
    | simp only []
    | simp [Kept]
/-! ### Of Machine/Units.lean -/
@[simp] theorem applyPlain_kept (n : Nat) (u : StagedUnit) (s : State) : Kept s (applyPlain n u s) := by
  unfold applyPlain; simp only []
  cases u.ref.kind <;> simp only []
  case program => exact applyProgram_kept _ _
  case layer => split <;> simp [Kept]
  case trims => unfold applyTrims; split <;> first | exact applyTrimSet_kept _ _ _ | exact .refl _
  all_goals simp [Kept]
@[simp] theorem judgeState_kept (n : Nat) (us : List StagedUnit) (s : State) : Kept s (judgeState n us s) := by
  unfold judgeState
  repeat' first
    | (with_reducible exact .refl _)
    | (simp [Kept]; done)
    | split
    | (refine (foldl_kept (fun _ _ => ?_) _ _).trans ?_)
    | simp only []
    | simp [Kept]
/-! ### Of Machine/Commit.lean -/
@[simp] theorem noteRecord_kept (us : List StagedUnit) (s : State) : Kept s (noteRecord us s) := by simp [Kept, noteRecord]
@[simp] theorem takeHeld_kept (src : Source) (s : State) : Kept s (takeHeld src s) := by simp [Kept, takeHeld]
@[simp] theorem commitUnits_kept (n : Nat) (us later : List StagedUnit) (s : State) : Kept s (commitUnits n us later s).state := by
  unfold commitUnits; simp only []
  split
  · unfold refuseUnits; exact discardUnits_kept _ _
  · split
    · exact Kept.trans (noteRecord_kept _ _) (Kept.trans (refreshTaps_kept _) (foldl_kept (fun _ _ => applyPlain_kept _ _ _) _ _))
    · unfold refuseUnits; exact discardUnits_kept _ _
@[simp] theorem commitOf_kept (n code : Nat) (src : Source) (us later : List StagedUnit) (s : State) : Kept s (commitOf n code src us later s).state := by
  unfold commitOf; refine Kept.trans (commitUnits_kept _ _ _ _) ?_; split <;> simp [Kept]
@[simp] theorem runJob_kept (n : Nat) (later : List StagedUnit) (j : CommitJob) (s : State) : Kept s (runJob n later j s) := by
  have h := commitOf_kept n j.code j.req.src j.units later s
  unfold runJob; simp only []; split
  · exact (completeOp_kept _ _ _ _ _).trans h
  · exact (answer_kept _ _ _ _ _).trans h
@[simp] theorem markEntry_kept (e : EphEntry) (late : Bool) (s : State) : Kept s (markEntry e late s) := by
  unfold markEntry; repeat' first | (with_reducible exact .refl _) | (simp [Kept]; done) | split | simp only []
@[simp] theorem takeSnapshots_kept (n : Nat) (s : State) : Kept s (takeSnapshots n s) := by
  unfold takeSnapshots
  repeat' first
    | (with_reducible exact .refl _)
    | (simp [Kept]; done)
    | split
    | (refine (foldl_kept (fun _ _ => ?_) _ _).trans ?_)
    | simp only []
    | simp [Kept]
/-! ### Of Machine/Boundary.lean -/
@[simp] theorem startWritebacks_kept (n : Nat) (s : State) : Kept s (startWritebacks n s) := by simp [Kept, startWritebacks]
@[simp] theorem latchFrame_kept (n : Nat) (s : State) : Kept s (latchFrame n s) := by simp [Kept, latchFrame]
@[simp] theorem notePlan_kept (n : Nat) (s : State) : Kept s (notePlan n s) := by
  unfold notePlan
  repeat' first
    | (with_reducible exact .refl _)
    | (simp [Kept]; done)
    | split
    | (refine (foldl_kept (fun _ _ => ?_) _ _).trans ?_)
    | simp only []
    | simp [Kept]
@[simp] theorem finishNadir_kept (s : State) : Kept s (finishNadir s) := by simp [Kept, finishNadir]
@[simp] theorem closeNadir_kept (s : State) : Kept s (closeNadir s) := by
  unfold closeNadir; repeat' first | (with_reducible exact .refl _) | (simp [Kept]; done) | split | simp only []
@[simp] theorem fadeStep_kept (s : State) : Kept s (fadeStep s) := by
  unfold fadeStep; repeat' first | (with_reducible exact .refl _) | (simp [Kept]; done) | split | simp only []
@[simp] theorem reloadCheckpoint_kept (s : State) : Kept s (reloadCheckpoint s) := by
  unfold reloadCheckpoint; repeat' first | (with_reducible exact .refl _) | (simp [Kept]; done) | split | simp only []
@[simp] theorem renumberScan_kept (d : Int) (s : State) : Kept s (renumberScan d s) := by
  unfold renumberScan
  repeat' first
    | (with_reducible exact .refl _)
    | (simp [Kept]; done)
    | split
    | (refine (foldl_kept (fun _ _ => ?_) _ _).trans ?_)
    | simp only []
    | simp [Kept]
@[simp] theorem renumber_kept (d : Int) (s : State) : Kept s (renumber d s) := by
  unfold renumber
  repeat' first
    | (with_reducible exact .refl _)
    | (simp [Kept]; done)
    | split
    | (refine (foldl_kept (fun _ _ => ?_) _ _).trans ?_)
    | simp only []
    | simp [Kept]
@[simp] theorem stepCounter_kept (s : State) : Kept s (stepCounter s) := by unfold stepCounter; split <;> simp [Kept]
@[simp] theorem endUploads_kept (s : State) : Kept s (endUploads s) := by
  unfold endUploads
  repeat' first
    | (with_reducible exact .refl _)
    | (simp [Kept]; done)
    | split
    | (refine (foldl_kept (fun _ _ => ?_) _ _).trans ?_)
    | simp only []
    | simp [Kept]
@[simp] theorem abandonWritebacks_kept (s : State) : Kept s (abandonWritebacks s) := by
  unfold abandonWritebacks
  repeat' first
    | (with_reducible exact .refl _)
    | (simp [Kept]; done)
    | split
    | (refine (foldl_kept (fun _ _ => ?_) _ _).trans ?_)
    | simp only []
    | simp [Kept]
@[simp] theorem forgetFrames_kept (s : State) : Kept s (forgetFrames s) := by
  unfold forgetFrames
  repeat' first
    | (with_reducible exact .refl _)
    | (simp [Kept]; done)
    | split
    | (refine (foldl_kept (fun _ _ => ?_) _ _).trans ?_)
    | simp only []
    | simp [Kept]
@[simp] theorem restartFrames_kept (s : State) : Kept s (restartFrames s) :=
  (forgetFrames_kept _).trans ((abandonWritebacks_kept _).trans (endUploads_kept _))
@[simp] theorem followLatency_kept (before : Nat) (s : State) : Kept s (followLatency before s) := by
  unfold followLatency; repeat' split
  all_goals simp [Kept]
@[simp] theorem swapRecast_kept (s : State) : Kept s (swapRecast s) := by
  unfold swapRecast
  repeat' first
    | (with_reducible exact .refl _)
    | (simp [Kept]; done)
    | split
    | (refine (foldl_kept (fun _ _ => ?_) _ _).trans ?_)
    | simp only []
    | simp [Kept]
@[simp] theorem settleFrame_kept (s : State) : Kept s (settleFrame s) := by simp [Kept, settleFrame]
/-! ### Of Machine/Reset.lean -/
@[simp] theorem loseCommands_kept (s : State) : Kept s (loseCommands s) := by simp [Kept, loseCommands]
@[simp] theorem loseWork_kept (s : State) : Kept s (loseWork s) := by
  unfold loseWork; repeat' first | (with_reducible exact .refl _) | (simp [Kept]; done) | split | simp only []
@[simp] theorem abandonNadir_kept (s : State) : Kept s (abandonNadir s) := by unfold abandonNadir; split <;> simp [Kept]
@[simp] theorem stopFirmware_kept (at_ : Nat) (s : State) : Kept s (stopFirmware at_ s) := by simp [Kept, stopFirmware]
@[simp] theorem warmState_kept (at_ : Nat) (s : State) : Kept s (warmState at_ s) := by simp [Kept, warmState]
@[simp] theorem warmReset_kept (s : State) : Kept s (warmReset s) := by simp [Kept, warmReset]
@[simp] theorem reportCrash_kept (core : Nat) (s : State) : Kept s (reportCrash core s) := by
  unfold reportCrash
  repeat' first
    | (with_reducible exact .refl _)
    | (simp [Kept]; done)
    | split
    | (refine (foldl_kept (fun _ _ => ?_) _ _).trans ?_)
    | simp only []
    | simp [Kept]
@[simp] theorem upkeep_kept (s : State) : Kept s (upkeep s) := by
  unfold upkeep
  repeat' first
    | (with_reducible exact .refl _)
    | (simp [Kept]; done)
    | split
    | (refine (foldl_kept (fun _ _ => ?_) _ _).trans ?_)
    | simp only []
    | simp [Kept]
@[simp] theorem holdReset_kept (s : State) : Kept s (holdReset s) := by simp [Kept, holdReset]
@[simp] theorem heedNrst_kept (s : State) : Kept s (heedNrst s) := by unfold heedNrst; split <;> simp [Kept]
@[simp] theorem startSupplies_kept (s : State) : Kept s (startSupplies s) := by simp [Kept, startSupplies]
@[simp] theorem quietDevice_kept (s : State) : Kept s (quietDevice s) := by simp [Kept, quietDevice]
/-! ### Of Machine/Boot.lean -/
@[simp] theorem nextSupply_kept (s : State) : Kept s (nextSupply s) := by unfold nextSupply; split <;> simp [Kept]
@[simp] theorem failSupply_kept (s : State) : Kept s (failSupply s) := by unfold failSupply; split <;> simp [Kept]
@[simp] theorem trainFlash_kept (f : BootFindings) (s : State) : Kept s (trainFlash f s) := by
  unfold trainFlash; repeat' first | (with_reducible exact .refl _) | (simp [Kept]; done) | split | simp only []
@[simp] theorem bootTrims_kept (s : State) : Kept s (bootTrims s) := by unfold bootTrims; split <;> simp [Kept]
@[simp] theorem bootBalls_kept (s : State) : Kept s (bootBalls s) := by
  unfold bootBalls
  repeat' first
    | (with_reducible exact .refl _)
    | (simp [Kept]; done)
    | split
    | (refine (foldl_kept (fun _ _ => ?_) _ _).trans ?_)
    | simp only []
    | simp [Kept]
@[simp] theorem bootChain_kept (s : State) : Kept s (bootChain s) := by simp [Kept, bootChain]
@[simp] theorem bootCal_kept (f : BootFindings) (s : State) : Kept s (bootCal f s) := by unfold bootCal; split <;> simp [Kept]
@[simp] theorem bootConfig_kept (s : State) : Kept s (bootConfig s) := by
  unfold bootConfig; repeat' first | (with_reducible exact .refl _) | (simp [Kept]; done) | split | simp only []
@[simp] theorem mergeFaults_kept (found : List FaultRec) (s : State) : Kept s (mergeFaults found s) := by simp [Kept, mergeFaults]
@[simp] theorem bootLedger_kept (s : State) : Kept s (bootLedger s) := by unfold bootLedger; split <;> simp [Kept]
@[simp] theorem bootLog_kept (s : State) : Kept s (bootLog s) := by
  unfold bootLog
  repeat' first
    | (with_reducible exact .refl _)
    | (simp [Kept]; done)
    | split
    | (refine (foldl_kept (fun _ _ => ?_) _ _).trans ?_)
    | simp only []
    | simp [Kept]
@[simp] theorem finishBoot_kept (s : State) : Kept s (finishBoot s) := by simp [Kept, finishBoot]
@[simp] theorem freeLost_kept (s : State) : Kept s (freeLost s) := by
  unfold freeLost
  repeat' first
    | (with_reducible exact .refl _)
    | (simp [Kept]; done)
    | split
    | (refine (foldl_kept (fun _ _ => ?_) _ _).trans ?_)
    | simp only []
    | simp [Kept]
@[simp] theorem thaw_kept (s : State) : Kept s (thaw s) := by unfold thaw; split <;> simp [Kept]
@[simp] theorem recastLost_kept (s : State) : Kept s (recastLost s) := by
  unfold recastLost
  repeat' first
    | (with_reducible exact .refl _)
    | (simp [Kept]; done)
    | split
    | (refine (foldl_kept (fun _ _ => ?_) _ _).trans ?_)
    | simp only []
    | simp [Kept]
@[simp] theorem resumeFirmware_kept (s : State) : Kept s (resumeFirmware s) := by simp [Kept, resumeFirmware]
@[simp] theorem wakeLog_kept (s : State) : Kept s (wakeLog s) := by unfold wakeLog; split <;> simp [Kept]
/-! ### Of Machine/Engine.lean -/
@[simp] theorem refuse_kept (p : Packet) (status : Nat) (s : State) : Kept s (refuse p status s) := by unfold refuse; split <;> simp [Kept]
@[simp] theorem countDrop_kept (s : State) : Kept s (countDrop s) := by simp [Kept, countDrop]
@[simp] theorem refuseLength_kept (p : Packet) (s : State) : Kept s (refuseLength p s) := by
  unfold refuseLength; repeat' first | (with_reducible exact .refl _) | (simp [Kept]; done) | split | simp only []
@[simp] theorem refuseCrc_kept (p : Packet) (s : State) : Kept s (refuseCrc p s) := by
  unfold refuseCrc refuseCrc.noHost; simp only []; repeat' split
  all_goals first | exact countDrop_kept _ | exact (deliver_kept _ _ _ _).trans (countDrop_kept _) | (simp [Kept]; done)
@[simp] theorem takeSource_kept (p : Packet) (s : State) : Kept s (takeSource p s) := by simp [Kept, takeSource]
@[simp] theorem logGap_kept (p : Packet) (s : State) : Kept s (logGap p s) := by simp [Kept, logGap]
@[simp] theorem addSource_kept (p : Packet) (slot : Nat) (gone : Option Source) (s : State) : Kept s (addSource p slot gone s) := by simp [Kept, addSource]
@[simp] theorem clearBusy_kept (p : Packet) (s : State) : Kept s (clearBusy p s) := by unfold clearBusy; split <;> simp [Kept]
@[simp] theorem blockEffect_kept (o : LongOp) (b : Block) (s : State) : Kept s (blockEffect o b s) := by unfold blockEffect; split <;> simp [Kept]
@[simp] theorem failBulk_kept (o : LongOp) (s : State) : Kept s (failBulk o s) := by unfold failBulk; split <;> simp [Kept]
/-! ### Of Machine/Frames.lean -/
@[simp] theorem sendIp_kept (p : NetPort) (mac : Nat) (dst : Nat) (proto : Nat) (data : List Byte) (s : State) : Kept s (sendIp p mac dst proto data s) := by
  unfold sendIp
  repeat' first
    | (with_reducible exact .refl _)
    | (simp [Kept]; done)
    | split
    | (refine (foldl_kept (fun _ _ => ?_) _ _).trans ?_)
    | simp only []
    | simp [Kept]
@[simp] theorem answerArp_kept (p : NetPort) (mac : Nat) (ip : Nat) (target : Nat) (s : State) : Kept s (answerArp p mac ip target s) := by unfold answerArp; split <;> simp [Kept]
@[simp] theorem answerEcho_kept (p : NetPort) (mac : Nat) (src : Nat) (dst : Nat) (body : List Byte) (s : State) : Kept s (answerEcho p mac src dst body s) := by unfold answerEcho; split <;> simp [Kept]
@[simp] theorem seeLoop_kept (s : State) : Kept s (seeLoop s) := by unfold seeLoop; split <;> simp [Kept]
@[simp] theorem readQuery_kept (p : NetPort) (m : List Byte) (s : State) : Kept s (readQuery p m s) := by unfold readQuery; split <;> simp [Kept]
@[simp] theorem takeIgmp_kept (p : NetPort) (m : List Byte) (s : State) : Kept s (takeIgmp p m s) := by
  unfold takeIgmp
  repeat' first
    | (with_reducible exact .refl _)
    | (simp [Kept]; done)
    | split
    | (refine (foldl_kept (fun _ _ => ?_) _ _).trans ?_)
    | simp only []
    | simp [Kept]
@[simp] theorem takeArp_kept (p : NetPort) (m : List Byte) (s : State) : Kept s (takeArp p m s) := by unfold takeArp; split <;> simp [Kept]
@[simp] theorem passBroken_kept (q : NetPort) (bytes : List Byte) (s : State) : Kept s (passBroken q bytes s) := by unfold passBroken; split <;> simp [Kept]
@[simp] theorem passOn_kept (q : NetPort) (f : Frame) (bytes : List Byte) (s : State) : Kept s (passOn q f bytes s) := by
  unfold passOn
  repeat' first
    | (with_reducible exact .refl _)
    | (simp [Kept]; done)
    | split
    | (refine (foldl_kept (fun _ _ => ?_) _ _).trans ?_)
    | simp only []
    | simp [Kept]
@[simp] theorem forwardPtp_kept (p : NetPort) (f : Frame) (bytes : List Byte) (ticks : Nat) (s : State) : Kept s (forwardPtp p f bytes ticks s) := by
  unfold forwardPtp
  repeat' first
    | (with_reducible exact .refl _)
    | (simp [Kept]; done)
    | split
    | (refine (foldl_kept (fun _ _ => ?_) _ _).trans ?_)
    | simp only []
    | simp [Kept]
@[simp] theorem takeStamp_kept (x : PtpStamp) (s : State) : Kept s (takeStamp x s) := by
  unfold takeStamp
  repeat' first
    | (with_reducible exact .refl _)
    | (simp [Kept]; done)
    | split
    | (refine (foldl_kept (fun _ _ => ?_) _ _).trans ?_)
    | simp only []
    | simp [Kept]
@[simp] theorem sendDelayReq_kept (p : NetPort) (mac : Nat) (s : State) : Kept s (sendDelayReq p mac s) := by
  unfold sendDelayReq
  repeat' first
    | (with_reducible exact .refl _)
    | (simp [Kept]; done)
    | split
    | (refine (foldl_kept (fun _ _ => ?_) _ _).trans ?_)
    | simp only []
    | simp [Kept]
@[simp] theorem consumePtp_kept (p : NetPort) (f : Frame) (s : State) : Kept s (consumePtp p f s) := by
  unfold consumePtp
  repeat' first
    | (with_reducible exact .refl _)
    | (simp [Kept]; done)
    | split
    | (refine (foldl_kept (fun _ _ => ?_) _ _).trans ?_)
    | simp only []
    | simp [Kept]
@[simp] theorem takePtp_kept (p : NetPort) (bytes : List Byte) (ticks : Nat) (f : Frame) (s : State) : Kept s (takePtp p bytes ticks f s) := by
  unfold takePtp
  repeat' first
    | (with_reducible exact .refl _)
    | (simp [Kept]; done)
    | split
    | (refine (foldl_kept (fun _ _ => ?_) _ _).trans ?_)
    | simp only []
    | simp [Kept]

end Sys2Proof.Machine
end

