-- ==== Sys2Proof/Laws/Steps.lean ====
section
/-! SUPPORT. What the operations that touch the fuses or the safety block keep: fuses only grow, the safety condition and the lengths
stand; of every opcode, that its run and its staging keep it. -/

namespace Sys2Proof.Machine

/-- What every step keeps. -/
structure Steps (s t : State) : Prop where
  fuse : t.fuse = { s.fuse with secVersion := t.fuse.secVersion, commissioned := t.fuse.commissioned }
  version : s.fuse.secVersion ≤ t.fuse.secVersion
  commissioned : s.fuse.commissioned = true → t.fuse.commissioned = true
  pending : t.pending = s.pending
  safe : SafetyHolds s → SafetyHolds t
  shaped : Shaped s → Shaped t

theorem Steps.refl (s : State) : Steps s s := ⟨rfl, Nat.le_refl _, id, rfl, id, id⟩

theorem Steps.trans {s t u : State} (h : Steps t u) (g : Steps s t) : Steps s u where
  fuse := by rw [h.fuse, g.fuse]
  version := Nat.le_trans g.version h.version
  commissioned := h.commissioned ∘ g.commissioned
  pending := h.pending.trans g.pending
  safe := h.safe ∘ g.safe
  shaped := h.shaped ∘ g.shaped

theorem Kept.steps {s t : State} (h : Kept s t) : Steps s t where
  fuse := by rw [h.1]
  version := Nat.le_of_eq (by rw [h.1])
  commissioned := by rw [h.1]; exact id
  pending := h.2.1
  safe := by
    unfold SafetyHolds
    rw [h.2.2.1, h.2.2.2.1, h.2.2.2.2.1, h.2.2.2.2.2.1]; exact id
  shaped := by
    obtain ⟨_, _, _, _, _, _, h1, h2, h3, h4, h5, h6, h7, h8, h9, h10⟩ := h
    unfold Shaped
    rw [h1, h2, h3, h4, h5, h6, h7, h8, h9, h10]; exact id

theorem foldl_steps {α : Type} {f : State → α → State} (h : ∀ t a, Steps t (f t a)) (l : List α) (s : State) :
    Steps s (l.foldl f s) := by
  induction l generalizing s with
  | nil => exact .refl _
  | cons a t ih => exact (ih _).trans (h _ _)

/-- An opcode whose effect keeps what every step keeps, and whose staging touches nothing of it. -/
structure GoodOp (o : OpSpec) : Prop where
  run : ∀ r s, Steps s (o.run r s).1
  staged : ∀ r s, Kept s (o.staged r s)

theorem nopSpec_good : GoodOp nopSpec where
  run r s := by
    apply Kept.steps
    unfold nopSpec; simp only []; repeat' split
    all_goals first | exact .refl _ | (simp [Kept]; done)
  staged r s := by first | exact .refl s | (simp [Kept, nopSpec]; done)
theorem identifySpec_good : GoodOp identifySpec where
  run r s := by
    apply Kept.steps
    unfold identifySpec; simp only []; repeat' split
    all_goals first | exact .refl _ | (simp [Kept]; done)
  staged r s := by first | exact .refl s | (simp [Kept, identifySpec]; done)
theorem querySpec_good : GoodOp querySpec where
  run r s := by
    apply Kept.steps
    unfold querySpec; simp only []; repeat' split
    all_goals first | exact .refl _ | (simp [Kept]; done)
  staged r s := by first | exact .refl s | (simp [Kept, querySpec]; done)
theorem fetchPartialSpec_good : GoodOp fetchPartialSpec where
  run r s := by
    apply Kept.steps
    unfold fetchPartialSpec; simp only []; repeat' split
    all_goals first | exact .refl _ | (simp [Kept]; done)
  staged r s := by first | exact .refl s | (simp [Kept, fetchPartialSpec]; done)
theorem abortSpec_good : GoodOp abortSpec where
  run r s := by
    apply Kept.steps
    unfold abortSpec; simp only []; repeat' split
    all_goals first | exact .refl _ | (simp [Kept]; done)
  staged r s := by first | exact .refl s | (simp [Kept, abortSpec]; done)
theorem resetSpec_good : GoodOp resetSpec where
  run r s := by
    apply Kept.steps
    unfold resetSpec; simp only []; repeat' split
    all_goals first | exact .refl _ | (simp [Kept]; done)
  staged r s := by first | exact .refl s | (simp [Kept, resetSpec]; done)
theorem commitSpec_good : GoodOp commitSpec where
  run r s := by
    apply Kept.steps
    unfold commitSpec; simp only []; repeat' split
    all_goals first | exact .refl _ | (simp [Kept]; done)
  staged r s := by first | exact .refl s | (simp [Kept, commitSpec]; done)
theorem regReadSpec_good : GoodOp regReadSpec where
  run r s := by
    apply Kept.steps
    unfold regReadSpec; simp only []; repeat' split
    all_goals first | exact .refl _ | (simp [Kept]; done)
  staged r s := by first | exact .refl s | (simp [Kept, regReadSpec]; done)
theorem alertReadSpec_good : GoodOp alertReadSpec where
  run r s := by
    apply Kept.steps
    unfold alertReadSpec; simp only []; repeat' split
    all_goals first | exact .refl _ | (simp [Kept]; done)
  staged r s := by first | exact .refl s | (simp [Kept, alertReadSpec]; done)
theorem keyProvisionSpec_good : GoodOp keyProvisionSpec where
  run r s := by
    apply Kept.steps
    unfold keyProvisionSpec; simp only []; repeat' split
    all_goals first | exact .refl _ | (simp [Kept]; done)
  staged r s := by first | exact .refl s | (simp [Kept, keyProvisionSpec]; done)
theorem timeConfigSpec_good : GoodOp timeConfigSpec where
  run r s := by
    apply Kept.steps
    unfold timeConfigSpec; simp only []; repeat' split
    all_goals first | exact .refl _ | (simp [Kept]; done)
  staged r s := by first | exact .refl s | (simp [Kept, timeConfigSpec]; done)
theorem timeStatusSpec_good : GoodOp timeStatusSpec where
  run r s := by
    apply Kept.steps
    unfold timeStatusSpec; simp only []; repeat' split
    all_goals first | exact .refl _ | (simp [Kept]; done)
  staged r s := by first | exact .refl s | (simp [Kept, timeStatusSpec]; done)
theorem scheduleListSpec_good : GoodOp scheduleListSpec where
  run r s := by
    apply Kept.steps
    unfold scheduleListSpec; simp only []; repeat' split
    all_goals first | exact .refl _ | (simp [Kept]; done)
  staged r s := by first | exact .refl s | (simp [Kept, scheduleListSpec]; done)
theorem scheduleCancelSpec_good : GoodOp scheduleCancelSpec where
  run r s := by
    apply Kept.steps
    unfold scheduleCancelSpec; simp only []; repeat' split
    all_goals first | exact .refl _ | (simp [Kept]; done)
  staged r s := by first | exact .refl s | (simp [Kept, scheduleCancelSpec]; done)
theorem snapshotSpec_good : GoodOp snapshotSpec where
  run r s := by
    apply Kept.steps
    unfold snapshotSpec; simp only []; repeat' split
    all_goals first | exact .refl _ | (simp [Kept]; done)
  staged r s := by first | exact .refl s | (simp [Kept, snapshotSpec]; done)
theorem streamSubscribeSpec_good : GoodOp streamSubscribeSpec where
  run r s := by
    apply Kept.steps
    unfold streamSubscribeSpec; simp only []; repeat' split
    all_goals first | exact .refl _ | (simp [Kept]; done)
  staged r s := by first | exact .refl s | (simp [Kept, streamSubscribeSpec]; done)
theorem streamDropSpec_good : GoodOp streamDropSpec where
  run r s := by
    apply Kept.steps
    unfold streamDropSpec; simp only []; repeat' split
    all_goals first | exact .refl _ | (simp [Kept]; done)
  staged r s := by first | exact .refl s | (simp [Kept, streamDropSpec]; done)
theorem bufferAllocSpec_good : GoodOp bufferAllocSpec where
  run r s := by
    apply Kept.steps
    unfold bufferAllocSpec; simp only []; repeat' split
    all_goals first | exact .refl _ | (simp [Kept]; done)
  staged r s := by first | exact .refl s | (simp [Kept, bufferAllocSpec]; done)
theorem bufferReleaseSpec_good : GoodOp bufferReleaseSpec where
  run r s := by
    apply Kept.steps
    unfold bufferReleaseSpec; simp only []; repeat' split
    all_goals first | exact .refl _ | (simp [Kept]; done)
  staged r s := by first | exact .refl s | (simp [Kept, bufferReleaseSpec]; done)
theorem bufferWriteSpec_good : GoodOp bufferWriteSpec where
  run r s := by
    apply Kept.steps
    unfold bufferWriteSpec; simp only []; repeat' split
    all_goals first | exact .refl _ | (simp [Kept]; done)
  staged r s := by first | exact .refl s | (simp [Kept, bufferWriteSpec]; done)
theorem layerSetSpec_good : GoodOp layerSetSpec where
  run r s := by
    apply Kept.steps
    unfold layerSetSpec; simp only []; repeat' split
    all_goals first | exact .refl _ | (simp [Kept]; done)
  staged r s := by first | exact .refl s | (simp [Kept, layerSetSpec]; done)
theorem layerClearSpec_good : GoodOp layerClearSpec where
  run r s := by
    apply Kept.steps
    unfold layerClearSpec; simp only []; repeat' split
    all_goals first | exact .refl _ | (simp [Kept]; done)
  staged r s := by first | exact .refl s | (simp [Kept, layerClearSpec]; done)
theorem backgroundSetSpec_good : GoodOp backgroundSetSpec where
  run r s := by
    apply Kept.steps
    unfold backgroundSetSpec; simp only []; repeat' split
    all_goals first | exact .refl _ | (simp [Kept]; done)
  staged r s := by first | exact .refl s | (simp [Kept, backgroundSetSpec]; done)
theorem writebackSpec_good : GoodOp writebackSpec where
  run r s := by
    apply Kept.steps
    unfold writebackSpec; simp only []; repeat' split
    all_goals first | exact .refl _ | (simp [Kept]; done)
  staged r s := by first | exact .refl s | (simp [Kept, writebackSpec]; done)
theorem bufferStatusSpec_good : GoodOp bufferStatusSpec where
  run r s := by
    apply Kept.steps
    unfold bufferStatusSpec; simp only []; repeat' split
    all_goals first | exact .refl _ | (simp [Kept]; done)
  staged r s := by first | exact .refl s | (simp [Kept, bufferStatusSpec]; done)
theorem scalerCoeffLoadSpec_good : GoodOp scalerCoeffLoadSpec where
  run r s := by
    apply Kept.steps
    unfold scalerCoeffLoadSpec; simp only []; repeat' split
    all_goals first | exact .refl _ | (simp [Kept]; done)
  staged r s := by first | exact .refl s | (simp [Kept, scalerCoeffLoadSpec]; done)
theorem scalerStatusSpec_good : GoodOp scalerStatusSpec where
  run r s := by
    apply Kept.steps
    unfold scalerStatusSpec; simp only []; repeat' split
    all_goals first | exact .refl _ | (simp [Kept]; done)
  staged r s := by first | exact .refl s | (simp [Kept, scalerStatusSpec]; done)
theorem almanacLoadSpec_good : GoodOp almanacLoadSpec where
  run r s := by
    apply Kept.steps
    unfold almanacLoadSpec; simp only []; repeat' split
    all_goals first | exact .refl _ | (simp [Kept]; done)
  staged r s := by first | exact .refl s | (simp [Kept, almanacLoadSpec]; done)
theorem almanacSwapSpec_good : GoodOp almanacSwapSpec where
  run r s := by
    apply Kept.steps
    unfold almanacSwapSpec; simp only []; repeat' split
    all_goals first | exact .refl _ | (simp [Kept]; done)
  staged r s := by first | exact .refl s | (simp [Kept, almanacSwapSpec]; done)
theorem almanacVerifySpec_good : GoodOp almanacVerifySpec where
  run r s := by
    apply Kept.steps
    unfold almanacVerifySpec; simp only []; repeat' split
    all_goals first | exact .refl _ | (simp [Kept]; done)
  staged r s := by first | exact .refl s | (simp [Kept, almanacVerifySpec]; done)
theorem colourSpaceSetSpec_good : GoodOp colourSpaceSetSpec where
  run r s := by
    apply Kept.steps
    unfold colourSpaceSetSpec; simp only []; repeat' split
    all_goals first | exact .refl _ | (simp [Kept]; done)
  staged r s := by first | exact .refl s | (simp [Kept, colourSpaceSetSpec]; done)
theorem binTableLoadSpec_good : GoodOp binTableLoadSpec where
  run r s := by
    apply Kept.steps
    unfold binTableLoadSpec; simp only []; repeat' split
    all_goals first | exact .refl _ | (simp [Kept]; done)
  staged r s := by first | exact .refl s | (simp [Kept, binTableLoadSpec]; done)
theorem agingReadSpec_good : GoodOp agingReadSpec where
  run r s := by
    apply Kept.steps
    unfold agingReadSpec; simp only []; repeat' split
    all_goals first | exact .refl _ | (simp [Kept]; done)
  staged r s := by first | exact .refl s | (simp [Kept, agingReadSpec]; done)
theorem budgetSetSpec_good : GoodOp budgetSetSpec where
  run r s := by
    apply Kept.steps
    unfold budgetSetSpec; simp only []; repeat' split
    all_goals first | exact .refl _ | (simp [Kept]; done)
  staged r s := by first | exact .refl s | (simp [Kept, budgetSetSpec]; done)
theorem ledgerReadSpec_good : GoodOp ledgerReadSpec where
  run r s := by
    apply Kept.steps
    unfold ledgerReadSpec; simp only []; repeat' split
    all_goals first | exact .refl _ | (simp [Kept]; done)
  staged r s := by first | exact .refl s | (simp [Kept, ledgerReadSpec]; done)
theorem ambientSetSpec_good : GoodOp ambientSetSpec where
  run r s := by
    apply Kept.steps
    unfold ambientSetSpec; simp only []; repeat' split
    all_goals first | exact .refl _ | (simp [Kept]; done)
  staged r s := by first | exact .refl s | (simp [Kept, ambientSetSpec]; done)
theorem programSetSpec_good : GoodOp programSetSpec where
  run r s := by
    apply Kept.steps
    unfold programSetSpec; simp only []; repeat' split
    all_goals first | exact .refl _ | (simp [Kept]; done)
  staged r s := by first | exact .refl s | (simp [Kept, programSetSpec]; done)
theorem programStatusSpec_good : GoodOp programStatusSpec where
  run r s := by
    apply Kept.steps
    unfold programStatusSpec; simp only []; repeat' split
    all_goals first | exact .refl _ | (simp [Kept]; done)
  staged r s := by first | exact .refl s | (simp [Kept, programStatusSpec]; done)
theorem camsyncConfigSpec_good : GoodOp camsyncConfigSpec where
  run r s := by
    apply Kept.steps
    unfold camsyncConfigSpec; simp only []; repeat' split
    all_goals first | exact .refl _ | (simp [Kept]; done)
  staged r s := by first | exact .refl s | (simp [Kept, camsyncConfigSpec]; done)
theorem freezeSpec_good : GoodOp freezeSpec where
  run r s := by
    apply Kept.steps
    unfold freezeSpec; simp only []; repeat' split
    all_goals first | exact .refl _ | (simp [Kept]; done)
  staged r s := by first | exact .refl s | (simp [Kept, freezeSpec]; done)
theorem blankSpec_good : GoodOp blankSpec where
  run r s := by
    apply Kept.steps
    unfold blankSpec; simp only []; repeat' split
    all_goals first | exact .refl _ | (simp [Kept]; done)
  staged r s := by first | exact .refl s | (simp [Kept, blankSpec]; done)
theorem chainEnumerateSpec_good : GoodOp chainEnumerateSpec where
  run r s := by
    apply Kept.steps
    unfold chainEnumerateSpec; simp only []; repeat' split
    all_goals first | exact .refl _ | (simp [Kept]; done)
  staged r s := by first | exact .refl s | (simp [Kept, chainEnumerateSpec]; done)
theorem chainStatusSpec_good : GoodOp chainStatusSpec where
  run r s := by
    apply Kept.steps
    unfold chainStatusSpec; simp only []; repeat' split
    all_goals first | exact .refl _ | (simp [Kept]; done)
  staged r s := by first | exact .refl s | (simp [Kept, chainStatusSpec]; done)
theorem meridianSetSpec_good : GoodOp meridianSetSpec where
  run r s := by
    apply Kept.steps
    unfold meridianSetSpec; simp only []; repeat' split
    all_goals first | exact .refl _ | (simp [Kept]; done)
  staged r s := by first | exact .refl s | (simp [Kept, meridianSetSpec]; done)
theorem cellConfigSpec_good : GoodOp cellConfigSpec where
  run r s := by
    apply Kept.steps
    unfold cellConfigSpec; simp only []; repeat' split
    all_goals first | exact .refl _ | (simp [Kept]; done)
  staged r s := by first | exact .refl s | (simp [Kept, cellConfigSpec]; done)
theorem faultMapReadSpec_good : GoodOp faultMapReadSpec where
  run r s := by
    apply Kept.steps
    unfold faultMapReadSpec; simp only []; repeat' split
    all_goals first | exact .refl _ | (simp [Kept]; done)
  staged r s := by first | exact .refl s | (simp [Kept, faultMapReadSpec]; done)
theorem twinkleConfigSpec_good : GoodOp twinkleConfigSpec where
  run r s := by
    apply Kept.steps
    unfold twinkleConfigSpec; simp only []; repeat' split
    all_goals first | exact .refl _ | (simp [Kept]; done)
  staged r s := by first | exact .refl s | (simp [Kept, twinkleConfigSpec]; done)
theorem rasterSetSpec_good : GoodOp rasterSetSpec where
  run r s := by
    apply Kept.steps
    unfold rasterSetSpec; simp only []; repeat' split
    all_goals first | exact .refl _ | (simp [Kept]; done)
  staged r s := by first | exact .refl s | (simp [Kept, rasterSetSpec]; done)
theorem thermalConfigSpec_good : GoodOp thermalConfigSpec where
  run r s := by
    apply Kept.steps
    unfold thermalConfigSpec; simp only []; repeat' split
    all_goals first | exact .refl _ | (simp [Kept]; done)
  staged r s := by first | exact .refl s | (simp [Kept, thermalConfigSpec]; done)
theorem thermalReadSpec_good : GoodOp thermalReadSpec where
  run r s := by
    apply Kept.steps
    unfold thermalReadSpec; simp only []; repeat' split
    all_goals first | exact .refl _ | (simp [Kept]; done)
  staged r s := by first | exact .refl s | (simp [Kept, thermalReadSpec]; done)
theorem calibrateSpec_good : GoodOp calibrateSpec where
  run r s := by
    apply Kept.steps
    unfold calibrateSpec; simp only []; repeat' split
    all_goals first | exact .refl _ | (simp [Kept]; done)
  staged r s := by first | exact .refl s | (simp [Kept, calibrateSpec]; done)
theorem trimReadSpec_good : GoodOp trimReadSpec where
  run r s := by
    apply Kept.steps
    unfold trimReadSpec; simp only []; repeat' split
    all_goals first | exact .refl _ | (simp [Kept]; done)
  staged r s := by first | exact .refl s | (simp [Kept, trimReadSpec]; done)
theorem bistConfigSpec_good : GoodOp bistConfigSpec where
  run r s := by
    apply Kept.steps
    unfold bistConfigSpec; simp only []; repeat' split
    all_goals first | exact .refl _ | (simp [Kept]; done)
  staged r s := by first | exact .refl s | (simp [Kept, bistConfigSpec]; done)
theorem bistRunSpec_good : GoodOp bistRunSpec where
  run r s := by
    apply Kept.steps
    unfold bistRunSpec; simp only []; repeat' split
    all_goals first | exact .refl _ | (simp [Kept]; done)
  staged r s := by first | exact .refl s | (simp [Kept, bistRunSpec]; done)
theorem bistReportSpec_good : GoodOp bistReportSpec where
  run r s := by
    apply Kept.steps
    unfold bistReportSpec; simp only []; repeat' split
    all_goals first | exact .refl _ | (simp [Kept]; done)
  staged r s := by first | exact .refl s | (simp [Kept, bistReportSpec]; done)
theorem blockRestoreSpec_good : GoodOp blockRestoreSpec where
  run r s := by
    apply Kept.steps
    unfold blockRestoreSpec; simp only []; repeat' split
    all_goals first | exact .refl _ | (simp [Kept]; done)
  staged r s := by first | exact .refl s | (simp [Kept, blockRestoreSpec]; done)
theorem checkRunSpec_good : GoodOp checkRunSpec where
  run r s := by
    apply Kept.steps
    unfold checkRunSpec; simp only []; repeat' split
    all_goals first | exact .refl _ | (simp [Kept]; done)
  staged r s := by first | exact .refl s | (simp [Kept, checkRunSpec]; done)
theorem checkContextReadSpec_good : GoodOp checkContextReadSpec where
  run r s := by
    apply Kept.steps
    unfold checkContextReadSpec; simp only []; repeat' split
    all_goals first | exact .refl _ | (simp [Kept]; done)
  staged r s := by first | exact .refl s | (simp [Kept, checkContextReadSpec]; done)
theorem checkContextWriteSpec_good : GoodOp checkContextWriteSpec where
  run r s := by
    apply Kept.steps
    unfold checkContextWriteSpec; simp only []; repeat' split
    all_goals first | exact .refl _ | (simp [Kept]; done)
  staged r s := by first | exact .refl s | (simp [Kept, checkContextWriteSpec]; done)
theorem safetyStatusSpec_good : GoodOp safetyStatusSpec where
  run r s := by
    apply Kept.steps
    unfold safetyStatusSpec; simp only []; repeat' split
    all_goals first | exact .refl _ | (simp [Kept]; done)
  staged r s := by first | exact .refl s | (simp [Kept, safetyStatusSpec]; done)
theorem safetyConfigSpec_good : GoodOp safetyConfigSpec where
  run r s := by
    apply Kept.steps
    unfold safetyConfigSpec; simp only []; repeat' split
    all_goals first | exact .refl _ | (simp [Kept]; done)
  staged r s := by first | exact .refl s | (simp [Kept, safetyConfigSpec]; done)
theorem powerVoteSpec_good : GoodOp powerVoteSpec where
  run r s := by
    apply Kept.steps
    unfold powerVoteSpec; simp only []; repeat' split
    all_goals first | exact .refl _ | (simp [Kept]; done)
  staged r s := by first | exact .refl s | (simp [Kept, powerVoteSpec]; done)
theorem powerStateSpec_good : GoodOp powerStateSpec where
  run r s := by
    apply Kept.steps
    unfold powerStateSpec; simp only []; repeat' split
    all_goals first | exact .refl _ | (simp [Kept]; done)
  staged r s := by first | exact .refl s | (simp [Kept, powerStateSpec]; done)
theorem plevelSetSpec_good : GoodOp plevelSetSpec where
  run r s := by
    apply Kept.steps
    unfold plevelSetSpec; simp only []; repeat' split
    all_goals first | exact .refl _ | (simp [Kept]; done)
  staged r s := by first | exact .refl s | (simp [Kept, plevelSetSpec]; done)
theorem wakeRecordReadSpec_good : GoodOp wakeRecordReadSpec where
  run r s := by
    apply Kept.steps
    unfold wakeRecordReadSpec; simp only []; repeat' split
    all_goals first | exact .refl _ | (simp [Kept]; done)
  staged r s := by first | exact .refl s | (simp [Kept, wakeRecordReadSpec]; done)
theorem nvmReadSpec_good : GoodOp nvmReadSpec where
  run r s := by
    apply Kept.steps
    unfold nvmReadSpec; simp only []; repeat' split
    all_goals first | exact .refl _ | (simp [Kept]; done)
  staged r s := by first | exact .refl s | (simp [Kept, nvmReadSpec]; done)
theorem nvmWriteSpec_good : GoodOp nvmWriteSpec where
  run r s := by
    apply Kept.steps
    unfold nvmWriteSpec; simp only []; repeat' split
    all_goals first | exact .refl _ | (simp [Kept]; done)
  staged r s := by first | exact .refl s | (simp [Kept, nvmWriteSpec]; done)
theorem imageStageSpec_good : GoodOp imageStageSpec where
  run r s := by
    apply Kept.steps
    unfold imageStageSpec; simp only []; repeat' split
    all_goals first | exact .refl _ | (simp [Kept]; done)
  staged r s := by first | exact .refl s | (simp [Kept, imageStageSpec]; done)
theorem journalStatusSpec_good : GoodOp journalStatusSpec where
  run r s := by
    apply Kept.steps
    unfold journalStatusSpec; simp only []; repeat' split
    all_goals first | exact .refl _ | (simp [Kept]; done)
  staged r s := by first | exact .refl s | (simp [Kept, journalStatusSpec]; done)
theorem telemetryConfigSpec_good : GoodOp telemetryConfigSpec where
  run r s := by
    apply Kept.steps
    unfold telemetryConfigSpec; simp only []; repeat' split
    all_goals first | exact .refl _ | (simp [Kept]; done)
  staged r s := by first | exact .refl s | (simp [Kept, telemetryConfigSpec]; done)
theorem telemetryReadSpec_good : GoodOp telemetryReadSpec where
  run r s := by
    apply Kept.steps
    unfold telemetryReadSpec; simp only []; repeat' split
    all_goals first | exact .refl _ | (simp [Kept]; done)
  staged r s := by first | exact .refl s | (simp [Kept, telemetryReadSpec]; done)
theorem regWriteSpec_good : GoodOp regWriteSpec where
  run r s := Kept.steps (foldl_kept (fun _ _ => writeReg_kept _ _ _ _ _) _ _)
  staged r s := .refl s
theorem agingRecastSpec_good : GoodOp agingRecastSpec where
  run r s := by
    apply Kept.steps
    unfold agingRecastSpec; simp only []
    generalize nextTimeOfDay _ _ = z
    split
    · simp [Kept]
    · split
      · simp [Kept]
      · split
        · simp [Kept]
        · simp [Kept]
    · simp [Kept]
  staged r s := .refl s
theorem checkConfigSpec_good : GoodOp checkConfigSpec where
  run r s := by
    apply Kept.steps
    unfold checkConfigSpec; simp only []
    generalize List.range 4 = l
    refine foldl_kept (fun t u => ?_) _ _
    split
    · exact modCheck_kept _ _ _
    · exact .refl _
  staged r s := .refl s
theorem diagRunSpec_good : GoodOp diagRunSpec where
  run r s := by
    apply Kept.steps
    unfold diagRunSpec; simp only []; repeat' split
    all_goals first | exact .refl _ | (simp [Kept]; done)
  staged r s := .refl s
theorem endProbation_steps (s : State) : Steps s (endProbation s) := by
  unfold endProbation; split
  · exact ⟨rfl, Nat.le_max_left _ _, id, rfl, id, id⟩
  · exact .refl _
theorem imageActivateSpec_good : GoodOp imageActivateSpec where
  run r s := by
    unfold imageActivateSpec; simp only []
    split
    · exact .refl _
    · split
      · exact .refl _
      · split
        · exact .refl _
        · split
          · exact (activateImage_kept _).steps
          · exact (revertSlot_kept _).steps
          · exact endProbation_steps _
  staged r s := .refl s
/-- A change of the output pairs alone. -/
structure Pairs (s t : State) : Prop where
  fuse : t.fuse = s.fuse
  pending : t.pending = s.pending
  shaped : Shaped s → Shaped t
  safe : SafetyHolds s → SafetyHolds t

theorem Pairs.steps {s t : State} (h : Pairs s t) : Steps s t where
  fuse := by rw [h.fuse]
  version := Nat.le_of_eq (by rw [h.fuse])
  commissioned := by rw [h.fuse]; exact id
  pending := h.pending
  safe := h.safe
  shaped := h.shaped

theorem enterPair_steps (p : OutPair) (st : PairState) (l : Nat) (s : State) (h : st ≠ .lockout) (hr : (s.safety.pair p).state ≠ .lockout)
    (hu : (s.safety.pair p).state ≠ .unused) (hi : (s.safety.pair p).state ≠ .interlock) : Steps s (enterPair p st l s) := by
  refine Pairs.steps ⟨rfl, rfl, ?_, ?_⟩
  · unfold enterPair Shaped SafetyState.setPair; cases p <;> exact id
  · unfold SafetyHolds enterPair SafetyState.setPair SafetyState.pair at *
    cases p <;> simp only [Pair.locked, Pair.waits] at * <;> rintro ⟨h1, h2⟩ <;> constructor <;> intro hc
    all_goals first
      | (have := h1 hc; simp_all; done)
      | (have := h2 hc; simp_all; done)

theorem judgePair_steps (p : OutPair) (s : State) : Steps s (judgePair p s) := by
  unfold judgePair; simp only []
  split
  · split
    · exact .refl _
    · exact enterPair_steps _ _ _ _ (by simp) (by simp [*]) (by simp [*]) (by simp [*])
  · repeat' split
    all_goals (refine enterPair_steps _ _ _ _ ?_ ?_ ?_ ?_ <;> simp [*])
  · exact .refl _

theorem judgePairs_steps (s : State) : Steps s (judgePairs s) := by
  unfold judgePairs
  exact (reportPairs_kept _ _).steps.trans ((endActuation_kept _ _).steps.trans ((judgePair_steps _ _).trans (judgePair_steps _ _)))

theorem lockPair_pairs (p : OutPair) (s : State) : (lockPair p s).fuse = s.fuse ∧ (lockPair p s).pending = s.pending ∧
    (Shaped s → Shaped (lockPair p s)) ∧ ((lockPair p s).safety.pair p).locked ∧ (∀ q, q ≠ p → (lockPair p s).safety.pair q = s.safety.pair q) ∧
    (lockPair p s).safety.cause = s.safety.cause := by
  unfold lockPair; split
  · simp_all [Pair.locked]
  · refine ⟨rfl, rfl, ?_, ?_, ?_, ?_⟩
    · unfold enterPair Shaped SafetyState.setPair; cases p <;> exact id
    · unfold enterPair; cases p <;> exact .inl rfl
    · unfold enterPair; cases p <;> intro q hq <;> cases q <;> first | rfl | exact absurd rfl hq
    · unfold enterPair; cases p <;> rfl

/-- Lockout: both pairs locked, whatever they were. -/
theorem lockout_spec (c : Nat) (s : State) : (lockout c s).fuse = s.fuse ∧ (lockout c s).pending = s.pending ∧ (Shaped s → Shaped (lockout c s)) ∧
    (lockout c s).safety.light.locked ∧ (lockout c s).safety.motion.locked ∧
    (lockout c s).safety.cause = if 0x10 ≤ s.safety.cause then s.safety.cause else c := by
  unfold lockout; simp only []
  generalize hc : (if 0x10 ≤ s.safety.cause then s.safety.cause else c) = c'
  generalize h0 : { s with safety := { s.safety with cause := c' } } = s0
  obtain ⟨f1, p1, z1, l1, o1, c1⟩ := lockPair_pairs .light s0
  obtain ⟨f2, p2, z2, l2, o2, c2⟩ := lockPair_pairs .motion (lockPair .light s0)
  generalize lockPair .motion (lockPair .light s0) = s2 at *
  have hk : Kept s2 (reportPairs s (endActuation s s2)) := (reportPairs_kept _ _).trans (endActuation_kept _ _)
  have hsh : Shaped s → Shaped s0 := by subst h0; exact id
  have hz := hk.steps.shaped
  obtain ⟨k1, k2, k3, k4, k5, k6, _⟩ := hk
  refine ⟨by rw [k1, f2, f1, ← h0], by rw [k2, p2, p1, ← h0], fun h => hz (z2 (z1 (hsh h))), ?_, ?_, by rw [k5, c2, c1, ← h0]⟩
  · rw [k3]
    have := o2 .light (by simp)
    simp only [SafetyState.pair] at this l1
    rw [this]; exact l1
  · rw [k4]; exact l2

theorem Pair.locked.waits {p : Pair} (h : p.locked) : p.waits := by
  rcases h with h | h
  · exact .inr (.inl h)
  · exact .inr (.inr h)

theorem lockout_steps (c : Nat) (s : State) : Steps s (lockout c s) := by
  obtain ⟨h1, h2, h3, h4, h5, _⟩ := lockout_spec c s
  exact Pairs.steps ⟨h1, h2, h3, fun _ => ⟨fun _ => ⟨h4, h5⟩, fun _ => ⟨h4.waits, h5.waits⟩⟩⟩
end Sys2Proof.Machine
end

