-- ==== Sys2Proof/Laws/StepsOps.lean ====
section
/-! SUPPORT. What the operations over whole packets, boundaries, frames, resets and boots keep. -/

namespace Sys2Proof.Machine

/-! ## The safety block -/

theorem takeLevel_pre (x : SafetyState) (n : Nat) : ((x.twoHand n).timeDiscrepancy n).followMend.light = x.light ∧
    ((x.twoHand n).timeDiscrepancy n).followMend.motion = x.motion ∧ ((x.twoHand n).timeDiscrepancy n).followMend.cause = x.cause ∧
    ((x.twoHand n).timeDiscrepancy n).followMend.noRecord = x.noRecord ∧ ((x.twoHand n).timeDiscrepancy n).followMend.levels = x.levels :=
  ⟨rfl, rfl, rfl, rfl, rfl⟩

theorem takeLevel_steps (i : SafetyInput) (on : Bool) (s : State) : Steps s (takeLevel i on s) := by
  unfold takeLevel
  refine (judgePairs_steps _).trans (Pairs.steps ⟨rfl, rfl, ?_, ?_⟩)
  · intro h; unfold Shaped at *; simp only [takeLevel_pre]
    cases i <;> first | (simpa using h) | (dsimp only; split <;> simpa using h)
  · intro h; unfold SafetyHolds Pair.locked Pair.waits at *; simp only [takeLevel_pre]
    cases i <;> first | exact h | (dsimp only; split <;> exact h)

theorem testInputs_steps (b : Bool) (l : List SafetyInput) (s : State) : Steps s (testInputs b l s) := by
  unfold testInputs; simp only []; split
  · exact (lockout_steps _ _).trans (Pairs.steps ⟨rfl, rfl, id, id⟩)
  · exact Pairs.steps ⟨rfl, rfl, id, id⟩

theorem takeMessage_steps (m : List Byte) (s : State) : Steps s (takeMessage m s) := by
  unfold takeMessage; simp only []; split
  · exact (judgePairs_steps _).trans (Pairs.steps ⟨rfl, rfl, id, id⟩)
  · exact Pairs.steps ⟨rfl, rfl, id, id⟩

theorem safeOffSpec_good : GoodOp safeOffSpec where
  run r s := takeMessage_steps _ _
  staged r s := .refl s

theorem installSafety_pairs (c : SafetyCfg) (s : State) : (installSafety c s).fuse = s.fuse ∧ (installSafety c s).pending = s.pending ∧
    (Shaped s → Shaped (installSafety c s)) ∧ SafetyHolds (installSafety c s) := by
  unfold installSafety
  refine ⟨rfl, rfl, id, ?_⟩
  unfold SafetyHolds
  constructor
  · intro h
    have h' : 0x10 ≤ s.safety.cause := by
      by_cases hc : 0x10 ≤ s.safety.cause
      · exact hc
      · simp [SafetyState.twoHand, SafetyState.timeDiscrepancy, hc] at h
    constructor
    · simp only [SafetyState.twoHand, SafetyState.timeDiscrepancy, Pair.locked, h', if_true]; split <;> simp
    · simp only [SafetyState.twoHand, SafetyState.timeDiscrepancy, Pair.locked, h', if_true]; split <;> simp
  · intro h; simp [SafetyState.twoHand, SafetyState.timeDiscrepancy] at h

theorem installSafety_steps (c : SafetyCfg) (s : State) : Steps s (installSafety c s) :=
  have ⟨a, b, d, e⟩ := installSafety_pairs c s
  Pairs.steps ⟨a, b, d, fun _ => e⟩

theorem confirmChange_steps (c : SafetyChange) (s : State) : Steps s (confirmChange c s) := by
  unfold confirmChange; simp only []
  refine (completeOp_kept _ _ _ _ _).steps.trans ((enqueueFlash_kept _ _).steps.trans ((reportPairs_kept _ _).steps.trans
    (Steps.trans (t := installSafety c.cfg { s with safety := { s.safety with pending := none } }) ?_
      ((installSafety_steps _ _).trans (Pairs.steps ⟨rfl, rfl, id, id⟩)))))
  exact ⟨rfl, Nat.le_refl _, fun h => by simp [h], rfl, id, id⟩

theorem pressPair_pairs (p : OutPair) (s : State) : (pressPair p s).fuse = s.fuse ∧ (pressPair p s).pending = s.pending ∧
    (Shaped s → Shaped (pressPair p s)) ∧ (pressPair p s).safety.cause = s.safety.cause ∧ (pressPair p s).safety.noRecord = s.safety.noRecord := by
  unfold pressPair enterPair; simp only []; split <;> cases p <;> exact ⟨rfl, rfl, id, rfl, rfl⟩

theorem pressEach_pairs (l : List OutPair) (s : State) : (l.foldl (fun t p => pressPair p t) s).fuse = s.fuse ∧
    (l.foldl (fun t p => pressPair p t) s).pending = s.pending ∧ (Shaped s → Shaped (l.foldl (fun t p => pressPair p t) s)) ∧
    (l.foldl (fun t p => pressPair p t) s).safety.cause = s.safety.cause ∧
    (l.foldl (fun t p => pressPair p t) s).safety.noRecord = s.safety.noRecord := by
  induction l generalizing s with
  | nil => exact ⟨rfl, rfl, id, rfl, rfl⟩
  | cons a t ih =>
    obtain ⟨a1, a2, a3, a4, a5⟩ := ih (pressPair a s)
    obtain ⟨b1, b2, b3, b4, b5⟩ := pressPair_pairs a s
    exact ⟨a1.trans b1, a2.trans b2, a3 ∘ b3, a4.trans b4, a5.trans b5⟩

theorem pressPairs_steps (s : State) : Steps s (pressPairs s) := by
  unfold pressPairs; simp only []
  split
  · exact .refl _
  · split
    · exact Pairs.steps ⟨rfl, rfl, id, id⟩
    · rename_i hm
      have hx : s.safety.cause < 0x10 ∧ s.safety.noRecord = false := by
        rw [List.isEmpty_iff] at hm
        obtain ⟨p, hp⟩ := List.exists_mem_of_ne_nil _ hm
        have := (List.mem_filter.1 hp).2
        simp [SafetyState.pressMoves] at this
        exact ⟨by simp_all, by simp_all⟩
      generalize List.filter (s.safety.pressMoves (nowNs s)) _ = l
      obtain ⟨a1, a2, a3, a4, a5⟩ := pressEach_pairs l s
      generalize l.foldl (fun t p => pressPair p t) s = s1 at *
      refine (reportPairs_kept _ _).steps.trans ((endActuation_kept _ _).steps.trans ?_)
      split
      · exact Pairs.steps ⟨a1, a2, a3, fun _ => ⟨fun h => by omega, fun h => by rw [a5, hx.2] at h; cases h⟩⟩
      · exact Pairs.steps ⟨a1, a2, a3, fun _ => ⟨fun h => by simp at h, fun h => by simp only [] at h; rw [a5, hx.2] at h; cases h⟩⟩

theorem dropChange_kept (c : SafetyChange) (s : State) : Kept s (dropChange c s) := by simp [Kept, dropChange]

theorem pressReset_steps (s : State) : Steps s (pressReset s) := by
  unfold pressReset; split
  · split
    · exact confirmChange_steps _ _
    · exact (pressPairs_steps _).trans (dropChange_kept _ _).steps
  · exact pressPairs_steps _

theorem noSafetyRecord_steps (s : State) : Steps s (noSafetyRecord s) := by
  unfold noSafetyRecord; split
  · exact .refl _
  · exact Pairs.steps ⟨rfl, rfl, id, fun _ => ⟨fun _ => ⟨.inr rfl, .inr rfl⟩, fun h => by cases h⟩⟩

theorem loadSafety_steps (s : State) : Steps s (loadSafety s) := by
  unfold loadSafety; split
  · split
    · exact installSafety_steps _ _
    · exact noSafetyRecord_steps _
  · exact noSafetyRecord_steps _

theorem bootSafety_steps (s : State) : Steps s (bootSafety s) := by
  unfold bootSafety; split
  · exact loadSafety_steps _
  · exact .refl _

/-! ## Packets -/

theorem stageOp_kept {o : OpSpec} (h : GoodOp o) (r : Req) (v : Bool) (s : State) : Kept s (stageOp o r v s).1 := by
  unfold stageOp; simp only []; split
  · exact .refl _
  · split
    · exact (holdUnits_kept _ _ _).trans (h.staged _ _)
    · exact (queueCommit_kept _ _ _ _ _).trans (h.staged _ _)

theorem begin_steps {o : OpSpec} (h : GoodOp o) (r : Req) (v : Bool) (s : State) : Steps s (begin_ o r v s) := by
  unfold begin_; simp only []
  refine (conclude_kept _ _ _ _ _).steps.trans ?_
  split
  · exact (stageOp_kept h _ _ _).steps
  · exact h.run _ _

theorem beginLong_steps {o : OpSpec} (h : GoodOp o) (r : Req) (s : State) : Steps s (beginLong o r s) := by
  unfold beginLong; simp only []; split
  · exact (answer_kept _ _ _ _ _).steps
  · have := (h.run r (addOp { req := r, code := o.code, state := 0, long := true } s)).trans (addOp_kept _ _).steps
    split
    · exact (answer_kept _ _ _ _ _).steps.trans ((dropOp_kept _ _ _).steps.trans this)
    · exact (answer_kept _ _ _ _ _).steps.trans this
    · exact this

theorem schedule_kept {o : OpSpec} (h : GoodOp o) (p : Period) (r : Req) (t : Nat) (s : State) : Kept s (schedule p o r t s) := by
  unfold schedule; simp only []
  generalize (if (o.apply && !o.long r) = true then lockUnits r.src (o.units r s) s else []) = us
  generalize hs0 : (if (o.apply && !o.long r) = true then replaceHeld r.src (stagedOf o.code r us) (o.staged r s) else s) = s0
  have h0 : Kept s s0 := by
    subst hs0; split
    · exact (replaceHeld_kept _ _ _).trans (h.staged _ _)
    · exact .refl _
  split
  · exact answer_kept _ _ _ _ _
  · split
    · exact answer_kept _ _ _ _ _
    · have h1 : Kept s (List.foldl (fun x d => addImplicit r d x) s0 (asleep o r s)) := (foldl_kept (fun _ _ => addImplicit_kept _ _ _) _ _).trans h0
      generalize List.foldl (fun x d => addImplicit r d x) s0 (asleep o r s) = s1 at *
      refine Kept.trans ?_ h1
      refine Kept.trans (answer_kept _ _ _ _ _) ?_
      simp [Kept]

theorem acceptOp_steps {o : OpSpec} (h : GoodOp o) (p : Period) (r : Req) (s : State) : Steps s (acceptOp p o r s) := by
  unfold acceptOp; split
  · exact (schedule_kept h _ _ _ _).steps
  · split
    · exact (awaitWake_kept _ _ _).steps
    · split
      · exact beginLong_steps h _ _
      · exact (begin_steps h _ _ _).trans (dropOp_kept _ _ _).steps

theorem runPacket_steps {o : OpSpec} (h : GoodOp o) (p : Period) (r : Req) (s : State) : Steps s (runPacket p o r s) := by
  unfold runPacket; split
  · exact .refl _
  · split
    · exact acceptOp_steps h _ _ _
    · exact (answer_kept _ _ _ _ _).steps

/-- Every opcode of the table keeps what every step keeps. -/
theorem specOf_good {code : Nat} {o : OpSpec} (h : specOf code = some o) : GoodOp o := by
  have hm : o ∈ opTable := List.mem_of_find?_eq_some h
  simp only [opTable, List.cons_append, List.nil_append, List.mem_cons, List.not_mem_nil, or_false] at hm
  rcases hm with rfl | rfl | rfl | rfl | rfl | rfl | rfl | rfl | rfl | rfl | rfl | rfl | rfl | rfl | rfl | rfl | rfl | rfl | rfl | rfl | rfl | rfl | rfl | rfl | rfl | rfl | rfl | rfl | rfl | rfl | rfl | rfl | rfl | rfl | rfl | rfl | rfl | rfl | rfl | rfl | rfl | rfl | rfl | rfl | rfl | rfl | rfl | rfl | rfl | rfl | rfl | rfl | rfl | rfl | rfl | rfl | rfl | rfl | rfl | rfl | rfl | rfl | rfl | rfl | rfl | rfl | rfl | rfl | rfl | rfl | rfl | rfl | rfl | rfl | rfl | rfl | rfl
  · exact nopSpec_good
  · exact identifySpec_good
  · exact querySpec_good
  · exact fetchPartialSpec_good
  · exact abortSpec_good
  · exact resetSpec_good
  · exact commitSpec_good
  · exact regReadSpec_good
  · exact regWriteSpec_good
  · exact alertReadSpec_good
  · exact keyProvisionSpec_good
  · exact timeConfigSpec_good
  · exact timeStatusSpec_good
  · exact scheduleListSpec_good
  · exact scheduleCancelSpec_good
  · exact snapshotSpec_good
  · exact streamSubscribeSpec_good
  · exact streamDropSpec_good
  · exact bufferAllocSpec_good
  · exact bufferReleaseSpec_good
  · exact bufferWriteSpec_good
  · exact layerSetSpec_good
  · exact layerClearSpec_good
  · exact backgroundSetSpec_good
  · exact writebackSpec_good
  · exact bufferStatusSpec_good
  · exact scalerCoeffLoadSpec_good
  · exact scalerStatusSpec_good
  · exact almanacLoadSpec_good
  · exact almanacSwapSpec_good
  · exact almanacVerifySpec_good
  · exact colourSpaceSetSpec_good
  · exact binTableLoadSpec_good
  · exact agingReadSpec_good
  · exact agingRecastSpec_good
  · exact budgetSetSpec_good
  · exact ledgerReadSpec_good
  · exact ambientSetSpec_good
  · exact programSetSpec_good
  · exact programStatusSpec_good
  · exact camsyncConfigSpec_good
  · exact freezeSpec_good
  · exact blankSpec_good
  · exact chainEnumerateSpec_good
  · exact chainStatusSpec_good
  · exact meridianSetSpec_good
  · exact cellConfigSpec_good
  · exact faultMapReadSpec_good
  · exact diagRunSpec_good
  · exact twinkleConfigSpec_good
  · exact rasterSetSpec_good
  · exact thermalConfigSpec_good
  · exact thermalReadSpec_good
  · exact calibrateSpec_good
  · exact trimReadSpec_good
  · exact bistConfigSpec_good
  · exact bistRunSpec_good
  · exact bistReportSpec_good
  · exact blockRestoreSpec_good
  · exact checkConfigSpec_good
  · exact checkRunSpec_good
  · exact checkContextReadSpec_good
  · exact checkContextWriteSpec_good
  · exact safetyStatusSpec_good
  · exact safetyConfigSpec_good
  · exact safeOffSpec_good
  · exact powerVoteSpec_good
  · exact powerStateSpec_good
  · exact plevelSetSpec_good
  · exact wakeRecordReadSpec_good
  · exact nvmReadSpec_good
  · exact nvmWriteSpec_good
  · exact imageStageSpec_good
  · exact imageActivateSpec_good
  · exact journalStatusSpec_good
  · exact telemetryConfigSpec_good
  · exact telemetryReadSpec_good

theorem runEntryOp_steps (e : EphEntry) (s : State) : Steps s (runEntryOp e s) := by
  unfold runEntryOp; split
  · exact (completeOp_kept _ _ _ _ _).steps
  · rename_i o ho
    split
    · exact (completeOp_kept _ _ _ _ _).steps
    · split
      · exact (completeOp_kept _ _ _ _ _).steps
      · exact (conclude_kept _ _ _ _ _).steps.trans (((specOf_good ho).run _ _).trans (modOp_kept _ _ _ _).steps)

theorem runEntry_steps (n : Nat) (later : List StagedUnit) (e : EphEntry) (s : State) : Steps s (runEntry n later e s) := by
  unfold runEntry; simp only []
  generalize hs1 : markEntry e _ _ = s1
  have h1 : Kept s s1 := by subst hs1; exact (markEntry_kept _ _ _).trans (by simp [Kept])
  split
  · have := (completeOp_kept e.req.src e.req.tag (commitOf n e.code e.req.src e.units later s1).status (commitOf n e.code e.req.src e.units later s1).results _).trans
      (commitOf_kept n e.code e.req.src e.units later s1)
    have h2 := this.trans h1
    exact Kept.steps (by simpa [Kept] using h2)
  · exact (runEntryOp_steps _ _).trans h1.steps

theorem runDue_steps (n : Nat) (l : List DueItem) (s : State) : Steps s (runDue n l s) := by
  induction l generalizing s with
  | nil => exact .refl _
  | cons d rest ih =>
    unfold runDue
    refine (ih _).trans ?_
    cases d
    · exact (runJob_kept _ _ _ _).steps
    · exact runEntry_steps _ _ _ _

theorem executeDue_steps (n : Nat) (s : State) : Steps s (executeDue n s) :=
  (runDue_steps _ _ _).trans (Kept.steps (by simp [Kept]))

theorem executeFrame_steps (n : Nat) (s : State) : Steps s (executeFrame n s) := by
  unfold executeFrame; simp only []
  generalize hs1 : takeSnapshots n _ = s1
  have h1 : Steps s s1 := by
    subst hs1; exact (takeSnapshots_kept _ _).steps.trans ((executeDue_steps _ _).trans (Kept.steps (by simp [Kept])))
  split
  · exact (Kept.steps (by simp [Kept])).trans h1
  · exact (restartFrames_kept _).steps.trans h1

theorem runWoken_steps (w : WaitingReq) (s : State) : Steps s (runWoken w s) := by
  unfold runWoken; split
  · exact .refl _
  · rename_i o ho
    split
    · exact .refl _
    · simp only []; split
      · exact Kept.steps (by simp [Kept])
      · exact (begin_steps (specOf_good ho) _ _ _).trans (Kept.steps (by simp [Kept]))

theorem runAllWoken_steps (s : State) : Steps s (runAllWoken s) := by
  unfold runAllWoken; split
  · exact foldl_steps (fun _ _ => runWoken_steps _ _) _ _
  · exact .refl _

theorem wakeDomain_steps (d : Domain) (s : State) : Steps s (wakeDomain d s) := by
  unfold wakeDomain; exact (runAllWoken_steps _).trans (Kept.steps (by simp [Kept]))

theorem finishTwilight_steps (s : State) : Steps s (finishTwilight s) := by
  unfold finishTwilight; split
  · simp only []
    refine (finishPowerOp_kept _ _).steps.trans ((runAllWoken_steps _).trans ((setLevel_kept _ _).steps.trans ((enumerateLoops_kept _ _).steps.trans ?_)))
    exact Kept.steps (by simp [Kept])
  · exact .refl _

theorem boundary_steps (n : Nat) (s : State) : Steps s (boundary n s) := by
  unfold boundary; simp only []
  have h0 : Steps s (settleFrame (finishTwilight (executeFrame n s))) :=
    (settleFrame_kept _).steps.trans ((finishTwilight_steps _).trans (executeFrame_steps _ _))
  generalize settleFrame (finishTwilight (executeFrame n s)) = s0 at *
  have h1 : Steps s (if period s0 = period s then noteSample s.time.frame n (notePlan n (followLatency (latency s) s0)) else s0) := by
    split
    · exact ((noteSample_kept _ _ _).trans ((notePlan_kept _ _).trans (followLatency_kept _ _))).steps.trans h0
    · exact h0
  generalize (if period s0 = period s then noteSample s.time.frame n (notePlan n (followLatency (latency s) s0)) else s0) = s1 at *
  refine (stepCounter_kept _).steps.trans ((fadeStep_kept _).steps.trans ((flushRecord_kept _).steps.trans ((noteDemand_kept _).steps.trans ?_)))
  split
  · exact (latchFrame_kept _ _).steps.trans h1
  · exact h1

/-! ## Packets as they come -/

theorem executePacket_steps (p : Packet) (s : State) : Steps s (executePacket p s) := by
  unfold executePacket; split
  · rename_i o ho; exact runPacket_steps (specOf_good ho) _ _ _
  · exact (answer_kept _ _ _ _ _).steps

/-- The state that the alive counter's check leaves. -/
def AliveEnd.state : AliveEnd → State
  | .pass s => s
  | .refused _ s => s
  | .ended s => s

theorem aliveNew_kept (p : Packet) (s : State) : Kept s (aliveNew p s).state := by
  unfold aliveNew; simp only []; repeat' split
  all_goals simp [Kept, AliveEnd.state]

theorem repeatReply_kept (p : Packet) (e : SourceEntry) (s : State) : Kept s (repeatReply p e s).state := by
  unfold repeatReply; repeat' split
  all_goals simp [Kept, AliveEnd.state]

theorem aliveKnown_kept (p : Packet) (e : SourceEntry) (s : State) : Kept s (aliveKnown p e s).state := by
  unfold aliveKnown; simp only []; split
  · split
    · exact repeatReply_kept _ _ _
    · exact .refl _
  · split
    · simp only [AliveEnd.state]; split <;> simp [Kept]
    · simp only [AliveEnd.state]; split <;> simp [Kept]

theorem aliveCheck_kept (p : Packet) (s : State) : Kept s (aliveCheck p s).state := by
  unfold aliveCheck; split
  · exact takeSource_kept _ _
  · split
    · exact aliveKnown_kept _ _ _
    · exact aliveNew_kept _ _

theorem checkPacket_steps (p : Packet) (s : State) : Steps s (checkPacket p s) := by
  unfold checkPacket; split
  · exact (refuse_kept _ _ _).steps
  · split
    · exact (refuse_kept _ _ _).steps
    · have h := aliveCheck_kept p s
      split <;> rename_i t ht <;> rw [ht] at h <;> simp only [AliveEnd.state] at h
      · exact (executePacket_steps _ _).trans h.steps
      · exact (refuse_kept _ _ _).steps.trans h.steps
      · exact h.steps

theorem receivePacket_steps (p : Packet) (s : State) : Steps s (receivePacket p s) := by
  unfold receivePacket; repeat' split
  all_goals first
    | exact (refuseLength_kept _ _).steps
    | exact (refuseCrc_kept _ _).steps
    | exact (countDrop_kept _).steps
    | exact checkPacket_steps _ _
    | exact (refuse_kept _ _ _).steps

theorem hostPacket_steps (b : List Byte) (s : State) : Steps s (hostPacket b s) := by
  unfold hostPacket; simp only []
  exact (clearBusy_kept _ _).steps.trans ((receivePacket_steps _ _).trans (Kept.steps (by simp [Kept])))

theorem binTablesReceived_kept (o : LongOp) (d : List Byte) (s : State) : Kept s (binTablesReceived o d s) := by
  unfold binTablesReceived; simp only []; split
  · exact (completeOp_kept _ _ _ _ _).trans (endBulk_kept _ _ _)
  · exact (conclude_kept _ _ _ _ _).trans ((stageOp_kept binTableLoadSpec_good _ _ _).trans (endBulk_kept _ _ _))

theorem dataReceived_kept (o : LongOp) (d : List Byte) (s : State) : Kept s (dataReceived o d s) := by
  unfold dataReceived; split
  · exact bufferReceived_kept _ _ _
  · exact binTablesReceived_kept _ _ _
  · exact (nvmReceived_kept _ _ _).trans (endBulk_kept _ _ _)
  · exact (imageReceived_kept _ _ _).trans (endBulk_kept _ _ _)
  · exact .refl _

theorem storeBlock_kept (o : LongOp) (x : BulkIn) (b : Block) (s : State) : Kept s (storeBlock o x b s) := by
  unfold storeBlock; simp only []; split
  · exact (dataReceived_kept _ _ _).trans ((blockEffect_kept _ _ _).trans (modOp_kept _ _ _ _))
  · exact (blockEffect_kept _ _ _).trans (modOp_kept _ _ _ _)

theorem receiveBlock_kept (ip : Nat) (b : Block) (s : State) : Kept s (receiveBlock ip b s) := by
  unfold receiveBlock; repeat' split
  all_goals first | exact countDrop_kept _ | exact storeBlock_kept _ _ _ _

theorem takeUdp_steps (p : NetPort) (u : Udp) (s : State) : Steps s (takeUdp p u s) := by
  unfold takeUdp; simp only []; repeat' split
  all_goals first
    | exact receivePacket_steps _ _
    | exact .refl _
    | exact (receiveBlock_kept _ _ _).steps
    | exact (takeNative_kept _ _ _ _ _).steps
    | exact (takeSt2110_kept _ _ _ _ _).steps

theorem takeFragment_steps (p : NetPort) (x : Fragment) (s : State) : Steps s (takeFragment p x s) := by
  unfold takeFragment; simp only []; repeat' split
  all_goals first
    | exact (takeUdp_steps _ _ _).trans (Kept.steps (by simp [Kept]))
    | exact Kept.steps (by simp [Kept])

theorem takeIp_steps (p : NetPort) (mac : Nat) (x : Ip) (s : State) : Steps s (takeIp p mac x s) := by
  unfold takeIp; repeat' split
  all_goals first
    | exact (takeIgmp_kept _ _ _).steps
    | exact .refl _
    | exact takeFragment_steps _ _ _
    | exact (answerEcho_kept _ _ _ _ _ _).steps
    | exact takeUdp_steps _ _ _

theorem consume_steps (p : NetPort) (f : Frame) (s : State) : Steps s (consume p f s) := by
  unfold consume; repeat' split
  all_goals first
    | exact (takeArp_kept _ _ _).steps
    | exact .refl _
    | exact takeIp_steps _ _ _ _

theorem screened_steps (p : NetPort) (b : List Byte) (k : Frame → State → State) (hk : ∀ f t, Steps t (k f t)) (s : State) :
    Steps s (screened p b k s) := by
  unfold screened; simp only []; split
  · exact (passBroken_kept _ _ _).steps.trans (Kept.steps (by simp [Kept]))
  · split
    · exact (passBroken_kept _ _ _).steps.trans (Kept.steps (by simp [Kept]))
    · split
      · exact (seeLoop_kept _).steps
      · exact hk _ _

theorem takeFrame_steps (p : NetPort) (b : List Byte) (s : State) : Steps s (takeFrame p b s) := by
  refine screened_steps _ _ _ (fun f t => ?_) _
  split
  · exact .refl _
  · refine (consume_steps _ _ _).trans ?_
    split
    · exact (passOn_kept _ _ _ _).steps
    · exact .refl _

/-! ## Resets -/

theorem coldState_steps (k : Bool) (s : State) : Steps s (coldState k s) := by
  refine Pairs.steps ⟨rfl, rfl, ?_, id⟩
  intro h; unfold Shaped at *; simp only [coldState, List.length_map]
  exact ⟨rfl, rfl, rfl, h.2.2.2.1, rfl, rfl, rfl, rfl, rfl, h.2.2.2.2.2.2.2.2.2⟩

theorem coldReset_steps (k : Nat) (s : State) : Steps s (coldReset k s) := by
  unfold coldReset; exact (coldState_steps _ _).trans (noteReset_kept _ _ _).steps

theorem porState_steps (s : State) : Steps s (porState s) := by
  refine Pairs.steps ⟨rfl, rfl, ?_, ?_⟩
  · intro h; unfold Shaped at *
    exact ⟨rfl, rfl, rfl, rfl, rfl, rfl, rfl, rfl, rfl, h.2.2.2.2.2.2.2.2.2⟩
  · intro _; refine ⟨fun h => ?_, fun _ => ⟨.inl rfl, .inl rfl⟩⟩
    simp [porState, porSafety] at h

theorem dueReset_steps (s : State) : Steps s (dueReset s) := by
  unfold dueReset; split
  · exact coldReset_steps _ _
  · split
    · exact (warmReset_kept _).steps
    · exact .refl _

theorem tick_steps (s : State) : Steps s (tick s) := by
  unfold tick; exact (dueReset_steps _).trans (((upkeep_kept _).trans (clockTick_kept _)).steps)

theorem pinReset_steps (s : State) : Steps s (pinReset s) := by
  unfold pinReset; simp only []
  split
  · exact Kept.steps (by simp [Kept])
  · exact (holdReset_kept _).steps.trans ((coldReset_steps _ _).trans (Kept.steps (by simp [Kept])))

theorem enterBor_steps (c : BorCause) (s : State) : Steps s (enterBor c s) := by
  unfold enterBor; split
  · exact .refl _
  · split
    · exact Kept.steps (by simp [Kept])
    · simp only []
      have := (coldState_steps false (noteReset 2 false s)).trans (noteReset_kept _ _ _).steps
      generalize coldState false (noteReset 2 false s) = s1 at *
      exact (Kept.steps (by simp [Kept])).trans this

theorem bootFrom_steps (k : Nat) (f : BootFindings) (s : State) : Steps s (bootFrom k f s) := by
  unfold bootFrom; simp only []
  refine (finishBoot_kept _).steps.trans ((bootLog_kept _).steps.trans ((scanJournal_kept _).steps.trans ((bootSafety_steps _).trans (Kept.steps ?_))))
  refine (selectBank_kept _ _).trans ((bootLedger_kept _).trans ((bootConfig_kept _).trans ((bootCal_kept _ _).trans
    ((bootChain_kept _).trans ((bootBalls_kept _).trans ((bootTest_kept _ _).trans ((bootTrims_kept _).trans ?_)))))))
  split
  · exact (assertFault_kept _ _).trans ((trainFlash_kept _ _).trans (by simp [Kept]))
  · exact (trainFlash_kept _ _).trans (by simp [Kept])
end Sys2Proof.Machine
end

