-- ==== Sys2Proof/Laws/Commands.lean ====
section
/-! SUPPORT. What the meaning of each command keeps. -/

namespace Sys2Proof.Machine
theorem execCamSyncEdge_steps (i : Fin 5) (t0 : Nat) (falling : Bool) (width : Nat) (s : State) {t : State} (h : execCamSyncEdge i t0 falling width s = .next t) : Steps s t := by
  unfold execCamSyncEdge at h; cases h
  repeat' split
  all_goals first
    | exact .refl _
    | exact (takeEdge_kept _ _ _).steps
    | exact (takeEdge_kept _ _ _).steps.trans (nextFree_kept _).steps
    | exact (nextFree_kept _).steps

theorem execSyncEdgeMissing_steps (i : Fin 5) (s : State) {t : State} (h : execSyncEdgeMissing i s = .next t) : Steps s t := by
  unfold execSyncEdgeMissing at h; cases h
  repeat' split
  all_goals exact Kept.steps (by simp [Kept]; done)
theorem execGenlockCheck_steps (i : Fin 5) (s : State) {t : State} (h : execGenlockCheck i s = .next t) : Steps s t := by
  unfold execGenlockCheck at h; cases h
  repeat' split
  all_goals exact Kept.steps (by simp [Kept]; done)
theorem execBudgetSet_steps (r : Req) (s : State) {t : State} (h : execBudgetSet r s = .next t) : Steps s t := by
  unfold execBudgetSet at h; cases h; exact runPacket_steps budgetSetSpec_good _ _ _
theorem execRailStart_steps (s : State) {t : State} (h : execRailStart s = .next t) : Steps s t := by
  unfold execRailStart at h; cases h
  repeat' split
  all_goals exact Kept.steps (by simp [Kept]; done)
theorem execRailStaggerExpiry_steps (s : State) {t : State} (h : execRailStaggerExpiry s = .next t) : Steps s t := by
  unfold execRailStaggerExpiry at h; cases h
  repeat' split
  all_goals exact Kept.steps (by simp [Kept]; done)
theorem execRailInRegulation_steps (r : Fin 4) (reported : Bool) (s : State) {t : State} (h : execRailInRegulation r reported s = .next t) : Steps s t := by
  unfold execRailInRegulation at h; cases h
  repeat' split
  all_goals exact Kept.steps (by simp [Kept]; done)
theorem execMagnitudeFix_steps (s : State) {t : State} (h : execMagnitudeFix s = .next t) : Steps s t := by
  unfold execMagnitudeFix at h; cases h
  repeat' split
  all_goals exact Kept.steps (by simp [Kept]; done)
theorem execShuntMeasurement_steps (r : Fin 4) (microamps : Nat) (s : State) {t : State} (h : execShuntMeasurement r microamps s = .next t) : Steps s t := by
  unfold execShuntMeasurement at h; cases h
  repeat' split
  all_goals exact Kept.steps (by simp [Kept]; done)
theorem execHeadroomRequest_steps (h : HeadroomReq) (s : State) {t : State} (h : execHeadroomRequest h s = .next t) : Steps s t := by
  unfold execHeadroomRequest at h; cases h
  repeat' split
  all_goals exact Kept.steps (by simp [Kept]; done)
theorem execAmbientSet_steps (r : Req) (s : State) {t : State} (h : execAmbientSet r s = .next t) : Steps s t := by
  unfold execAmbientSet at h; cases h; exact runPacket_steps ambientSetSpec_good _ _ _
theorem execAmbientSensorRead_steps (lux : Option Nat) (s : State) {t : State} (h : execAmbientSensorRead lux s = .next t) : Steps s t := by
  unfold execAmbientSensorRead at h; cases h
  repeat' split
  all_goals exact Kept.steps (by simp [Kept]; done)
theorem execAmbientFallbackTimeout_steps (s : State) {t : State} (h : execAmbientFallbackTimeout s = .next t) : Steps s t := by
  unfold execAmbientFallbackTimeout at h; cases h
  repeat' split
  all_goals exact Kept.steps (by simp [Kept]; done)
theorem execInputCurrentSample_steps (mean10ms : Nat) (mean1s : Nat) (s : State) {t : State} (h : execInputCurrentSample mean10ms mean1s s = .next t) : Steps s t := by
  unfold execInputCurrentSample at h; cases h
  repeat' split
  all_goals exact Kept.steps (by simp [Kept]; done)
theorem execInputOvercurrent1s_steps (s : State) {t : State} (h : execInputOvercurrent1s s = .next t) : Steps s t := by
  unfold execInputOvercurrent1s at h; cases h
  repeat' split
  all_goals exact Kept.steps (by simp [Kept]; done)
theorem execLedgerRead_steps (r : Req) (s : State) {t : State} (h : execLedgerRead r s = .next t) : Steps s t := by
  unfold execLedgerRead at h; cases h; exact runPacket_steps ledgerReadSpec_good _ _ _
theorem execStreamLossTimeout_steps (l : Fin 8) (s : State) {t : State} (h : execStreamLossTimeout l s = .next t) : Steps s t := by
  unfold execStreamLossTimeout at h; cases h
  repeat' split
  all_goals exact Kept.steps (by simp [Kept]; done)
theorem execStreamReturn_steps (l : Fin 8) (s : State) {t : State} (h : execStreamReturn l s = .next t) : Steps s t := by
  unfold execStreamReturn at h; cases h
  repeat' split
  all_goals exact Kept.steps (by simp [Kept]; done)
theorem execColourSpaceSet_steps (r : Req) (s : State) {t : State} (h : execColourSpaceSet r s = .next t) : Steps s t := by
  unfold execColourSpaceSet at h; cases h; exact runPacket_steps colourSpaceSetSpec_good _ _ _
theorem execAlmanacLoad_steps (r : Req) (s : State) {t : State} (h : execAlmanacLoad r s = .next t) : Steps s t := by
  unfold execAlmanacLoad at h; cases h; exact runPacket_steps almanacLoadSpec_good _ _ _
theorem execAlmanacFileReceived_steps (s : State) {t : State} (h : execAlmanacFileReceived s = .next t) : Steps s t := by
  unfold execAlmanacFileReceived at h; cases h
  repeat' split
  all_goals exact Kept.steps (by simp [Kept]; done)
theorem execAlmanacSwap_steps (r : Req) (s : State) {t : State} (h : execAlmanacSwap r s = .next t) : Steps s t := by
  unfold execAlmanacSwap at h; cases h; exact runPacket_steps almanacSwapSpec_good _ _ _
theorem execAlmanacVerify_steps (r : Req) (s : State) {t : State} (h : execAlmanacVerify r s = .next t) : Steps s t := by
  unfold execAlmanacVerify at h; cases h; exact runPacket_steps almanacVerifySpec_good _ _ _
theorem execBinTableLoad_steps (r : Req) (s : State) {t : State} (h : execBinTableLoad r s = .next t) : Steps s t := by
  unfold execBinTableLoad at h; cases h; exact runPacket_steps binTableLoadSpec_good _ _ _
theorem execAgingRead_steps (r : Req) (s : State) {t : State} (h : execAgingRead r s = .next t) : Steps s t := by
  unfold execAgingRead at h; cases h; exact runPacket_steps agingReadSpec_good _ _ _
theorem execRecastDue_steps (s : State) {t : State} (h : execRecastDue s = .next t) : Steps s t := by
  unfold execRecastDue at h; cases h
  repeat' split
  all_goals exact Kept.steps (by simp [Kept]; done)
theorem execRecastSwap_steps (s : State) {t : State} (h : execRecastSwap s = .next t) : Steps s t := by
  unfold execRecastSwap at h; cases h
  repeat' split
  all_goals exact Kept.steps (by simp [Kept]; done)
theorem execAgingRecastSetSchedule_steps (r : Req) (s : State) {t : State} (h : execAgingRecastSetSchedule r s = .next t) : Steps s t := by
  unfold execAgingRecastSetSchedule at h; cases h; exact runPacket_steps agingRecastSpec_good _ _ _
theorem execAgingRecastNow_steps (r : Req) (s : State) {t : State} (h : execAgingRecastNow r s = .next t) : Steps s t := by
  unfold execAgingRecastNow at h; cases h; exact runPacket_steps agingRecastSpec_good _ _ _
theorem execAgingRecastSuspend_steps (r : Req) (s : State) {t : State} (h : execAgingRecastSuspend r s = .next t) : Steps s t := by
  unfold execAgingRecastSuspend at h; cases h; exact runPacket_steps agingRecastSpec_good _ _ _
theorem execStressSample_steps (s : State) {t : State} (h : execStressSample s = .next t) : Steps s t := by
  unfold execStressSample at h; cases h
  repeat' split
  all_goals exact Kept.steps (by simp [Kept]; done)
theorem execReportTrain_steps (p : Fin 48) (errors : List (BitVec 16)) (s : State) {t : State} (h : execReportTrain p errors s = .next t) : Steps s t := by
  unfold execReportTrain at h; cases h
  repeat' split
  all_goals exact Kept.steps (by simp [Kept]; done)
theorem execCellReadReply_steps (p : Fin 48) (words : List (BitVec 16)) (s : State) {t : State} (h : execCellReadReply p words s = .next t) : Steps s t := by
  unfold execCellReadReply at h; cases h
  repeat' split
  all_goals exact Kept.steps (by simp [Kept]; done)
theorem execCellReadTimeout_steps (p : Fin 48) (s : State) {t : State} (h : execCellReadTimeout p s = .next t) : Steps s t := by
  unfold execCellReadTimeout at h; cases h
  repeat' split
  all_goals exact Kept.steps (by simp [Kept]; done)
theorem execLinkWatchTimeout_steps (p : Fin 48) (s : State) {t : State} (h : execLinkWatchTimeout p s = .next t) : Steps s t := by
  unfold execLinkWatchTimeout at h; cases h
  repeat' split
  all_goals exact Kept.steps (by simp [Kept]; done)
theorem execLocalisation_steps (p : Fin 48) (s : State) {t : State} (h : execLocalisation p s = .next t) : Steps s t := by
  unfold execLocalisation at h; cases h
  repeat' split
  all_goals exact Kept.steps (by simp [Kept]; done)
theorem execTakeoverBurst_steps (l : Fin 24) (s : State) {t : State} (h : execTakeoverBurst l s = .next t) : Steps s t := by
  unfold execTakeoverBurst at h; cases h
  repeat' split
  all_goals exact Kept.steps (by simp [Kept]; done)
theorem execTakeoverCheck_steps (l : Fin 24) (s : State) {t : State} (h : execTakeoverCheck l s = .next t) : Steps s t := by
  unfold execTakeoverCheck at h; cases h
  repeat' split
  all_goals exact Kept.steps (by simp [Kept]; done)
theorem execRestoreTrial_steps (l : Fin 24) (s : State) {t : State} (h : execRestoreTrial l s = .next t) : Steps s t := by
  unfold execRestoreTrial at h; cases h
  repeat' split
  all_goals exact Kept.steps (by simp [Kept]; done)
theorem execCellFailed_steps (l : Fin 24) (cell : Fin 100) (s : State) {t : State} (h : execCellFailed l cell s = .next t) : Steps s t := by
  unfold execCellFailed at h; cases h
  repeat' split
  all_goals exact Kept.steps (by simp [Kept]; done)
theorem execChainPortTrimWrite_steps (p : Fin 48) (v : Word) (s : State) {t : State} (h : execChainPortTrimWrite p v s = .next t) : Steps s t := by
  unfold execChainPortTrimWrite at h; cases h
  repeat' split
  all_goals exact Kept.steps (by simp [Kept]; done)
theorem execChainPortSkewWrite_steps (p : Fin 48) (v : Word) (s : State) {t : State} (h : execChainPortSkewWrite p v s = .next t) : Steps s t := by
  unfold execChainPortSkewWrite at h; cases h
  repeat' split
  all_goals exact Kept.steps (by simp [Kept]; done)
theorem execDiodeConversion_steps (readings : List Int) (coreMilliwatts : Nat) (s : State) {t : State} (h : execDiodeConversion readings coreMilliwatts s = .next t) : Steps s t := by
  unfold execDiodeConversion at h; cases h
  repeat' split
  all_goals exact Kept.steps (by simp [Kept]; done)
theorem execDiodeBroken_steps (d : Fin 6) (s : State) {t : State} (h : execDiodeBroken d s = .next t) : Steps s t := by
  unfold execDiodeBroken at h; cases h
  repeat' split
  all_goals exact Kept.steps (by simp [Kept]; done)
theorem execDiodeReturn_steps (d : Fin 6) (s : State) {t : State} (h : execDiodeReturn d s = .next t) : Steps s t := by
  unfold execDiodeReturn at h; cases h
  repeat' split
  all_goals exact Kept.steps (by simp [Kept]; done)
theorem execNtcConversion_steps (input : Fin 16) (ratio : Nat) (s : State) {t : State} (h : execNtcConversion input ratio s = .next t) : Steps s t := by
  unfold execNtcConversion at h; cases h
  split
  · refine (foldl_kept (fun t k => ?_) _ _).steps
    split
    · exact convertSensor_kept _ _ _
    · exact .refl _
  · exact .refl _

theorem execZoneModelUpdate_steps (millivolts : List (Option Nat)) (s : State) {t : State} (h : execZoneModelUpdate millivolts s = .next t) : Steps s t := by
  unfold execZoneModelUpdate at h; cases h
  repeat' split
  all_goals exact Kept.steps (by simp [Kept]; done)
theorem execPmbusVoltageTimeout_steps (r : Fin 4) (s : State) {t : State} (h : execPmbusVoltageTimeout r s = .next t) : Steps s t := by
  unfold execPmbusVoltageTimeout at h; cases h
  repeat' split
  all_goals exact Kept.steps (by simp [Kept]; done)
theorem execSensorBroken_steps (i : Fin 16) (s : State) {t : State} (h : execSensorBroken i s = .next t) : Steps s t := by
  unfold execSensorBroken at h; cases h
  repeat' split
  all_goals exact Kept.steps (by simp [Kept]; done)
theorem execSensorReturn_steps (i : Fin 16) (s : State) {t : State} (h : execSensorReturn i s = .next t) : Steps s t := by
  unfold execSensorReturn at h; cases h
  repeat' split
  all_goals exact Kept.steps (by simp [Kept]; done)
theorem nextFactors_length (s : State) : (nextFactors s).length = s.therm.u.length := by simp [nextFactors]
@[simp] theorem stepFactors_kept (s : State) : Kept s (stepFactors s) := by
  unfold stepFactors; simp only []; split <;> simp [Kept, nextFactors_length]
theorem execThrottleFactorUpdate_steps (s : State) {t : State} (h : execThrottleFactorUpdate s = .next t) : Steps s t := by
  unfold execThrottleFactorUpdate at h; cases h
  repeat' split
  all_goals exact Kept.steps (by simp [Kept]; done)
theorem execThermalShutdownEnd_steps (s : State) {t : State} (h : execThermalShutdownEnd s = .next t) : Steps s t := by
  unfold execThermalShutdownEnd at h; cases h
  repeat' split
  all_goals exact Kept.steps (by simp [Kept]; done)
theorem execThermalConfig_steps (r : Req) (s : State) {t : State} (h : execThermalConfig r s = .next t) : Steps s t := by
  unfold execThermalConfig at h; cases h; exact runPacket_steps thermalConfigSpec_good _ _ _
theorem execThermalRead_steps (r : Req) (s : State) {t : State} (h : execThermalRead r s = .next t) : Steps s t := by
  unfold execThermalRead at h; cases h; exact runPacket_steps thermalReadSpec_good _ _ _
theorem execBistSlice_steps (pass : Bool) (s : State) {t : State} (h : execBistSlice pass s = .next t) : Steps s t := by
  unfold execBistSlice at h; cases h
  repeat' split
  all_goals exact Kept.steps (by simp [Kept]; done)
theorem execBistRetest_steps (block : Nat) (pass : Bool) (s : State) {t : State} (h : execBistRetest block pass s = .next t) : Steps s t := by
  unfold execBistRetest at h; cases h
  repeat' split
  all_goals exact Kept.steps (by simp [Kept]; done)
theorem execBistCycleOverrun_steps (s : State) {t : State} (h : execBistCycleOverrun s = .next t) : Steps s t := by
  unfold execBistCycleOverrun at h; cases h
  repeat' split
  all_goals exact Kept.steps (by simp [Kept]; done)
theorem execBistConfig_steps (r : Req) (s : State) {t : State} (h : execBistConfig r s = .next t) : Steps s t := by
  unfold execBistConfig at h; cases h; exact runPacket_steps bistConfigSpec_good _ _ _
theorem execBistRun_steps (r : Req) (s : State) {t : State} (h : execBistRun r s = .next t) : Steps s t := by
  unfold execBistRun at h; cases h; exact runPacket_steps bistRunSpec_good _ _ _
theorem execBistReport_steps (r : Req) (s : State) {t : State} (h : execBistReport r s = .next t) : Steps s t := by
  unfold execBistReport at h; cases h; exact runPacket_steps bistReportSpec_good _ _ _
theorem execBlockRestore_steps (r : Req) (s : State) {t : State} (h : execBlockRestore r s = .next t) : Steps s t := by
  unfold execBlockRestore at h; cases h; exact runPacket_steps blockRestoreSpec_good _ _ _
theorem execRtcUpdate_steps (s : State) {t : State} (h : execRtcUpdate s = .next t) : Steps s t := by
  unfold execRtcUpdate at h; cases h
  repeat' split
  all_goals exact Kept.steps (by simp [Kept]; done)
theorem execWakeEvent_steps (w : WakeSource) (s : State) {t : State} (h : execWakeEvent w s = .next t) : Steps s t := by
  unfold execWakeEvent at h; cases h
  repeat' split
  all_goals exact Kept.steps (by simp [Kept]; done)
theorem execStreamSubscribe_steps (r : Req) (s : State) {t : State} (h : execStreamSubscribe r s = .next t) : Steps s t := by
  unfold execStreamSubscribe at h; cases h; exact runPacket_steps streamSubscribeSpec_good _ _ _
theorem execStreamDrop_steps (r : Req) (s : State) {t : State} (h : execStreamDrop r s = .next t) : Steps s t := by
  unfold execStreamDrop at h; cases h; exact runPacket_steps streamDropSpec_good _ _ _
theorem execSt2110Packet_steps (p : NetPort) (i : Fin 8) (payload : List Byte) (full : Bool) (s : State) {t : State} (h : execSt2110Packet p i payload full s = .next t) : Steps s t := by
  unfold execSt2110Packet at h; cases h
  repeat' split
  all_goals exact Kept.steps (by simp [Kept]; done)
theorem execNativePacket_steps (p : NetPort) (i : Fin 8) (payload : List Byte) (full : Bool) (s : State) {t : State} (h : execNativePacket p i payload full s = .next t) : Steps s t := by
  unfold execNativePacket at h; cases h
  repeat' split
  all_goals exact Kept.steps (by simp [Kept]; done)
theorem execIgmpQuery_steps (p : NetPort) (version : Nat) (group : Nat) (robustness : Nat) (queryInterval : Nat) (s : State) {t : State} (h : execIgmpQuery p version group robustness queryInterval s = .next t) : Steps s t := by
  unfold execIgmpQuery at h; cases h
  repeat' split
  all_goals exact Kept.steps (by simp [Kept]; done)
theorem execIgmpReportSnooped_steps (p : NetPort) (group : Nat) (s : State) {t : State} (h : execIgmpReportSnooped p group s = .next t) : Steps s t := by
  unfold execIgmpReportSnooped at h; cases h
  repeat' split
  all_goals exact Kept.steps (by simp [Kept]; done)
theorem execSnoopMembershipExpiry_steps (p : NetPort) (group : Nat) (s : State) {t : State} (h : execSnoopMembershipExpiry p group s = .next t) : Steps s t := by
  unfold execSnoopMembershipExpiry at h; cases h
  repeat' split
  all_goals exact Kept.steps (by simp [Kept]; done)
theorem execIgmpReportRepeat_steps (s : State) {t : State} (h : execIgmpReportRepeat s = .next t) : Steps s t := by
  unfold execIgmpReportRepeat at h; cases h
  exact Kept.steps ((foldl_kept (fun _ _ => sendReport_kept _ _ _ _ _) _ _).trans (by simp [Kept]))

theorem execScalerCoeffLoad_steps (r : Req) (s : State) {t : State} (h : execScalerCoeffLoad r s = .next t) : Steps s t := by
  unfold execScalerCoeffLoad at h; cases h; exact runPacket_steps scalerCoeffLoadSpec_good _ _ _
theorem execScalerStatus_steps (r : Req) (s : State) {t : State} (h : execScalerStatus r s = .next t) : Steps s t := by
  unfold execScalerStatus at h; cases h; exact runPacket_steps scalerStatusSpec_good _ _ _
theorem execBufferAlloc_steps (r : Req) (s : State) {t : State} (h : execBufferAlloc r s = .next t) : Steps s t := by
  unfold execBufferAlloc at h; cases h; exact runPacket_steps bufferAllocSpec_good _ _ _
theorem execSlideFillComplete_steps (s : State) {t : State} (h : execSlideFillComplete s = .next t) : Steps s t := by
  unfold execSlideFillComplete at h; cases h
  repeat' split
  all_goals exact Kept.steps (by simp [Kept]; done)
theorem execBufferRelease_steps (r : Req) (s : State) {t : State} (h : execBufferRelease r s = .next t) : Steps s t := by
  unfold execBufferRelease at h; cases h; exact runPacket_steps bufferReleaseSpec_good _ _ _
theorem execBufferWrite_steps (r : Req) (s : State) {t : State} (h : execBufferWrite r s = .next t) : Steps s t := by
  unfold execBufferWrite at h; cases h; exact runPacket_steps bufferWriteSpec_good _ _ _
theorem execBufferStatus_steps (r : Req) (s : State) {t : State} (h : execBufferStatus r s = .next t) : Steps s t := by
  unfold execBufferStatus at h; cases h; exact runPacket_steps bufferStatusSpec_good _ _ _
theorem execLayerSet_steps (r : Req) (s : State) {t : State} (h : execLayerSet r s = .next t) : Steps s t := by
  unfold execLayerSet at h; cases h; exact runPacket_steps layerSetSpec_good _ _ _
theorem execLayerClear_steps (r : Req) (s : State) {t : State} (h : execLayerClear r s = .next t) : Steps s t := by
  unfold execLayerClear at h; cases h; exact runPacket_steps layerClearSpec_good _ _ _
theorem execBackgroundSet_steps (r : Req) (s : State) {t : State} (h : execBackgroundSet r s = .next t) : Steps s t := by
  unfold execBackgroundSet at h; cases h; exact runPacket_steps backgroundSetSpec_good _ _ _
theorem execWriteback_steps (r : Req) (s : State) {t : State} (h : execWriteback r s = .next t) : Steps s t := by
  unfold execWriteback at h; cases h; exact runPacket_steps writebackSpec_good _ _ _
theorem execCompositeComplete_steps (s : State) {t : State} (h : execCompositeComplete s = .next t) : Steps s t := by
  unfold execCompositeComplete at h; cases h
  repeat' split
  all_goals exact Kept.steps (by simp [Kept]; done)
theorem execPrefetchStart_steps (s : State) {t : State} (h : execPrefetchStart s = .next t) : Steps s t := by
  unfold execPrefetchStart at h; cases h
  split
  · exact (foldl_kept (fun t p => Kept.trans (modPort_kept _ _ _) (by simp [Kept])) _ _).steps
  · exact .refl _

theorem execUploadStart_steps (s : State) {t : State} (h : execUploadStart s = .next t) : Steps s t := by
  unfold execUploadStart at h; cases h
  repeat' split
  all_goals exact Kept.steps (by simp [Kept]; done)
theorem execFifoUnderrun_steps (p : Fin 48) (row : Fin 32) (s : State) {t : State} (h : execFifoUnderrun p row s = .next t) : Steps s t := by
  unfold execFifoUnderrun at h; cases h
  repeat' split
  all_goals exact Kept.steps (by simp [Kept]; done)
theorem execLatchWindowOpen_steps (s : State) {t : State} (h : execLatchWindowOpen s = .next t) : Steps s t := by
  unfold execLatchWindowOpen at h; cases h
  repeat' split
  all_goals exact Kept.steps (by simp [Kept]; done)
theorem execLatchLaunch_steps (s : State) {t : State} (h : execLatchLaunch s = .next t) : Steps s t := by
  unfold execLatchLaunch at h; cases h
  repeat' split
  all_goals exact Kept.steps (by simp [Kept]; done)
theorem execTransit_steps (s : State) {t : State} (h : execTransit s = .next t) : Steps s t := by
  unfold execTransit at h; cases h
  repeat' split
  all_goals exact Kept.steps (by simp [Kept]; done)
theorem execPresentationFrameStart_steps (s : State) {t : State} (h : execPresentationFrameStart s = .next t) : Steps s t := by
  unfold execPresentationFrameStart at h; cases h
  repeat' split
  all_goals exact Kept.steps (by simp [Kept]; done)
theorem execProgramSet_steps (r : Req) (s : State) {t : State} (h : execProgramSet r s = .next t) : Steps s t := by
  unfold execProgramSet at h; cases h; exact runPacket_steps programSetSpec_good _ _ _
theorem execProgramStatus_steps (r : Req) (s : State) {t : State} (h : execProgramStatus r s = .next t) : Steps s t := by
  unfold execProgramStatus at h; cases h; exact runPacket_steps programStatusSpec_good _ _ _
theorem execCamsyncConfig_steps (r : Req) (s : State) {t : State} (h : execCamsyncConfig r s = .next t) : Steps s t := by
  unfold execCamsyncConfig at h; cases h; exact runPacket_steps camsyncConfigSpec_good _ _ _
theorem execFreeze_steps (r : Req) (s : State) {t : State} (h : execFreeze r s = .next t) : Steps s t := by
  unfold execFreeze at h; cases h; exact runPacket_steps freezeSpec_good _ _ _
theorem execBlank_steps (r : Req) (s : State) {t : State} (h : execBlank r s = .next t) : Steps s t := by
  unfold execBlank at h; cases h; exact runPacket_steps blankSpec_good _ _ _
theorem execPtpAnnounce_steps (p : NetPort) (a : Announce) (s : State) {t : State} (h : execPtpAnnounce p a s = .next t) : Steps s t := by
  unfold execPtpAnnounce at h; cases h
  repeat' split
  all_goals exact Kept.steps (by simp [Kept]; done)
theorem execAnnounceReceiptTimeout_steps (p : NetPort) (s : State) {t : State} (h : execAnnounceReceiptTimeout p s = .next t) : Steps s t := by
  unfold execAnnounceReceiptTimeout at h; cases h
  repeat' split
  all_goals exact Kept.steps (by simp [Kept]; done)
theorem takePtp_steps (p : NetPort) (b : List Byte) (n : Nat) (f : Frame) (s : State) : Steps s (takePtp p b n f s) := by
  unfold takePtp; repeat' split
  · exact ((consumePtp_kept _ _ _).trans (forwardPtp_kept _ _ _ _ _)).steps
  · exact (passOn_kept _ _ _ _).steps
  · exact .refl _
theorem execPtpEventMessage_steps (p : NetPort) (frame : List Byte) (ticks : Nat) (s : State) {t : State} (h : execPtpEventMessage p frame ticks s = .next t) : Steps s t := by
  unfold execPtpEventMessage at h; cases h
  split
  · exact screened_steps _ _ _ (fun _ _ => takePtp_steps _ _ _ _ _) _
  · exact .refl _
theorem execOffsetSample_steps (t0 : PtpTimes) (s : State) {t : State} (h : execOffsetSample t0 s = .next t) : Steps s t := by
  unfold execOffsetSample at h; cases h
  repeat' split
  · exact ((takeOffset_kept _ _ _ _).trans (by simp [Kept])).steps
  · exact Kept.steps (by simp [Kept])
  · exact .refl _
  · exact .refl _

theorem execHoldoverEntry_steps (s : State) {t : State} (h : execHoldoverEntry s = .next t) : Steps s t := by
  unfold execHoldoverEntry at h; cases h
  repeat' split
  all_goals exact Kept.steps (by simp [Kept]; done)
theorem execHoldover30s_steps (s : State) {t : State} (h : execHoldover30s s = .next t) : Steps s t := by
  unfold execHoldover30s at h; cases h
  repeat' split
  all_goals exact Kept.steps (by simp [Kept]; done)
theorem execTimeConfig_steps (r : Req) (s : State) {t : State} (h : execTimeConfig r s = .next t) : Steps s t := by
  unfold execTimeConfig at h; cases h; exact runPacket_steps timeConfigSpec_good _ _ _
theorem execTimeStatus_steps (r : Req) (s : State) {t : State} (h : execTimeStatus r s = .next t) : Steps s t := by
  unfold execTimeStatus at h; cases h; exact runPacket_steps timeStatusSpec_good _ _ _
theorem execScheduleList_steps (r : Req) (s : State) {t : State} (h : execScheduleList r s = .next t) : Steps s t := by
  unfold execScheduleList at h; cases h; exact runPacket_steps scheduleListSpec_good _ _ _
theorem execScheduleCancel_steps (r : Req) (s : State) {t : State} (h : execScheduleCancel r s = .next t) : Steps s t := by
  unfold execScheduleCancel at h; cases h; exact runPacket_steps scheduleCancelSpec_good _ _ _
theorem execEphemerisLoad_steps (s : State) {t : State} (h : execEphemerisLoad s = .next t) : Steps s t := by
  unfold execEphemerisLoad at h; cases h
  repeat' split
  all_goals exact Kept.steps (by simp [Kept]; done)
theorem execSnapshot_steps (r : Req) (s : State) {t : State} (h : execSnapshot r s = .next t) : Steps s t := by
  unfold execSnapshot at h; cases h; exact runPacket_steps snapshotSpec_good _ _ _
theorem execChkCtrlWrite_steps (u : Fin 4) (v : Word) (s : State) {t : State} (h : execChkCtrlWrite u v s = .next t) : Steps s t := by
  unfold execChkCtrlWrite at h; cases h
  repeat' split
  all_goals exact Kept.steps (by simp [Kept]; done)
theorem execChkRestart_steps (u : Fin 4) (s : State) {t : State} (h : execChkRestart u s = .next t) : Steps s t := by
  unfold execChkRestart at h; cases h
  repeat' split
  all_goals exact Kept.steps (by simp [Kept]; done)
theorem execChkPolyWrite_steps (u : Fin 4) (v : Word) (s : State) {t : State} (h : execChkPolyWrite u v s = .next t) : Steps s t := by
  unfold execChkPolyWrite at h; cases h
  repeat' split
  all_goals exact Kept.steps (by simp [Kept]; done)
theorem execChkInitWrite_steps (u : Fin 4) (v : Word) (s : State) {t : State} (h : execChkInitWrite u v s = .next t) : Steps s t := by
  unfold execChkInitWrite at h; cases h
  repeat' split
  all_goals exact Kept.steps (by simp [Kept]; done)
theorem execChkValueWrite_steps (u : Fin 4) (v : Word) (s : State) {t : State} (h : execChkValueWrite u v s = .next t) : Steps s t := by
  unfold execChkValueWrite at h; cases h
  repeat' split
  all_goals exact Kept.steps (by simp [Kept]; done)
theorem execFeed8_steps (u : Fin 4) (v : Word) (s : State) {t : State} (h : execFeed8 u v s = .next t) : Steps s t := by
  unfold execFeed8 at h; cases h
  repeat' split
  all_goals exact Kept.steps (by simp [Kept]; done)
theorem execFeed16_steps (u : Fin 4) (v : Word) (s : State) {t : State} (h : execFeed16 u v s = .next t) : Steps s t := by
  unfold execFeed16 at h; cases h
  repeat' split
  all_goals exact Kept.steps (by simp [Kept]; done)
theorem execFeed32_steps (u : Fin 4) (v : Word) (s : State) {t : State} (h : execFeed32 u v s = .next t) : Steps s t := by
  unfold execFeed32 at h; cases h
  repeat' split
  all_goals exact Kept.steps (by simp [Kept]; done)
theorem execAliveCtrlWrite_steps (u : Fin 4) (v : Word) (s : State) {t : State} (h : execAliveCtrlWrite u v s = .next t) : Steps s t := by
  unfold execAliveCtrlWrite at h; cases h
  repeat' split
  all_goals exact Kept.steps (by simp [Kept]; done)
theorem execAliveFeed_steps (u : Fin 4) (v : Word) (s : State) {t : State} (h : execAliveFeed u v s = .next t) : Steps s t := by
  unfold execAliveFeed at h; cases h
  repeat' split
  all_goals exact Kept.steps (by simp [Kept]; done)
theorem execCheckRunComplete_steps (u : Fin 4) (s : State) {t : State} (h : execCheckRunComplete u s = .next t) : Steps s t := by
  unfold execCheckRunComplete at h; cases h
  repeat' split
  all_goals exact Kept.steps (by simp [Kept]; done)
theorem execCheckConfig_steps (r : Req) (s : State) {t : State} (h : execCheckConfig r s = .next t) : Steps s t := by
  unfold execCheckConfig at h; cases h; exact runPacket_steps checkConfigSpec_good _ _ _
theorem execCheckRun_steps (r : Req) (s : State) {t : State} (h : execCheckRun r s = .next t) : Steps s t := by
  unfold execCheckRun at h; cases h; exact runPacket_steps checkRunSpec_good _ _ _
theorem execCheckContextRead_steps (r : Req) (s : State) {t : State} (h : execCheckContextRead r s = .next t) : Steps s t := by
  unfold execCheckContextRead at h; cases h; exact runPacket_steps checkContextReadSpec_good _ _ _
theorem execCheckContextWrite_steps (r : Req) (s : State) {t : State} (h : execCheckContextWrite r s = .next t) : Steps s t := by
  unfold execCheckContextWrite at h; cases h; exact runPacket_steps checkContextWriteSpec_good _ _ _
theorem execJournalCommit_steps (s : State) {t : State} (h : execJournalCommit s = .next t) : Steps s t := by
  unfold execJournalCommit at h; cases h
  repeat' split
  all_goals exact Kept.steps (by simp [Kept]; done)
theorem execFlashGraceWindowExpiry_steps (s : State) {t : State} (h : execFlashGraceWindowExpiry s = .next t) : Steps s t := by
  unfold execFlashGraceWindowExpiry at h; cases h
  repeat' split
  all_goals exact Kept.steps (by simp [Kept]; done)
theorem execJournalScan_steps (s : State) {t : State} (h : execJournalScan s = .next t) : Steps s t := by
  unfold execJournalScan at h; cases h
  repeat' split
  all_goals exact Kept.steps (by simp [Kept]; done)
theorem execJournalCompaction_steps (s : State) {t : State} (h : execJournalCompaction s = .next t) : Steps s t := by
  unfold execJournalCompaction at h; cases h
  repeat' split
  all_goals exact Kept.steps (by simp [Kept]; done)
theorem execCheckpointWrite_steps (s : State) {t : State} (h : execCheckpointWrite s = .next t) : Steps s t := by
  unfold execCheckpointWrite at h; cases h
  repeat' split
  all_goals exact Kept.steps (by simp [Kept]; done)
theorem execCheckpointErase_steps (s : State) {t : State} (h : execCheckpointErase s = .next t) : Steps s t := by
  unfold execCheckpointErase at h; cases h
  repeat' split
  all_goals exact Kept.steps (by simp [Kept]; done)
theorem execFlashScrub_steps (bad : List (Nat × Nat)) (s : State) {t : State} (h : execFlashScrub bad s = .next t) : Steps s t := by
  unfold execFlashScrub at h; cases h
  repeat' split
  all_goals first
    | exact .refl _
    | exact Kept.steps ((foldl_kept (fun _ _ => scrubObject_kept _ _ _) _ _).trans (by simp [Kept]))

theorem execNvmRead_steps (r : Req) (s : State) {t : State} (h : execNvmRead r s = .next t) : Steps s t := by
  unfold execNvmRead at h; cases h; exact runPacket_steps nvmReadSpec_good _ _ _
theorem execNvmWrite_steps (r : Req) (s : State) {t : State} (h : execNvmWrite r s = .next t) : Steps s t := by
  unfold execNvmWrite at h; cases h; exact runPacket_steps nvmWriteSpec_good _ _ _
theorem execImageStage_steps (r : Req) (s : State) {t : State} (h : execImageStage r s = .next t) : Steps s t := by
  unfold execImageStage at h; cases h; exact runPacket_steps imageStageSpec_good _ _ _
theorem execImageActivateStaged_steps (r : Req) (s : State) {t : State} (h : execImageActivateStaged r s = .next t) : Steps s t := by
  unfold execImageActivateStaged at h; cases h; exact runPacket_steps imageActivateSpec_good _ _ _
theorem execImageActivateRevert_steps (r : Req) (s : State) {t : State} (h : execImageActivateRevert r s = .next t) : Steps s t := by
  unfold execImageActivateRevert at h; cases h; exact runPacket_steps imageActivateSpec_good _ _ _
theorem execImageActivateEndProbation_steps (r : Req) (s : State) {t : State} (h : execImageActivateEndProbation r s = .next t) : Steps s t := by
  unfold execImageActivateEndProbation at h; cases h; exact runPacket_steps imageActivateSpec_good _ _ _
theorem execProbationEnd_steps (s : State) {t : State} (h : execProbationEnd s = .next t) : Steps s t := by
  unfold execProbationEnd at h; cases h
  repeat' split
  all_goals first
    | exact .refl _
    | exact endProbation_steps _

theorem execJournalStatus_steps (r : Req) (s : State) {t : State} (h : execJournalStatus r s = .next t) : Steps s t := by
  unfold execJournalStatus at h; cases h; exact runPacket_steps journalStatusSpec_good _ _ _
theorem execLevelChange_steps (s : State) {t : State} (h : execLevelChange s = .next t) : Steps s t := by
  unfold execLevelChange at h; cases h
  repeat' split
  all_goals exact Kept.steps (by simp [Kept]; done)
theorem execDemandLevelLower_steps (s : State) {t : State} (h : execDemandLevelLower s = .next t) : Steps s t := by
  unfold execDemandLevelLower at h; cases h
  repeat' split
  all_goals exact Kept.steps (by simp [Kept]; done)
theorem execPlevelSet_steps (r : Req) (s : State) {t : State} (h : execPlevelSet r s = .next t) : Steps s t := by
  unfold execPlevelSet at h; cases h; exact runPacket_steps plevelSetSpec_good _ _ _
theorem execPowerVoteWithdraw_steps (r : Req) (s : State) {t : State} (h : execPowerVoteWithdraw r s = .next t) : Steps s t := by
  unfold execPowerVoteWithdraw at h; cases h; exact runPacket_steps powerVoteSpec_good _ _ _
theorem execPowerVoteAdd_steps (r : Req) (s : State) {t : State} (h : execPowerVoteAdd r s = .next t) : Steps s t := by
  unfold execPowerVoteAdd at h; cases h; exact runPacket_steps powerVoteSpec_good _ _ _
theorem execPowerVoteTakeOver_steps (r : Req) (s : State) {t : State} (h : execPowerVoteTakeOver r s = .next t) : Steps s t := by
  unfold execPowerVoteTakeOver at h; cases h; exact runPacket_steps powerVoteSpec_good _ _ _
theorem execImplicitVoteWithdraw_steps (s : State) {t : State} (h : execImplicitVoteWithdraw s = .next t) : Steps s t := by
  unfold execImplicitVoteWithdraw at h; cases h
  repeat' split
  all_goals exact Kept.steps (by simp [Kept]; done)
theorem execPowerStateRun_steps (r : Req) (s : State) {t : State} (h : execPowerStateRun r s = .next t) : Steps s t := by
  unfold execPowerStateRun at h; cases h; exact runPacket_steps powerStateSpec_good _ _ _
theorem execPowerStateTwilight_steps (r : Req) (s : State) {t : State} (h : execPowerStateTwilight r s = .next t) : Steps s t := by
  unfold execPowerStateTwilight at h; cases h; exact runPacket_steps powerStateSpec_good _ _ _
theorem execPowerStateNadir_steps (r : Req) (s : State) {t : State} (h : execPowerStateNadir r s = .next t) : Steps s t := by
  unfold execPowerStateNadir at h; cases h; exact runPacket_steps powerStateSpec_good _ _ _
theorem execOrderlyShutdown_steps (r : Req) (s : State) {t : State} (h : execOrderlyShutdown r s = .next t) : Steps s t := by
  unfold execOrderlyShutdown at h; cases h; exact runPacket_steps powerStateSpec_good _ _ _
theorem execWakeStepReady_steps (s : State) {t : State} (h : execWakeStepReady s = .next t) : Steps s t := by
  unfold execWakeStepReady at h; cases h
  repeat' split
  all_goals exact Kept.steps (by simp [Kept]; done)
theorem execWakeStepTimeout_steps (s : State) {t : State} (h : execWakeStepTimeout s = .next t) : Steps s t := by
  unfold execWakeStepTimeout at h; cases h
  repeat' split
  all_goals exact Kept.steps (by simp [Kept]; done)
theorem execWakeRecordRead_steps (r : Req) (s : State) {t : State} (h : execWakeRecordRead r s = .next t) : Steps s t := by
  unfold execWakeRecordRead at h; cases h; exact runPacket_steps wakeRecordReadSpec_good _ _ _
theorem execChainEnumerate_steps (r : Req) (s : State) {t : State} (h : execChainEnumerate r s = .next t) : Steps s t := by
  unfold execChainEnumerate at h; cases h; exact runPacket_steps chainEnumerateSpec_good _ _ _
theorem execChainStatus_steps (r : Req) (s : State) {t : State} (h : execChainStatus r s = .next t) : Steps s t := by
  unfold execChainStatus at h; cases h; exact runPacket_steps chainStatusSpec_good _ _ _
theorem execMeridianSet_steps (r : Req) (s : State) {t : State} (h : execMeridianSet r s = .next t) : Steps s t := by
  unfold execMeridianSet at h; cases h; exact runPacket_steps meridianSetSpec_good _ _ _
theorem execCellConfig_steps (r : Req) (s : State) {t : State} (h : execCellConfig r s = .next t) : Steps s t := by
  unfold execCellConfig at h; cases h; exact runPacket_steps cellConfigSpec_good _ _ _
theorem execRasterSet_steps (r : Req) (s : State) {t : State} (h : execRasterSet r s = .next t) : Steps s t := by
  unfold execRasterSet at h; cases h; exact runPacket_steps rasterSetSpec_good _ _ _
theorem execFaultMapRead_steps (r : Req) (s : State) {t : State} (h : execFaultMapRead r s = .next t) : Steps s t := by
  unfold execFaultMapRead at h; cases h; exact runPacket_steps faultMapReadSpec_good _ _ _
theorem execDiagMapRead_steps (l : Fin 24) (cell : Fin 100) (s : State) {t : State} (h : execDiagMapRead l cell s = .next t) : Steps s t := by
  unfold execDiagMapRead at h; cases h
  repeat' split
  all_goals exact Kept.steps (by simp [Kept]; done)
theorem execDiagRunShort_steps (r : Req) (s : State) {t : State} (h : execDiagRunShort r s = .next t) : Steps s t := by
  unfold execDiagRunShort at h; cases h; exact runPacket_steps diagRunSpec_good _ _ _
theorem execDiagRunAdjShort_steps (r : Req) (s : State) {t : State} (h : execDiagRunAdjShort r s = .next t) : Steps s t := by
  unfold execDiagRunAdjShort at h; cases h; exact runPacket_steps diagRunSpec_good _ _ _
theorem execDiagRunOpen_steps (r : Req) (s : State) {t : State} (h : execDiagRunOpen r s = .next t) : Steps s t := by
  unfold execDiagRunOpen at h; cases h; exact runPacket_steps diagRunSpec_good _ _ _
theorem execDiagRunBallTest_steps (r : Req) (s : State) {t : State} (h : execDiagRunBallTest r s = .next t) : Steps s t := by
  unfold execDiagRunBallTest at h; cases h; exact runPacket_steps diagRunSpec_good _ _ _
theorem execTwinkleConfig_steps (r : Req) (s : State) {t : State} (h : execTwinkleConfig r s = .next t) : Steps s t := by
  unfold execTwinkleConfig at h; cases h; exact runPacket_steps twinkleConfigSpec_good _ _ _
theorem execAgeSweep_steps (s : State) {t : State} (h : execAgeSweep s = .next t) : Steps s t := by
  unfold execAgeSweep at h; cases h
  repeat' split
  all_goals exact Kept.steps (by simp [Kept]; done)
theorem execTwinkleDispatch_steps (s : State) {t : State} (h : execTwinkleDispatch s = .next t) : Steps s t := by
  unfold execTwinkleDispatch at h; cases h
  repeat' split
  all_goals first
    | exact .refl _
    | exact (foldl_kept (fun _ _ => foldl_kept (fun _ _ => twinkleRow_kept _ _ _) _ _) _ _).steps

theorem execDiagSweep_steps (s : State) {t : State} (h : execDiagSweep s = .next t) : Steps s t := by
  unfold execDiagSweep at h; cases h
  repeat' split
  all_goals exact Kept.steps (by simp [Kept]; done)

theorem execCalibrate_steps (r : Req) (s : State) {t : State} (h : execCalibrate r s = .next t) : Steps s t := by
  unfold execCalibrate at h; cases h; exact runPacket_steps calibrateSpec_good _ _ _
theorem execCalibrationSlice_steps (m : CalMeasure) (s : State) {t : State} (h : execCalibrationSlice m s = .next t) : Steps s t := by
  unfold execCalibrationSlice at h; cases h
  repeat' split
  all_goals exact Kept.steps (by simp [Kept]; done)
theorem execTrimRead_steps (r : Req) (s : State) {t : State} (h : execTrimRead r s = .next t) : Steps s t := by
  unfold execTrimRead at h; cases h; exact runPacket_steps trimReadSpec_good _ _ _
theorem execSafetyInputChange_steps (i : SafetyInput) (on : Bool) (s : State) {t : State} (h : execSafetyInputChange i on s = .next t) : Steps s t := by
  unfold execSafetyInputChange at h; cases h
  repeat' split
  all_goals first
    | exact .refl _
    | exact takeLevel_steps _ _ _

theorem execDiscrepancyTimeout_steps (p : SafetyPair) (s : State) {t : State} (h : execDiscrepancyTimeout p s = .next t) : Steps s t := by
  unfold execDiscrepancyTimeout at h; cases h
  repeat' split
  all_goals first
    | exact .refl _
    | exact (lockout_steps _ _).trans (Pairs.steps ⟨rfl, rfl, id, id⟩)

theorem execInputTestPulse_steps (fromB : Bool) (failed : List SafetyInput) (s : State) {t : State} (h : execInputTestPulse fromB failed s = .next t) : Steps s t := by
  unfold execInputTestPulse at h; cases h
  exact testInputs_steps _ _ _

theorem execOutputTestPulse_steps (o : SafetyOut) (readbackOk : Bool) (s : State) {t : State} (h : execOutputTestPulse o readbackOk s = .next t) : Steps s t := by
  unfold execOutputTestPulse at h; cases h
  repeat' split
  all_goals first
    | exact .refl _
    | exact lockout_steps _ _

theorem execEdmTimeout_steps (p : OutPair) (s : State) {t : State} (h : execEdmTimeout p s = .next t) : Steps s t := by
  unfold execEdmTimeout at h; cases h
  split
  · simp only []; split
    · refine (lockout_steps _ _).trans (Pairs.steps ?_)
      cases p <;> exact ⟨rfl, rfl, id, id⟩
    · exact .refl _
  · exact .refl _

theorem execHeartbeatLoss_steps (s : State) {t : State} (h : execHeartbeatLoss s = .next t) : Steps s t := by
  unfold execHeartbeatLoss at h; cases h
  repeat' split
  all_goals first
    | exact .refl _
    | exact lockout_steps _ _

theorem execChannelDisagreement_steps (p : OutPair) (s : State) {t : State} (h : execChannelDisagreement p s = .next t) : Steps s t := by
  unfold execChannelDisagreement at h; cases h
  repeat' split
  all_goals first
    | exact .refl _
    | exact lockout_steps _ _

theorem execSafetyMemoryFault_steps (s : State) {t : State} (h : execSafetyMemoryFault s = .next t) : Steps s t := by
  unfold execSafetyMemoryFault at h; cases h
  repeat' split
  all_goals first
    | exact .refl _
    | exact lockout_steps _ _

theorem execResetPress_steps (milliseconds : Nat) (s : State) {t : State} (h : execResetPress milliseconds s = .next t) : Steps s t := by
  unfold execResetPress at h; cases h
  have h1 : Steps s { s with safety := { s.safety with levels := setAt s.safety.levels 10 false, pressSince := none, offSince := nowNs s } } :=
    Pairs.steps ⟨rfl, rfl, fun h => by unfold Shaped at *; simpa using h, id⟩
  repeat' split
  all_goals first
    | exact .refl _
    | exact h1
    | exact (pressReset_steps _).trans h1

theorem execSrstStuck_steps (s : State) {t : State} (h : execSrstStuck s = .next t) : Steps s t := by
  unfold execSrstStuck at h; cases h
  repeat' split
  all_goals exact Kept.steps (by simp [Kept]; done)
theorem execSrstStuckClear_steps (s : State) {t : State} (h : execSrstStuckClear s = .next t) : Steps s t := by
  unfold execSrstStuckClear at h; cases h
  repeat' split
  all_goals exact Kept.steps (by simp [Kept]; done)
theorem execSafeOffRequest_steps (r : Req) (s : State) {t : State} (h : execSafeOffRequest r s = .next t) : Steps s t := by
  unfold execSafeOffRequest at h; cases h; exact runPacket_steps safeOffSpec_good _ _ _
theorem execNetworkSafetyTimeout_steps (s : State) {t : State} (h : execNetworkSafetyTimeout s = .next t) : Steps s t := by
  unfold execNetworkSafetyTimeout at h; cases h
  repeat' split
  all_goals first
    | exact .refl _
    | exact (judgePairs_steps _).trans (Pairs.steps ⟨rfl, rfl, id, id⟩)

theorem execSafetyConfig_steps (r : Req) (s : State) {t : State} (h : execSafetyConfig r s = .next t) : Steps s t := by
  unfold execSafetyConfig at h; cases h; exact runPacket_steps safetyConfigSpec_good _ _ _
theorem execSafetyConfigTimeout_steps (s : State) {t : State} (h : execSafetyConfigTimeout s = .next t) : Steps s t := by
  unfold execSafetyConfigTimeout at h; cases h
  repeat' split
  all_goals first | exact .refl _ | exact (dropChange_kept _ _).steps
theorem execSafetyStatus_steps (r : Req) (s : State) {t : State} (h : execSafetyStatus r s = .next t) : Steps s t := by
  unfold execSafetyStatus at h; cases h; exact runPacket_steps safetyStatusSpec_good _ _ _
theorem execRegisterWrite_steps (addr : Nat) (v : Word) (s : State) {t : State} (h : execRegisterWrite addr v s = .next t) : Steps s t := by
  unfold execRegisterWrite at h; cases h
  repeat' split
  all_goals exact Kept.steps (by simp [Kept]; done)
theorem execCommandPolicyWrite_steps (byRegWrite : Bool) (auth : Bool) (v : Word) (s : State) {t : State} (h : execCommandPolicyWrite byRegWrite auth v s = .next t) : Steps s t := by
  unfold execCommandPolicyWrite at h; cases h
  repeat' split
  all_goals exact Kept.steps (by simp [Kept]; done)
theorem execPortConfigWrite_steps (p : NetPort) (v : Word) (s : State) {t : State} (h : execPortConfigWrite p v s = .next t) : Steps s t := by
  unfold execPortConfigWrite at h; cases h
  repeat' split
  all_goals exact Kept.steps (by simp [Kept]; done)
theorem execPortLinkChange_steps (p : NetPort) (up : Bool) (s : State) {t : State} (h : execPortLinkChange p up s = .next t) : Steps s t := by
  unfold execPortLinkChange at h; cases h
  repeat' split
  all_goals exact Kept.steps (by simp [Kept]; done)
theorem execStatus_steps (code : BitVec 8) (s : State) {t : State} (h : execStatus code s = .next t) : Steps s t := by
  unfold execStatus at h; cases h
  repeat' split
  all_goals exact Kept.steps (by simp [Kept]; done)
theorem execWindowWrite_steps (x0 : Bool) (addr : BitVec 24) (words : List Word) (s : State) {t : State} (h : execWindowWrite x0 addr words s = .next t) : Steps s t := by
  unfold execWindowWrite at h; cases h
  repeat' split
  all_goals exact Kept.steps (by simp [Kept]; done)
theorem execWindowRead_steps (x0 : Bool) (addr : BitVec 24) (count : Nat) (s : State) {t : State} (h : execWindowRead x0 addr count s = .next t) : Steps s t := by
  unfold execWindowRead at h; cases h
  split
  · exact .refl _
  · exact (wakeBy_kept _ _).steps
  · simp only []; split <;> exact Kept.steps (by simp [Kept])
  · simp only []; split
    · exact Kept.steps (by simp [Kept])
    · exact ((endTransaction_kept _ _).trans ((foldl_kept (fun _ _ => readWord_kept _ _) _ _).trans (beginTransaction_kept _))).steps

theorem execReplyRead_steps (x0 : Bool) (offset : BitVec 24) (count : Nat) (s : State) {t : State} (h : execReplyRead x0 offset count s = .next t) : Steps s t := by
  unfold execReplyRead at h; cases h
  repeat' split
  all_goals exact Kept.steps (by simp [Kept]; done)
theorem execRegRead_steps (r : Req) (s : State) {t : State} (h : execRegRead r s = .next t) : Steps s t := by
  unfold execRegRead at h; cases h; exact runPacket_steps regReadSpec_good _ _ _
theorem execRegWrite_steps (r : Req) (s : State) {t : State} (h : execRegWrite r s = .next t) : Steps s t := by
  unfold execRegWrite at h; cases h; exact runPacket_steps regWriteSpec_good _ _ _
theorem execNop_steps (r : Req) (s : State) {t : State} (h : execNop r s = .next t) : Steps s t := by
  unfold execNop at h; cases h; exact runPacket_steps nopSpec_good _ _ _
theorem execIdentify_steps (r : Req) (s : State) {t : State} (h : execIdentify r s = .next t) : Steps s t := by
  unfold execIdentify at h; cases h; exact runPacket_steps identifySpec_good _ _ _
theorem execQuery_steps (r : Req) (s : State) {t : State} (h : execQuery r s = .next t) : Steps s t := by
  unfold execQuery at h; cases h; exact runPacket_steps querySpec_good _ _ _
theorem execFetchPartial_steps (r : Req) (s : State) {t : State} (h : execFetchPartial r s = .next t) : Steps s t := by
  unfold execFetchPartial at h; cases h; exact runPacket_steps fetchPartialSpec_good _ _ _
theorem execResultsExpiry_steps (s : State) {t : State} (h : execResultsExpiry s = .next t) : Steps s t := by
  unfold execResultsExpiry at h; cases h
  repeat' split
  all_goals exact Kept.steps (by simp [Kept]; done)
theorem execAbort_steps (r : Req) (s : State) {t : State} (h : execAbort r s = .next t) : Steps s t := by
  unfold execAbort at h; cases h; exact runPacket_steps abortSpec_good _ _ _
theorem execResetCold_steps (r : Req) (s : State) {t : State} (h : execResetCold r s = .next t) : Steps s t := by
  unfold execResetCold at h; cases h; exact runPacket_steps resetSpec_good _ _ _
theorem execResetWarm_steps (r : Req) (s : State) {t : State} (h : execResetWarm r s = .next t) : Steps s t := by
  unfold execResetWarm at h; cases h; exact runPacket_steps resetSpec_good _ _ _
theorem execCommit_steps (r : Req) (s : State) {t : State} (h : execCommit r s = .next t) : Steps s t := by
  unfold execCommit at h; cases h; exact runPacket_steps commitSpec_good _ _ _
theorem execHeldChangesDiscard_steps (s : State) {t : State} (h : execHeldChangesDiscard s = .next t) : Steps s t := by
  unfold execHeldChangesDiscard at h; cases h
  repeat' split
  all_goals exact Kept.steps (by simp [Kept]; done)
theorem execAlertRead_steps (r : Req) (s : State) {t : State} (h : execAlertRead r s = .next t) : Steps s t := by
  unfold execAlertRead at h; cases h; exact runPacket_steps alertReadSpec_good _ _ _
theorem execKeyProvision_steps (r : Req) (s : State) {t : State} (h : execKeyProvision r s = .next t) : Steps s t := by
  unfold execKeyProvision at h; cases h; exact runPacket_steps keyProvisionSpec_good _ _ _
theorem execTelemetryConfig_steps (r : Req) (s : State) {t : State} (h : execTelemetryConfig r s = .next t) : Steps s t := by
  unfold execTelemetryConfig at h; cases h; exact runPacket_steps telemetryConfigSpec_good _ _ _
theorem execTelemetryRead_steps (r : Req) (s : State) {t : State} (h : execTelemetryRead r s = .next t) : Steps s t := by
  unfold execTelemetryRead at h; cases h; exact runPacket_steps telemetryReadSpec_good _ _ _
theorem execTelemetrySend_steps (s : State) {t : State} (h : execTelemetrySend s = .next t) : Steps s t := by
  unfold execTelemetrySend at h; cases h
  repeat' split
  all_goals exact Kept.steps (by simp [Kept]; done)
theorem execDramCorrectedRead_steps (addr : Nat) (flips : List (Fin 72)) (s : State) {t : State} (h : execDramCorrectedRead addr flips s = .next t) : Steps s t := by
  unfold execDramCorrectedRead at h; cases h
  repeat' split
  all_goals exact Kept.steps (by simp [Kept]; done)
theorem execDramRowRemap_steps (die : Fin 2) (row : Nat) (s : State) {t : State} (h : execDramRowRemap die row s = .next t) : Steps s t := by
  unfold execDramRowRemap at h; cases h
  repeat' split
  all_goals exact Kept.steps (by simp [Kept]; done)
theorem execDramScrub_steps (s : State) {t : State} (h : execDramScrub s = .next t) : Steps s t := by
  unfold execDramScrub at h; cases h
  repeat' split
  all_goals exact Kept.steps (by simp [Kept]; done)
theorem execSelfRefreshEntry_steps (s : State) {t : State} (h : execSelfRefreshEntry s = .next t) : Steps s t := by
  unfold execSelfRefreshEntry at h; cases h
  repeat' split
  all_goals exact Kept.steps (by simp [Kept]; done)
theorem execSelfRefreshExit_steps (s : State) {t : State} (h : execSelfRefreshExit s = .next t) : Steps s t := by
  unfold execSelfRefreshExit at h; cases h
  repeat' split
  all_goals exact Kept.steps (by simp [Kept]; done)
theorem execDomainWakeComplete_steps (d : Domain) (s : State) {t : State} (h : execDomainWakeComplete d s = .next t) : Steps s t := by
  unfold execDomainWakeComplete at h; cases h
  repeat' split
  all_goals first
    | exact .refl _
    | exact wakeDomain_steps _ _

theorem execFrameBoundary_steps (s : State) {t : State} (h : execFrameBoundary s = .next t) : Steps s t := by
  unfold execFrameBoundary at h; cases h
  split
  · exact boundary_steps _ _
  · exact .refl _

theorem execPor_steps (s : State) {t : State} (h : execPor s = .next t) : Steps s t := by
  unfold execPor at h; cases h
  exact porState_steps _

theorem execWatchdogExpiry_steps (x0 : Fin 4) (s : State) {t : State} (h : execWatchdogExpiry x0 s = .next t) : Steps s t := by
  unfold execWatchdogExpiry at h; cases h
  repeat' split
  all_goals exact Kept.steps (by simp [Kept]; done)
theorem execProbationHandshakeTimeout_steps (s : State) {t : State} (h : execProbationHandshakeTimeout s = .next t) : Steps s t := by
  unfold execProbationHandshakeTimeout at h; cases h
  repeat' split
  all_goals exact Kept.steps (by simp [Kept]; done)
theorem execFirmwareAbsent2s_steps (s : State) {t : State} (h : execFirmwareAbsent2s s = .next t) : Steps s t := by
  unfold execFirmwareAbsent2s at h; cases h
  repeat' split
  all_goals exact Kept.steps (by simp [Kept]; done)
theorem execNrstAssert_steps (width : Nat) (s : State) {t : State} (h : execNrstAssert width s = .next t) : Steps s t := by
  unfold execNrstAssert at h; cases h
  repeat' split
  all_goals first
    | exact .refl _
    | exact pinReset_steps _
    | exact (pinReset_steps _).trans (nextFree_kept _).steps
    | exact (nextFree_kept _).steps

theorem execNrstRelease_steps (s : State) {t : State} (h : execNrstRelease s = .next t) : Steps s t := by
  unfold execNrstRelease at h; cases h
  repeat' split
  all_goals exact Kept.steps (by simp [Kept]; done)
theorem execNrstStuck_steps (s : State) {t : State} (h : execNrstStuck s = .next t) : Steps s t := by
  unfold execNrstStuck at h; cases h
  repeat' split
  all_goals exact Kept.steps (by simp [Kept]; done)
theorem execBor_steps (vinMillivolts : Nat) (s : State) {t : State} (h : execBor vinMillivolts s = .next t) : Steps s t := by
  unfold execBor borOrNot at h; cases h
  repeat' split
  all_goals first
    | exact .refl _
    | exact (nextFree_kept _).steps
    | exact enterBor_steps _ _
    | exact (enterBor_steps _ _).trans (nextFree_kept _).steps
    | exact (enterBor_steps _ _).trans (Kept.steps (by simp [Kept]))

theorem execSupplyFault_steps (x0 : Buck) (shorted : Bool) (s : State) {t : State} (h : execSupplyFault x0 shorted s = .next t) : Steps s t := by
  unfold execSupplyFault at h; cases h
  repeat' split
  all_goals first
    | exact .refl _
    | exact enterBor_steps _ _

theorem execDieTrip_steps (s : State) {t : State} (h : execDieTrip s = .next t) : Steps s t := by
  unfold execDieTrip at h; cases h
  repeat' split
  all_goals first
    | exact .refl _
    | exact enterBor_steps _ _

theorem execBorRelease_steps (s : State) {t : State} (h : execBorRelease s = .next t) : Steps s t := by
  unfold execBorRelease at h; cases h
  repeat' split
  all_goals exact Kept.steps (by simp [Kept]; done)
theorem execRefinLost_steps (s : State) {t : State} (h : execRefinLost s = .next t) : Steps s t := by
  unfold execRefinLost at h; cases h
  repeat' split
  all_goals exact Kept.steps (by simp [Kept]; done)
theorem execRefinRestored_steps (s : State) {t : State} (h : execRefinRestored s = .next t) : Steps s t := by
  unfold execRefinRestored at h; cases h
  repeat' split
  all_goals first
    | exact .refl _
    | exact (coldReset_steps _ _).trans (Kept.steps (by simp [Kept]))
    | exact Kept.steps (by simp [Kept]; done)

theorem execCrystalSourceChange_steps (crystal : Bool) (s : State) {t : State} (h : execCrystalSourceChange crystal s = .next t) : Steps s t := by
  unfold execCrystalSourceChange at h; cases h
  repeat' split
  all_goals exact Kept.steps (by simp [Kept]; done)
theorem execScanEnter_steps (s : State) {t : State} (h : execScanEnter s = .next t) : Steps s t := by
  unfold execScanEnter at h; cases h
  repeat' split
  all_goals exact Kept.steps (by simp [Kept]; done)
theorem execScanExit_steps (s : State) {t : State} (h : execScanExit s = .next t) : Steps s t := by
  unfold execScanExit at h; cases h
  repeat' split
  all_goals first
    | exact .refl _
    | exact coldReset_steps _ _

theorem execI2cBusStuck_steps (recovered : Bool) (s : State) {t : State} (h : execI2cBusStuck recovered s = .next t) : Steps s t := by
  unfold execI2cBusStuck at h; cases h
  repeat' split
  all_goals exact Kept.steps (by simp [Kept]; done)
theorem execPowerUpStep_steps (ready : Bool) (s : State) {t : State} (h : execPowerUpStep ready s = .next t) : Steps s t := by
  unfold execPowerUpStep at h; cases h
  repeat' split
  all_goals exact Kept.steps (by simp [Kept]; done)
theorem execPowerUpStepTimeout_steps (s : State) {t : State} (h : execPowerUpStepTimeout s = .next t) : Steps s t := by
  unfold execPowerUpStepTimeout at h; cases h
  repeat' split
  all_goals exact Kept.steps (by simp [Kept]; done)
theorem execBoot_steps (f : BootFindings) (s : State) {t : State} (h : execBoot f s = .next t) : Steps s t := by
  unfold execBoot at h; cases h
  split
  · split
    · exact bootFrom_steps _ _ _
    · exact (assertFault_kept _ _).steps
  · exact .refl _

theorem execRestoreHandshake_steps (s : State) {t : State} (h : execRestoreHandshake s = .next t) : Steps s t := by
  unfold execRestoreHandshake at h; cases h
  split
  · exact ((wakeLog_kept _).trans (finishWake_kept _)).steps
  · split
    · exact (resumeFirmware_kept _).steps
    · exact .refl _

theorem execPacketWrite_steps (x0 : Bool) (addr : BitVec 24) (bytes : List Byte) (s : State) {t : State} (h : execPacketWrite x0 addr bytes s = .next t) : Steps s t := by
  unfold execPacketWrite at h; cases h
  split
  · exact .refl _
  · exact Kept.steps (by simp [Kept])
  · exact Kept.steps (by simp [Kept])
  · simp only []; split
    · exact Kept.steps (by simp [Kept])
    · exact (hostPacket_steps _ _).trans (Kept.steps (by simp [Kept]))

theorem execBulkBlock_steps (srcIp : Nat) (payload : List Byte) (s : State) {t : State} (h : execBulkBlock srcIp payload s = .next t) : Steps s t := by
  unfold execBulkBlock at h; cases h
  repeat' split
  all_goals first
    | exact .refl _
    | exact (receiveBlock_kept _ _ _).steps

theorem execBulkOperationTimeout_steps (s : State) {t : State} (h : execBulkOperationTimeout s = .next t) : Steps s t := by
  unfold execBulkOperationTimeout at h; cases h
  repeat' split
  all_goals first
    | exact .refl _
    | exact (foldl_kept (fun _ _ => failBulk_kept _ _) _ _).steps

theorem execArpRequest_steps (p : NetPort) (senderMac : Nat) (senderIp : Nat) (targetIp : Nat) (s : State) {t : State} (h : execArpRequest p senderMac senderIp targetIp s = .next t) : Steps s t := by
  unfold execArpRequest at h; cases h
  repeat' split
  all_goals exact Kept.steps (by simp [Kept]; done)
theorem execIcmpEchoRequest_steps (p : NetPort) (srcMac : Nat) (srcIp : Nat) (dstIp : Nat) (body : List Byte) (s : State) {t : State} (h : execIcmpEchoRequest p srcMac srcIp dstIp body s = .next t) : Steps s t := by
  unfold execIcmpEchoRequest at h; cases h
  repeat' split
  all_goals exact Kept.steps (by simp [Kept]; done)
theorem execOwnMacFrame_steps (p : NetPort) (s : State) {t : State} (h : execOwnMacFrame p s = .next t) : Steps s t := by
  unfold execOwnMacFrame at h; cases h
  repeat' split
  all_goals exact Kept.steps (by simp [Kept]; done)
theorem execLoopAlertClear_steps (s : State) {t : State} (h : execLoopAlertClear s = .next t) : Steps s t := by
  unfold execLoopAlertClear at h; cases h
  repeat' split
  all_goals exact Kept.steps (by simp [Kept]; done)
theorem execEthernetFrameReceive_steps (p : NetPort) (frame : List Byte) (s : State) {t : State} (h : execEthernetFrameReceive p frame s = .next t) : Steps s t := by
  unfold execEthernetFrameReceive at h; cases h
  repeat' split
  all_goals first
    | exact .refl _
    | exact takeFrame_steps _ _ _

end Sys2Proof.Machine
end

