-- ==== Sys2Proof/Laws/Memory.lean ====
section
/-! SUPPORT. Byte memories: every operation keeps the canonical form, a byte that was written is read back, and a write leaves every
other address alone. -/

namespace Sys2Proof.Machine

/-- Every listed address of a memory lies at or above a bound. -/
def Memory.from (lo : Nat) (m : Memory) : Prop := ∀ c ∈ m, lo ≤ c.1

theorem Memory.wf_cons (c : Host.Cell) (m : Memory) :
    Memory.wf (c :: m) = true ↔ c.2 ≠ 0 ∧ Memory.from (c.1 + 1) m ∧ m.wf = true := by
  induction m generalizing c with
  | nil => simp [Memory.wf, Memory.from]
  | cons d t ih =>
    simp only [Memory.wf, Bool.and_eq_true, bne_iff_ne, decide_eq_true_eq]
    constructor
    · rintro ⟨⟨h1, h2⟩, h3⟩
      refine ⟨h1, ?_, h3⟩
      intro x hx
      rcases List.mem_cons.1 hx with rfl | hx
      · exact h2
      · have := ((ih d).1 h3).2.1 x hx; omega
    · rintro ⟨h1, h2, h3⟩
      exact ⟨⟨h1, h2 d (List.mem_cons_self ..)⟩, h3⟩

theorem Memory.put_from {m : Memory} {lo a : Nat} (b : Byte) (h : m.from lo) (ha : lo ≤ a) : (m.put a b).from lo := by
  induction m with
  | nil => unfold Memory.put; split <;> intro x hx <;> simp at hx; subst hx; exact ha
  | cons c t ih =>
    have ht : Memory.from lo t := fun x hx => h x (List.mem_cons_of_mem _ hx)
    have hc : lo ≤ c.1 := h c (List.mem_cons_self ..)
    unfold Memory.put
    repeat' split
    · exact h
    · intro x hx; rcases List.mem_cons.1 hx with rfl | hx
      · exact ha
      · exact h x hx
    · exact ht
    · intro x hx; rcases List.mem_cons.1 hx with rfl | hx
      · exact ha
      · exact ht x hx
    · intro x hx; rcases List.mem_cons.1 hx with rfl | hx
      · exact hc
      · exact ih ht x hx

/-- One byte written keeps the canonical form. -/
theorem Memory.put_wf {m : Memory} (a : Nat) (b : Byte) (h : m.wf = true) : (m.put a b).wf = true := by
  induction m with
  | nil => unfold Memory.put; split <;> simp_all [Memory.wf]
  | cons c t ih =>
    obtain ⟨h1, h2, h3⟩ := (Memory.wf_cons c t).1 h
    unfold Memory.put
    repeat' split
    · exact h
    · rename_i ha hb
      refine (Memory.wf_cons _ _).2 ⟨hb, ?_, h⟩
      intro x hx; rcases List.mem_cons.1 hx with rfl | hx
      · exact ha
      · have := h2 x hx; simp at *; omega
    · exact h3
    · rename_i ha hb
      refine (Memory.wf_cons _ _).2 ⟨hb, ?_, h3⟩
      simp only; rw [‹a = c.1›]; exact h2
    · refine (Memory.wf_cons _ _).2 ⟨h1, Memory.put_from b h2 (by omega), ih h3⟩

/-- A byte string written keeps the canonical form. -/
theorem Memory.write_wf {m : Memory} (a : Nat) (bs : List Byte) (h : m.wf = true) : (m.write a bs).wf = true := by
  induction bs generalizing m a with
  | nil => exact h
  | cons b t ih => exact ih _ (Memory.put_wf a b h)

/-- Clearing a range keeps the canonical form. -/
theorem Memory.clear_wf {m : Memory} (lo hi : Nat) (h : m.wf = true) : (m.clear lo hi).wf = true := by
  induction m with
  | nil => rfl
  | cons c t ih =>
    obtain ⟨h1, h2, h3⟩ := (Memory.wf_cons c t).1 h
    unfold Memory.clear at *
    rw [List.filter_cons]
    split
    · exact (Memory.wf_cons _ _).2 ⟨h1, fun x hx => h2 x (List.mem_filter.1 hx).1, ih h3⟩
    · exact ih h3

/-- A byte below every listed address reads as 0. -/
theorem Memory.read_of_from {m : Memory} {lo a : Nat} (h : m.from lo) (ha : a < lo) : m.read a = 0 := by
  induction m with
  | nil => rfl
  | cons c t ih =>
    have hc := h c (List.mem_cons_self ..)
    unfold Memory.read
    rw [if_neg (by omega)]
    exact ih fun x hx => h x (List.mem_cons_of_mem _ hx)

/-- The byte that a write put there is read back, and every other address reads as before. -/
theorem Memory.read_put {m : Memory} (a x : Nat) (b : Byte) (h : m.wf = true) : (m.put a b).read x = if x = a then b else m.read x := by
  induction m with
  | nil =>
    unfold Memory.put
    by_cases hb : b = 0
    · simp [hb, Memory.read]
    · by_cases hx : x = a
      · rw [if_neg hb, if_pos hx, hx]; simp [Memory.read]
      · rw [if_neg hb, if_neg hx]; simp [Memory.read, Ne.symm hx]
  | cons c t ih =>
    obtain ⟨h1, h2, h3⟩ := (Memory.wf_cons c t).1 h
    have low : a < c.1 → Memory.read (c :: t) a = 0 := fun ha =>
      Memory.read_of_from (lo := c.1) (fun x hx => by
        rcases List.mem_cons.1 hx with rfl | hx
        · exact Nat.le_refl _
        · have := h2 x hx; omega) ha
    unfold Memory.put
    by_cases ha : a < c.1
    · rw [if_pos ha]
      by_cases hb : b = 0
      · rw [if_pos hb]
        by_cases hx : x = a
        · rw [if_pos hx, hx, low ha, hb]
        · rw [if_neg hx]
      · rw [if_neg hb]
        by_cases hx : x = a
        · simp [Memory.read, hx]
        · rw [if_neg hx]
          show (if a = x then b else Memory.read (c :: t) x) = _
          rw [if_neg (Ne.symm hx)]
    · rw [if_neg ha]
      by_cases he : a = c.1
      · rw [if_pos he]
        by_cases hb : b = 0
        · rw [if_pos hb]
          by_cases hx : x = a
          · rw [if_pos hx, hb]
            exact Memory.read_of_from h2 (by omega)
          · rw [if_neg hx]
            show _ = (if c.1 = x then c.2 else Memory.read t x)
            rw [if_neg (by omega)]
        · rw [if_neg hb]
          by_cases hx : x = a
          · simp [Memory.read, hx]
          · rw [if_neg hx]
            show (if a = x then b else Memory.read t x) = (if c.1 = x then c.2 else Memory.read t x)
            rw [if_neg (Ne.symm hx), if_neg (by omega)]
      · rw [if_neg he]
        show (if c.1 = x then c.2 else Memory.read (Memory.put t a b) x) = if x = a then b else (if c.1 = x then c.2 else Memory.read t x)
        rw [ih h3]
        by_cases hx : x = a
        · rw [if_neg (by omega), if_pos hx, if_pos hx]
        · rw [if_neg hx, if_neg hx]

/-- A byte string written: its own bytes read back, every other address reads as before. -/
theorem Memory.read_write {m : Memory} (a x : Nat) (bs : List Byte) (h : m.wf = true) :
    (m.write a bs).read x = if a ≤ x ∧ x < a + bs.length then bs.getD (x - a) 0 else m.read x := by
  induction bs generalizing m a with
  | nil => rw [if_neg (by simp)]; rfl
  | cons b t ih =>
    show ((m.put a b).write (a + 1) t).read x = _
    rw [ih (a + 1) (Memory.put_wf a b h), Memory.read_put a x b h]
    by_cases h1 : x = a
    · subst h1
      rw [if_neg (by omega), if_pos rfl, if_pos (by simp)]
      simp
    · by_cases h2 : a + 1 ≤ x ∧ x < a + 1 + t.length
      · rw [if_pos h2, if_pos (by simp; omega)]
        obtain ⟨k, rfl⟩ : ∃ k, x = a + 1 + k := ⟨x - (a + 1), by omega⟩
        rw [show a + 1 + k - (a + 1) = k by omega, show a + 1 + k - a = k + 1 by omega]
        simp
      · rw [if_neg h2, if_neg h1, if_neg (by simp; omega)]

/-- The memories after reset have the canonical form. -/
theorem reset_memories_wf : Memory.wf State.reset.dram.mem = true ∧ Memory.wf State.reset.flash.region = true ∧ State.reset.layers.buffers = [] := by
  decide

end Sys2Proof.Machine
end

