-- ==== Sys2Proof/Laws/Replies.lean ====
section
/-! SUPPORT. Answers and alerts stay within their frame; and what an accepted packet of a row comes to, by the kind of the row: one lemma
for each kind, which the statements of a row cite with the row's own run. -/

namespace Sys2Proof.Machine

/-! ## The frame of an answer -/

theorem ReplyFrame.refl (s : State) : ReplyFrame s s := rfl
theorem ReplyFrame.trans {s t u : State} (h : ReplyFrame t u) (g : ReplyFrame s t) : ReplyFrame s u := by
  unfold ReplyFrame at *
  rw [h, g]
theorem modSource_frame (src : Source) (f : SourceEntry → SourceEntry) (s : State) : ReplyFrame s (modSource src f s) := rfl
theorem send_frame (x : Tx) (s : State) : ReplyFrame s (send x s) := rfl
theorem sendUdp_frame (dst dport sport : Nat) (b : List Byte) (s : State) : ReplyFrame s (sendUdp dst dport sport b s) := by
  unfold sendUdp; simp only []; split <;> rfl
theorem deliver_frame (src : Source) (tag : Nat) (b : List Byte) (s : State) : ReplyFrame s (deliver src tag b s) := by
  unfold deliver; split
  · rfl
  · exact sendUdp_frame _ _ _ _ _
theorem sendAlert_frame (a : Alert) (s : State) : ReplyFrame s (sendAlert a s) := by
  unfold sendAlert; split
  · rfl
  · exact sendUdp_frame _ _ _ _ _
theorem recordAlert_frame (a : Alert) (s : State) : ReplyFrame s (recordAlert a s) := by
  unfold recordAlert; split
  · exact (sendAlert_frame _ _).trans rfl
  · rfl
theorem addAlert_frame (a : Alert) (s : State) : ReplyFrame s (addAlert a s) := by
  unfold addAlert; split
  · exact recordAlert_frame _ _
  · rfl
theorem logAlert_frame (c e : Nat) (x : BitVec 64) (st d : Nat) (s : State) : ReplyFrame s (logAlert c e x st d s) := addAlert_frame _ _
theorem raiseAlert_frame (c e : Nat) (x : BitVec 64) (st d : Nat) (n : Bool) (s : State) : ReplyFrame s (raiseAlert c e x st d n s) :=
  addAlert_frame _ _
theorem clearAlert_frame (c e : Nat) (x : BitVec 64) (s : State) : ReplyFrame s (clearAlert c e x s) := rfl
theorem clearAlertDetail_frame (c e d : Nat) (s : State) : ReplyFrame s (clearAlertDetail c e d s) := rfl
theorem sendReply_frame (c : Nat) (r : Req) (st : Nat) (res : List Byte) (s : State) : ReplyFrame s (sendReply c r st res s) := by
  unfold sendReply; split
  · simp only []; exact (deliver_frame _ _ _ _).trans (modSource_frame _ _ _)
  · exact deliver_frame _ _ _ _
theorem logBroadcast_frame (x : BitVec 64) (st : Nat) (s : State) : ReplyFrame s (logBroadcast x st s) := by
  unfold logBroadcast; split
  · exact addAlert_frame _ _
  · rfl
theorem answer_frame (c : Nat) (r : Req) (st : Nat) (res : List Byte) (s : State) : ReplyFrame s (answer c r st res s) := by
  unfold answer noReply; split
  · exact (modSource_frame _ _ _).trans (logBroadcast_frame _ _ _)
  · split
    · exact sendReply_frame _ _ _ _ _
    · exact modSource_frame _ _ _
theorem foldl_frame {α : Type} {f : State → α → State} (h : ∀ t a, ReplyFrame t (f t a)) (l : List α) (s : State) : ReplyFrame s (l.foldl f s) := by
  induction l generalizing s with
  | nil => rfl
  | cons a t ih => exact (ih _).trans (h _ _)
theorem sendBlocks_frame (r : Req) (c : Nat) (res : List Byte) (s : State) : ReplyFrame s (sendBlocks r c res s) := by
  unfold sendBlocks; split
  · rfl
  · exact foldl_frame (fun _ _ => sendUdp_frame _ _ _ _ _) _ _
theorem addOp_frame (o : LongOp) (s : State) : ReplyFrame s (addOp o s) := rfl
theorem dropOp_frame (a : Source) (b : Nat) (s : State) : ReplyFrame s (dropOp a b s) := rfl
theorem answerLarge_frame (c : Nat) (r : Req) (st : Nat) (res : List Byte) (s : State) : ReplyFrame s (answerLarge c r st res s) := by
  unfold answerLarge; split
  · exact answer_frame _ _ _ _ _
  · simp only []; split
    · exact (answer_frame _ _ _ _ _).trans rfl
    · exact (sendBlocks_frame _ _ _ _).trans ((answer_frame _ _ _ _ _).trans rfl)

/-! ## Accepted packets -/

theorem need_ok (b : Bool) : need b = St.ok ↔ b = true := by unfold need; cases b <;> simp [St.ok, St.badParam]

/-- A field of one byte. -/
theorem be_one (bs : List Byte) (i : Nat) : be bs i 1 = getB bs i := by
  unfold be getB slice beVal
  rw [List.getD_eq_getElem?_getD, ← List.head?_drop]
  cases bs.drop i <;> simp
/-- An accepted packet passed its row's own check. -/
theorem check_of {o : OpSpec} {r : Req} {s : State} (hp : preChecks o r s = St.ok) : o.check r s = St.ok := by
  rw [show preChecks o r s = firstFail [step7 o r s, need (targetOk o.level r.target s), o.check r s, applyModeOk o r, tagFree r s, step10 r s, step11 o r s] from rfl] at hp
  simp only [firstFail] at hp; repeat' split at hp
  all_goals simp_all

/-- A short row whose run gives an effect, a status and results acts so. -/
theorem acts_of {i : Req → Instr} {o : OpSpec} {a : Option Nat} {cond : Req → State → Prop} {st : Nat} {eff : Req → State → State} {res : Req → State → List Byte}
    (hi : ∀ r s, exec (i r) s = .next (runPacket (period s) o (asked a r) s))
    (hl : ∀ r s, o.check (asked a r) s = St.ok → cond (asked a r) (startOf (asked a r) s) → o.long (asked a r) = false) (ha : o.apply = false)
    (hr : ∀ r s, o.check r s = St.ok → cond r (startOf r s) → o.run r (startOf r s) = (eff r (startOf r s), .done st (res r (startOf r s)))) : Acts i o a cond st eff res := by
  rintro r s ⟨hf, hp, hs, hd⟩
  intro q s0 hc
  have hck : o.check q s = St.ok := by
    have : preChecks o q s = St.ok := hp
    rw [show preChecks o q s = firstFail [step7 o q s, need (targetOk o.level q.target s), o.check q s, applyModeOk o q, tagFree q s, step10 q s, step11 o q s] from rfl] at this
    simp only [firstFail] at this; repeat' split at this
    all_goals simp_all
  refine ⟨_, hi r s, ?_⟩
  have : runPacket (period s) o q s = answerLarge o.code q st (res q s0) (eff q s0) := by
    simp [runPacket, hf, hp, acceptOp, hs, hd, hl r s hck hc, begin_, ha, conclude, q]
    have := hr q s hck hc
    simp [q, startOf] at this
    rw [this]; rfl
  exact ⟨this, by show ReplyFrame _ (runPacket _ _ q _); rw [this]; exact answerLarge_frame _ _ _ _ _⟩

/-- An accepted packet of a short row is its run, concluded. -/
theorem short_of {o : OpSpec} {r : Req} {s : State} (h : Accepted o r s) (hl : o.long r = false) (ha : o.apply = false) :
    runPacket (period s) o r s = conclude o.code r false (o.run r (startOf r s)).2 (o.run r (startOf r s)).1 := by
  obtain ⟨hf, hp, hs, hd⟩ := h
  simp [runPacket, hf, hp, acceptOp, hs, hd, hl, begin_, ha, startOf]
/-- An accepted packet of a long row is its run with the operation on record; a run that is done drops it. -/
theorem long_of {o : OpSpec} {r : Req} {s : State} (h : Accepted o r s) (hl : o.long r = true) (hc : longCount s < 16) :
    runPacket (period s) o r s = (match (o.run r (addOp { req := r, code := o.code, state := 0, long := true } s)).2 with
      | .done st res => answer o.code r st res (dropOp r.src r.tag (o.run r (addOp { req := r, code := o.code, state := 0, long := true } s)).1)
      | .accepted => answer o.code r St.accepted [] (o.run r (addOp { req := r, code := o.code, state := 0, long := true } s)).1
      | .later => (o.run r (addOp { req := r, code := o.code, state := 0, long := true } s)).1) := by
  obtain ⟨hf, hp, hs, hd⟩ := h
  simp [runPacket, hf, hp, acceptOp, hs, hd, hl, beginLong, Nat.not_le.2 hc]
  all_goals (split <;> simp_all)
/-- A long row whose run is accepted begins. -/
theorem begins_of {i : Req → Instr} {o : OpSpec} {a : Option Nat} {cond : Req → State → Prop} {eff : Req → State → State}
    (hi : ∀ r s, exec (i r) s = .next (runPacket (period s) o (asked a r) s)) (hl : ∀ r s, cond r s → o.long r = true)
    (hr : ∀ r s0 s, o.check r s0 = St.ok → s = addOp { req := r, code := o.code, state := 0, long := true } s0 → cond r s → o.run r s = (eff r s, .accepted)) : Begins i o a cond eff := by
  intro r s h hc q s0 hcond
  refine ⟨_, hi r s, ?_⟩
  rw [long_of h (hl _ _ hcond) hc, hr q s s0 (check_of h.2.1) rfl hcond]
  exact ⟨rfl, answer_frame _ _ _ _ _⟩
/-- A long row whose run is done at once, its state as it was, is refused. -/
theorem refuses_of {i : Req → Instr} {o : OpSpec} {a : Option Nat} {cond : Req → State → Prop} {st : Nat}
    (hi : ∀ r s, exec (i r) s = .next (runPacket (period s) o (asked a r) s)) (hl : ∀ r s, cond r s → o.long r = true)
    (hr : ∀ r s0 s, o.check r s0 = St.ok → s = addOp { req := r, code := o.code, state := 0, long := true } s0 → cond r s → o.run r s = (s, .done st [])) : Refuses i o a cond st := by
  intro r s h hc q hcond
  refine ⟨_, hi r s, ?_⟩
  rw [long_of h (hl _ _ hcond) hc, hr q s _ (check_of h.2.1) rfl hcond]
  exact ⟨rfl, (answer_frame _ _ _ _ _).trans rfl⟩

/-- A check unit's row is the function that its meaning applies. -/
theorem row_of {i : Instr} {u : Fin 4} {f g : CheckUnit → CheckUnit} {s : State} (hi : exec i s = .next (checkWrite u f s)) (h : ∀ c, f c = g c) : CheckRow i u g s := by
  have : f = g := funext h
  subst this
  refine ⟨fun hw hg => ⟨_, hi, ?_⟩, fun hw hg => ⟨_, hi, ?_⟩, fun hw => ?_⟩
  · simp [checkWrite, hw, hg, modCheck]
  · simp [checkWrite, hw, hg]
  · rw [NoEffect, hi]; simp [checkWrite, hw]

end Sys2Proof.Machine
end

