-- ==== Sys2Proof/Laws/State.lean ====
section
/-! SUPPORT. The named updates of the state: for each, what it leaves of every other part of the state, and what it gives the table that it
updates. -/

namespace Sys2Proof.Machine

/-- An element of a list in which one element was changed. -/
theorem getD_modAt {α : Type} (l : List α) (i j : Nat) (f : α → α) (d : α) (h : i < l.length) :
    (modAt l i f).getD j d = if i = j then f (l.getD j d) else l.getD j d := by
  simp only [modAt, List.getD_eq_getElem?_getD, List.getElem?_modify]
  by_cases hj : i = j
  · subst hj; simp [h]
  · simp [hj]

/-- A rail that was changed, and every other. -/
theorem getRail_modRail (s : State) (i j : Nat) (f : Rail → Rail) (h : i < s.ledger.rails.length) :
    getRail (modRail i f s) j = if i = j then f (getRail s j) else getRail s j := getD_modAt _ _ _ _ _ h

/-- A port that was changed, and every other. -/
theorem getPort_modPort (s : State) (i j : Nat) (f : ChainPort → ChainPort) (h : i < s.chain.ports.length) :
    getPort (modPort i f s) j = if i = j then f (getPort s j) else getPort s j := getD_modAt _ _ _ _ _ h

/-- A loop that was changed, and every other. -/
theorem getLoop_modLoop (s : State) (i j : Nat) (f : LoopState → LoopState) (h : i < s.chain.loops.length) :
    getLoop (modLoop i f s) j = if i = j then f (getLoop s j) else getLoop s j := getD_modAt _ _ _ _ _ h

/-- A check that was changed, and every other. -/
theorem getCheck_modCheck (s : State) (i j : Nat) (f : CheckUnit → CheckUnit) (h : i < s.check.length) :
    getCheck (modCheck i f s) j = if i = j then f (getCheck s j) else getCheck s j := getD_modAt _ _ _ _ _ h

/-- A plant loop that was changed, and every other. -/
theorem getPlant_modPlant (s : State) (i j : Nat) (f : PlantLoop → PlantLoop) (h : i < s.plant.loops.length) :
    getPlant (modPlant i f s) j = if i = j then f (getPlant s j) else getPlant s j := getD_modAt _ _ _ _ _ h

/-- A bank that was changed, and every other. -/
theorem getBank_modBank (s : State) (i j : Nat) (f : Bank → Bank) (h : i < s.almanac.banks.length) :
    getBank (modBank i f s) j = if i = j then f (getBank s j) else getBank s j := getD_modAt _ _ _ _ _ h

/-! ### send changes `net` alone. -/

@[simp] theorem send_fuse (x : Tx) (s : State) : (send x s).fuse = s.fuse := rfl
@[simp] theorem send_fw (x : Tx) (s : State) : (send x s).fw = s.fw := rfl
@[simp] theorem send_time (x : Tx) (s : State) : (send x s).time = s.time := rfl
@[simp] theorem send_host (x : Tx) (s : State) : (send x s).host = s.host := rfl
@[simp] theorem send_cmd (x : Tx) (s : State) : (send x s).cmd = s.cmd := rfl
@[simp] theorem send_check (x : Tx) (s : State) : (send x s).check = s.check := rfl
@[simp] theorem send_layers (x : Tx) (s : State) : (send x s).layers = s.layers := rfl
@[simp] theorem send_pres (x : Tx) (s : State) : (send x s).pres = s.pres := rfl
@[simp] theorem send_chain (x : Tx) (s : State) : (send x s).chain = s.chain := rfl
@[simp] theorem send_plant (x : Tx) (s : State) : (send x s).plant = s.plant := rfl
@[simp] theorem send_power (x : Tx) (s : State) : (send x s).power = s.power := rfl
@[simp] theorem send_flash (x : Tx) (s : State) : (send x s).flash = s.flash := rfl
@[simp] theorem send_dram (x : Tx) (s : State) : (send x s).dram = s.dram := rfl
@[simp] theorem send_i2c (x : Tx) (s : State) : (send x s).i2c = s.i2c := rfl
@[simp] theorem send_almanac (x : Tx) (s : State) : (send x s).almanac = s.almanac := rfl
@[simp] theorem send_ledger (x : Tx) (s : State) : (send x s).ledger = s.ledger := rfl
@[simp] theorem send_therm (x : Tx) (s : State) : (send x s).therm = s.therm := rfl
@[simp] theorem send_trim (x : Tx) (s : State) : (send x s).trim = s.trim := rfl
@[simp] theorem send_bist (x : Tx) (s : State) : (send x s).bist = s.bist := rfl
@[simp] theorem send_safety (x : Tx) (s : State) : (send x s).safety = s.safety := rfl
@[simp] theorem send_faults (x : Tx) (s : State) : (send x s).faults = s.faults := rfl
@[simp] theorem send_pending (x : Tx) (s : State) : (send x s).pending = s.pending := rfl
@[simp] theorem send_freeCount (x : Tx) (s : State) : (send x s).freeCount = s.freeCount := rfl

/-! ### modSource changes `cmd` alone. -/

@[simp] theorem modSource_fuse (a : Source) (f : SourceEntry → SourceEntry) (s : State) : (modSource a f s).fuse = s.fuse := rfl
@[simp] theorem modSource_fw (a : Source) (f : SourceEntry → SourceEntry) (s : State) : (modSource a f s).fw = s.fw := rfl
@[simp] theorem modSource_time (a : Source) (f : SourceEntry → SourceEntry) (s : State) : (modSource a f s).time = s.time := rfl
@[simp] theorem modSource_net (a : Source) (f : SourceEntry → SourceEntry) (s : State) : (modSource a f s).net = s.net := rfl
@[simp] theorem modSource_host (a : Source) (f : SourceEntry → SourceEntry) (s : State) : (modSource a f s).host = s.host := rfl
@[simp] theorem modSource_check (a : Source) (f : SourceEntry → SourceEntry) (s : State) : (modSource a f s).check = s.check := rfl
@[simp] theorem modSource_layers (a : Source) (f : SourceEntry → SourceEntry) (s : State) : (modSource a f s).layers = s.layers := rfl
@[simp] theorem modSource_pres (a : Source) (f : SourceEntry → SourceEntry) (s : State) : (modSource a f s).pres = s.pres := rfl
@[simp] theorem modSource_chain (a : Source) (f : SourceEntry → SourceEntry) (s : State) : (modSource a f s).chain = s.chain := rfl
@[simp] theorem modSource_plant (a : Source) (f : SourceEntry → SourceEntry) (s : State) : (modSource a f s).plant = s.plant := rfl
@[simp] theorem modSource_power (a : Source) (f : SourceEntry → SourceEntry) (s : State) : (modSource a f s).power = s.power := rfl
@[simp] theorem modSource_flash (a : Source) (f : SourceEntry → SourceEntry) (s : State) : (modSource a f s).flash = s.flash := rfl
@[simp] theorem modSource_dram (a : Source) (f : SourceEntry → SourceEntry) (s : State) : (modSource a f s).dram = s.dram := rfl
@[simp] theorem modSource_i2c (a : Source) (f : SourceEntry → SourceEntry) (s : State) : (modSource a f s).i2c = s.i2c := rfl
@[simp] theorem modSource_almanac (a : Source) (f : SourceEntry → SourceEntry) (s : State) : (modSource a f s).almanac = s.almanac := rfl
@[simp] theorem modSource_ledger (a : Source) (f : SourceEntry → SourceEntry) (s : State) : (modSource a f s).ledger = s.ledger := rfl
@[simp] theorem modSource_therm (a : Source) (f : SourceEntry → SourceEntry) (s : State) : (modSource a f s).therm = s.therm := rfl
@[simp] theorem modSource_trim (a : Source) (f : SourceEntry → SourceEntry) (s : State) : (modSource a f s).trim = s.trim := rfl
@[simp] theorem modSource_bist (a : Source) (f : SourceEntry → SourceEntry) (s : State) : (modSource a f s).bist = s.bist := rfl
@[simp] theorem modSource_safety (a : Source) (f : SourceEntry → SourceEntry) (s : State) : (modSource a f s).safety = s.safety := rfl
@[simp] theorem modSource_faults (a : Source) (f : SourceEntry → SourceEntry) (s : State) : (modSource a f s).faults = s.faults := rfl
@[simp] theorem modSource_pending (a : Source) (f : SourceEntry → SourceEntry) (s : State) : (modSource a f s).pending = s.pending := rfl
@[simp] theorem modSource_freeCount (a : Source) (f : SourceEntry → SourceEntry) (s : State) : (modSource a f s).freeCount = s.freeCount := rfl

/-! ### modOp changes `cmd` alone. -/

@[simp] theorem modOp_fuse (a : Source) (n : Nat) (f : LongOp → LongOp) (s : State) : (modOp a n f s).fuse = s.fuse := rfl
@[simp] theorem modOp_fw (a : Source) (n : Nat) (f : LongOp → LongOp) (s : State) : (modOp a n f s).fw = s.fw := rfl
@[simp] theorem modOp_time (a : Source) (n : Nat) (f : LongOp → LongOp) (s : State) : (modOp a n f s).time = s.time := rfl
@[simp] theorem modOp_net (a : Source) (n : Nat) (f : LongOp → LongOp) (s : State) : (modOp a n f s).net = s.net := rfl
@[simp] theorem modOp_host (a : Source) (n : Nat) (f : LongOp → LongOp) (s : State) : (modOp a n f s).host = s.host := rfl
@[simp] theorem modOp_check (a : Source) (n : Nat) (f : LongOp → LongOp) (s : State) : (modOp a n f s).check = s.check := rfl
@[simp] theorem modOp_layers (a : Source) (n : Nat) (f : LongOp → LongOp) (s : State) : (modOp a n f s).layers = s.layers := rfl
@[simp] theorem modOp_pres (a : Source) (n : Nat) (f : LongOp → LongOp) (s : State) : (modOp a n f s).pres = s.pres := rfl
@[simp] theorem modOp_chain (a : Source) (n : Nat) (f : LongOp → LongOp) (s : State) : (modOp a n f s).chain = s.chain := rfl
@[simp] theorem modOp_plant (a : Source) (n : Nat) (f : LongOp → LongOp) (s : State) : (modOp a n f s).plant = s.plant := rfl
@[simp] theorem modOp_power (a : Source) (n : Nat) (f : LongOp → LongOp) (s : State) : (modOp a n f s).power = s.power := rfl
@[simp] theorem modOp_flash (a : Source) (n : Nat) (f : LongOp → LongOp) (s : State) : (modOp a n f s).flash = s.flash := rfl
@[simp] theorem modOp_dram (a : Source) (n : Nat) (f : LongOp → LongOp) (s : State) : (modOp a n f s).dram = s.dram := rfl
@[simp] theorem modOp_i2c (a : Source) (n : Nat) (f : LongOp → LongOp) (s : State) : (modOp a n f s).i2c = s.i2c := rfl
@[simp] theorem modOp_almanac (a : Source) (n : Nat) (f : LongOp → LongOp) (s : State) : (modOp a n f s).almanac = s.almanac := rfl
@[simp] theorem modOp_ledger (a : Source) (n : Nat) (f : LongOp → LongOp) (s : State) : (modOp a n f s).ledger = s.ledger := rfl
@[simp] theorem modOp_therm (a : Source) (n : Nat) (f : LongOp → LongOp) (s : State) : (modOp a n f s).therm = s.therm := rfl
@[simp] theorem modOp_trim (a : Source) (n : Nat) (f : LongOp → LongOp) (s : State) : (modOp a n f s).trim = s.trim := rfl
@[simp] theorem modOp_bist (a : Source) (n : Nat) (f : LongOp → LongOp) (s : State) : (modOp a n f s).bist = s.bist := rfl
@[simp] theorem modOp_safety (a : Source) (n : Nat) (f : LongOp → LongOp) (s : State) : (modOp a n f s).safety = s.safety := rfl
@[simp] theorem modOp_faults (a : Source) (n : Nat) (f : LongOp → LongOp) (s : State) : (modOp a n f s).faults = s.faults := rfl
@[simp] theorem modOp_pending (a : Source) (n : Nat) (f : LongOp → LongOp) (s : State) : (modOp a n f s).pending = s.pending := rfl
@[simp] theorem modOp_freeCount (a : Source) (n : Nat) (f : LongOp → LongOp) (s : State) : (modOp a n f s).freeCount = s.freeCount := rfl

/-! ### dropOp changes `cmd` alone. -/

@[simp] theorem dropOp_fuse (a : Source) (n : Nat) (s : State) : (dropOp a n s).fuse = s.fuse := rfl
@[simp] theorem dropOp_fw (a : Source) (n : Nat) (s : State) : (dropOp a n s).fw = s.fw := rfl
@[simp] theorem dropOp_time (a : Source) (n : Nat) (s : State) : (dropOp a n s).time = s.time := rfl
@[simp] theorem dropOp_net (a : Source) (n : Nat) (s : State) : (dropOp a n s).net = s.net := rfl
@[simp] theorem dropOp_host (a : Source) (n : Nat) (s : State) : (dropOp a n s).host = s.host := rfl
@[simp] theorem dropOp_check (a : Source) (n : Nat) (s : State) : (dropOp a n s).check = s.check := rfl
@[simp] theorem dropOp_layers (a : Source) (n : Nat) (s : State) : (dropOp a n s).layers = s.layers := rfl
@[simp] theorem dropOp_pres (a : Source) (n : Nat) (s : State) : (dropOp a n s).pres = s.pres := rfl
@[simp] theorem dropOp_chain (a : Source) (n : Nat) (s : State) : (dropOp a n s).chain = s.chain := rfl
@[simp] theorem dropOp_plant (a : Source) (n : Nat) (s : State) : (dropOp a n s).plant = s.plant := rfl
@[simp] theorem dropOp_power (a : Source) (n : Nat) (s : State) : (dropOp a n s).power = s.power := rfl
@[simp] theorem dropOp_flash (a : Source) (n : Nat) (s : State) : (dropOp a n s).flash = s.flash := rfl
@[simp] theorem dropOp_dram (a : Source) (n : Nat) (s : State) : (dropOp a n s).dram = s.dram := rfl
@[simp] theorem dropOp_i2c (a : Source) (n : Nat) (s : State) : (dropOp a n s).i2c = s.i2c := rfl
@[simp] theorem dropOp_almanac (a : Source) (n : Nat) (s : State) : (dropOp a n s).almanac = s.almanac := rfl
@[simp] theorem dropOp_ledger (a : Source) (n : Nat) (s : State) : (dropOp a n s).ledger = s.ledger := rfl
@[simp] theorem dropOp_therm (a : Source) (n : Nat) (s : State) : (dropOp a n s).therm = s.therm := rfl
@[simp] theorem dropOp_trim (a : Source) (n : Nat) (s : State) : (dropOp a n s).trim = s.trim := rfl
@[simp] theorem dropOp_bist (a : Source) (n : Nat) (s : State) : (dropOp a n s).bist = s.bist := rfl
@[simp] theorem dropOp_safety (a : Source) (n : Nat) (s : State) : (dropOp a n s).safety = s.safety := rfl
@[simp] theorem dropOp_faults (a : Source) (n : Nat) (s : State) : (dropOp a n s).faults = s.faults := rfl
@[simp] theorem dropOp_pending (a : Source) (n : Nat) (s : State) : (dropOp a n s).pending = s.pending := rfl
@[simp] theorem dropOp_freeCount (a : Source) (n : Nat) (s : State) : (dropOp a n s).freeCount = s.freeCount := rfl

/-! ### addOp changes `cmd` alone. -/

@[simp] theorem addOp_fuse (o : LongOp) (s : State) : (addOp o s).fuse = s.fuse := rfl
@[simp] theorem addOp_fw (o : LongOp) (s : State) : (addOp o s).fw = s.fw := rfl
@[simp] theorem addOp_time (o : LongOp) (s : State) : (addOp o s).time = s.time := rfl
@[simp] theorem addOp_net (o : LongOp) (s : State) : (addOp o s).net = s.net := rfl
@[simp] theorem addOp_host (o : LongOp) (s : State) : (addOp o s).host = s.host := rfl
@[simp] theorem addOp_check (o : LongOp) (s : State) : (addOp o s).check = s.check := rfl
@[simp] theorem addOp_layers (o : LongOp) (s : State) : (addOp o s).layers = s.layers := rfl
@[simp] theorem addOp_pres (o : LongOp) (s : State) : (addOp o s).pres = s.pres := rfl
@[simp] theorem addOp_chain (o : LongOp) (s : State) : (addOp o s).chain = s.chain := rfl
@[simp] theorem addOp_plant (o : LongOp) (s : State) : (addOp o s).plant = s.plant := rfl
@[simp] theorem addOp_power (o : LongOp) (s : State) : (addOp o s).power = s.power := rfl
@[simp] theorem addOp_flash (o : LongOp) (s : State) : (addOp o s).flash = s.flash := rfl
@[simp] theorem addOp_dram (o : LongOp) (s : State) : (addOp o s).dram = s.dram := rfl
@[simp] theorem addOp_i2c (o : LongOp) (s : State) : (addOp o s).i2c = s.i2c := rfl
@[simp] theorem addOp_almanac (o : LongOp) (s : State) : (addOp o s).almanac = s.almanac := rfl
@[simp] theorem addOp_ledger (o : LongOp) (s : State) : (addOp o s).ledger = s.ledger := rfl
@[simp] theorem addOp_therm (o : LongOp) (s : State) : (addOp o s).therm = s.therm := rfl
@[simp] theorem addOp_trim (o : LongOp) (s : State) : (addOp o s).trim = s.trim := rfl
@[simp] theorem addOp_bist (o : LongOp) (s : State) : (addOp o s).bist = s.bist := rfl
@[simp] theorem addOp_safety (o : LongOp) (s : State) : (addOp o s).safety = s.safety := rfl
@[simp] theorem addOp_faults (o : LongOp) (s : State) : (addOp o s).faults = s.faults := rfl
@[simp] theorem addOp_pending (o : LongOp) (s : State) : (addOp o s).pending = s.pending := rfl
@[simp] theorem addOp_freeCount (o : LongOp) (s : State) : (addOp o s).freeCount = s.freeCount := rfl

/-! ### assertFault changes `faults` alone. -/

@[simp] theorem assertFault_fuse (c : FaultCause) (s : State) : (assertFault c s).fuse = s.fuse := rfl
@[simp] theorem assertFault_fw (c : FaultCause) (s : State) : (assertFault c s).fw = s.fw := rfl
@[simp] theorem assertFault_time (c : FaultCause) (s : State) : (assertFault c s).time = s.time := rfl
@[simp] theorem assertFault_net (c : FaultCause) (s : State) : (assertFault c s).net = s.net := rfl
@[simp] theorem assertFault_host (c : FaultCause) (s : State) : (assertFault c s).host = s.host := rfl
@[simp] theorem assertFault_cmd (c : FaultCause) (s : State) : (assertFault c s).cmd = s.cmd := rfl
@[simp] theorem assertFault_check (c : FaultCause) (s : State) : (assertFault c s).check = s.check := rfl
@[simp] theorem assertFault_layers (c : FaultCause) (s : State) : (assertFault c s).layers = s.layers := rfl
@[simp] theorem assertFault_pres (c : FaultCause) (s : State) : (assertFault c s).pres = s.pres := rfl
@[simp] theorem assertFault_chain (c : FaultCause) (s : State) : (assertFault c s).chain = s.chain := rfl
@[simp] theorem assertFault_plant (c : FaultCause) (s : State) : (assertFault c s).plant = s.plant := rfl
@[simp] theorem assertFault_power (c : FaultCause) (s : State) : (assertFault c s).power = s.power := rfl
@[simp] theorem assertFault_flash (c : FaultCause) (s : State) : (assertFault c s).flash = s.flash := rfl
@[simp] theorem assertFault_dram (c : FaultCause) (s : State) : (assertFault c s).dram = s.dram := rfl
@[simp] theorem assertFault_i2c (c : FaultCause) (s : State) : (assertFault c s).i2c = s.i2c := rfl
@[simp] theorem assertFault_almanac (c : FaultCause) (s : State) : (assertFault c s).almanac = s.almanac := rfl
@[simp] theorem assertFault_ledger (c : FaultCause) (s : State) : (assertFault c s).ledger = s.ledger := rfl
@[simp] theorem assertFault_therm (c : FaultCause) (s : State) : (assertFault c s).therm = s.therm := rfl
@[simp] theorem assertFault_trim (c : FaultCause) (s : State) : (assertFault c s).trim = s.trim := rfl
@[simp] theorem assertFault_bist (c : FaultCause) (s : State) : (assertFault c s).bist = s.bist := rfl
@[simp] theorem assertFault_safety (c : FaultCause) (s : State) : (assertFault c s).safety = s.safety := rfl
@[simp] theorem assertFault_pending (c : FaultCause) (s : State) : (assertFault c s).pending = s.pending := rfl
@[simp] theorem assertFault_freeCount (c : FaultCause) (s : State) : (assertFault c s).freeCount = s.freeCount := rfl

/-! ### releaseFault changes `faults` alone. -/

@[simp] theorem releaseFault_fuse (c : FaultCause) (s : State) : (releaseFault c s).fuse = s.fuse := rfl
@[simp] theorem releaseFault_fw (c : FaultCause) (s : State) : (releaseFault c s).fw = s.fw := rfl
@[simp] theorem releaseFault_time (c : FaultCause) (s : State) : (releaseFault c s).time = s.time := rfl
@[simp] theorem releaseFault_net (c : FaultCause) (s : State) : (releaseFault c s).net = s.net := rfl
@[simp] theorem releaseFault_host (c : FaultCause) (s : State) : (releaseFault c s).host = s.host := rfl
@[simp] theorem releaseFault_cmd (c : FaultCause) (s : State) : (releaseFault c s).cmd = s.cmd := rfl
@[simp] theorem releaseFault_check (c : FaultCause) (s : State) : (releaseFault c s).check = s.check := rfl
@[simp] theorem releaseFault_layers (c : FaultCause) (s : State) : (releaseFault c s).layers = s.layers := rfl
@[simp] theorem releaseFault_pres (c : FaultCause) (s : State) : (releaseFault c s).pres = s.pres := rfl
@[simp] theorem releaseFault_chain (c : FaultCause) (s : State) : (releaseFault c s).chain = s.chain := rfl
@[simp] theorem releaseFault_plant (c : FaultCause) (s : State) : (releaseFault c s).plant = s.plant := rfl
@[simp] theorem releaseFault_power (c : FaultCause) (s : State) : (releaseFault c s).power = s.power := rfl
@[simp] theorem releaseFault_flash (c : FaultCause) (s : State) : (releaseFault c s).flash = s.flash := rfl
@[simp] theorem releaseFault_dram (c : FaultCause) (s : State) : (releaseFault c s).dram = s.dram := rfl
@[simp] theorem releaseFault_i2c (c : FaultCause) (s : State) : (releaseFault c s).i2c = s.i2c := rfl
@[simp] theorem releaseFault_almanac (c : FaultCause) (s : State) : (releaseFault c s).almanac = s.almanac := rfl
@[simp] theorem releaseFault_ledger (c : FaultCause) (s : State) : (releaseFault c s).ledger = s.ledger := rfl
@[simp] theorem releaseFault_therm (c : FaultCause) (s : State) : (releaseFault c s).therm = s.therm := rfl
@[simp] theorem releaseFault_trim (c : FaultCause) (s : State) : (releaseFault c s).trim = s.trim := rfl
@[simp] theorem releaseFault_bist (c : FaultCause) (s : State) : (releaseFault c s).bist = s.bist := rfl
@[simp] theorem releaseFault_safety (c : FaultCause) (s : State) : (releaseFault c s).safety = s.safety := rfl
@[simp] theorem releaseFault_pending (c : FaultCause) (s : State) : (releaseFault c s).pending = s.pending := rfl
@[simp] theorem releaseFault_freeCount (c : FaultCause) (s : State) : (releaseFault c s).freeCount = s.freeCount := rfl

/-! ### modRail changes `ledger` alone. -/

@[simp] theorem modRail_fuse (r : Nat) (f : Rail → Rail) (s : State) : (modRail r f s).fuse = s.fuse := rfl
@[simp] theorem modRail_fw (r : Nat) (f : Rail → Rail) (s : State) : (modRail r f s).fw = s.fw := rfl
@[simp] theorem modRail_time (r : Nat) (f : Rail → Rail) (s : State) : (modRail r f s).time = s.time := rfl
@[simp] theorem modRail_net (r : Nat) (f : Rail → Rail) (s : State) : (modRail r f s).net = s.net := rfl
@[simp] theorem modRail_host (r : Nat) (f : Rail → Rail) (s : State) : (modRail r f s).host = s.host := rfl
@[simp] theorem modRail_cmd (r : Nat) (f : Rail → Rail) (s : State) : (modRail r f s).cmd = s.cmd := rfl
@[simp] theorem modRail_check (r : Nat) (f : Rail → Rail) (s : State) : (modRail r f s).check = s.check := rfl
@[simp] theorem modRail_layers (r : Nat) (f : Rail → Rail) (s : State) : (modRail r f s).layers = s.layers := rfl
@[simp] theorem modRail_pres (r : Nat) (f : Rail → Rail) (s : State) : (modRail r f s).pres = s.pres := rfl
@[simp] theorem modRail_chain (r : Nat) (f : Rail → Rail) (s : State) : (modRail r f s).chain = s.chain := rfl
@[simp] theorem modRail_plant (r : Nat) (f : Rail → Rail) (s : State) : (modRail r f s).plant = s.plant := rfl
@[simp] theorem modRail_power (r : Nat) (f : Rail → Rail) (s : State) : (modRail r f s).power = s.power := rfl
@[simp] theorem modRail_flash (r : Nat) (f : Rail → Rail) (s : State) : (modRail r f s).flash = s.flash := rfl
@[simp] theorem modRail_dram (r : Nat) (f : Rail → Rail) (s : State) : (modRail r f s).dram = s.dram := rfl
@[simp] theorem modRail_i2c (r : Nat) (f : Rail → Rail) (s : State) : (modRail r f s).i2c = s.i2c := rfl
@[simp] theorem modRail_almanac (r : Nat) (f : Rail → Rail) (s : State) : (modRail r f s).almanac = s.almanac := rfl
@[simp] theorem modRail_therm (r : Nat) (f : Rail → Rail) (s : State) : (modRail r f s).therm = s.therm := rfl
@[simp] theorem modRail_trim (r : Nat) (f : Rail → Rail) (s : State) : (modRail r f s).trim = s.trim := rfl
@[simp] theorem modRail_bist (r : Nat) (f : Rail → Rail) (s : State) : (modRail r f s).bist = s.bist := rfl
@[simp] theorem modRail_safety (r : Nat) (f : Rail → Rail) (s : State) : (modRail r f s).safety = s.safety := rfl
@[simp] theorem modRail_faults (r : Nat) (f : Rail → Rail) (s : State) : (modRail r f s).faults = s.faults := rfl
@[simp] theorem modRail_pending (r : Nat) (f : Rail → Rail) (s : State) : (modRail r f s).pending = s.pending := rfl
@[simp] theorem modRail_freeCount (r : Nat) (f : Rail → Rail) (s : State) : (modRail r f s).freeCount = s.freeCount := rfl

/-! ### modRails changes `ledger` alone. -/

@[simp] theorem modRails_fuse (f : Rail → Rail) (s : State) : (modRails f s).fuse = s.fuse := rfl
@[simp] theorem modRails_fw (f : Rail → Rail) (s : State) : (modRails f s).fw = s.fw := rfl
@[simp] theorem modRails_time (f : Rail → Rail) (s : State) : (modRails f s).time = s.time := rfl
@[simp] theorem modRails_net (f : Rail → Rail) (s : State) : (modRails f s).net = s.net := rfl
@[simp] theorem modRails_host (f : Rail → Rail) (s : State) : (modRails f s).host = s.host := rfl
@[simp] theorem modRails_cmd (f : Rail → Rail) (s : State) : (modRails f s).cmd = s.cmd := rfl
@[simp] theorem modRails_check (f : Rail → Rail) (s : State) : (modRails f s).check = s.check := rfl
@[simp] theorem modRails_layers (f : Rail → Rail) (s : State) : (modRails f s).layers = s.layers := rfl
@[simp] theorem modRails_pres (f : Rail → Rail) (s : State) : (modRails f s).pres = s.pres := rfl
@[simp] theorem modRails_chain (f : Rail → Rail) (s : State) : (modRails f s).chain = s.chain := rfl
@[simp] theorem modRails_plant (f : Rail → Rail) (s : State) : (modRails f s).plant = s.plant := rfl
@[simp] theorem modRails_power (f : Rail → Rail) (s : State) : (modRails f s).power = s.power := rfl
@[simp] theorem modRails_flash (f : Rail → Rail) (s : State) : (modRails f s).flash = s.flash := rfl
@[simp] theorem modRails_dram (f : Rail → Rail) (s : State) : (modRails f s).dram = s.dram := rfl
@[simp] theorem modRails_i2c (f : Rail → Rail) (s : State) : (modRails f s).i2c = s.i2c := rfl
@[simp] theorem modRails_almanac (f : Rail → Rail) (s : State) : (modRails f s).almanac = s.almanac := rfl
@[simp] theorem modRails_therm (f : Rail → Rail) (s : State) : (modRails f s).therm = s.therm := rfl
@[simp] theorem modRails_trim (f : Rail → Rail) (s : State) : (modRails f s).trim = s.trim := rfl
@[simp] theorem modRails_bist (f : Rail → Rail) (s : State) : (modRails f s).bist = s.bist := rfl
@[simp] theorem modRails_safety (f : Rail → Rail) (s : State) : (modRails f s).safety = s.safety := rfl
@[simp] theorem modRails_faults (f : Rail → Rail) (s : State) : (modRails f s).faults = s.faults := rfl
@[simp] theorem modRails_pending (f : Rail → Rail) (s : State) : (modRails f s).pending = s.pending := rfl
@[simp] theorem modRails_freeCount (f : Rail → Rail) (s : State) : (modRails f s).freeCount = s.freeCount := rfl

/-! ### dropRails changes `ledger` alone. -/

@[simp] theorem dropRails_fuse (s : State) : (dropRails s).fuse = s.fuse := rfl
@[simp] theorem dropRails_fw (s : State) : (dropRails s).fw = s.fw := rfl
@[simp] theorem dropRails_time (s : State) : (dropRails s).time = s.time := rfl
@[simp] theorem dropRails_net (s : State) : (dropRails s).net = s.net := rfl
@[simp] theorem dropRails_host (s : State) : (dropRails s).host = s.host := rfl
@[simp] theorem dropRails_cmd (s : State) : (dropRails s).cmd = s.cmd := rfl
@[simp] theorem dropRails_check (s : State) : (dropRails s).check = s.check := rfl
@[simp] theorem dropRails_layers (s : State) : (dropRails s).layers = s.layers := rfl
@[simp] theorem dropRails_pres (s : State) : (dropRails s).pres = s.pres := rfl
@[simp] theorem dropRails_chain (s : State) : (dropRails s).chain = s.chain := rfl
@[simp] theorem dropRails_plant (s : State) : (dropRails s).plant = s.plant := rfl
@[simp] theorem dropRails_power (s : State) : (dropRails s).power = s.power := rfl
@[simp] theorem dropRails_flash (s : State) : (dropRails s).flash = s.flash := rfl
@[simp] theorem dropRails_dram (s : State) : (dropRails s).dram = s.dram := rfl
@[simp] theorem dropRails_i2c (s : State) : (dropRails s).i2c = s.i2c := rfl
@[simp] theorem dropRails_almanac (s : State) : (dropRails s).almanac = s.almanac := rfl
@[simp] theorem dropRails_therm (s : State) : (dropRails s).therm = s.therm := rfl
@[simp] theorem dropRails_trim (s : State) : (dropRails s).trim = s.trim := rfl
@[simp] theorem dropRails_bist (s : State) : (dropRails s).bist = s.bist := rfl
@[simp] theorem dropRails_safety (s : State) : (dropRails s).safety = s.safety := rfl
@[simp] theorem dropRails_faults (s : State) : (dropRails s).faults = s.faults := rfl
@[simp] theorem dropRails_pending (s : State) : (dropRails s).pending = s.pending := rfl
@[simp] theorem dropRails_freeCount (s : State) : (dropRails s).freeCount = s.freeCount := rfl

/-! ### modPort changes `chain` alone. -/

@[simp] theorem modPort_fuse (p : Nat) (f : ChainPort → ChainPort) (s : State) : (modPort p f s).fuse = s.fuse := rfl
@[simp] theorem modPort_fw (p : Nat) (f : ChainPort → ChainPort) (s : State) : (modPort p f s).fw = s.fw := rfl
@[simp] theorem modPort_time (p : Nat) (f : ChainPort → ChainPort) (s : State) : (modPort p f s).time = s.time := rfl
@[simp] theorem modPort_net (p : Nat) (f : ChainPort → ChainPort) (s : State) : (modPort p f s).net = s.net := rfl
@[simp] theorem modPort_host (p : Nat) (f : ChainPort → ChainPort) (s : State) : (modPort p f s).host = s.host := rfl
@[simp] theorem modPort_cmd (p : Nat) (f : ChainPort → ChainPort) (s : State) : (modPort p f s).cmd = s.cmd := rfl
@[simp] theorem modPort_check (p : Nat) (f : ChainPort → ChainPort) (s : State) : (modPort p f s).check = s.check := rfl
@[simp] theorem modPort_layers (p : Nat) (f : ChainPort → ChainPort) (s : State) : (modPort p f s).layers = s.layers := rfl
@[simp] theorem modPort_pres (p : Nat) (f : ChainPort → ChainPort) (s : State) : (modPort p f s).pres = s.pres := rfl
@[simp] theorem modPort_plant (p : Nat) (f : ChainPort → ChainPort) (s : State) : (modPort p f s).plant = s.plant := rfl
@[simp] theorem modPort_power (p : Nat) (f : ChainPort → ChainPort) (s : State) : (modPort p f s).power = s.power := rfl
@[simp] theorem modPort_flash (p : Nat) (f : ChainPort → ChainPort) (s : State) : (modPort p f s).flash = s.flash := rfl
@[simp] theorem modPort_dram (p : Nat) (f : ChainPort → ChainPort) (s : State) : (modPort p f s).dram = s.dram := rfl
@[simp] theorem modPort_i2c (p : Nat) (f : ChainPort → ChainPort) (s : State) : (modPort p f s).i2c = s.i2c := rfl
@[simp] theorem modPort_almanac (p : Nat) (f : ChainPort → ChainPort) (s : State) : (modPort p f s).almanac = s.almanac := rfl
@[simp] theorem modPort_ledger (p : Nat) (f : ChainPort → ChainPort) (s : State) : (modPort p f s).ledger = s.ledger := rfl
@[simp] theorem modPort_therm (p : Nat) (f : ChainPort → ChainPort) (s : State) : (modPort p f s).therm = s.therm := rfl
@[simp] theorem modPort_trim (p : Nat) (f : ChainPort → ChainPort) (s : State) : (modPort p f s).trim = s.trim := rfl
@[simp] theorem modPort_bist (p : Nat) (f : ChainPort → ChainPort) (s : State) : (modPort p f s).bist = s.bist := rfl
@[simp] theorem modPort_safety (p : Nat) (f : ChainPort → ChainPort) (s : State) : (modPort p f s).safety = s.safety := rfl
@[simp] theorem modPort_faults (p : Nat) (f : ChainPort → ChainPort) (s : State) : (modPort p f s).faults = s.faults := rfl
@[simp] theorem modPort_pending (p : Nat) (f : ChainPort → ChainPort) (s : State) : (modPort p f s).pending = s.pending := rfl
@[simp] theorem modPort_freeCount (p : Nat) (f : ChainPort → ChainPort) (s : State) : (modPort p f s).freeCount = s.freeCount := rfl

/-! ### modLoop changes `chain` alone. -/

@[simp] theorem modLoop_fuse (l : Nat) (f : LoopState → LoopState) (s : State) : (modLoop l f s).fuse = s.fuse := rfl
@[simp] theorem modLoop_fw (l : Nat) (f : LoopState → LoopState) (s : State) : (modLoop l f s).fw = s.fw := rfl
@[simp] theorem modLoop_time (l : Nat) (f : LoopState → LoopState) (s : State) : (modLoop l f s).time = s.time := rfl
@[simp] theorem modLoop_net (l : Nat) (f : LoopState → LoopState) (s : State) : (modLoop l f s).net = s.net := rfl
@[simp] theorem modLoop_host (l : Nat) (f : LoopState → LoopState) (s : State) : (modLoop l f s).host = s.host := rfl
@[simp] theorem modLoop_cmd (l : Nat) (f : LoopState → LoopState) (s : State) : (modLoop l f s).cmd = s.cmd := rfl
@[simp] theorem modLoop_check (l : Nat) (f : LoopState → LoopState) (s : State) : (modLoop l f s).check = s.check := rfl
@[simp] theorem modLoop_layers (l : Nat) (f : LoopState → LoopState) (s : State) : (modLoop l f s).layers = s.layers := rfl
@[simp] theorem modLoop_pres (l : Nat) (f : LoopState → LoopState) (s : State) : (modLoop l f s).pres = s.pres := rfl
@[simp] theorem modLoop_plant (l : Nat) (f : LoopState → LoopState) (s : State) : (modLoop l f s).plant = s.plant := rfl
@[simp] theorem modLoop_power (l : Nat) (f : LoopState → LoopState) (s : State) : (modLoop l f s).power = s.power := rfl
@[simp] theorem modLoop_flash (l : Nat) (f : LoopState → LoopState) (s : State) : (modLoop l f s).flash = s.flash := rfl
@[simp] theorem modLoop_dram (l : Nat) (f : LoopState → LoopState) (s : State) : (modLoop l f s).dram = s.dram := rfl
@[simp] theorem modLoop_i2c (l : Nat) (f : LoopState → LoopState) (s : State) : (modLoop l f s).i2c = s.i2c := rfl
@[simp] theorem modLoop_almanac (l : Nat) (f : LoopState → LoopState) (s : State) : (modLoop l f s).almanac = s.almanac := rfl
@[simp] theorem modLoop_ledger (l : Nat) (f : LoopState → LoopState) (s : State) : (modLoop l f s).ledger = s.ledger := rfl
@[simp] theorem modLoop_therm (l : Nat) (f : LoopState → LoopState) (s : State) : (modLoop l f s).therm = s.therm := rfl
@[simp] theorem modLoop_trim (l : Nat) (f : LoopState → LoopState) (s : State) : (modLoop l f s).trim = s.trim := rfl
@[simp] theorem modLoop_bist (l : Nat) (f : LoopState → LoopState) (s : State) : (modLoop l f s).bist = s.bist := rfl
@[simp] theorem modLoop_safety (l : Nat) (f : LoopState → LoopState) (s : State) : (modLoop l f s).safety = s.safety := rfl
@[simp] theorem modLoop_faults (l : Nat) (f : LoopState → LoopState) (s : State) : (modLoop l f s).faults = s.faults := rfl
@[simp] theorem modLoop_pending (l : Nat) (f : LoopState → LoopState) (s : State) : (modLoop l f s).pending = s.pending := rfl
@[simp] theorem modLoop_freeCount (l : Nat) (f : LoopState → LoopState) (s : State) : (modLoop l f s).freeCount = s.freeCount := rfl

/-! ### modPlant changes `plant` alone. -/

@[simp] theorem modPlant_fuse (l : Nat) (f : PlantLoop → PlantLoop) (s : State) : (modPlant l f s).fuse = s.fuse := rfl
@[simp] theorem modPlant_fw (l : Nat) (f : PlantLoop → PlantLoop) (s : State) : (modPlant l f s).fw = s.fw := rfl
@[simp] theorem modPlant_time (l : Nat) (f : PlantLoop → PlantLoop) (s : State) : (modPlant l f s).time = s.time := rfl
@[simp] theorem modPlant_net (l : Nat) (f : PlantLoop → PlantLoop) (s : State) : (modPlant l f s).net = s.net := rfl
@[simp] theorem modPlant_host (l : Nat) (f : PlantLoop → PlantLoop) (s : State) : (modPlant l f s).host = s.host := rfl
@[simp] theorem modPlant_cmd (l : Nat) (f : PlantLoop → PlantLoop) (s : State) : (modPlant l f s).cmd = s.cmd := rfl
@[simp] theorem modPlant_check (l : Nat) (f : PlantLoop → PlantLoop) (s : State) : (modPlant l f s).check = s.check := rfl
@[simp] theorem modPlant_layers (l : Nat) (f : PlantLoop → PlantLoop) (s : State) : (modPlant l f s).layers = s.layers := rfl
@[simp] theorem modPlant_pres (l : Nat) (f : PlantLoop → PlantLoop) (s : State) : (modPlant l f s).pres = s.pres := rfl
@[simp] theorem modPlant_chain (l : Nat) (f : PlantLoop → PlantLoop) (s : State) : (modPlant l f s).chain = s.chain := rfl
@[simp] theorem modPlant_power (l : Nat) (f : PlantLoop → PlantLoop) (s : State) : (modPlant l f s).power = s.power := rfl
@[simp] theorem modPlant_flash (l : Nat) (f : PlantLoop → PlantLoop) (s : State) : (modPlant l f s).flash = s.flash := rfl
@[simp] theorem modPlant_dram (l : Nat) (f : PlantLoop → PlantLoop) (s : State) : (modPlant l f s).dram = s.dram := rfl
@[simp] theorem modPlant_i2c (l : Nat) (f : PlantLoop → PlantLoop) (s : State) : (modPlant l f s).i2c = s.i2c := rfl
@[simp] theorem modPlant_almanac (l : Nat) (f : PlantLoop → PlantLoop) (s : State) : (modPlant l f s).almanac = s.almanac := rfl
@[simp] theorem modPlant_ledger (l : Nat) (f : PlantLoop → PlantLoop) (s : State) : (modPlant l f s).ledger = s.ledger := rfl
@[simp] theorem modPlant_therm (l : Nat) (f : PlantLoop → PlantLoop) (s : State) : (modPlant l f s).therm = s.therm := rfl
@[simp] theorem modPlant_trim (l : Nat) (f : PlantLoop → PlantLoop) (s : State) : (modPlant l f s).trim = s.trim := rfl
@[simp] theorem modPlant_bist (l : Nat) (f : PlantLoop → PlantLoop) (s : State) : (modPlant l f s).bist = s.bist := rfl
@[simp] theorem modPlant_safety (l : Nat) (f : PlantLoop → PlantLoop) (s : State) : (modPlant l f s).safety = s.safety := rfl
@[simp] theorem modPlant_faults (l : Nat) (f : PlantLoop → PlantLoop) (s : State) : (modPlant l f s).faults = s.faults := rfl
@[simp] theorem modPlant_pending (l : Nat) (f : PlantLoop → PlantLoop) (s : State) : (modPlant l f s).pending = s.pending := rfl
@[simp] theorem modPlant_freeCount (l : Nat) (f : PlantLoop → PlantLoop) (s : State) : (modPlant l f s).freeCount = s.freeCount := rfl

/-! ### modCheck changes `check` alone. -/

@[simp] theorem modCheck_fuse (u : Nat) (f : CheckUnit → CheckUnit) (s : State) : (modCheck u f s).fuse = s.fuse := rfl
@[simp] theorem modCheck_fw (u : Nat) (f : CheckUnit → CheckUnit) (s : State) : (modCheck u f s).fw = s.fw := rfl
@[simp] theorem modCheck_time (u : Nat) (f : CheckUnit → CheckUnit) (s : State) : (modCheck u f s).time = s.time := rfl
@[simp] theorem modCheck_net (u : Nat) (f : CheckUnit → CheckUnit) (s : State) : (modCheck u f s).net = s.net := rfl
@[simp] theorem modCheck_host (u : Nat) (f : CheckUnit → CheckUnit) (s : State) : (modCheck u f s).host = s.host := rfl
@[simp] theorem modCheck_cmd (u : Nat) (f : CheckUnit → CheckUnit) (s : State) : (modCheck u f s).cmd = s.cmd := rfl
@[simp] theorem modCheck_layers (u : Nat) (f : CheckUnit → CheckUnit) (s : State) : (modCheck u f s).layers = s.layers := rfl
@[simp] theorem modCheck_pres (u : Nat) (f : CheckUnit → CheckUnit) (s : State) : (modCheck u f s).pres = s.pres := rfl
@[simp] theorem modCheck_chain (u : Nat) (f : CheckUnit → CheckUnit) (s : State) : (modCheck u f s).chain = s.chain := rfl
@[simp] theorem modCheck_plant (u : Nat) (f : CheckUnit → CheckUnit) (s : State) : (modCheck u f s).plant = s.plant := rfl
@[simp] theorem modCheck_power (u : Nat) (f : CheckUnit → CheckUnit) (s : State) : (modCheck u f s).power = s.power := rfl
@[simp] theorem modCheck_flash (u : Nat) (f : CheckUnit → CheckUnit) (s : State) : (modCheck u f s).flash = s.flash := rfl
@[simp] theorem modCheck_dram (u : Nat) (f : CheckUnit → CheckUnit) (s : State) : (modCheck u f s).dram = s.dram := rfl
@[simp] theorem modCheck_i2c (u : Nat) (f : CheckUnit → CheckUnit) (s : State) : (modCheck u f s).i2c = s.i2c := rfl
@[simp] theorem modCheck_almanac (u : Nat) (f : CheckUnit → CheckUnit) (s : State) : (modCheck u f s).almanac = s.almanac := rfl
@[simp] theorem modCheck_ledger (u : Nat) (f : CheckUnit → CheckUnit) (s : State) : (modCheck u f s).ledger = s.ledger := rfl
@[simp] theorem modCheck_therm (u : Nat) (f : CheckUnit → CheckUnit) (s : State) : (modCheck u f s).therm = s.therm := rfl
@[simp] theorem modCheck_trim (u : Nat) (f : CheckUnit → CheckUnit) (s : State) : (modCheck u f s).trim = s.trim := rfl
@[simp] theorem modCheck_bist (u : Nat) (f : CheckUnit → CheckUnit) (s : State) : (modCheck u f s).bist = s.bist := rfl
@[simp] theorem modCheck_safety (u : Nat) (f : CheckUnit → CheckUnit) (s : State) : (modCheck u f s).safety = s.safety := rfl
@[simp] theorem modCheck_faults (u : Nat) (f : CheckUnit → CheckUnit) (s : State) : (modCheck u f s).faults = s.faults := rfl
@[simp] theorem modCheck_pending (u : Nat) (f : CheckUnit → CheckUnit) (s : State) : (modCheck u f s).pending = s.pending := rfl
@[simp] theorem modCheck_freeCount (u : Nat) (f : CheckUnit → CheckUnit) (s : State) : (modCheck u f s).freeCount = s.freeCount := rfl

/-! ### modBuf changes `layers` alone. -/

@[simp] theorem modBuf_fuse (h : Nat) (f : Buffer → Buffer) (s : State) : (modBuf h f s).fuse = s.fuse := rfl
@[simp] theorem modBuf_fw (h : Nat) (f : Buffer → Buffer) (s : State) : (modBuf h f s).fw = s.fw := rfl
@[simp] theorem modBuf_time (h : Nat) (f : Buffer → Buffer) (s : State) : (modBuf h f s).time = s.time := rfl
@[simp] theorem modBuf_net (h : Nat) (f : Buffer → Buffer) (s : State) : (modBuf h f s).net = s.net := rfl
@[simp] theorem modBuf_host (h : Nat) (f : Buffer → Buffer) (s : State) : (modBuf h f s).host = s.host := rfl
@[simp] theorem modBuf_cmd (h : Nat) (f : Buffer → Buffer) (s : State) : (modBuf h f s).cmd = s.cmd := rfl
@[simp] theorem modBuf_check (h : Nat) (f : Buffer → Buffer) (s : State) : (modBuf h f s).check = s.check := rfl
@[simp] theorem modBuf_pres (h : Nat) (f : Buffer → Buffer) (s : State) : (modBuf h f s).pres = s.pres := rfl
@[simp] theorem modBuf_chain (h : Nat) (f : Buffer → Buffer) (s : State) : (modBuf h f s).chain = s.chain := rfl
@[simp] theorem modBuf_plant (h : Nat) (f : Buffer → Buffer) (s : State) : (modBuf h f s).plant = s.plant := rfl
@[simp] theorem modBuf_power (h : Nat) (f : Buffer → Buffer) (s : State) : (modBuf h f s).power = s.power := rfl
@[simp] theorem modBuf_flash (h : Nat) (f : Buffer → Buffer) (s : State) : (modBuf h f s).flash = s.flash := rfl
@[simp] theorem modBuf_dram (h : Nat) (f : Buffer → Buffer) (s : State) : (modBuf h f s).dram = s.dram := rfl
@[simp] theorem modBuf_i2c (h : Nat) (f : Buffer → Buffer) (s : State) : (modBuf h f s).i2c = s.i2c := rfl
@[simp] theorem modBuf_almanac (h : Nat) (f : Buffer → Buffer) (s : State) : (modBuf h f s).almanac = s.almanac := rfl
@[simp] theorem modBuf_ledger (h : Nat) (f : Buffer → Buffer) (s : State) : (modBuf h f s).ledger = s.ledger := rfl
@[simp] theorem modBuf_therm (h : Nat) (f : Buffer → Buffer) (s : State) : (modBuf h f s).therm = s.therm := rfl
@[simp] theorem modBuf_trim (h : Nat) (f : Buffer → Buffer) (s : State) : (modBuf h f s).trim = s.trim := rfl
@[simp] theorem modBuf_bist (h : Nat) (f : Buffer → Buffer) (s : State) : (modBuf h f s).bist = s.bist := rfl
@[simp] theorem modBuf_safety (h : Nat) (f : Buffer → Buffer) (s : State) : (modBuf h f s).safety = s.safety := rfl
@[simp] theorem modBuf_faults (h : Nat) (f : Buffer → Buffer) (s : State) : (modBuf h f s).faults = s.faults := rfl
@[simp] theorem modBuf_pending (h : Nat) (f : Buffer → Buffer) (s : State) : (modBuf h f s).pending = s.pending := rfl
@[simp] theorem modBuf_freeCount (h : Nat) (f : Buffer → Buffer) (s : State) : (modBuf h f s).freeCount = s.freeCount := rfl

/-! ### dropBuf changes `layers` alone. -/

@[simp] theorem dropBuf_fuse (h : Nat) (s : State) : (dropBuf h s).fuse = s.fuse := rfl
@[simp] theorem dropBuf_fw (h : Nat) (s : State) : (dropBuf h s).fw = s.fw := rfl
@[simp] theorem dropBuf_time (h : Nat) (s : State) : (dropBuf h s).time = s.time := rfl
@[simp] theorem dropBuf_net (h : Nat) (s : State) : (dropBuf h s).net = s.net := rfl
@[simp] theorem dropBuf_host (h : Nat) (s : State) : (dropBuf h s).host = s.host := rfl
@[simp] theorem dropBuf_cmd (h : Nat) (s : State) : (dropBuf h s).cmd = s.cmd := rfl
@[simp] theorem dropBuf_check (h : Nat) (s : State) : (dropBuf h s).check = s.check := rfl
@[simp] theorem dropBuf_pres (h : Nat) (s : State) : (dropBuf h s).pres = s.pres := rfl
@[simp] theorem dropBuf_chain (h : Nat) (s : State) : (dropBuf h s).chain = s.chain := rfl
@[simp] theorem dropBuf_plant (h : Nat) (s : State) : (dropBuf h s).plant = s.plant := rfl
@[simp] theorem dropBuf_power (h : Nat) (s : State) : (dropBuf h s).power = s.power := rfl
@[simp] theorem dropBuf_flash (h : Nat) (s : State) : (dropBuf h s).flash = s.flash := rfl
@[simp] theorem dropBuf_dram (h : Nat) (s : State) : (dropBuf h s).dram = s.dram := rfl
@[simp] theorem dropBuf_i2c (h : Nat) (s : State) : (dropBuf h s).i2c = s.i2c := rfl
@[simp] theorem dropBuf_almanac (h : Nat) (s : State) : (dropBuf h s).almanac = s.almanac := rfl
@[simp] theorem dropBuf_ledger (h : Nat) (s : State) : (dropBuf h s).ledger = s.ledger := rfl
@[simp] theorem dropBuf_therm (h : Nat) (s : State) : (dropBuf h s).therm = s.therm := rfl
@[simp] theorem dropBuf_trim (h : Nat) (s : State) : (dropBuf h s).trim = s.trim := rfl
@[simp] theorem dropBuf_bist (h : Nat) (s : State) : (dropBuf h s).bist = s.bist := rfl
@[simp] theorem dropBuf_safety (h : Nat) (s : State) : (dropBuf h s).safety = s.safety := rfl
@[simp] theorem dropBuf_faults (h : Nat) (s : State) : (dropBuf h s).faults = s.faults := rfl
@[simp] theorem dropBuf_pending (h : Nat) (s : State) : (dropBuf h s).pending = s.pending := rfl
@[simp] theorem dropBuf_freeCount (h : Nat) (s : State) : (dropBuf h s).freeCount = s.freeCount := rfl

/-! ### setRun changes `layers` alone. -/

@[simp] theorem setRun_fuse (i : Nat) (f : LayerRun → LayerRun) (s : State) : (setRun i f s).fuse = s.fuse := rfl
@[simp] theorem setRun_fw (i : Nat) (f : LayerRun → LayerRun) (s : State) : (setRun i f s).fw = s.fw := rfl
@[simp] theorem setRun_time (i : Nat) (f : LayerRun → LayerRun) (s : State) : (setRun i f s).time = s.time := rfl
@[simp] theorem setRun_net (i : Nat) (f : LayerRun → LayerRun) (s : State) : (setRun i f s).net = s.net := rfl
@[simp] theorem setRun_host (i : Nat) (f : LayerRun → LayerRun) (s : State) : (setRun i f s).host = s.host := rfl
@[simp] theorem setRun_cmd (i : Nat) (f : LayerRun → LayerRun) (s : State) : (setRun i f s).cmd = s.cmd := rfl
@[simp] theorem setRun_check (i : Nat) (f : LayerRun → LayerRun) (s : State) : (setRun i f s).check = s.check := rfl
@[simp] theorem setRun_pres (i : Nat) (f : LayerRun → LayerRun) (s : State) : (setRun i f s).pres = s.pres := rfl
@[simp] theorem setRun_chain (i : Nat) (f : LayerRun → LayerRun) (s : State) : (setRun i f s).chain = s.chain := rfl
@[simp] theorem setRun_plant (i : Nat) (f : LayerRun → LayerRun) (s : State) : (setRun i f s).plant = s.plant := rfl
@[simp] theorem setRun_power (i : Nat) (f : LayerRun → LayerRun) (s : State) : (setRun i f s).power = s.power := rfl
@[simp] theorem setRun_flash (i : Nat) (f : LayerRun → LayerRun) (s : State) : (setRun i f s).flash = s.flash := rfl
@[simp] theorem setRun_dram (i : Nat) (f : LayerRun → LayerRun) (s : State) : (setRun i f s).dram = s.dram := rfl
@[simp] theorem setRun_i2c (i : Nat) (f : LayerRun → LayerRun) (s : State) : (setRun i f s).i2c = s.i2c := rfl
@[simp] theorem setRun_almanac (i : Nat) (f : LayerRun → LayerRun) (s : State) : (setRun i f s).almanac = s.almanac := rfl
@[simp] theorem setRun_ledger (i : Nat) (f : LayerRun → LayerRun) (s : State) : (setRun i f s).ledger = s.ledger := rfl
@[simp] theorem setRun_therm (i : Nat) (f : LayerRun → LayerRun) (s : State) : (setRun i f s).therm = s.therm := rfl
@[simp] theorem setRun_trim (i : Nat) (f : LayerRun → LayerRun) (s : State) : (setRun i f s).trim = s.trim := rfl
@[simp] theorem setRun_bist (i : Nat) (f : LayerRun → LayerRun) (s : State) : (setRun i f s).bist = s.bist := rfl
@[simp] theorem setRun_safety (i : Nat) (f : LayerRun → LayerRun) (s : State) : (setRun i f s).safety = s.safety := rfl
@[simp] theorem setRun_faults (i : Nat) (f : LayerRun → LayerRun) (s : State) : (setRun i f s).faults = s.faults := rfl
@[simp] theorem setRun_pending (i : Nat) (f : LayerRun → LayerRun) (s : State) : (setRun i f s).pending = s.pending := rfl
@[simp] theorem setRun_freeCount (i : Nat) (f : LayerRun → LayerRun) (s : State) : (setRun i f s).freeCount = s.freeCount := rfl

/-! ### setSlot changes `flash` alone. -/

@[simp] theorem setSlot_fuse (k : Nat) (x : SlotState) (s : State) : (setSlot k x s).fuse = s.fuse := rfl
@[simp] theorem setSlot_fw (k : Nat) (x : SlotState) (s : State) : (setSlot k x s).fw = s.fw := rfl
@[simp] theorem setSlot_time (k : Nat) (x : SlotState) (s : State) : (setSlot k x s).time = s.time := rfl
@[simp] theorem setSlot_net (k : Nat) (x : SlotState) (s : State) : (setSlot k x s).net = s.net := rfl
@[simp] theorem setSlot_host (k : Nat) (x : SlotState) (s : State) : (setSlot k x s).host = s.host := rfl
@[simp] theorem setSlot_cmd (k : Nat) (x : SlotState) (s : State) : (setSlot k x s).cmd = s.cmd := rfl
@[simp] theorem setSlot_check (k : Nat) (x : SlotState) (s : State) : (setSlot k x s).check = s.check := rfl
@[simp] theorem setSlot_layers (k : Nat) (x : SlotState) (s : State) : (setSlot k x s).layers = s.layers := rfl
@[simp] theorem setSlot_pres (k : Nat) (x : SlotState) (s : State) : (setSlot k x s).pres = s.pres := rfl
@[simp] theorem setSlot_chain (k : Nat) (x : SlotState) (s : State) : (setSlot k x s).chain = s.chain := rfl
@[simp] theorem setSlot_plant (k : Nat) (x : SlotState) (s : State) : (setSlot k x s).plant = s.plant := rfl
@[simp] theorem setSlot_power (k : Nat) (x : SlotState) (s : State) : (setSlot k x s).power = s.power := rfl
@[simp] theorem setSlot_dram (k : Nat) (x : SlotState) (s : State) : (setSlot k x s).dram = s.dram := rfl
@[simp] theorem setSlot_i2c (k : Nat) (x : SlotState) (s : State) : (setSlot k x s).i2c = s.i2c := rfl
@[simp] theorem setSlot_almanac (k : Nat) (x : SlotState) (s : State) : (setSlot k x s).almanac = s.almanac := rfl
@[simp] theorem setSlot_ledger (k : Nat) (x : SlotState) (s : State) : (setSlot k x s).ledger = s.ledger := rfl
@[simp] theorem setSlot_therm (k : Nat) (x : SlotState) (s : State) : (setSlot k x s).therm = s.therm := rfl
@[simp] theorem setSlot_trim (k : Nat) (x : SlotState) (s : State) : (setSlot k x s).trim = s.trim := rfl
@[simp] theorem setSlot_bist (k : Nat) (x : SlotState) (s : State) : (setSlot k x s).bist = s.bist := rfl
@[simp] theorem setSlot_safety (k : Nat) (x : SlotState) (s : State) : (setSlot k x s).safety = s.safety := rfl
@[simp] theorem setSlot_faults (k : Nat) (x : SlotState) (s : State) : (setSlot k x s).faults = s.faults := rfl
@[simp] theorem setSlot_pending (k : Nat) (x : SlotState) (s : State) : (setSlot k x s).pending = s.pending := rfl
@[simp] theorem setSlot_freeCount (k : Nat) (x : SlotState) (s : State) : (setSlot k x s).freeCount = s.freeCount := rfl

/-! ### modBank changes `almanac` alone. -/

@[simp] theorem modBank_fuse (k : Nat) (f : Bank → Bank) (s : State) : (modBank k f s).fuse = s.fuse := rfl
@[simp] theorem modBank_fw (k : Nat) (f : Bank → Bank) (s : State) : (modBank k f s).fw = s.fw := rfl
@[simp] theorem modBank_time (k : Nat) (f : Bank → Bank) (s : State) : (modBank k f s).time = s.time := rfl
@[simp] theorem modBank_net (k : Nat) (f : Bank → Bank) (s : State) : (modBank k f s).net = s.net := rfl
@[simp] theorem modBank_host (k : Nat) (f : Bank → Bank) (s : State) : (modBank k f s).host = s.host := rfl
@[simp] theorem modBank_cmd (k : Nat) (f : Bank → Bank) (s : State) : (modBank k f s).cmd = s.cmd := rfl
@[simp] theorem modBank_check (k : Nat) (f : Bank → Bank) (s : State) : (modBank k f s).check = s.check := rfl
@[simp] theorem modBank_layers (k : Nat) (f : Bank → Bank) (s : State) : (modBank k f s).layers = s.layers := rfl
@[simp] theorem modBank_pres (k : Nat) (f : Bank → Bank) (s : State) : (modBank k f s).pres = s.pres := rfl
@[simp] theorem modBank_chain (k : Nat) (f : Bank → Bank) (s : State) : (modBank k f s).chain = s.chain := rfl
@[simp] theorem modBank_plant (k : Nat) (f : Bank → Bank) (s : State) : (modBank k f s).plant = s.plant := rfl
@[simp] theorem modBank_power (k : Nat) (f : Bank → Bank) (s : State) : (modBank k f s).power = s.power := rfl
@[simp] theorem modBank_flash (k : Nat) (f : Bank → Bank) (s : State) : (modBank k f s).flash = s.flash := rfl
@[simp] theorem modBank_dram (k : Nat) (f : Bank → Bank) (s : State) : (modBank k f s).dram = s.dram := rfl
@[simp] theorem modBank_i2c (k : Nat) (f : Bank → Bank) (s : State) : (modBank k f s).i2c = s.i2c := rfl
@[simp] theorem modBank_ledger (k : Nat) (f : Bank → Bank) (s : State) : (modBank k f s).ledger = s.ledger := rfl
@[simp] theorem modBank_therm (k : Nat) (f : Bank → Bank) (s : State) : (modBank k f s).therm = s.therm := rfl
@[simp] theorem modBank_trim (k : Nat) (f : Bank → Bank) (s : State) : (modBank k f s).trim = s.trim := rfl
@[simp] theorem modBank_bist (k : Nat) (f : Bank → Bank) (s : State) : (modBank k f s).bist = s.bist := rfl
@[simp] theorem modBank_safety (k : Nat) (f : Bank → Bank) (s : State) : (modBank k f s).safety = s.safety := rfl
@[simp] theorem modBank_faults (k : Nat) (f : Bank → Bank) (s : State) : (modBank k f s).faults = s.faults := rfl
@[simp] theorem modBank_pending (k : Nat) (f : Bank → Bank) (s : State) : (modBank k f s).pending = s.pending := rfl
@[simp] theorem modBank_freeCount (k : Nat) (f : Bank → Bank) (s : State) : (modBank k f s).freeCount = s.freeCount := rfl

/-! ### setLevel changes `power` alone. -/

@[simp] theorem setLevel_fuse (k : Nat) (s : State) : (setLevel k s).fuse = s.fuse := rfl
@[simp] theorem setLevel_fw (k : Nat) (s : State) : (setLevel k s).fw = s.fw := rfl
@[simp] theorem setLevel_time (k : Nat) (s : State) : (setLevel k s).time = s.time := rfl
@[simp] theorem setLevel_net (k : Nat) (s : State) : (setLevel k s).net = s.net := rfl
@[simp] theorem setLevel_host (k : Nat) (s : State) : (setLevel k s).host = s.host := rfl
@[simp] theorem setLevel_cmd (k : Nat) (s : State) : (setLevel k s).cmd = s.cmd := rfl
@[simp] theorem setLevel_check (k : Nat) (s : State) : (setLevel k s).check = s.check := rfl
@[simp] theorem setLevel_layers (k : Nat) (s : State) : (setLevel k s).layers = s.layers := rfl
@[simp] theorem setLevel_pres (k : Nat) (s : State) : (setLevel k s).pres = s.pres := rfl
@[simp] theorem setLevel_chain (k : Nat) (s : State) : (setLevel k s).chain = s.chain := rfl
@[simp] theorem setLevel_plant (k : Nat) (s : State) : (setLevel k s).plant = s.plant := rfl
@[simp] theorem setLevel_flash (k : Nat) (s : State) : (setLevel k s).flash = s.flash := rfl
@[simp] theorem setLevel_dram (k : Nat) (s : State) : (setLevel k s).dram = s.dram := rfl
@[simp] theorem setLevel_i2c (k : Nat) (s : State) : (setLevel k s).i2c = s.i2c := rfl
@[simp] theorem setLevel_almanac (k : Nat) (s : State) : (setLevel k s).almanac = s.almanac := rfl
@[simp] theorem setLevel_ledger (k : Nat) (s : State) : (setLevel k s).ledger = s.ledger := rfl
@[simp] theorem setLevel_therm (k : Nat) (s : State) : (setLevel k s).therm = s.therm := rfl
@[simp] theorem setLevel_trim (k : Nat) (s : State) : (setLevel k s).trim = s.trim := rfl
@[simp] theorem setLevel_bist (k : Nat) (s : State) : (setLevel k s).bist = s.bist := rfl
@[simp] theorem setLevel_safety (k : Nat) (s : State) : (setLevel k s).safety = s.safety := rfl
@[simp] theorem setLevel_faults (k : Nat) (s : State) : (setLevel k s).faults = s.faults := rfl
@[simp] theorem setLevel_pending (k : Nat) (s : State) : (setLevel k s).pending = s.pending := rfl
@[simp] theorem setLevel_freeCount (k : Nat) (s : State) : (setLevel k s).freeCount = s.freeCount := rfl

end Sys2Proof.Machine
end

