-- ==== Sys2Proof/Machine/Pins.lean ====
section
/-! DEFINITION. The balls whose state software, a cell or the board can tell, as functions of the state (20 R445 to R447,
Table 20-10). -/

namespace Sys2Proof.Machine

/-- The columns of 20 Table 20-10. -/
inductive PinPhase where
  | porHeld | boot | run | twilight | nadir | scan
deriving DecidableEq, Repr, Inhabited

/-- The column in force: the entries to TWILIGHT and NADIR and the exit from TWILIGHT stand under RUN, a wake under NADIR,
and supplies that failed three times under reset (DEDUCED; notes/assumptions/63.md). -/
def pinPhase (s : State) : PinPhase :=
  match s.power.mode with
  | .poweringUp => if s.power.supplyStep = 1 || s.power.supplyStep = 2 then .porHeld else .boot
  | .booting | .heldInReset | .heldInBor => .boot
  | .run | .enteringTwilight | .leavingTwilight | .enteringNadir => .run
  | .twilight => .twilight
  | .nadir | .waking | .wakeFailed => .nadir
  | .scan => .scan

/-- The state of a ball. -/
inductive Pad where
  | unpowered | highZ | released | low | high
  /-- An output that carries its signal. -/
  | driven
  /-- A receiver that is on, or off. -/
  | enabled | disabled
  /-- A network transmitter without signal. -/
  | idle
  /-- A network receiver of which only the signal detect works. -/
  | detect
deriving DecidableEq, Repr, Inhabited

/-- An active-low output. -/
def padN (asserted : Bool) : Pad := if asserted then .low else .high

/-- CK, D0, D1 and LT of a port: per DRIVING, which no port has before its ball test and enumeration (09 R237); the ports
that a grade lacks are never driven (20 R445). -/
def chainOutPad (s : State) (p : Nat) : Pad :=
  match pinPhase s with
  | .run | .boot => if p < gradePorts s && (getPort s p).driving then .driven else .highZ
  | _ => .highZ

/-- Q of a port. -/
def chainInPad (s : State) (p : Nat) : Pad :=
  match pinPhase s with
  | .porHeld => .unpowered
  | .boot | .run => if p < gradePorts s then .enabled else .disabled
  | _ => .disabled

/-- A network transmitter: per MODE, and down while REFIN is lost (19 R423). -/
def networkTxPad (s : State) (p : NetPort) : Pad :=
  match pinPhase s with
  | .porHeld | .nadir => .unpowered
  | .boot | .scan => .idle
  | .run | .twilight => if (getNet s p).mode = 0 || s.power.refinLost then .idle else .driven

/-- The receiver of port A. -/
def networkRxPad (s : State) : Pad :=
  match pinPhase s with
  | .porHeld => .unpowered
  | .boot => .enabled
  | .run | .twilight => if (getNet s .A).mode = 0 || s.power.refinLost then .disabled else .enabled
  | .nadir => if s.power.portAWake then .detect else .unpowered
  | .scan => .disabled

/-- LED_EN of a rail: per R192 in RUN, low elsewhere. -/
def ledEnPad (s : State) (k : Nat) : Pad :=
  match pinPhase s with
  | .run => if ledEnHigh (getRail s k) then .high else .low
  | _ => .low

/-- FAULT_N, an open drain. -/
def faultPad (s : State) : Pad :=
  match pinPhase s with
  | .porHeld => .released
  | .boot | .scan => .low
  | .run | .twilight | .nadir => if faultNLow s then .low else .released

/-- ALERT_N, an open drain; in NADIR and in scan test no entry changes, so that it stands as at entry. -/
def alertPad (s : State) : Pad :=
  match pinPhase s with
  | .porHeld | .boot => .released
  | _ => if alertNLow s then .low else .released

/-- HIRQ_N. -/
def hirqPad (s : State) : Pad :=
  match pinPhase s with
  | .porHeld => .unpowered
  | .boot | .scan => .high
  | .run | .twilight => padN (hirqNLow s)
  | .nadir => if s.fuse.vhost33 then .unpowered else padN (hirqNLow s)

/-- FL_CS_N: high in NADIR, with the part in deep power-down, and in scan test. -/
def flashPad (s : State) : Pad :=
  match pinPhase s with
  | .porHeld => .unpowered
  | .boot | .run | .twilight => .driven
  | .nadir | .scan => .high

/-- SCL and SDA. -/
def i2cPad (s : State) : Pad :=
  match pinPhase s with
  | .run | .twilight => .driven
  | _ => .released

/-- The sync inputs. -/
def syncPad (s : State) : Pad :=
  match pinPhase s with
  | .porHeld | .nadir => .unpowered
  | _ => .enabled

/-- The safety outputs of a pair: off while POR is held, then per the safety block. -/
def safetyOutPad (s : State) (p : OutPair) : Pad :=
  if pinPhase s = .porHeld then .low else if outputOn s p then .high else .low

end Sys2Proof.Machine
end

