-- ==== Sys2Proof/WellFormed.lean ====
section
/-! DEFINITION. Well-formed commands: every operand within the width of the field that brings it. The operands whose type
bounds them need no check. -/

namespace Sys2Proof

/-- A MAC address of 48 bits. -/
def macOk (n : Nat) : Bool := n < 2 ^ 48

/-- An IPv4 address or group of 32 bits. -/
def ipOk (n : Nat) : Bool := n < 2 ^ 32

/-- A signed byte, as the log intervals of PTP messages are (03 Table 3-6). -/
def logOk (i : Int) : Bool := decide (-128 ≤ i) && decide (i < 128)

/-- An IPv4 address and a UDP port (02 R53). -/
def Source.wellFormed : Source → Bool
  | .host => true
  | .net ip port => ipOk ip && port < 2 ^ 16

/-- The fields of a packet (02 Table 2-4): a 16-bit tag, a 64-bit time, at most 8,192 parameter bytes (02 R46). -/
def Req.wellFormed (r : Req) : Bool :=
  r.src.wellFormed && r.tag < 2 ^ 16 && (match r.sched with | some t => decide (t < 2 ^ 64) | none => true) && r.params.length ≤ 8192

/-- The fields of an Announce message (03 R89). -/
def Announce.wellFormed (a : Announce) : Bool :=
  a.domain < 2 ^ 8 && a.priority1 < 2 ^ 8 && a.priority2 < 2 ^ 8 && a.clockClass < 2 ^ 8 && a.accuracy < 2 ^ 8 &&
    a.variance < 2 ^ 16 && a.identity < 2 ^ 64 && a.stepsRemoved < 2 ^ 16 && a.leapSeconds < 2 ^ 16 && logOk a.logInterval

/-- The well-formed commands. -/
def Instr.wellFormed : Instr → Bool
  | .nop r => r.wellFormed
  | .identify r => r.wellFormed
  | .query r => r.wellFormed
  | .fetchPartial r => r.wellFormed
  | .abort r => r.wellFormed
  | .resetCold r => r.wellFormed
  | .resetWarm r => r.wellFormed
  | .commit r => r.wellFormed
  | .regRead r => r.wellFormed
  | .regWrite r => r.wellFormed
  | .alertRead r => r.wellFormed
  | .keyProvision r => r.wellFormed
  | .timeConfig r => r.wellFormed
  | .timeStatus r => r.wellFormed
  | .scheduleList r => r.wellFormed
  | .scheduleCancel r => r.wellFormed
  | .snapshot r => r.wellFormed
  | .streamSubscribe r => r.wellFormed
  | .streamDrop r => r.wellFormed
  | .bufferAlloc r => r.wellFormed
  | .bufferRelease r => r.wellFormed
  | .bufferWrite r => r.wellFormed
  | .layerSet r => r.wellFormed
  | .layerClear r => r.wellFormed
  | .backgroundSet r => r.wellFormed
  | .writeback r => r.wellFormed
  | .bufferStatus r => r.wellFormed
  | .scalerCoeffLoad r => r.wellFormed
  | .scalerStatus r => r.wellFormed
  | .almanacLoad r => r.wellFormed
  | .almanacSwap r => r.wellFormed
  | .almanacVerify r => r.wellFormed
  | .colourSpaceSet r => r.wellFormed
  | .binTableLoad r => r.wellFormed
  | .agingRead r => r.wellFormed
  | .agingRecastSetSchedule r => r.wellFormed
  | .agingRecastNow r => r.wellFormed
  | .agingRecastSuspend r => r.wellFormed
  | .budgetSet r => r.wellFormed
  | .ledgerRead r => r.wellFormed
  | .ambientSet r => r.wellFormed
  | .programSet r => r.wellFormed
  | .programStatus r => r.wellFormed
  | .camsyncConfig r => r.wellFormed
  | .freeze r => r.wellFormed
  | .blank r => r.wellFormed
  | .chainEnumerate r => r.wellFormed
  | .chainStatus r => r.wellFormed
  | .meridianSet r => r.wellFormed
  | .cellConfig r => r.wellFormed
  | .faultMapRead r => r.wellFormed
  | .diagRunShort r => r.wellFormed
  | .diagRunAdjShort r => r.wellFormed
  | .diagRunOpen r => r.wellFormed
  | .diagRunBallTest r => r.wellFormed
  | .twinkleConfig r => r.wellFormed
  | .rasterSet r => r.wellFormed
  | .thermalConfig r => r.wellFormed
  | .thermalRead r => r.wellFormed
  | .calibrate r => r.wellFormed
  | .trimRead r => r.wellFormed
  | .bistConfig r => r.wellFormed
  | .bistRun r => r.wellFormed
  | .bistReport r => r.wellFormed
  | .blockRestore r => r.wellFormed
  | .checkConfig r => r.wellFormed
  | .checkRun r => r.wellFormed
  | .checkContextRead r => r.wellFormed
  | .checkContextWrite r => r.wellFormed
  | .safetyStatus r => r.wellFormed
  | .safetyConfig r => r.wellFormed
  | .safeOffRequest r => r.wellFormed
  | .powerVoteWithdraw r => r.wellFormed
  | .powerVoteAdd r => r.wellFormed
  | .powerVoteTakeOver r => r.wellFormed
  | .powerStateRun r => r.wellFormed
  | .powerStateTwilight r => r.wellFormed
  | .powerStateNadir r => r.wellFormed
  | .orderlyShutdown r => r.wellFormed
  | .plevelSet r => r.wellFormed
  | .wakeRecordRead r => r.wellFormed
  | .nvmRead r => r.wellFormed
  | .nvmWrite r => r.wellFormed
  | .imageStage r => r.wellFormed
  | .imageActivateStaged r => r.wellFormed
  | .imageActivateRevert r => r.wellFormed
  | .imageActivateEndProbation r => r.wellFormed
  | .journalStatus r => r.wellFormed
  | .telemetryConfig r => r.wellFormed
  | .telemetryRead r => r.wellFormed
  | .registerWrite addr _ => addr < 2 ^ 24
  | .arpRequest _ mac ip target => macOk mac && ipOk ip && ipOk target
  | .icmpEchoRequest _ mac src dst _ => macOk mac && ipOk src && ipOk dst
  | .igmpQuery _ version group robustness _ => 1 ≤ version && version ≤ 3 && ipOk group && robustness ≤ 7
  | .igmpReportSnooped _ group => ipOk group
  | .snoopMembershipExpiry _ group => ipOk group
  | .bulkBlock ip _ => ipOk ip
  | .offsetSample t => logOk t.logSync && logOk t.logDelayReq
  | .ptpAnnounce _ a => a.wellFormed
  | .diodeConversion readings _ => readings.length = 6
  | .ntcConversion _ ratio => ratio ≤ 65536
  | .zoneModelUpdate millivolts => millivolts.length = 4
  | .bistRetest block _ => block < 2 ^ 16
  | .dramCorrectedRead addr flips => addr < 0x0E000000 && decide flips.Nodup
  | .flashScrub bad => bad.all fun x => x.1 < 2 ^ 8 && x.2 < 2 ^ 32
  | .boot f => f.failedBlocks.all fun b => b.1 < 2 ^ 16 && b.2 < 2 ^ 16
  | .status _ | .windowWrite _ _ _ | .windowRead _ _ _ | .packetWrite _ _ _ | .replyRead _ _ _ => true
  | .commandPolicyWrite _ _ _ | .portConfigWrite _ _ | .chainPortTrimWrite _ _ | .chainPortSkewWrite _ _ => true
  | .chkCtrlWrite _ _ | .chkRestart _ | .chkPolyWrite _ _ | .chkInitWrite _ _ | .chkValueWrite _ _ => true
  | .feed8 _ _ | .feed16 _ _ | .feed32 _ _ | .aliveCtrlWrite _ _ | .aliveFeed _ _ => true
  | .ethernetFrameReceive _ _ | .igmpReportRepeat | .ownMacFrame _ | .loopAlertClear => true
  | .portLinkChange _ _ | .st2110Packet _ _ _ _ | .nativePacket _ _ _ _ | .bulkOperationTimeout => true
  | .announceReceiptTimeout _ | .ptpEventMessage _ _ _ | .holdoverEntry | .holdover30s | .rtcUpdate => true
  | .frameBoundary | .ephemerisLoad | .streamLossTimeout _ | .streamReturn _ | .magnitudeFix => true
  | .presentationFrameStart | .prefetchStart | .uploadStart | .fifoUnderrun _ _ | .latchWindowOpen => true
  | .latchLaunch | .transit | .camSyncEdge _ _ _ _ | .syncEdgeMissing _ | .genlockCheck _ => true
  | .heldChangesDiscard | .resultsExpiry | .implicitVoteWithdraw | .domainWakeComplete _ => true
  | .headroomRequest _ | .railStart | .railStaggerExpiry | .railInRegulation _ _ | .shuntMeasurement _ _ => true
  | .inputCurrentSample _ _ | .inputOvercurrent1s | .ambientSensorRead _ | .ambientFallbackTimeout => true
  | .diodeBroken _ | .diodeReturn _ | .sensorBroken _ | .sensorReturn _ | .throttleFactorUpdate => true
  | .flashGraceWindowExpiry | .thermalShutdownEnd | .reportTrain _ _ | .cellReadReply _ _ | .cellReadTimeout _ => true
  | .localisation _ | .takeoverBurst _ | .takeoverCheck _ | .linkWatchTimeout _ | .restoreTrial _ => true
  | .diagSweep | .diagMapRead _ _ | .cellFailed _ _ | .ageSweep | .twinkleDispatch | .stressSample => true
  | .recastDue | .recastSwap | .almanacFileReceived | .bistSlice _ | .bistCycleOverrun => true
  | .dramRowRemap _ _ | .dramScrub | .selfRefreshEntry | .selfRefreshExit | .watchdogExpiry _ => true
  | .restoreHandshake | .firmwareAbsent2s | .probationHandshakeTimeout | .probationEnd | .journalCommit => true
  | .journalScan | .journalCompaction | .checkpointWrite | .checkpointErase | .telemetrySend => true
  | .levelChange | .demandLevelLower | .wakeEvent _ | .wakeStepTimeout | .nrstAssert _ | .nrstRelease => true
  | .nrstStuck | .por | .powerUpStep _ | .powerUpStepTimeout | .bor _ | .supplyFault _ _ | .dieTrip => true
  | .refinLost | .refinRestored | .crystalSourceChange _ | .i2cBusStuck _ | .pmbusVoltageTimeout _ => true
  | .scanEnter | .scanExit | .safetyInputChange _ _ | .discrepancyTimeout _ | .inputTestPulse _ _ => true
  | .outputTestPulse _ _ | .edmTimeout _ | .resetPress _ | .srstStuck | .srstStuckClear | .heartbeatLoss => true
  | .channelDisagreement _ | .safetyMemoryFault | .networkSafetyTimeout | .safetyConfigTimeout => true
  | .wakeStepReady | .calibrationSlice _ | .compositeComplete | .slideFillComplete | .checkRunComplete _ => true
  | .borRelease => true

end Sys2Proof
end

