-- ==== Sys2Proof/Tests/Slice0.lean ====
section
/-! SUPPORT. Tests of the model: ill-formed commands that the check refuses, values that the spec writes out, and for every statement the
states and operands that meet its hypotheses, clause by clause. -/

open Sys2Proof Sys2Proof.Machine

namespace Sys2Proof.Tests

set_option Elab.async false

/-! ## Commands and states to test with -/

/-- A packet of a network source to the tile, with an opcode's parameters; it wants a reply. -/
def req (ps : List Nat) (target : BitVec 64 := 0) : Req :=
  { src := .net 0x0A000001 49500, tag := 7, auth := false, alive := false, replyReq := true, broadcast := false, sched := none, target := target, params := ps.map byte }

/-- The same from the host port. -/
def hostReq (ps : List Nat) : Req := { req ps with src := .host }

/-- A cell that enumeration has found. -/
def cellRec (a b : Nat) : CellRec := { hopA := a, hopB := b, vendor := 0x0B4D, model := 0x4832, caps := 0x2C20, kappa := 0x7EC4, serial := a }

/-- A loop of two cells, the first fed from A. -/
def twoCells : LoopState := { enumerated := true, nA := 2, nB := 2, cells := [cellRec 1 2, cellRec 2 1], m := 1 }

def twoPlants : PlantLoop := { cells := [{ serial := 1, hopA := 1, hopB := 2, m := some 1, feed := some .A }, { serial := 2, hopA := 2, hopB := 1, m := some 1, feed := some .B }] }

/-- A tile that runs, 1,000 s after its reset, with one loop of two cells and one rail. -/
def on : State := { State.reset with
  power := { State.reset.power with mode := .run, level := 0, porBoot := false }
  fw := { State.reset.fw with running := true }
  time := { State.reset.time with counter := 1000000000000 * 2 ^ 48 }
  net := { State.reset.net with identity := some ⟨0x0A000002, 24, 0, 1, 2⟩, portA := { link := true }, portB := { link := true } }
  chain := { State.reset.chain with loops := twoCells :: List.replicate 23 {}, width := 16, height := 32, ports := List.replicate 48 { driving := true } }
  plant := { loops := twoPlants :: List.replicate 23 {} }
  ledger := { State.reset.ledger with rails := [{ enable := true, budget := 100, shunt := 0 }, {}, {}, {}] }
  faults := [] }

/-- A packet that executes at once, as a check of the state. -/
def acc (o : OpSpec) (r : Req) (s : State) : Bool := s.fw.running && preChecks o r s == St.ok && r.sched.isNone && (asleep o r s).isEmpty

theorem accepted_of_acc {o : OpSpec} {r : Req} {s : State} (h : acc o r s = true) : Accepted o r s := by
  simp only [acc, Bool.and_eq_true, beq_iff_eq, Option.isNone_iff_eq_none, List.isEmpty_iff] at h
  exact ⟨h.1.1.1, h.1.1.2, h.1.2, h.2⟩
/-! ## Ill-formed commands -/

theorem test_operands_are_bounded :
    macOk (2 ^ 48) = false ∧ macOk (2 ^ 48 - 1) = true ∧ ipOk (2 ^ 32) = false ∧ logOk 128 = false ∧ logOk (-129) = false ∧ logOk (-128) = true ∧
    (Source.net (2 ^ 32) 1).wellFormed = false ∧ (Source.net 1 (2 ^ 16)).wellFormed = false ∧ Source.host.wellFormed = true := by decide +kernel

theorem test_packet_operands_are_bounded :
    (Instr.nop (req [])).wellFormed = true ∧ (Instr.nop { req [] with tag := 2 ^ 16 }).wellFormed = false ∧ (Instr.nop { req [] with src := .net 0 (2 ^ 16) }).wellFormed = false ∧
    (Instr.nop { req [] with sched := some (2 ^ 64) }).wellFormed = false ∧ (Instr.nop { req [] with params := zeros 8193 }).wellFormed = false ∧
    (Instr.nop { req [] with params := zeros 8192 }).wellFormed = true := by decide +kernel

theorem test_announce_operands_are_bounded :
    let a : Announce := { domain := 127, priority1 := 128, clockClass := 6, accuracy := 0, variance := 0, priority2 := 128, identity := 1, stepsRemoved := 0, leapSeconds := 37, tlv := [], logInterval := 0 }
    a.wellFormed = true ∧ { a with domain := 256 }.wellFormed = false ∧ { a with priority1 := 256 }.wellFormed = false ∧ { a with priority2 := 256 }.wellFormed = false ∧
    { a with clockClass := 256 }.wellFormed = false ∧ { a with logInterval := 128 }.wellFormed = false ∧ (Instr.ptpAnnounce .A { a with identity := 2 ^ 64 }).wellFormed = false := by decide +kernel

theorem test_network_operands_are_bounded :
    (Instr.arpRequest .A (2 ^ 48) 0 0).wellFormed = false ∧ (Instr.arpRequest .A 0 (2 ^ 32) 0).wellFormed = false ∧ (Instr.arpRequest .A 0 0 (2 ^ 32)).wellFormed = false ∧
    (Instr.icmpEchoRequest .A (2 ^ 48) 0 0 []).wellFormed = false ∧ (Instr.icmpEchoRequest .A 0 (2 ^ 32) 0 []).wellFormed = false ∧ (Instr.icmpEchoRequest .A 0 0 (2 ^ 32) []).wellFormed = false ∧
    (Instr.igmpQuery .A 0 0 2 125).wellFormed = false ∧ (Instr.igmpQuery .A 4 0 2 125).wellFormed = false ∧ (Instr.igmpQuery .A 3 (2 ^ 32) 2 125).wellFormed = false ∧
    (Instr.igmpQuery .A 3 0 8 125).wellFormed = false ∧ (Instr.igmpReportSnooped .A (2 ^ 32)).wellFormed = false ∧ (Instr.snoopMembershipExpiry .A (2 ^ 32)).wellFormed = false ∧
    (Instr.bulkBlock (2 ^ 32) []).wellFormed = false ∧
    (Instr.offsetSample { t1 := 0, t4 := 0, cSync := 0, cDreq := 0, logSync := -129, logDelayReq := 0 }).wellFormed = false ∧
    (Instr.offsetSample { t1 := 0, t4 := 0, cSync := 0, cDreq := 0, logSync := 0, logDelayReq := 128 }).wellFormed = false := by decide +kernel

theorem test_other_operands_are_bounded :
    (Instr.registerWrite (2 ^ 24) 0).wellFormed = false ∧ (Instr.diodeConversion [0] 0).wellFormed = false ∧ (Instr.ntcConversion 0 65537).wellFormed = false ∧
    (Instr.zoneModelUpdate [none]).wellFormed = false ∧ (Instr.bistRetest (2 ^ 16) true).wellFormed = false ∧
    (Instr.dramCorrectedRead 0x0E000000 []).wellFormed = false ∧ (Instr.dramCorrectedRead 0 [3, 3]).wellFormed = false ∧ (Instr.flashScrub [(256, 0)]).wellFormed = false ∧ (Instr.flashScrub [(0, 2 ^ 32)]).wellFormed = false ∧
    (Instr.boot { failedBlocks := [(2 ^ 16, 0)], calibration := [], flash200 := true, flash133 := true }).wellFormed = false := by decide +kernel

/-! ## Values that the spec writes out -/

/-- The check values of 14 Table 14-2, of the string of the digits 1 to 9. -/
theorem test_check_values :
    let m := (List.range 9).map fun i => byte (0x31 + i)
    crc32 m = 0xCBF43926 ∧ crc32c m = 0xE3069283 ∧ crc16 m = 0x29B1 ∧ crc8 m = 0xDF := by decide +kernel

/-- The buffer of 04, after Table 4-1: 1,280 by 960 in C30. -/
theorem test_buffer_size : pitchOf 4 1280 = 5120 ∧ dataSize 4 1280 960 = 4915200 ∧ granulesOf 4 1280 960 = 75 ∧ granulesOf 6 1280 960 = 113 := by decide +kernel

/-- The three cases of 04 Table 4-7. -/
theorem test_blend :
    blendChannel { colour := [], prem := false, alpha := 6554, layerAlpha := 0x4000 } 314573 131072 = 167774 ∧
    blendChannel { colour := [], prem := true, alpha := 6554, layerAlpha := 0x4000 } 125829 131072 = 167771 ∧
    blendChannel { colour := [], prem := false, alpha := 6554, layerAlpha := 0x4000 } 125829 131072 = 130023 := by decide +kernel

/-- The positions and phases of 05 Table 5-5, and the weights of phase 16. -/
theorem test_scaler_phases :
    (List.range 4).map (phaseAt 1920 1280) = [(0, 16), (1, 48), (3, 16), (4, 48)] ∧ (builtinPhase cubicKernel 4 16).take 4 = [-18, 222, 58, -6] := by decide +kernel

/-- The pixel of 06 Table 6-8: thermal gains, drive fractions, and the dithered values over 16 composites. -/
theorem test_warm_pixel :
    let t := [262144, 262144, 262144]
    let red := thermalGain [(3200, 32768), (5760, 30147), (8320, 27525)] 7040 3200
    red = 37236 ∧ thermalGain [(3200, 32768), (7040, 31785)] 7040 3200 = 33781 ∧ thermalGain [(3200, 32768), (7040, 32440)] 7040 3200 = 33099 ∧
    driveFraction t [5282, 341, 0] 37236 = 204471 ∧ driveFraction t [246, 4506, 164] 33781 = 162175 ∧ driveFraction t [0, 180, 4325] 33099 = 145616 ∧
    ((List.range 16).map (quantise 204471 0 0 0)).count 25559 = 14 ∧ ((List.range 16).map (quantise 204471 0 0 0)).count 25558 = 2 ∧
    ((List.range 16).map (quantise 162175 0 0 1)).count 20272 = 14 ∧ (List.range 16).map (quantise 145616 0 0 2) = List.replicate 16 18202 := by decide +kernel

/-- The steps of 16 Table 16-11: the delays and the limit of step 3, in ns. -/
theorem test_wake_steps : (List.range 7).map wakeDelay = [0, 300000, 300000, 100000, 20000, 50000, 20000] ∧ wakeLimit 3 = 300000 := by decide +kernel

/-- A frame rate of 23.976 Hz numbers its frames by 1,001/24,000 s (00 R13). -/
theorem test_frame_period : (periodOfRate 0).num = 1001 * 1000000000 ∧ (periodOfRate 0).den = 24000 := by decide +kernel

/-- The balls of L05A, the neighbours of its Q_P, and the CK pair of L21B (the example of 20 Table 20-8). -/
theorem test_balls :
    (List.range 10).map (fun i => (signalBall 10 i).name) = ["M2", "N2", "M3", "N3", "M4", "N4", "M5", "N5", "M1", "N1"] ∧
    ((neighbours (signalBall 10 8)).map fun x => (x.1, x.2.1)).all (fun x => [(8, 1), (8, 9), (10, 0), (10, 1), (10, 9)].contains x) = true ∧
    (neighbours (signalBall 10 8)).length = 5 ∧ [0, 1, 6, 7].map (fun i => (signalBall 43 i).name) = ["AY30", "AY31", "AU30", "AU31"] ∧
    ballUse ⟨12, 6⟩ = .named "GND" := by decide +kernel

/-! ## The invariants -/

/-- An internal lockout, with a configuration. -/
def locked : State := { on with safety := { on.safety with cause := 0x11, noRecord := false, light := { state := .lockout }, motion := { state := .lockout } } }

theorem witness_shaped : Shaped on ∧ Shaped State.reset := by unfold Shaped; decide +kernel

theorem witness_invariants : SafetyHolds locked ∧ SafetyHolds on ∧ FusesSince on.fuse on ∧
    (∃ t, step { locked with pending := [.transit] } = .next t) ∧ ∃ t, step { on with pending := [.latchLaunch] } = .next t := by
  refine ⟨?_, ?_, ?_, ⟨_, rfl⟩, ⟨_, rfl⟩⟩
  · unfold SafetyHolds Pair.locked Pair.waits; decide +kernel
  · unfold SafetyHolds Pair.locked Pair.waits; decide +kernel
  · unfold FusesSince; decide +kernel

theorem witness_empty_queue : on.pending = [] := rfl

theorem witness_hirq : thermNow on < 4 ∧ thermNow { on with therm.dieState := 3 } = 3 := by decide +kernel

theorem witness_security_version :
    (let s : State := { on with fuse.secVersion := 2 }
     be (zeros 8 ++ u16 1 ++ zeros 118) 8 2 < s.fuse.secVersion ∧ imageStatus s (zeros 128) ≠ St.ok ∧
      ({ s with fw.probation := some ⟨0, true, 0, 3⟩ } : State).fw.probation = some ⟨0, true, 0, 3⟩) := by decide +kernel

/-! ## Packets through the command engine -/

def other : Source := .net 0x0A000009 49600

def longOp (k : Nat) : LongOp := { req := { req [] with tag := 100 + k }, code := 0x0900, state := 0, long := true }

/-- Sixteen long operations run. -/
def sixteen : State := { on with cmd.longOps := (List.range 16).map longOp }

/-- TWILIGHT with every voted domain asleep, the network allowed to wake them. -/
def asleepState : State := { on with power.mode := .twilight }

theorem witness_packets :
    packetOf (.nop (req [])) = some (nopSpec, req []) ∧ packetOf (.powerStateNadir (req [9])) = some (powerStateSpec, withByte (req [9]) 0 2) :=
  ⟨rfl, rfl⟩

theorem witness_checks :
    ({ on with fw.running := false } : State).fw.running = false ∧
    preChecks nopSpec (req [1]) on = St.badLength ∧
    step7 layerSetSpec (req []) { on with net.identity := none } = St.locked ∧
    step7 nopSpec (req []) on = St.ok ∧ targetOk nopSpec.level 1 on = false ∧
    targetOk nopSpec.level 0 on = true ∧ nopSpec.check (req [1]) on ≠ St.ok ∧
    preChecks snapshotSpec { req [] with sched := some (nowNs on + 86400000000000) } on = St.ok ∧
    preChecks snapshotSpec { req [] with sched := some (nowNs on + 86400000000001) } on = St.badParam ∧
    preChecks bufferStatusSpec (req [0, 0, 0, 0]) on = St.ok := by decide +kernel

theorem witness_replies :
    (req []).replyReq = true ∧ (req []).broadcast = false ∧ (hostReq []).src = .host ∧ (req []).src = .net 0x0A000001 49500 ∧
    ({ req [] with broadcast := true }).broadcast = true ∧ ({ req [] with replyReq := false }).replyReq = false := by decide +kernel

theorem witness_seventeenth :
    acc chainEnumerateSpec (req []) sixteen = true ∧ chainEnumerateSpec.long (req []) = true ∧ 16 ≤ longCount sixteen := by decide +kernel

theorem witness_sleeping :
    asleepState.fw.running = true ∧ preChecks bufferStatusSpec (req [0, 0, 0, 0]) asleepState = St.ok ∧ asleep bufferStatusSpec (req [0, 0, 0, 0]) asleepState ≠ [] := by
  decide +kernel

theorem witness_scheduled :
    let r : Req := { req [] with sched := some (nowNs on + 1000000000) }
    preChecks snapshotSpec r on = St.ok ∧ (unitsAsked snapshotSpec r on).any (fun u => failed u.2) = false ∧ longCount on < 16 := by decide +kernel

/-! ## Rows that read -/

/-- An operation of the test source under tag 9 that still runs, with two bytes of partial results. -/
def running : LongOp := { req := { req [] with tag := 9 }, code := 0x0402, state := 0, long := true, partials := [1, 2] }

/-- The same operation, ended. -/
def ended : LongOp := { running with state := 1, results := [1, 2, 3], final := St.ok }

def withOp (o : LongOp) : State := { on with cmd.longOps := [o] }

/-- One user object is stored. -/
def stored : State := { on with flash.entries := [⟨0, 0, 8, 5, 1, [1, 2], true, true, false⟩] }

theorem witness_reads :
    ([(nopSpec, []), (identifySpec, []), (regReadSpec, [0, 0, 1, 4, 0, 1, 0, 0]), (timeStatusSpec, []), (scheduleListSpec, []),
      (bufferStatusSpec, [0, 0, 0, 0]), (scalerStatusSpec, [0xFF, 0, 0, 0]), (agingReadSpec, [0x80, 0, 0, 0]), (ledgerReadSpec, [1, 0, 0, 0]),
      (programStatusSpec, []), (chainStatusSpec, []), (thermalReadSpec, [1, 0, 0, 0]), (trimReadSpec, [2, 0, 0, 0]), (bistReportSpec, [1, 0, 0, 0]),
      (checkContextReadSpec, [3, 0, 0, 0]), (safetyStatusSpec, []), (journalStatusSpec, []), (telemetryReadSpec, [])].all
        fun x => acc x.1 (req x.2) on) = true := by decide +kernel

theorem witness_held :
    acc querySpec (req [0, 9, 0, 0]) (withOp running) = true ∧ findOp (req []).src (prm (req [0, 9, 0, 0]) 0 2) (startOf (req [0, 9, 0, 0]) (withOp running)) = some running ∧
    acc nvmReadSpec (req [8, 0, 0, 0, 0, 0, 0, 5]) stored = true ∧ nvmObject stored 8 5 = some [1, 2] := by decide +kernel

/-! ## Rows that stage -/

/-- A row's three outcomes are open to it: its units stage with apply mode 0 and with apply mode 1, and fail where another source holds them. -/
def stages (o : OpSpec) (ps : List Nat) (target : BitVec 64) (s : State) : Bool :=
  let r0 := req (0 :: ps) target
  let r1 := req (1 :: ps) target
  let us := unitsAsked o r0 (startOf r0 s)
  let busy := holdUnits other (stagedOf o.code r0 us) s
  acc o r0 s && acc o r1 s && acc o r0 busy && !us.isEmpty && prm r0 0 1 == 0 && prm r1 0 1 == 1 && !(us.any fun u => failed u.2) &&
    !((unitsAsked o r1 (startOf r1 s)).any fun u => failed u.2) && (unitsAsked o r0 (startOf r0 busy)).any fun u => failed u.2

/-- Two free buffers of 16 by 16, for a ring. -/
def twoBuffers : State := { on with layers.buffers := [{ handle := 1, format := 7, width := 16, height := 16 }, { handle := 2, format := 7, width := 16, height := 16 }] }

theorem witness_stages_system :
    stages telemetryConfigSpec ([0x80, 0, 0] ++ [0, 0, 0, 100] ++ [10, 0, 0, 3, 0xC1, 3, 0, 0]) 0 on = true ∧
    stages timeConfigSpec ([127, 0, 2, 0xFD, 0, 0, 0] ++ List.replicate 8 0) 0 on = true ∧
    stages bistConfigSpec [0x80, 0, 60, 0, 0, 0, 0] 0 on = true ∧
    stages thermalConfigSpec ([0, 0, 0, 0x37, 0, 0x3C, 0, 0x43, 0x80, 2, 0x80, 0x2A, 0x80, 0x2F, 0x80, 0x37, 0, 2, 0x80, 0x70, 0, 4, 0, 0x20, 0, 0, 16, 0, 2,
      0x20, 0, 0, 120, 0, 0x80, 0x0C, 0x80, 0, 50] ++ List.replicate 8 0) 0 on = true := by decide +kernel

theorem witness_stages_layers :
    stages layerSetSpec ([1, 0, 0] ++ [0, 0x80, 0, 1, 0, 1, 0, 0, 0, 0, 0, 0, 0, 16, 0, 16, 0, 0, 0, 0, 0, 16, 0, 16, 0xFF, 0, 0x80, 0, 0, 0, 0, 0, 0, 0, 0, 0]) 0 twoBuffers = true ∧
    stages layerClearSpec [0x81, 0, 0] 0 on = true ∧
    stages backgroundSetSpec [0x0F, 0, 0x80, 0, 0x40, 0, 0x20, 0] 0 on = true ∧
    stages scalerCoeffLoadSpec [0x0F, 3, 0] 0 on = true := by decide +kernel

theorem witness_stages_pixel :
    stages almanacSwapSpec [2, 0, 0] 0 on = true ∧
    stages colourSpaceSetSpec ([0, 0, 0, 0, 0, 3, 0xE8] ++ List.replicate 16 0) 0 on = true ∧
    stages budgetSetSpec ([1, 0, 0] ++ [0, 0x80, 0, 200, 2, 0, 0, 32, 10, 0, 0, 100, 0, 20, 0, 0]) 0 on = true ∧
    stages rasterSetSpec [0, 0, 16, 0, 32, 0, 0] 0 on = true ∧
    stages twinkleConfigSpec [0xE0, 5, 0xDC, 0, 60, 0, 0] 0 on = true := by decide +kernel

theorem witness_stages_presentation :
    stages programSetSpec ([1, 0, 9, 2, 1, 0, 1, 3, 0xE8, 0xA0, 0, 2, 0, 0, 0] ++ List.replicate 16 0 ++ [0, 32] ++ List.replicate 6 0 ++ List.replicate 120 0) 0 on = true ∧
    stages camsyncConfigSpec ([1, 0, 0] ++ [4, 0x80, 0, 1] ++ List.replicate 16 0) 0 on = true ∧
    stages meridianSetSpec [0x80, 1, 0, 0, 60, 0, 0] 0 on = true ∧
    stages cellConfigSpec ([0x80, 0, 0] ++ [0, 20, 0, 20, 0, 20] ++ List.replicate 6 0) 0 on = true := by decide +kernel
/-! ## Rows that act at once -/

/-- An accepted packet of a row meets a condition in the state in which it executes. -/
def acts (o : OpSpec) (action : Option Nat) (ps : List Nat) (cond : Req → State → Bool) (s : State) : Bool :=
  let q := asked action (req ps)
  acc o q s && cond q (startOf q s)

/-- The test source holds a change of the colour space. -/
def holding : State := { on with cmd.held := [⟨(req []).src, ⟨⟨.colourSpace, 0⟩, 0x0403, 0, [], 0⟩, nowNs on⟩] }

theorem witness_system_rows :
    acts resetSpec (some 0) [0, 0, 0, 0] (fun r _ => prm r 0 1 == 0) on = true ∧
    acts resetSpec (some 1) [0, 0, 0, 0] (fun r _ => prm r 0 1 == 1) on = true ∧
    acts commitSpec none [] (fun r s => s.cmd.held.all fun h => h.src != r.src) on = true ∧
    acts commitSpec none [] (fun r s => s.cmd.held.any fun h => h.src == r.src) holding = true ∧
    acts alertReadSpec none [1, 84, 0xC0, 0] (fun _ _ => true) on = true := by decide +kernel

/-- A KEY_PROVISION packet: kind, stream and phase, a nonce and a wrapped key of fixed bytes, and the tag given. -/
def keyReq (head tag : List Nat) : Req := req (head ++ List.replicate 12 5 ++ List.replicate 32 0 ++ tag)

/-- The tags under the all-zero transport key of the two packets' wrapped keys. -/
def sessionKey : Req := keyReq [0, 0, 0, 0] [0xA9, 0x99, 0x07, 0x2D, 0x1F, 0xE3, 0xBA, 0xCB, 0x96, 0x0F, 0xC2, 0x87, 0x21, 0x06, 0xE6, 0x5E]
def streamKey : Req := keyReq [1, 7, 1, 0] [0x15, 0xB4, 0x10, 0xA6, 0x86, 0xA0, 0x2B, 0x03, 0xCB, 0x10, 0x99, 0x75, 0x3F, 0xE2, 0x8C, 0xAF]

theorem witness_session_key : acc keyProvisionSpec sessionKey on = true ∧ (unwrapKey sessionKey (startOf sessionKey on)).isSome = true ∧ prm sessionKey 0 1 = 0 := by
  decide +kernel

theorem witness_stream_key : acc keyProvisionSpec streamKey on = true ∧ (unwrapKey streamKey (startOf streamKey on)).isSome = true ∧ prm streamKey 0 1 = 1 := by
  decide +kernel

theorem witness_spent_nonce :
    let s : State := { on with cmd.nonces := [List.replicate 12 5] }
    acc keyProvisionSpec sessionKey s = true ∧ unwrapKey sessionKey (startOf (req []) s) = none := by decide +kernel

/-- The test source's entry of tag 9, loaded or not. -/
def entry (loaded : Bool) : EphEntry :=
  { index := 0, code := 0x0104, req := { req [] with tag := 9 }, srcIndex := 0, time := nowNs on, arrival := 0, boundary := 24000, loaded := loaded, state := 2, late := false, units := [] }

def scheduled (loaded : Bool) : State := { on with cmd.ephemeris := [entry loaded], cmd.longOps := [{ ended with state := 3 }] }

theorem witness_schedule_rows :
    acts regWriteSpec none [0, 1, 1, 0, 0, 1, 0, 0, 0x10, 0, 1, 0] (fun _ _ => true) on = true ∧
    acts scheduleCancelSpec none [0, 9, 0, 0] (fun r s => findEntry r.src (prm r 0 2) s == some (entry true)) (scheduled true) = true ∧
    acts scheduleCancelSpec none [0, 9, 0, 0] (fun r s => findEntry r.src (prm r 0 2) s == some (entry false)) (scheduled false) = true ∧
    acts snapshotSpec none [] (fun _ _ => true) on = true := by decide +kernel

theorem witness_partials_and_abort :
    acts fetchPartialSpec none [0, 9, 0, 0, 0, 0, 0, 1] (fun r s => findOp r.src (prm r 0 2) s == some running) (withOp running) = true ∧
    acts fetchPartialSpec none [0, 9, 0, 0, 0, 0, 0, 3] (fun r s => findOp r.src (prm r 0 2) s == some ended) (withOp ended) = true ∧
    acts abortSpec none [0, 9, 0, 0] (fun r s => findOp r.src (prm r 0 2) s == some ended) (withOp ended) = true ∧ opLive ended = false ∧
    acts abortSpec none [0, 9, 0, 0] (fun r s => findOp r.src (prm r 0 2) s == some running) (withOp running) = true ∧ opLive running = true ∧
    ¬ (running.code = 0x0D01 ∧ running.state = 0) := by decide +kernel

/-- A subscribed stream with a ring of one buffer. -/
def aStream : Stream :=
  { native := !false, sealed := false, fullRange := true, payloadType := 0, sampling := 7, colorimetry := 0, transfer := 0, width := 16, height := 16, streamId := 5,
    pathA := { used := true, port := 5004 }, pathB := {}, ring := [1], cropX := 0, cropY := 0, cropW := 16, cropH := 16, lossTimeout := 3, returnCount := 2 }

def streaming : State := { twoBuffers with layers.streams := some aStream :: List.replicate 7 none }

theorem witness_pixel_data :
    acts bufferAllocSpec none [7, 0, 0, 16, 0, 16, 0, 0, 0, 0, 0, 0] (fun r s => bitN (prm r 1 1) 6 == false && allocBusy r.params s == false) on = true ∧
    acts bufferAllocSpec none [7, 0, 0, 16, 0, 16, 0, 0, 0, 0, 0, 0] (fun r s => bitN (prm r 1 1) 6 == false && allocBusy r.params s)
      { on with layers.buffers := List.replicate 255 { handle := 1, format := 7 } } = true ∧
    acts bufferReleaseSpec none [0, 1, 0, 0] (fun r s => inRing s (prm r 0 2)) streaming = true ∧
    acts bufferReleaseSpec none [0, 2, 0, 0] (fun r s => inRing s (prm r 0 2) == false && isNamed s (prm r 0 2))
      { twoBuffers with layers.layer := { enable := true, source := 2 } :: List.replicate 7 {} } = true ∧
    acts bufferReleaseSpec none [0, 2, 0, 0] (fun r s => inRing s (prm r 0 2) == false && isNamed s (prm r 0 2) == false &&
      (findBuf s (prm r 0 2)).map (·.state) == some .free) twoBuffers = true ∧
    acts streamDropSpec none [0, 0, 0, 0] (fun _ _ => true) streaming = true := by decide +kernel

theorem witness_view_rows :
    acts freezeSpec none [0xF, 1, 0, 0] (fun r _ => prm r 1 1 == 1) on = true ∧ acts freezeSpec none [0xF, 0, 0, 0] (fun r _ => prm r 1 1 != 1) on = true ∧
    acts blankSpec none [1, 1, 0, 0] (fun _ _ => true) on = true ∧
    acts ambientSetSpec none ([0, 0, 0x40, 0] ++ (List.range 8).flatMap fun k => [0, k, 0, 0]) (fun r s => prm r 0 1 == 0 && s.ledger.ambient.failed == false) on = true ∧
    acts ambientSetSpec none ([1, 0x29, 0x40, 0] ++ (List.range 8).flatMap fun k => [0, 10 * (k + 1), 0x10 * k, 0]) (fun r s => prm r 0 1 == 1 && s.ledger.ambient.failed == false) on = true ∧
    acts faultMapReadSpec none [0xC0, 0, 0, 0] (fun _ _ => true) on = true ∧
    acts agingRecastSpec (some 0) [0, 0x80, 0, 24, 0, 0, 0x38, 0x40, 0xA0, 0, 0, 0] (fun r _ => prm r 0 1 == 0) on = true ∧
    acts agingRecastSpec (some 2) [0, 0, 0, 24, 0, 0, 0x38, 0x40, 0xA0, 0, 0, 0] (fun r _ => prm r 0 1 == 2) on = true := by decide +kernel

/-- A check unit that a CHECK_RUN owns. -/
def owned : State := { on with check := [{ run := some ⟨(req []).src, 9, {}, false, false, false, 0, 16, 0, 0⟩ }, {}, {}, {}], cmd.longOps := [running] }

theorem witness_check_rows :
    acts checkConfigSpec none ([0x0F, 1] ++ List.replicate 23 0) (fun _ _ => true) on = true ∧
    acts checkContextWriteSpec none ([0, 32, 0xC0, 0] ++ List.replicate 16 0 ++ [0, 1, 8, 0]) (fun r s => (getCheck s (prm r 0 1)).owned) owned = true ∧
    acts checkContextWriteSpec none ([3, 32, 0xC0, 0] ++ List.replicate 16 0 ++ [0, 1, 8, 0]) (fun r s => (getCheck s (prm r 0 1)).owned == false) on = true := by decide +kernel

/-- The light pair runs under the network function. -/
def networked : State :=
  { on with safety := { on.safety with noRecord := false, cfg := { functions := fNet, lightSrc := fNet, flags := 0x80, connection := 6 }, light := { state := .run }, motion := { state := .unused }, alive := some 3, netAt := some (nowNs on) } }

/-- A safety message of the connection, its bytes 4 and 5 given. -/
def message (counter flags : Nat) : List Byte := let h := u32 6 ++ [byte counter, byte flags, 0, 0]; h ++ u32 (crc32c h)

theorem witness_safe_off :
    acc safeOffSpec { req [] with params := message 4 0x80 } networked = true ∧
    ((networked.safety.pair .light).state ≠ .demand ∧ outputOn (takeMessage (message 4 0) networked) .light = true) ∧
    messageOk networked.safety (message 4 0x80) = true ∧ (bitN (getB (message 4 0x80) 5) 7 || bitN (getB (message 4 0x80) 5) 6) = true ∧
    networked.safety.uses fNet = true ∧ networked.safety.sources .light &&& fNet ≠ 0 := by decide +kernel

/-- An image on probation, and one staged in the other slot. -/
def probing : State := { on with fw.probation := some ⟨nowNs on, true, 1, 3⟩ }
def imageStaged : State := { on with flash.staged := true, flash.slots := [.valid, .valid] }

/-- A thermal shutdown is in force. -/
def hot (s : State) : State := { s with therm.shutdownAt := some (nowNs s) }

theorem witness_power_rows :
    acts powerVoteSpec (some 0) [0, 0, 1, 0xFF] (fun _ _ => true) on = true ∧ acts powerVoteSpec (some 1) [0, 0, 0, 3] (fun r _ => prm r 0 1 == 1) on = true ∧
    acts powerVoteSpec (some 2) [0, 0, 1, 0xFF] (fun _ _ => true) on = true ∧ acts plevelSetSpec none [3, 0x80, 0, 0] (fun _ _ => true) on = true ∧
    acts wakeRecordReadSpec none [] (fun _ _ => true) on = true := by decide +kernel

theorem witness_image_rows :
    acts imageActivateSpec (some 0) [0, 0, 0, 0] (fun r s => prm r 0 1 == 0 && s.therm.shutdownAt.isNone && !(s.flash.queue.any fun w => w.use == .image) && activateOk s 0) imageStaged = true ∧
    acts imageActivateSpec (some 1) [0, 0, 0, 0] (fun r s => prm r 0 1 == 1 && s.therm.shutdownAt.isNone && !(s.flash.queue.any fun w => w.use == .image) && activateOk s 1) probing = true ∧
    acts imageActivateSpec (some 2) [0, 0, 0, 0] (fun r s => prm r 0 1 == 2 && s.therm.shutdownAt.isNone && s.fw.probation.isSome) probing = true ∧
    acts imageActivateSpec (some 0) [0, 0, 0, 0] (fun _ s => s.therm.shutdownAt.isSome) (hot on) = true ∧ probing.fw.probation = some ⟨nowNs on, true, 1, 3⟩ := by decide +kernel

/-! ## Long rows -/

/-- An accepted packet of a long row meets a condition with its operation on record. -/
def begins (o : OpSpec) (action : Option Nat) (ps : List Nat) (cond : Req → State → Bool) (s : State) (target : BitVec 64 := 0) : Bool :=
  let q := asked action (req ps target)
  acc o q s && decide (longCount s < 16) && cond q (addOp { req := q, code := o.code, state := 0, long := true } s)

/-- Two ALMANAC_LOADs at once; a committing swap to bank A. -/
def loading : State := { on with cmd.longOps := [{ ended with state := 0, code := 0x0400 }] }

theorem witness_bulk_rows :
    begins almanacLoadSpec none [0, 0, 0, 0, 0, 0, 1, 0] (fun r s => loadRuns s r == false && swapPending s (inactiveBank s) == false && prm r 0 1 == 0) on = true ∧
    begins almanacLoadSpec none [1, 0x50, 0, 0, 0, 0, 0, 0] (fun r s => loadRuns s r == false && swapPending s (inactiveBank s) == false && prm r 0 1 != 0) on = true ∧
    begins almanacLoadSpec none [0, 0, 0, 0, 0, 0, 1, 0] (fun r s => loadRuns s r) loading = true ∧
    begins binTableLoadSpec none [0, 64, 0, 0, 0, 0, 0, 0] (fun _ _ => true) on = true ∧
    begins bufferWriteSpec none [0, 1, 0, 0, 0, 0, 0, 0, 0, 0, 0, 64, 0, 0, 0, 1, 0, 0, 0, 0] (fun r s => (findBuf s (prm r 0 2)).map (writable s) == some true) twoBuffers = true ∧
    begins nvmWriteSpec none ([8, 0, 0, 0, 0, 0, 0, 5] ++ [0, 0, 0, 1, 0, 0, 0, 0] ++ [1]) (fun r s => flashStatus s == St.ok && decide (prm r 8 4 ≤ 8176)) on = true ∧
    begins nvmWriteSpec none ([6, 0, 0, 0, 0, 0, 0, 0] ++ [0, 0, 0x1F, 0xF1, 0, 0, 0, 0]) (fun r s => flashStatus s == St.ok && decide (8176 < prm r 8 4)) on = true ∧
    begins imageStageSpec none [0, 0, 0, 128, 0, 0, 0, 0] (fun r s => s.fw.probation.isNone && stagingRuns s r == false && s.therm.shutdownAt.isNone) on = true ∧
    begins imageStageSpec none [0, 0, 0, 128, 0, 0, 0, 0] (fun r s => s.fw.probation.isNone && stagingRuns s r == false && s.therm.shutdownAt.isSome) (hot on) = true ∧
    findOp running.req.src running.req.tag (withOp running) = some running := by decide +kernel

/-- A buffer to capture into is free. -/
def capturing : State := { on with layers.buffers := [{ handle := 1, format := 7, width := 16, height := 32, colorimetry := 3, transfer := 0 }] }

theorem witness_long_rows :
    begins bistRunSpec none [1, 0, 0x04, 0] (fun _ s => s.therm.shutdownAt.isNone) on = true ∧ begins bistRunSpec none [1, 0, 0x04, 0] (fun _ s => s.therm.shutdownAt.isSome) (hot on) = true ∧
    begins blockRestoreSpec none [0x04, 0, 0, 0] (fun _ _ => true) on = true ∧
    begins calibrateSpec none ([0, 0, 0, 1] ++ List.replicate 8 0) (fun _ s => s.therm.shutdownAt.isNone && calibrating s == false) on = true ∧
    begins calibrateSpec none ([0, 0, 0, 1] ++ List.replicate 8 0) (fun _ s => s.therm.shutdownAt.isNone && calibrating s) { on with trim.run := some { src := .host, tag := 0, apply := 0, wide := false, items := 1, ports := 0, rails := 0 } } = true ∧
    begins checkRunSpec none [0, 0, 0, 0, 0, 0, 0, 0, 0, 0, 0, 16, 0, 0, 0, 0] (fun r s => (getCheck s (prm r 0 1)).owned) owned = true ∧
    begins checkRunSpec none [3, 0xE0, 0, 0, 0, 0, 0, 0, 0, 0, 0, 16, 0, 0, 0, 0] (fun r s => (getCheck s (prm r 0 1)).owned == false) on = true ∧
    begins writebackSpec none [0, 1, 0, 1, 0, 0, 0, 0, 0, 16, 0, 32, 0, 0, 0, 0] (fun r s => writebackStatus r s == St.ok) capturing = true := by decide +kernel

/-- An empty slide is stored under key 3. -/
def slideStored : State := { on with flash.entries := [⟨0, 0, 7, 3, 1, descriptor 7 0 [], true, true, false⟩] }

/-- A safety descriptor without its identifier: functions, sources, flags. -/
def descriptorOf (functions sources flags : Nat) : List Nat :=
  [0, functions, sources, sources, flags, 10, 1, 0xF4, 1, 0xF4, 0, 100, 0, 100, 0x13, 0x88, 0, 0, 0, 6, 0, 0, 0, 0]

/-- The parameters of SAFETY_CONFIG: a descriptor with its identifier. -/
def safetyParams (functions sources flags : Nat) : List Nat :=
  let d := descriptorOf functions sources flags
  d ++ (u32 (crc32c (d.map byte))).map (·.toNat)

theorem witness_safety_config :
    begins safetyConfigSpec none (safetyParams fNet fNet 0xC0) (fun _ s => s.safety.light.state == .run) networked = true ∧
    begins safetyConfigSpec none (safetyParams 0 0 0) (fun r s => s.safety.light.state != .run && s.safety.motion.state != .run && s.fuse.commissioned && prm r 1 1 == 0)
      { on with fuse.commissioned := true } = true ∧
    begins safetyConfigSpec none (safetyParams fNet fNet 0xC0) (fun _ s => s.safety.light.state != .run && s.safety.motion.state != .run && !s.fuse.commissioned && s.safety.pending.isNone) on = true ∧
    begins safetyConfigSpec none (safetyParams fNet fNet 0xC0) (fun r s => s.safety.light.state != .run && s.safety.motion.state != .run && s.fuse.commissioned && prm r 1 1 != 0)
      { on with fuse.commissioned := true } = true := by decide +kernel

/-- A partial Almanac file of no cells, and a tile that holds it. -/
def emptyFile : List Byte := (List.replicate 5 0 ++ [1] ++ List.replicate 58 0 ++ [28, 193, 102, 199]).map byte
def fileStored : State := { on with
  flash.entries := [⟨0, 0, 4, 0, 1, descriptor 4 0 emptyFile, true, true, false⟩]
  flash.region := (emptyFile.zipIdx.map fun x => (fileBase on 0 + x.2, ~~~ x.1)) }

set_option maxRecDepth 20000 in
theorem witness_recast_now :
    begins agingRecastSpec (some 1) [0, 0, 0, 24, 0, 0, 0x38, 0x40, 0xA0, 0, 0, 0] (fun r s => prm r 0 1 == 1 && recastWaits s) loading = true ∧
    begins agingRecastSpec (some 1) [0, 0, 0, 24, 0, 0, 0x38, 0x40, 0xA0, 0, 0, 0] (fun r s => prm r 0 1 == 1 && !recastWaits s && storedFile s == some emptyFile) fileStored = true := by
  decide +kernel

/-- The pulses of the tests fit: the rail is on. -/
def railed : State := { on with ledger.rails := [{ enable := true, budget := 6000, shunt := 0, phase := .on }, {}, {}, {}] }

/-- A CHAIN_ENUMERATE runs; the loop is blocked with its meridian at the second cell. -/
def enumerating : State := { on with chain.enumRun := some ⟨.host, 1, [0], [0], 0⟩ }
def blockedLoop : State := { on with chain.loops := { twoCells with blocked := true } :: List.replicate 23 {} }

theorem witness_measuring_rows :
    begins almanacVerifySpec none [2, 0, 0, 0] (fun _ _ => true) on = true ∧ begins chainEnumerateSpec none [] (fun _ _ => true) on = true ∧
    begins chainEnumerateSpec none [] (fun _ s => s.chain.enumRun == none) on = true ∧ begins chainEnumerateSpec none [] (fun _ s => s.chain.enumRun.isSome) enumerating = true ∧
    ([1, 2, 3].all fun m => begins diagRunSpec (some m) [0, 0, 0, 0] (fun r s => s.therm.shutdownAt.isNone && prm r 0 1 == m) railed) = true ∧
    targetCells railed 0 ≠ [] ∧
    begins diagRunSpec (some 4) [0, 1, 0, 0] (fun r s => s.therm.shutdownAt.isNone && prm r 0 1 == 4 && fitsOneEnd s (prm r 1 1)) on 0xFFF00000 = true ∧
    begins diagRunSpec (some 4) [0, 1, 0, 0] (fun r s => s.therm.shutdownAt.isNone && prm r 0 1 == 4 && !fitsOneEnd s (prm r 1 1)) blockedLoop 0xFFF00000 = true ∧
    begins diagRunSpec (some 1) [0, 0, 0, 0] (fun _ s => s.therm.shutdownAt.isSome) (hot on) = true ∧
    begins bufferAllocSpec none [7, 0x40, 0, 16, 0, 16, 0, 0, 3, 0, 0, 0] (fun r s => bitN (prm r 1 1) 6 && !allocBusy r.params s) slideStored = true := by decide +kernel

/-- The last clause: another operation runs, and so work is held. -/
theorem witness_power_state :
    begins powerStateSpec (some 0) [0, 0, 0, 0, 0, 0, 0, 0] (fun r s => prm r 0 1 == 0 && s.power.mode == .twilight) { on with power.mode := .twilight } = true ∧
    begins powerStateSpec (some 0) [0, 0, 0, 0, 0, 0, 0, 0] (fun r s => prm r 0 1 == 0 && s.power.mode == .run) on = true ∧
    begins powerStateSpec (some 1) [0, 0, 0, 0, 0, 0, 0, 0] (fun r s => prm r 0 1 == 1 && s.power.mode == .run) on = true ∧
    begins powerStateSpec (some 2) [0, 0xC0, 0, 0, 0, 0, 1, 0] (fun r s => prm r 0 1 == 2 && s.power.mode == .run && !workHeld r s) on = true ∧
    begins powerStateSpec (some 3) [0, 0, 0, 0, 0, 0, 0, 0] (fun r s => prm r 0 1 == 3 && s.power.mode == .twilight && !workHeld r s) { on with power.mode := .twilight } = true ∧
    begins powerStateSpec (some 2) [0, 0, 0, 0, 0, 0, 0, 0] (fun r s => prm r 0 1 == 2 && s.power.mode == .run && workHeld r s) (withOp running) = true := by decide +kernel

theorem witness_stage_stream :
    stages streamSubscribeSpec ([1, 0x90, 0, 7, 3, 0] ++ [0, 0, 16, 0, 16, 0, 0, 0, 5] ++ [239, 1, 1, 1, 0, 0, 0, 0, 0x13, 0x8C, 0, 0] ++ List.replicate 12 0 ++
      [0, 2, 0, 0, 0, 0, 0, 16, 0, 16, 0, 1, 0, 2, 0, 0, 0, 0, 3, 2]) 0
      { on with layers.buffers := [{ handle := 1, format := 7, width := 16, height := 16, colorimetry := 3, fullRange := true }, { handle := 2, format := 7, width := 16, height := 16, colorimetry := 3, fullRange := true }] } = true := by
  decide +kernel

/-! ## The host window, registers and check units -/

/-- Nightwatch alone serves the port. -/
def waking : State := { on with power := { on.power with mode := .waking, wakeStep := 1, wakeAttempt := 1, wakeStart := nowNs on, wakeStepAt := nowNs on - 1000000000 } }

theorem witness_host_window :
    domainOn on .always = true ∧ on.power.mode ≠ .enteringNadir ∧ (0x010002 : BitVec 24).toNat % 4 ≠ 0 ∧ (0x010000 : BitVec 24).toNat % 4 = 0 ∧
    regAt (0xFFFFFC : BitVec 24).toNat = none ∧ regAt (0x070000 : BitVec 24).toNat = some (.portTrim 0) ∧ domainOn asleepState .always = true ∧
    regGated asleepState (.portTrim 0) = true ∧ regGated on (.portTrim 0) = false ∧
    regGated { asleepState with host := { asleepState.host with shiftedStatus := statusWord asleepState, shifted := [], gated := false } } (.portTrim 0) = true := by decide +kernel

theorem witness_register_writes :
    ({ on with power := { on.power with mode := .nadir }, fuse := { on.fuse with vhost33 := true } } : State).power.mode = .nadir ∧
    ({ on with power := { on.power with mode := .nadir }, fuse := { on.fuse with vhost33 := true } } : State).fuse.vhost33 = true ∧ waking.fuse.vhost33 = false ∧
    waking.power.mode = .waking ∧ regAt 0x0D0024 = some (.plevel 1) ∧ regAt 0x0D0100 = some (.votes 0) ∧ regAt 0x010102 = none ∧ regAt 0x0B0000 = some (.check 0 0) ∧
    regGated { asleepState with power.awake := [] } (.portSkew 1) = true ∧ regAt 0x07000C = some (.portSkew 1) ∧ domainOn on .meter = true ∧
    ({ on with cmd.sessionKey := some (zeros 16) } : State).cmd.sessionKey.isSome = true ∧ on.cmd.sessionKey = none := by decide +kernel

/-- Check unit 0 is marked unusable. -/
def unitLost : State := { on with bist.records := [{ id := 0x0D00, state := 2 }] }

/-- Unit 0's checker has received 250 and counts by 1. -/
def checking (last : BitVec 8) (resync : Bool) : State :=
  { on with check := [{ ctx := { resync := resync }, enable := true, started := true, last := last }, {}, {}, {}] }

theorem witness_check_units :
    windowServed on = true ∧ windowServed waking = false ∧ checkGated on 0 = false ∧ checkGated unitLost 0 = true ∧ Shaped on ∧ (getCheck owned 0).run.isSome = true ∧ Shaped owned ∧
    (getCheck on 1).run = none ∧ (getCheck on 1).queue = [] := by unfold Shaped; decide +kernel

theorem witness_alive_checker :
    let diff (c : CheckUnit) (n : Nat) := (n + 256 - c.last.toNat) % 256
    Shaped (checking 250 false) ∧ windowServed (checking 250 false) = true ∧ checkGated (checking 250 false) 0 = false ∧
    (getCheck on 0).enable = false ∧ (getCheck (checking 250 true) 0).enable = true ∧ (getCheck (checking 250 true) 0).started = true ∧
    ({ getCheck on 0 with enable := true } : CheckUnit).started = false ∧
    diff (getCheck (checking 250 false) 0) 250 = 0 ∧ diff (getCheck (checking 255 false) 0) 0 = 1 ∧
    diff (getCheck (checking 250 false) 0) 2 = 8 ∧ (getCheck (checking 250 false) 0).ctx.maxGap = 8 ∧ (8 * 1) % 256 = 8 ∧
    diff (getCheck (checking 250 false) 0) 3 = 9 ∧ (∀ k ∈ List.range 9, k * 1 % 256 ≠ 9) := by unfold Shaped; decide +kernel

theorem witness_alive_checker_gap : ∃ k, 2 ≤ k ∧ k ≤ (getCheck (checking 250 false) 0).ctx.maxGap ∧ k * (getCheck (checking 250 false) 0).ctx.step % 256 = 8 := ⟨8, by decide +kernel⟩

/-- The link-watch read of port 0's farthest cell, sent before the given time. -/
def watching (ago : Nat) : PendingRead := ⟨.linkWatch, 1, hopReg .A, 1, nowNs on - ago⟩

/-- Port 0 uploads to its one cell and has a link-watch read outstanding. -/
def uploadingSince (ago : Nat) : State :=
  { on with chain.ports := { driving := true, uploading := true, segments := 1, read := some (watching ago) } :: List.replicate 47 { driving := true } }

def uploading : State := uploadingSince 0

theorem witness_chain_ports :
    portRegsOn asleepState 0 = false ∧ portRegsOn on 0 = true ∧ (getPort on 0).uploading = false ∧ (getPort uploading 0).uploading = true ∧ Shaped uploading ∧
    (arrivingTrain 0 [] uploading).head? = some 0xA5C3 ∧ (arrivingTrain 0 [1] uploading).head? ≠ some 0xA5C3 ∧
    (readTrain ((arrivingTrain 0 [] uploading).drop 1)).2 = true ∧ (getPort uploading 0).segments ≤ (readTrain ((arrivingTrain 0 [] uploading).drop 1)).1.length ∧
    (arrivingReply 0 [] uploading).isSome = true ∧ arrivingReply 0 [1] uploading = none ∧ (getPort (uploadingSince 25000) 0).read = some (watching 25000) ∧
    (watching 25000).sentAt + 25000 ≤ nowNs (uploadingSince 25000) ∧ readOverdue (uploadingSince 25000) 0 = true ∧
    (getPort uploading 0).read = some (watching 0) ∧ nowNs uploading < (watching 0).sentAt + 25000 ∧ (getPort on 0).read = none ∧
    linkWatchDue on 0 = true ∧ (getPort State.reset 0).driving = false ∧ Shaped on ∧ Shaped State.reset := by unfold Shaped; decide +kernel

/-! ## Packet bytes -/

/-- A packet of the source without parameters: version, flags, opcode, tag, counter, byte 7, target, with a right trailer. -/
def packetBytes (version flags code counter : Nat) (target : Nat := 0x0001000200000000) : List Byte :=
  let h := u8 version ++ u8 flags ++ u16 code ++ u16 77 ++ u8 counter ++ u8 0 ++ u64 target ++ u16 0 ++ u16 0
  h ++ u32 (crc32c h)

def hostPacketOf (b : List Byte) : Packet := ⟨.host, true, b⟩

theorem witness_packet_write_ignored :
    domainOn on .always = true ∧ on.power.mode ≠ .enteringNadir ∧ (4 : BitVec 24) ≠ 0 ∧ ({ on with host.busy := true } : State).host.busy = true ∧
    ({ on with fw.running := false } : State).fw.running = false ∧ domainOn { on with fw.running := false } .always = true ∧ on.host.busy = false := by decide +kernel

theorem witness_packet_write :
    let good := hostPacketOf (packetBytes 1 0x10 0x0000 0)
    good.lengthOk = true ∧ good.crcOk = true ∧ forTile good on = true ∧ good.headerOk = true ∧ policyStatus good on = St.ok ∧ good.alive = false ∧
    (specOf good.code).isSome = true ∧ (hostPacketOf [1, 2]).lengthOk = false ∧
    (hostPacketOf (packetBytes 1 0x10 0 0 ++ [0])).lengthOk = false ∧
    (hostPacketOf ((packetBytes 1 0x10 0 0).take 20 ++ zeros 4)).lengthOk = true ∧ (hostPacketOf ((packetBytes 1 0x10 0 0).take 20 ++ zeros 4)).crcOk = false ∧
    forTile (hostPacketOf (packetBytes 1 0x10 0 0 0)) on = false ∧ (hostPacketOf (packetBytes 1 0x10 0 0 0)).broadcast = false ∧
    forTile (hostPacketOf (packetBytes 1 0x18 0 0 0)) on = false ∧ (hostPacketOf (packetBytes 1 0x18 0 0 0)).broadcast = true ∧ (hostPacketOf (packetBytes 1 0x18 0 0 0)).crcOk = true ∧ (hostPacketOf (packetBytes 2 0x10 0 0)).headerOk = false ∧
    forTile (hostPacketOf (packetBytes 2 0x10 0 0)) on = true ∧ (hostPacketOf (packetBytes 2 0x10 0 0)).crcOk = true ∧
    policyStatus (hostPacketOf (packetBytes 1 0x10 0 0)) { on with cmd.policy.aliveHost := true } = St.aliveGap ∧
    (specOf (hostPacketOf (packetBytes 1 0x10 0x7FFF 0)).code).isNone = true ∧ (hostPacketOf (packetBytes 1 0x10 0x7FFF 0)).crcOk = true := by decide +kernel

/-- The source's entry with its last counter. -/
def known (last : Nat) : State := { on with cmd.sources := [{ slot := 0, src := .host, last := last, tag := 5 }] }

theorem witness_alive_counter :
    let p (n : Nat) := hostPacketOf (packetBytes 1 0x30 0 n)
    (p 9).alive = true ∧ (p 9).auth = false ∧ (hostPacketOf (packetBytes 1 0x70 0 9)).auth = true ∧
    findSource (p 9).src (known 9) = some { slot := 0, src := .host, last := 9, tag := 5 } ∧
    aliveStep (p 9) (known 9) = 0 ∧ (p 9).tag = 77 ∧ aliveStep (p 0) (known 255) = 1 ∧ aliveStep (p 3) (known 251) = 8 ∧ (known 9).cmd.policy.maxGap = 8 ∧
    aliveStep (p 4) (known 251) = 9 ∧ 1 < aliveStep (p 3) (known 251) := by decide +kernel

/-- A bulk block of an NVM_WRITE under tag 9: number, data, LAST. -/
def blockBytes9 (number : Nat) (data : List Byte) (last : Bool) : List Byte :=
  let h := u16 0xC7B5 ++ u8 1 ++ u8 (128 * b2n last) ++ u16 9 ++ u16 0x0E01 ++ u32 number ++ u32 (8192 * number) ++ u16 data.length ++ u16 0 ++ data
  h ++ u32 (crc32c h)

/-- The operation awaits 8,193 bytes. -/
def awaiting : LongOp := { running with code := 0x0E01, bulk := some ⟨8193, [], nowNs on - 10000000000, 0, none⟩ }

def firstBulk : BulkIn := ⟨8193, [], nowNs on - 10000000000, 0, none⟩

theorem witness_bulk_blocks :
    let b : Block := ⟨blockBytes9 1 [7] true⟩
    on.fw.running = true ∧ domainOn on .always = true ∧ blockOp 0x0A000001 b on = none ∧
    blockOp 0x0A000001 b (withOp awaiting) = some awaiting ∧ awaiting.bulk = some firstBulk ∧
    (b.whole && b.headerOk && b.fits 8193 && b.authOk none 0 (withOp awaiting)) = true ∧
    ({ firstBulk with blocks := firstBulk.blocks.filter (fun y => y.1 != b.number) ++ [(b.number, b.data)], lastAt := nowNs on } : BulkIn).complete = false ∧
    (let w : Block := ⟨blockBytes9 1 [7, 7] true⟩; blockOp 0x0A000001 w (withOp awaiting) = some awaiting ∧ (w.fits 8193 && w.whole) = false) ∧
    (∀ o ∈ on.cmd.longOps, bulkLate on o = false) ∧ (withOp awaiting).cmd.longOps = [awaiting] ∧ bulkLate (withOp awaiting) awaiting = true ∧
    awaiting.abortOwed = none ∧ fillOf awaiting.req.src awaiting.req.tag (withOp awaiting) = none := by decide +kernel

/-! ## Frames, groups, streams -/

/-- A frame with its FCS: destination, source, EtherType. -/
def frameOf (dst src type : Nat) : List Byte := let m := ube 6 dst ++ ube 6 src ++ u16 type ++ zeros 46; m ++ fcsBytes m

theorem witness_frames :
    let own : Frame := ⟨(frameOf 0x020000000001 0 0x88B5).take 60⟩
    let other : Frame := ⟨(frameOf 0x020000000001 5 0x88B5).take 60⟩
    portUp State.reset .A = false ∧ portUp on .A = true ∧ portUp on (otherPort .A) = true ∧ 9022 < (zeros 9023).length ∧
    fcsOk (frameOf 0x020000000001 0 0x88B5) = true ∧ fcsOk (zeros 64) = false ∧ (frameOf 0x020000000001 0 0x88B5).length = 64 ∧ own.src = on.fuse.mac ∧
    fcsOk (frameOf 0x020000000001 5 0x88B5) = true ∧ other.src ≠ on.fuse.mac ∧ other.dst ≠ on.fuse.mac ∧ other.multicast = false ∧ other.broadcast = false ∧ isPtpEvent other = false ∧ foreignPtp other = false := by
  decide +kernel

theorem witness_arp_and_icmp : portUp on .B = true ∧ ownIp on = 0x0A000002 ∧ 0x0A000003 ≠ ownIp on ∧ (zeros 1468).length ≤ 1472 - 4 := by decide +kernel

/-- A loop was seen 10 s ago, or only 9 s ago. -/
def looped (ago : Nat) : State := { on with net.loopSince := some (nowNs on - ago) }

theorem witness_groups_and_loops :
    portUp on .A = true ∧ on.net.joined = [] ∧ (looped 10000000000).net.loopSince = some 990000000000 ∧ 990000000000 + 10000000000 ≤ nowNs (looped 10000000000) ∧
    (looped 9000000000).net.loopSince = some 991000000000 ∧ nowNs (looped 9000000000) < 991000000000 + 10000000000 ∧ (looped 0).net.loopSince.isSome = true := by
  decide +kernel

theorem witness_links :
    domainOn on .always = true ∧ on.power.refinLost = false ∧ (getNet on .A).link = true ∧ (getNet { on with net.portA := {} } .A).link = false ∧
    (getNet { on with net.portA := {} } .A).mode ≠ 0 ∧ portBlockLost { on with net.portA := {} } .A = false ∧ (getNet { on with net.portA := { mode := 0 } } .A).mode = 0 ∧
    portBlockLost { on with bist.records := [{ id := 0x0700, state := 2 }] } .A = true := by decide +kernel

/-- A stream of either kind, of 2 by 2 pixels of 8 bits, that is filling buffer 1. -/
def filling (native : Bool) : Stream :=
  { native := native, sealed := false, fullRange := true, payloadType := if native then 0 else 96, sampling := if native then 9 else 2, colorimetry := 0, transfer := 1, width := 2,
    height := 2, streamId := 5, pathA := { used := true, port := 5004 }, pathB := {}, ring := [1, 2], cropX := 0, cropY := 0, cropW := 2, cropH := 2, lossTimeout := 3, returnCount := 2,
    openKey := some 9, openHandle := some 1 }

def filled (st : Stream) : State :=
  { on with layers.streams := some st :: List.replicate 7 none, layers.buffers := [{ handle := 1, format := st.format, width := 2, height := 2, state := .filling, filler := .stream }] }

/-- A native packet of the stream: flags, sequence, frame key 9, row 0, its 2 pixels. -/
def nativeBytes (flags : Nat) (data : List Byte) : List Byte :=
  u16 0xC7A1 ++ u8 1 ++ u8 flags ++ u32 5 ++ u32 100 ++ u32 9 ++ u8 9 ++ u8 0 ++ u16 0 ++ u16 0 ++ u16 2 ++ u16 2 ++ u16 2 ++ zeros 4 ++ data

/-- An RTP packet of the stream: frame key 9, one row header, its data. -/
def rtpBytes (marker : Nat) (data : List Byte) : List Byte :=
  u8 0x80 ++ u8 (128 * marker + 96) ++ u16 100 ++ u32 9 ++ u32 0 ++ u16 0 ++ u16 data.length ++ u16 0 ++ u16 0 ++ data

theorem witness_streams :
    (filled (filling true)).layers.streams.getD 0 none = some (filling true) ∧ (filling true).usesPort .A = true ∧ portUp (filled (filling true)) .A = true ∧
    readSt2110 (filling false) [] = none ∧ (nativeHeaderOk (filling true) [] && nativeLengthOk (filling true) []) = false ∧
    (readSt2110 (filling false) (rtpBytes 0 (zeros 5))).map (fun g => (g.key, g.last, g.seq)) = some (9, false, 100) ∧
    (filling false).newest = none ∧ (filling false).seen.contains 100 = false ∧ (filling false).openKey = some 9 ∧ (filling false).openHandle = some 1 ∧
    (findBuf (filled (filling false)) 1).map (·.state) = some .filling ∧
    nativeHeaderOk (filling true) (nativeBytes 0 (zeros 2)) = true ∧ nativeLengthOk (filling true) (nativeBytes 0 (zeros 2)) = true ∧
    nativeData (filled (filling true)) 0 (filling true) (nativeBytes 0 (zeros 2)) = some (zeros 2) ∧
    be (nativeBytes 0 (zeros 2)) 12 4 = 9 ∧ bitN (getB (nativeBytes 0 (zeros 2)) 3) 6 = false ∧
    nativeHeaderOk { filling true with sealed := true } (nativeBytes 0 (zeros 2)) = true ∧
    nativeData (filled (filling true)) 0 { filling true with sealed := true } (nativeBytes 0 (zeros 2)) = none := by decide +kernel

/-- Layer 0 shows the stream, lost or not, with its counts. -/
def layered (r : LayerRun) : State :=
  { filled (filling true) with layers.layer := { enable := true, isStream := true } :: List.replicate 7 {}, layers.run := r :: List.replicate 7 {} }

theorem witness_stream_loss :
    lossDue on 0 = false ∧ lossDue (layered { lossCount := 3 }) 0 = true ∧ returnDue on 0 = false ∧ returnDue (layered { lost := true, returnCount := 2 }) 0 = true ∧
    Shaped (layered { lossCount := 3 }) ∧ Shaped (layered { lost := true, returnCount := 2 }) := by unfold Shaped; decide +kernel

/-! ## Time -/

def announce (domain : Nat) : Announce :=
  { domain := domain, priority1 := 128, clockClass := 6, accuracy := 0x21, variance := 0, priority2 := 128, identity := 1, stepsRemoved := 0, leapSeconds := 37, tlv := [], logInterval := 0 }

/-- A selected master, in a state of the servo. -/
def timed (t : TimeState → TimeState) : State := { on with time := t { on.time with selected := some ⟨.A, announce 127, nowNs on⟩ } }

theorem witness_ptp :
    portUp on .A = true ∧ on.fw.running = true ∧ (announce 1).domain ≠ on.time.domain ∧ (announce 127).domain = on.time.domain ∧ on.time.selected = none := by decide +kernel

/-- The tile's own stamps of a Sync and of a Delay_Req on the master's port: 1 s and 1,000 ns later. -/
def stamped (t : TimeState → TimeState) : State :=
  timed fun x => t { x with stamps := [⟨.A, false, 0, 1000000000⟩, ⟨.A, true, 1, 1000001000⟩] }

def stampA : Int := 65536 * 1000000000
def stampB : Int := 65536 * 1000001000

/-- The master's times of an exchange with equal delays whose offset is the given one, in ns. -/
def times (θ : Int) : PtpTimes :=
  { t1 := stampA - θ * 65536 - 65536, t4 := stampB - θ * 65536 + 65536, cSync := 0, cDreq := 0, logSync := -3, logDelayReq := 0 }

/-- The offset of a sample, as the statement computes it, in the state that has no delays yet. -/
def offsetOf (x : PtpTimes) : Rat := mkRat (stampA - x.t1 - x.cSync) 65536 - meanDelay (([] ++ [ptpDelay x stampA stampB]).drop (0 + 1 - 16))

theorem witness_samples :
    -7 ≤ (times 199).logSync ∧ (times 199).logSync ≤ 1 ∧ syncUsed (times 199) = true ∧ 1 < ({ times 199 with logSync := 2 } : PtpTimes).logSync ∧
    (stamped id).fw.running = true ∧ ownStamps (stamped id) = some (stampA, stampB) ∧ ownStamps on = none ∧ (stamped id).time.delays = [] ∧
    absR (offsetOf (times 10000)) = 10000 ∧ absR (offsetOf (times 1000001)) = 1000001 ∧ absR (offsetOf (times 199)) = 199 ∧
    (stamped fun t => { t with servo := .locked, discardRun := 14 }).time.discardRun + 1 < 16 ∧ (stamped fun t => { t with servo := .acquiring }).time.pendingStep = none ∧
    (stamped fun t => { t with servo := .acquiring, goodRun := 15 }).time.goodRun = 15 := by decide +kernel

/-- A PTP message of the given type to a group, over UDP, with its FCS; a message of layer 2. -/
def ptpFrame (type : Nat) : List Byte :=
  let udp := u16 319 ++ u16 319 ++ u16 52 ++ u16 0 ++ u8 type ++ zeros 43
  let ip (sum : Nat) := u8 0x45 ++ u8 0 ++ u16 (20 + udp.length) ++ zeros 5 ++ u8 17 ++ u16 sum ++ u32 5 ++ u32 0xE0000181
  let m := ube 6 0x01005E000181 ++ ube 6 5 ++ u16 0x0800 ++ ip (0xFFFF - wordSum (ip 0)) ++ udp
  m ++ fcsBytes m

def layer2Frame : List Byte := frameOf 0x011B19000000 5 0x88F7

/-- What the port receives of a frame: its bytes without the FCS. -/
def bodyOf (bytes : List Byte) : Frame := ⟨bytes.take (bytes.length - 4)⟩

set_option maxRecDepth 20000 in
theorem witness_ptp_events :
    ([0, 1, 2].all fun k => isPtpEvent (bodyOf (ptpFrame k)) && forwards on (otherPort .A) (bodyOf (ptpFrame k)) && ptpType (bodyOf (ptpFrame k)) == k &&
      fcsOk (ptpFrame k) && (bodyOf (ptpFrame k)).multicast && decide ((ptpFrame k).length ≤ 9022) && (bodyOf (ptpFrame k)).src != on.fuse.mac) = true ∧
    isPtpEvent (bodyOf layer2Frame) = false ∧ foreignPtp (bodyOf layer2Frame) = true ∧ forwards on (otherPort .A) (bodyOf layer2Frame) = true ∧
    fcsOk layer2Frame = true ∧ (bodyOf layer2Frame).src ≠ on.fuse.mac := by decide +kernel

theorem witness_holdover :
    let s := timed fun t => { t with servo := .locked, lastSample := some (nowNs on - 2000000000) }
    let h := timed fun t => { t with servo := .holdover, holdoverSince := some (nowNs on - 30000000000) }
    s.time.servo = .locked ∧ s.time.lastSample = some 998000000000 ∧ 998000000000 + 2000000000 ≤ nowNs s ∧ on.time.servo ≠ .locked ∧
    h.time.servo = .holdover ∧ h.time.holdoverAlerted = false ∧ h.time.holdoverSince = some 970000000000 ∧ 970000000000 + 30000000000 ≤ nowNs h ∧
    s.power.rtcSetAt + 1000000000 ≤ nowNs s ∧ on.time.servo ≠ .holdover := by decide +kernel

/-! ## Levels, domains, wake -/

/-- The level stands, slower than the demand since a time. -/
def levelled (level : Fin 4) (ceiling : Fin 4) (since : Option Nat) : State := { on with power := { on.power with level := level, ceiling := ceiling, auto := false, slowSince := since } }

theorem witness_levels :
    levelsRun State.reset = false ∧ levelsRun on = true ∧ targetLevel (levelled 3 0 none) < (levelled 3 0 none).power.level.val ∧
    (levelled 0 2 none).power.level.val ≤ targetLevel (levelled 0 2 none) ∧ (levelled 0 2 none).power.level.val < limitLevel (levelled 0 2 none) ∧
    (levelled 0 2 (some 999000000000)).power.slowSince = some 999000000000 ∧ 999000000000 + 1000000000 ≤ nowNs (levelled 0 2 (some 999000000000)) ∧
    (levelled 0 2 (some 999000000000)).power.level.val < targetLevel (levelled 0 2 (some 999000000000)) ∧ nowNs on < 999000000001 + 1000000000 := by decide +kernel

/-- In TWILIGHT the operation of the test source has an implicit vote for MEM, over or not. -/
def votedMem (withdrawAt : Option Nat) : State := { asleepState with power.implicit := [⟨.mem, (req []).src, 7, withdrawAt⟩], power.votes := [0, 0, 0, 0, 0, 0] }

theorem witness_domains :
    (∀ v ∈ (votedMem none).power.implicit, voteOver (votedMem none) v = false) ∧ (∃ v ∈ (votedMem (some 1000000000000)).power.implicit, voteOver (votedMem (some 1000000000000)) v = true) ∧
    on.power.mode ≠ .twilight ∧ domainVoted (votedMem none) .pixel = false ∧ domainAbsent { on with fuse.pv8208 := true } (.scan 5) = true ∧ domainOn on .mem = true ∧
    (votedMem none).power.mode = .twilight ∧ domainVoted (votedMem none) .mem = true ∧ domainAbsent (votedMem none) .mem = false ∧ domainOn (votedMem none) .mem = false ∧
    (votedMem none).cmd.waiting = [] := by decide +kernel

def inMode (m : PowerMode) : State := { on with power.mode := m }

theorem witness_wake_events :
    wakeEnabled on .portA = false ∧ wakeEnabled on .wakeN = true ∧
    ([PowerMode.nadir, .enteringNadir, .waking, .wakeFailed, .twilight, .run].all fun m => wakeEnabled (inMode m) .wakeN && (inMode m).power.mode == m) = true ∧
    wakeEnabled { on with power.alarm := some 1, power.rtc := 32768 } .rtcAlarm = true := by decide +kernel

/-- A step of the wake has run for 1 s. -/
def wakingAt (step attempt : Nat) (pause : Option Nat) : State := { waking with power := { waking.power with wakeStep := step, wakeAttempt := attempt, wakePause := pause } }

theorem witness_wake_steps :
    (wakingAt 3 1 none).power.mode = .waking ∧ (wakingAt 3 1 none).power.wakePause = none ∧ ¬ ((wakingAt 3 1 none).power.wakeStep = 3 ∧ (wakingAt 3 1 none).power.refinLost = true) ∧
    ([1, 2, 3, 4, 5, 6].all fun k => decide ((wakingAt k 1 none).power.wakeStepAt + wakeDelay k ≤ nowNs (wakingAt k 1 none))) = true ∧
    ([1, 2, 3, 4, 5, 6].all fun k => decide ((wakingAt k 1 none).power.wakeStepAt + wakeLimit k ≤ nowNs (wakingAt k 1 none))) = true ∧
    ({ wakingAt 3 1 none with power.refinLost := true } : State).power.refinLost = true ∧ on.power.mode ≠ .waking ∧
    (wakingAt 1 1 (some 999999000000)).power.wakePause = some 999999000000 ∧ 999999000000 + 1000000 ≤ nowNs (wakingAt 1 1 (some 999999000000)) ∧
    (wakingAt 2 1 none).power.wakeAttempt = 1 ∧ (wakingAt 2 2 none).power.wakeAttempt ≠ 1 ∧ (wakingAt 7 1 none).power.wakeStep = 7 ∧
    (wakingAt 7 1 none).power.crystalChanged = false := by decide +kernel

/-! ## Resets and starts -/

/-- NRST has been low for the given time, and holds the reset. -/
def held (ago : Nat) : State := { on with power := { on.power with mode := .heldInReset, nrstLowSince := some (nowNs on - ago) } }

theorem witness_resets :
    on.power.nrstLowSince = none ∧ on.power.nrstIgnored = false ∧ supplied on = true ∧ on.power.mode ≠ .heldInBor ∧ on.power.mode ≠ .heldInReset ∧ 199 < 200 ∧ 1000 ≤ 1000 ∧
    (held 8000000000).power.nrstLowSince = some 992000000000 ∧ (held 8000000000).power.mode = .heldInReset ∧ 992000000000 + 8000000000 ≤ nowNs (held 8000000000) ∧
    (inMode .scan).power.mode = .scan ∧ on.power.mode ≠ .scan ∧ domainOn on .always = true ∧ on.power.history.head? = some ⟨1, false, false, 0⟩ := by decide +kernel

/-- Firmware restarts, for the given time. -/
def restarting (ago : Nat) : State := { on with fw := { on.fw with running := false, restartAt := some (nowNs on - ago) } }

/-- The image on probation has not made its handshake for 800 ms. -/
def unproven : State := { restarting 0 with fw.probation := some ⟨nowNs on - 800000000, false, 1, 3⟩ }

theorem witness_restarts :
    coresOn on = true ∧ on.fw.probation = none ∧ (restarting 2000000000).fw.restartAt = some 998000000000 ∧ coresOn (restarting 2000000000) = true ∧
    (restarting 2000000000).fw.frozen = false ∧ 998000000000 + 2000000000 ≤ nowNs (restarting 2000000000) ∧ on.fw.restartAt = none ∧
    unproven.fw.probation = some ⟨999200000000, false, 1, 3⟩ ∧ 999200000000 + 800000000 ≤ nowNs unproven ∧ (restarting 0).fw.restartAt.isSome = true := by decide +kernel

/-! ## Supplies, ledger, temperatures -/

/-- A power-up step has run since reset, for 1 s. -/
def rising (step failures : Nat) : State := { State.reset with power := { State.reset.power with supplyStep := step, supplyFailures := failures }, time.counter := 1000000000 * 2 ^ 48 }

theorem witness_power_up :
    (rising 1 0).power.mode = .poweringUp ∧ 1 ≤ (rising 1 0).power.supplyStep ∧ ¬ ((rising 7 0).power.supplyStep = 7 ∧ (rising 7 0).power.refinLost = true) ∧
    ([1, 2, 3, 4, 5, 6, 7].all fun k => decide ((rising k 0).power.supplyStepAt + 3 * supplyDelay k ≤ nowNs (rising k 0))) = true ∧
    (rising 3 1).power.supplyFailures < 2 ∧ 2 ≤ (rising 3 2).power.supplyFailures ∧
    (inMode .booting).power.mode = .booting ∧ on.power.mode ≠ .booting ∧ bootSlot (inMode .booting) = some 0 ∧
    bootSlot { inMode .booting with flash.slots := [.empty, .empty] } = none := by decide +kernel

theorem witness_supplies :
    supplied on = true ∧ on.power.mode = .run ∧ on.power.mode ≠ .heldInBor ∧ 3749 < 3750 ∧ 27000 < 27001 ∧ 4050 ≤ 26000 ∧ (inMode .heldInBor).power.mode = .heldInBor ∧
    (inMode .heldInBor).power.nrstLowSince = none ∧ (inMode .heldInBor).power.nrstIgnored = false ∧
    ({ inMode .heldInBor with power.nrstLowSince := some 0 } : State).power.nrstLowSince.isSome = true := by decide +kernel

/-- REFIN is lost, noted as a cause of FAULT_N or not. -/
def unclocked (cs : List FaultCause) : State := { on with power.refinLost := true, faults := cs }

theorem witness_clocks :
    (unclocked [.refin]).power.refinLost = true ∧ FaultCause.refin ∈ (unclocked [.refin]).faults ∧ refinMonitored (unclocked [.refin]) = true ∧ on.power.refinLost = false ∧
    refinMonitored on = true ∧ FaultCause.refin ∉ (unclocked []).faults ∧ on.power.rtcCrystal = false ∧ on.power.rtcCrystal ≠ true ∧ domainOn on .always = true ∧
    domainOn State.reset .always = false := by decide +kernel

/-- The light pair runs, and the first rail may start. -/
def lit : State := { on with safety.light.state := .unused }

/-- The first rail is in start-up since a time, the second is next. -/
def startingRail (since : Nat) : State := { lit with ledger.rails := [{ enable := true, phase := .starting since }, { enable := true }, {}, {}], ledger.started := some (0, since) }

theorem witness_rail_start :
    Shaped lit ∧ railStartDue on = false ∧ railStartDue lit = true ∧ railsWaiting lit = [0] ∧ railsMayStart on = false ∧ Shaped (startingRail 0) ∧
    (startingRail 0).ledger.started = some (0, 0) ∧ nextInStart (startingRail 0) = some 1 ∧ staggerDue (startingRail 0) = some 1 ∧
    0 + (getRail (startingRail 0) 1).stagger * 1000000 ≤ nowNs (startingRail 0) ∧ railsMayStart (startingRail 0) = true ∧ (getRail (startingRail 999900000000) 0).phase = .starting 999900000000 ∧
    999900000000 + 100000000 ≤ nowNs (startingRail 999900000000) ∧ nowNs (startingRail 999900000001) < 999900000001 + 100000000 ∧
    (on.safety.light.state ≠ .run ∧ on.safety.light.state ≠ .unused) ∧ (hot on).therm.shutdownAt.isSome = true := by unfold Shaped; decide +kernel

theorem witness_headroom :
    headroomOk railed ⟨.diagRun, 0, 0, 6000, 500⟩ = true ∧ headroomOk railed ⟨.diagRun, 0, 0, 6001, 500⟩ = false ∧ headroomOk on ⟨.railStart, 0, 0, 0, 0⟩ = false := by decide +kernel

/-- The input current has been above its limit since a time. -/
def overcurrent (since : Nat) : State := { on with ledger.overSince := some since }

theorem witness_input_current :
    110 * on.ledger.limit < 100 * 441 ∧ on.ledger.overSince = none ∧ 100 * 440 ≤ 110 * on.ledger.limit ∧ 95 * on.ledger.limit < 100 * 381 ∧ on.power.level.val < 3 ∧
    on.ledger.lastStep + 10000000 ≤ nowNs on ∧ (overcurrent 999000000000).ledger.overSince = some 999000000000 ∧ 999000000000 + 1000000000 ≤ nowNs (overcurrent 999000000000) := by
  decide +kernel

/-- A sensor on I2C gives the ambient ceiling. -/
def sensed : State := { on with ledger.ambient := { mode := 1, curve := (List.range 8).map fun k => (10 * k, 0x1000 * (k + 1)) } }

theorem witness_ambient :
    on.ledger.ambient.mode ≠ 1 ∧ sensed.fw.running = true ∧ sensed.ledger.ambient.mode = 1 ∧ sensed.ledger.ambient.lastRead + 1000000000 ≤ nowNs sensed ∧
    sensed.ledger.ambient.failed = false ∧ sensed.ledger.ambient.lastGood + 10000000000 ≤ nowNs sensed := by decide +kernel

/-- Frame 7's sums are complete. -/
def summed : State := { railed with ledger.sums := [⟨7, [], [], 0, [], 0, 0⟩] }

theorem witness_magnitudes :
    unfixed on = [] ∧ unfixed summed = [⟨7, [], [], 0, [], 0, 0⟩] ∧ Shaped summed ∧ goingDark summed = false ∧
    goingDark { summed with power := { summed.power with mode := .enteringTwilight } } = true ∧
    (getRail summed 0).phase = .on ∧ (getRail summed 1).phase = .off := by unfold Shaped; decide +kernel

theorem witness_shunts :
    15 < (getRail on 1).shunt ∧ (getRail on 0).shunt ≤ 15 ∧ inputLost on (getRail on 0).shunt = false ∧ (getRail on 0).shuntLost = false ∧
    mkRat (499999 * on.trim.inForce.shunt.getD 0 0x8000) 32768 < 500000 ∧ 500000 ≤ mkRat (500001 * on.trim.inForce.shunt.getD 0 0x8000) 32768 ∧
    expectedCurrent on 0 * mkRat (100 + (getRail on 0).theta) 100 < mkRat (500001 * on.trim.inForce.shunt.getD 0 0x8000) 32768 ∧ (getRail on 0).above + 1 < 8 ∧
    8 ≤ ({ getRail on 0 with above := 7 } : Rail).above + 1 := by decide +kernel

/-- The first diode is given, the others read 25 degrees. -/
def diodes (d : Diode) : State := { on with therm.diodes := d :: List.replicate 5 {} }

theorem witness_diodes :
    meterOn on = true ∧ meterOn asleepState = false ∧ diodesDue on = true ∧ diodesDue asleepState = false ∧
    diodesDue { on with therm := { on.therm with diodesAt := some (nowNs on - 1) } } = false ∧ diodeBreaks on 0 = false ∧ diodeBreaks (diodes { disagree := 10 }) 0 = true ∧ Shaped (diodes { disagree := 10 }) ∧
    diodeReturns on 0 = false ∧ diodeReturns (diodes { broken := true, agreeSince := some (nowNs on - 60000000000) }) 0 = true ∧
    Shaped (diodes { broken := true, agreeSince := some (nowNs on - 60000000000) }) := by unfold Shaped; decide +kernel

def ntc : SensorCfg := { input := 2, enable := true, col := 0, row := 0, nominal := 10000, pullUp := 10000, beta := 3435 }

/-- One sensor is configured on input 2. -/
def sensorAs (x : Sensor) : State := { on with therm := { on.therm with desc := { on.therm.desc with sensors := [ntc] }, sensors := [x] } }

theorem witness_sensors :
    meterOn (sensorAs {}) = true ∧ (sensorAs {}).therm.desc.sensors = [ntc] ∧ (sensorAs {}).therm.sensors.length = 1 ∧ ntc.enable = true ∧ ntc.input = 2 ∧ ratioBroken 1310 = true ∧
    ratioBroken 32768 = false ∧ sensorBrokenNow (getSensor (sensorAs {}) 0) = false ∧ inputLost (sensorAs {}) 2 = false ∧
    (getSensor (sensorAs { status := .heldOut, held := 16 }) 0).status = .heldOut ∧ (getSensor (sensorAs { status := .heldOut, held := 16 }) 0).held = 16 ∧
    (getSensor (sensorAs {}) 0).held < 16 ∧ sensorBrokenNow (getSensor (sensorAs { status := .brokenByCheck, agreeSince := some (nowNs on - 60000000000) }) 0) = true ∧
    (getSensor (sensorAs { status := .brokenByCheck, agreeSince := some (nowNs on - 60000000000) }) 0).agreeSince = some 940000000000 ∧ 940000000000 + 60000000000 ≤ nowNs on := by
  decide +kernel

/-- The first rail's voltage has not been read for 1 s. -/
def unread : State := { on with therm.volts := [{ millivolts := 5000, goodAt := nowNs on - 1000000000, failedSince := some 0 }, {}, {}, {}] }

theorem witness_zones :
    meterOn on = true ∧ on.therm.lastZone ≠ on.time.frame + 1 ∧ ({ on with therm.lastZone := 1 } : State).therm.lastZone = on.time.frame + 1 ∧ [some 5000].getD 0 none = some 5000 ∧
    (unread.therm.volts.getD 0 {}).millivolts ≠ 0 ∧ (unread.therm.volts.getD 0 {}).failedSince = some 0 ∧ (unread.therm.volts.getD 0 {}).goodAt + 1000000000 ≤ nowNs unread ∧ Shaped unread ∧
    (on.therm.volts.getD 0 {}).failedSince = none := by unfold Shaped; decide +kernel

theorem witness_throttle :
    let s : State := { on with therm := { on.therm with dieState := 2, die := 130, desc.fall := 100 } }
    factorsDue s = true ∧ factorsDue { s with therm := { s.therm with factorsAt := some (nowNs s - 1) } } = false ∧
    railTarget s 0 < s.therm.u.getD 0 0 ∧ 0 < s.therm.desc.fall ∧ ((nextFactors s).zip s.therm.u).any (fun x => x.1 < x.2) = true ∧
    ((nextFactors on).zip on.therm.u).any (fun x => x.1 < x.2) = false ∧ (∀ r ∈ List.range 4, on.therm.u.getD r 0 ≤ railTarget on r) ∧ on.therm.u.getD 0 0 ≤ railTarget on 0 ∧ 0 < s.therm.u.length := by decide +kernel

/-- A user object's write, begun or not. -/
def frontWrite (begun : Bool) : FlashWrite := { type := 8, key := 5, data := [1], use := .nvmWrite, op := none, begun := begun }

/-- A shutdown began 1 s ago, its grace window open; a write stands in front. -/
def shut (begun : Bool) : State :=
  { on with therm := { on.therm with shutdownAt := some (nowNs on - 1000000000), graceFrom := some (nowNs on - 8000000) }, flash.queue := [frontWrite begun] }

theorem witness_shutdown :
    (shut true).therm.shutdownAt = some 999000000000 ∧ thermNow (shut true) < 3 ∧ railsOff (shut true) = true ∧ (shut true).ledger.offAt + 1000000000 ≤ nowNs (shut true) ∧
    railsOff { shut true with ledger.rails := [{ enable := true, budget := 100, shunt := 0, phase := .on }] } = false ∧
    nowNs (shut true) < ({ shut true with ledger.offAt := nowNs on } : State).ledger.offAt + 1000000000 ∧ 3 ≤ thermNow { on with therm.dieState := 3 } ∧
    (shut true).therm.graceFrom = some 999992000000 ∧ (shut true).flash.queue = [frontWrite true] ∧
    (shut false).flash.queue = [frontWrite false] ∧ 999992000000 + 8000000 ≤ nowNs (shut true) ∧ on.therm.graceFrom = none := by
  decide +kernel

/-! ## Healing and diagnosis -/

/-- Port 0 of loop 0 misses its train; the link to its first cell is cut or not; the loop is given. -/
def missing (cut : Bool) (l : LoopState) : State :=
  { on with
    chain := { on.chain with loops := l :: List.replicate 23 {}, ports := { driving := true, missingNow := true } :: List.replicate 47 { driving := true } }
    plant := { loops := (if cut then { cells := twoPlants.cells.map fun x => { x with feed := if x.serial = 1 then none else x.feed }, cuts := [0] } else twoPlants) :: List.replicate 23 {} } }

/-- The two cells with a move of the meridian to the cut link. -/
def moving (sent : Bool) : LoopState := { twoCells with move := some ⟨0, .B, 0, sent⟩ }

theorem witness_localisation :
    let k := ((getLoop (missing true twoCells) 0).fedCells .A).length
    Shaped (missing true twoCells) ∧ portLoop 0 = 0 ∧ portSide 0 = .A ∧ (getPort on 0).missingNow = false ∧ (getPort (missing true twoCells) 0).missingNow = true ∧
    (getLoop (missing true twoCells) 0).move = none ∧ answeringHops (getPlant (missing false twoCells) 0) .A k = k ∧ answeringHops (getPlant (missing true twoCells) 0) .A k ≠ k ∧
    (getLoop (missing true twoCells) 0).healed = false ∧ (getLoop (missing true { twoCells with healed := true }) 0).healed = true ∧
    (getLoop (missing true { twoCells with healed := true }) 0).trial = false := by unfold Shaped; decide +kernel

theorem witness_takeover :
    Shaped (missing true (moving true)) ∧ (getLoop on 0).move = none ∧ (getLoop (missing true (moving true)) 0).move = some ⟨0, .B, 0, true⟩ ∧
    (getLoop (missing true (moving false)) 0).move = some ⟨0, .B, 0, false⟩ ∧ farthestAnswers 0 .B (missing true (moving true)) = true ∧
    farthestAnswers 0 .B { missing true (moving true) with plant := {} } = false := by unfold Shaped; decide +kernel

/-- A healed loop with one break, its next trial at once or in 60 s. -/
def healed (now : Bool) : LoopState := { twoCells with healed := true, broken := [1], autoRestore := false, restoreNow := now }

/-- The first cell has been over its temperature limit for 10 s. -/
def overheated : CellRec := { cellRec 1 2 with overtempSince := some (nowNs on - 10000000000) }

theorem witness_trials_and_failures :
    Shaped (missing false (healed true)) ∧ trialLink 0 on = none ∧ trialDue 0 (missing false (healed false)) = false ∧ trialLink 0 (missing false (healed true)) = some 1 ∧
    trialDue 0 (missing false (healed true)) = true ∧ (getLoop on 0).cells[2]? = none ∧ (getLoop on 0).cells[0]? = some (cellRec 1 2) ∧ cellFails (nowNs on) (cellRec 1 2) = false ∧
    (getLoop (missing false { twoCells with cells := [overheated, cellRec 2 1] }) 0).cells[0]? = some overheated ∧ cellFails (nowNs on) overheated = true ∧
    faultRoom on.chain.faults 4 = true := by unfold Shaped; decide +kernel

/-! ## Presentation -/

/-- Presentation has been at work since frame 0; it is now the given time in ns. -/
def shows (p : PresState → PresState) (ns : Nat) : State := { on with pres := p { on.pres with started := true }, time := { on.time with counter := ns * 2 ^ 48 } }

/-- The first slot of a frame, with latency 2 and phase 0. -/
def slotOf (frame : Nat) : SlotAt := ⟨frame, 0, 2, 0⟩

theorem witness_frame_start :
    (let s := shows (fun p => { p with next := some (slotOf 58) }) 1000000000; frameInProgress s = some (slotOf 58) ∧ frameStartDue s = true ∧ Shaped s) ∧
    frameStartDue State.reset = false ∧ Shaped on ∧ uploadWanted State.reset = false ∧
    (let s := shows (fun p => { p with next := some (slotOf 59) }) 1000000000; slotDue s (uploadPeriod (fullestPort s) + 100000) = false) ∧
    (let s := shows (fun p => { p with next := some (slotOf 58) }) 1000000000; uploadWanted s = true ∧ slotDue s (uploadPeriod (fullestPort s) + 100000) = true) := by
  unfold Shaped; decide +kernel

/-- What an upload of view 0's image of a frame sent. -/
def sentOf (frame : Nat) : Sent := { id := ⟨0, frame, false⟩, seqs := [], fixed := ⟨frame, [0, 0, 0, 0], [0, 0, 0, 0], [false, false, false, false]⟩ }

/-- An image is on its way to the cells, armed and launched or not; the slot that it is for is at its time. -/
def onItsWay (armed launched : Bool) : State :=
  shows (fun p => { p with next := some (slotOf 58), upload := some (sentOf 58), armed := armed, launched := launched }) 1000000000

/-- The cells show the image that the next slot wants. -/
def holding1 (s : State) : State := { s with pres.shown := some { sentOf 58 with id := (wantedImage s (targetSlot s)).1.1 } }

theorem witness_upload :
    let s := shows (fun p => { p with next := some (slotOf 58) }) 1000000000
    presenting State.reset = false ∧ presenting s = true ∧ s.pres.upload = none ∧ s.pres.armed = false ∧ slotDue s (uploadPeriod (fullestPort s)) = true ∧ Shaped s ∧
    heldFor s (targetSlot s) (wantedImage s (targetSlot s)).1.1 = none ∧ (heldFor (holding1 s) (targetSlot (holding1 s)) (wantedImage (holding1 s) (targetSlot (holding1 s))).1.1).isSome = true ∧
    presenting (holding1 s) = true ∧ (holding1 s).pres.upload = none ∧ slotDue (holding1 s) (uploadPeriod (fullestPort (holding1 s))) = true ∧
    (onItsWay false false).pres.upload = some (sentOf 58) ∧ (getPort uploading 0).uploading = true ∧ 31 ∉ (getPort uploading 0).underran ∧ (getPort on 0).uploading = false ∧
    (onItsWay false false).pres.upload.isSome = true ∧ Shaped uploading := by unfold Shaped; decide +kernel

theorem witness_latch :
    windowDue on = false ∧ windowDue (onItsWay false false) = true ∧ (onItsWay false false).pres.armed = false ∧ presenting (onItsWay true false) = true ∧
    (onItsWay true false).pres.armed = true ∧ (onItsWay true false).pres.launched = false ∧ slotDue (onItsWay true false) 1000 = true ∧
    (onItsWay true true).pres.launched = true ∧ slotDue (onItsWay true true) 0 = true ∧ (onItsWay true true).pres.upload.isSome = true ∧
    (shows (fun p => { p with launched := true }) 1000000000).pres.upload = none := by decide +kernel

/-- Sync input 0 is locked, its last edge 10 s ago. -/
def synced : State := { on with pres.sync := { enable := true, state := .locked, lastEdge := nowNs on - 10000000000, driftAt := nowNs on - 10000000000 } :: List.replicate 4 {} }

/-- The input has just had an edge. -/
def sparked : State := { on with pres.sync := { enable := true, lastSeen := some (nowNs on) } :: List.replicate 4 {} }

theorem witness_sync :
    Shaped synced ∧ edgeCounts (getSync on 0) false 100 = false ∧ edgeCounts (getSync synced 0) false 100 = false ∧ edgeCounts (getSync synced 0) false 120 = true ∧
    isGlitch (nowNs on) (getSync synced 0) = false ∧ isGlitch (nowNs on) (getSync sparked 0) = true ∧ isGlitch (nowNs on + 10000) (getSync sparked 0) = false ∧ edgeCounts (getSync sparked 0) false 120 = true ∧ Shaped sparked ∧
    edgeMissing on 0 = false ∧ edgeMissing synced 0 = true ∧ genlockDue on 0 = false ∧ genlockDue synced 0 = true := by unfold Shaped; decide +kernel

/-- Frame 7 is latched for view 0. -/
def latched : Latched := { frame := 7, prog := {}, layers := List.replicate 8 {}, runs := List.replicate 8 {}, background := List.replicate 4 [0, 0, 0], scalers := List.replicate 4 {}, bank := none, banks := [{}, {}], bins := [], space := on.almanac.space, bypass := false, width := 16, height := 32, cells := List.replicate 24 [], map := [0, 0, 0] }

/-- A buffer that fills from a slide. -/
def slideBuffer (slide : Nat) : Buffer := { handle := 1, format := 7, slide := slide, state := .filling, filler := .slide }

theorem witness_composites :
    nextComposite on = none ∧ nextComposite { on with layers.latched := [latched] } = some latched ∧ slideFill on = none ∧
    slideFill { slideStored with layers.buffers := [slideBuffer 3] } = some (slideBuffer 3) ∧ objectData { slideStored with layers.buffers := [slideBuffer 3] } 7 3 = some [] ∧
    slideFill { slideStored with layers.buffers := [slideBuffer 4] } = some (slideBuffer 4) ∧ objectData { slideStored with layers.buffers := [slideBuffer 4] } 7 4 = none := by
  decide +kernel

/-! ## Diagnosis and the Almanac -/

/-- The rails are on and the first cell reports fault bits. -/
def faulty : State := { railed with chain.loops := { twoCells with cells := [{ cellRec 1 2 with faultBits := true }, cellRec 2 1] } :: List.replicate 23 {} }

/-- The same, but the cell does not answer. -/
def unheard : State := { faulty with plant.loops := { twoPlants with cells := twoPlants.cells.map fun c => { c with dead := true } } :: List.replicate 23 {} }

theorem witness_sweeps :
    shortSweepDue on = false ∧ shortSweepDue railed = true ∧ activePorts railed = [0, 1] ∧
    diagReadDue on 0 0 = false ∧ diagReadDue faulty 0 0 = true ∧ Shaped faulty ∧ diagReadDue unheard 0 0 = true ∧ (plantCellAt faulty 0 0).isSome = true ∧ ((getLoop faulty 0).cells[0]?).isSome = true ∧
    nowNs State.reset < State.reset.chain.lastAgeSweep + 100000000 ∧ on.chain.lastAgeSweep + 100000000 ≤ nowNs on ∧ domainOn on .mem = true ∧ railsOn on = false ∧ railsOn railed = true ∧
    presenting railed = true ∧ railed.chain.twinkle.enable = true := by unfold Shaped; decide +kernel

set_option maxRecDepth 100000 in
theorem witness_map_read : (readCodes (fireCells 0 faulty) 0 0).isSome = true := by decide +kernel

theorem witness_map_silent : readCodes (fireCells 0 unheard) 0 0 = none := by decide +kernel

/-- An ALMANAC_LOAD has received a file. -/
def loaded (f : List Byte) : State := { on with cmd.longOps := [{ ended with state := 0, code := 0x0400, bulk := some ⟨f.length, [(0, f)], 0, 0, none⟩ }] }

/-- The file comes over the I2C bus, which is stuck. -/
def fromBus : State :=
  { on with i2c.stuck := true, cmd.longOps := [{ ended with req := req [1, 0x50, 0, 0, 0, 0, 0, 0], state := 0, code := 0x0400, bulk := some ⟨68, [(0, zeros 68)], 0, 0, none⟩ }] }

set_option maxRecDepth 20000 in
theorem witness_files :
    loadReady on = none ∧ (loadReady (loaded (zeros 68))).map (·.2) = some (zeros 68) ∧ fileCrcOk (zeros 68) = false ∧
    ((loadReady (loaded (zeros 68))).all fun x => prm x.1.req 0 1 != 1) = true ∧ ((loadReady fromBus).any fun x => prm x.1.req 0 1 == 1 && fromBus.i2c.stuck) = true ∧
    (loadReady (loaded emptyFile)).map (·.2) = some emptyFile ∧ fileCrcOk emptyFile = true ∧
    (fileSectionsOk emptyFile && fileMatches (req []).src emptyFile (loaded emptyFile)) = false := by decide +kernel

/-- A full Almanac file of no cells with one bin, whose curves rise by one step a point. -/
def fullFile : List Byte :=
  let thermal := (List.range 16).flatMap fun i => u16 i ++ u16 0x8000
  let aging := (List.range 16).flatMap fun i => u32 i ++ u16 0x8000
  u32 fileMagic ++ u8 1 ++ u8 0 ++ u16 16 ++ u16 32 ++ u16 0 ++ u8 1 ++ u8 0 ++ zeros 50 ++ (List.replicate 3 (thermal ++ aging)).flatten ++ thermal ++ u32 0xF4C24AE0

/-- The tile with no cells has received it. -/
def loadedFull : State := { loaded fullFile with chain := { on.chain with loops := List.replicate 24 {} } }

/-- The register after a message, worked out byte by byte. -/
def crcForce (a : CrcAlg) : Nat → List Byte → Nat
  | reg, [] => reg
  | reg, b :: t => match crcByte a reg b.toNat with
    | 0 => crcForce a 0 t
    | n + 1 => crcForce a (n + 1) t

theorem crcForce_eq (a : CrcAlg) (m : List Byte) : ∀ reg, crcRun a reg m = crcForce a reg m := by
  induction m with
  | nil => intro reg; rfl
  | cons b t ih =>
    intro reg
    show crcRun a (crcByte a reg b.toNat) t = _
    unfold crcForce
    split <;> rename_i h <;> rw [h] <;> exact ih _

theorem fullFile_crc : fileCrcOk fullFile = true := by
  simp only [fileCrcOk, crc32, crc, crcForce_eq]
  decide +kernel

theorem witness_good_file :
    (loadReady loadedFull).map (·.2) = some fullFile ∧ (fileSectionsOk fullFile && fileMatches (req []).src fullFile loadedFull) = true := by decide +kernel

/-- The stored file may be recast from, or a swap to bank A is due. -/
def recastable : State := { fileStored with almanac.nextRecast := some (nowNs on) }
def swapping (valid : Bool) : State := { on with almanac := { on.almanac with swapDue := some 0, banks := [{ state := if valid then 2 else 0, space := on.almanac.space }, {}] } }

/-- A frame's sums are the latest with bank A in force and the rails on; its sample is due and its magnitudes are fixed. -/
def sampling : State := { railed with ledger := { railed.ledger with latest := some ⟨7, [], [], 0, [], 0, 0⟩, magnitudes := [⟨7, [0, 0, 0, 0], [0, 0, 0, 0], []⟩] }, almanac := { on.almanac with inForce := some 0, sampleFrame := some 7 } }

theorem witness_stress_and_swaps :
    sampleDue on = none ∧ sampleDue sampling = some ⟨7, [], [], 0, [], 0, 0⟩ ∧ on.almanac.swapDue = none ∧ (swapping true).almanac.swapDue = some 0 ∧ recastSwapOk (swapping true) 0 = true ∧
    recastSwapOk (swapping false) 0 = false ∧ boundaryDue (swapping true) = true ∧ (swapping true).fw.running = true ∧ recastReady on = none := by decide +kernel

set_option maxRecDepth 20000 in
theorem witness_recast_due : recastReady recastable = some emptyFile := by decide +kernel

/-! ## Self-test, memory, storage -/

/-- The check unit 1's block waits for its retest. -/
def retesting : State := { on with bist.records := [{ id := 0x0D01, state := 1, retestAt := some (nowNs on) }] }
def refusing (s : State) : State := { s with ledger.refuseWork := true }
def bistOp : BistOp := { src := .host, tag := 1, restore := false, blocks := [0x0400] }
def slow : State := { on with bist.cycleStart := nowNs on - 600000000000 }

theorem witness_self_test :
    bistRuns State.reset = false ∧ bistRuns on = true ∧ (refusing on).ledger.refuseWork = true ∧ bistRuns (refusing on) = true ∧
    ({ on with bist.ops := [bistOp] } : State).bist.ops = bistOp :: [] ∧ on.ledger.refuseWork = false ∧ on.bist.ops = [] ∧ cycleDue on = true ∧
    cycleDue { on with bist.enable := false } = false ∧ retestDue on 0x0D01 = false ∧ retestDue retesting 0x0D01 = true ∧ bistRuns retesting = true ∧
    overrunDue { on with bist.cycleStart := nowNs on } = false ∧ overrunDue slow = true ∧ slow.fw.running = true := by decide +kernel

/-- Every spare row of die 0 is in use. -/
def noSpares : State := { on with dram.remapped := (List.range 16).map fun i => (0, i), dram.corrections := List.replicate 4 (dramRowBase 0 0, nowNs on) }

/-- Row 0 of die 0 has had four corrections in the hour. -/
def worn : State := { on with dram.corrections := List.replicate 4 (dramRowBase 0 0, nowNs on) }

theorem witness_dram :
    dramPowered asleepState = false ∧ dramPowered on = true ∧ dramSize ≤ 0x0E000000 ∧ 0x0DFFFFFF < dramSize ∧ rowExists 0 = true ∧ rowExists 0x7FFFFFFF = false ∧
    eccRead (dramWord on 0x01001000) [] = .clean ∧ eccRead (dramWord on 0x01001000) [3] = .corrected 0 ∧ eccRead (dramWord on 0x01001000) [3, 71] = .uncorrectable ∧
    rowFails on 0 0 = false ∧ rowFails worn 0 0 = true ∧ dramPowered worn = true ∧ refreshAllowed on = true ∧ refreshAllowed uploading = false ∧ dramPowered uploading = true ∧
    rowFails noSpares 0 0 = true ∧ sparesUsed worn 0 < spareRows worn 0 ∧ spareRows noSpares 0 ≤ sparesUsed noSpares 0 ∧ dramPowered noSpares = true := by decide +kernel

/-- The write in front has begun; a torn entry stands; few blocks are erased. -/
def writing : State := { on with flash.queue := [frontWrite true] }
def torn : State := { on with flash.entries := [⟨0, 0, 8, 5, 1, [1], false, true, false⟩] }
def crowded : State := { on with flash.usedBlocks := List.range 57 }

theorem witness_journal :
    flashFront on = none ∧ flashFront writing = some (frontWrite true) ∧ (∀ e ∈ on.flash.entries, e.committed = true ∨ e.torn = true) ∧
    (∃ e ∈ torn.flash.entries, e.committed = false ∧ e.torn = false) ∧ 8 ≤ erasedBlocks on ∧ erasedBlocks crowded < 8 ∧ crowded.flash.usedBlocks = 0 :: (List.range 57).tail := by decide +kernel

/-- An hour, and a week, after reset. -/
def after (seconds : Nat) (f : FlashState → FlashState) : State := { on with time.counter := seconds * 1000000000 * 2 ^ 48, flash := f on.flash }

def checkpointQueued : FlashWrite := { type := 6, key := 0, data := [], use := .checkpoint, op := none, begun := false }

theorem witness_checkpoints :
    checkpointDue on = false ∧ checkpointDue (after 3600 id) = true ∧ (after 3600 id).flash.queue = [] ∧ (after 3600 id).therm.shutdownAt = none ∧
    checkpointDue (after 3600 fun f => { f with queue := [checkpointQueued] }) = true ∧
    (∃ w ∈ (after 3600 fun f => { f with queue := [{ checkpointQueued with use := .orderly }] }).flash.queue, w.use = .orderly) ∧ checkpointQueued.use ≠ .orderly ∧ on.flash.dirty = none ∧ (after 0 fun f => { f with dirty := some 0 }).flash.dirty = some 0 ∧
    on.power.mode ≠ .enteringNadir ∧ nowNs on < on.flash.scrubbedAt + 604800000000000 ∧ on.flash.scrubbedAt + 604800000000000 ≤ nowNs (after 604800 id) := by decide +kernel

/-- CALIBRATE of one item, at its first slice. -/
def calRun : CalRun := { src := .host, tag := 1, apply := 0, wide := false, items := 1, ports := 0, rails := 0 }
def calibrating1 : State := { on with trim.run := some calRun }

theorem witness_calibration :
    on.trim.run = none ∧ calibrating1.trim.run = some calRun ∧ meterOn calibrating1 = true ∧ blockUnusable calibrating1 0x0B10 = false ∧
    blockUnusable { calibrating1 with bist.records := [{ id := 0x0B10, state := 2 }] } 0x0B10 = true ∧ calRun.item < 10 ∧
    (calRun.leaveOut calibrating1 { codes := [], leftOut := [] }).slices calRun.item ≠ 0 ∧ calRun.item ≠ 3 ∧ calRun.item ≠ 9 ∧
    (calRun.leaveOut calibrating1 { codes := [], leftOut := [] }).item ≠ 9 ∧ isPortItem 6 = true ∧ portGap calibrating1 20000 0 = true := by decide +kernel

/-! ## Commits and times -/

/-- Changes of a background, and of the raster. -/
def backgroundUnit : StagedUnit := ⟨⟨.background, 0⟩, 0x0207, 0, [0, 1, 0, 0x80, 0, 0x40, 0, 0x20, 0].map byte, 0⟩
def rasterUnit (width : Nat) : StagedUnit := ⟨⟨.raster, 0⟩, 0x0707, 0, [0, 0].map byte ++ u16 width ++ u16 32, 0⟩

/-- A cell is placed at column 16. -/
def placed : State := { on with chain.loops := { twoCells with config := [(0, { place := some (16, 0, false) })] } :: List.replicate 23 {} }

theorem witness_commits :
    laterUnits 1 [backgroundUnit] [] on = [] ∧ laterUnits 1 [rasterUnit 5000] [] on = [] ∧ laterUnits 1 [rasterUnit 16] [] placed = [] ∧
    (([backgroundUnit].map (unitStatus [backgroundUnit] (judgeState 1 [backgroundUnit] on))).any failed) = false ∧ wholeStatus [backgroundUnit] ([backgroundUnit].foldl (fun t u => applyPlain 1 u t) on) = St.ok ∧
    (([rasterUnit 5000].map (unitStatus [rasterUnit 5000] (judgeState 1 [rasterUnit 5000] on))).any failed) = true ∧
    (([rasterUnit 16].map (unitStatus [rasterUnit 16] (judgeState 1 [rasterUnit 16] placed))).any failed) = false ∧
    wholeStatus [rasterUnit 16] ([rasterUnit 16].foldl (fun t u => applyPlain 1 u t) placed) ≠ St.ok := by decide +kernel

theorem witness_kinds :
    backgroundUnit.ref.kind = .background ∧
    ([UnitKind.twinkle, .raster, .bist, .telemetry, .colourSpace, .railMap, .thermal].all fun k => ({ backgroundUnit with ref := ⟨k, 0⟩ } : StagedUnit).ref.kind == k) = true := by decide +kernel

theorem witness_boundary :
    boundaryDue State.reset = false ∧ boundaryDue on = true ∧ on.cmd.committing = [] ∧ on.cmd.ephemeris = [] ∧ on.cmd.snapshots = [] ∧
    ({ on with cmd.committing := [⟨0x0207, req [], [backgroundUnit], 0, false⟩] } : State).cmd.committing = [⟨0x0207, req [], [backgroundUnit], 0, false⟩] := by decide +kernel

/-- Telemetry is due. -/
def telling : State := { on with cmd.telemetry := { enable := true, interval := 100, destIp := 0x0A000003, destPort := 5000, nextAt := nowNs on } }

theorem witness_timers :
    (∃ e ∈ (scheduled false).cmd.ephemeris, (period (scheduled false)).timeOf e.boundary ≤ nowNs (scheduled false) + 100000) ∧
    (withOp running).cmd.longOps = [running] ∧ opLive running = true ∧ opLive ended = false ∧ nowNs State.reset < ended.doneAt + 60000000000 ∧
    ¬ nowNs on < ended.doneAt + 60000000000 ∧ heldOver holding (req []).src = false ∧ heldOver { holding with time.counter := 1010000000000 * 2 ^ 48 } (req []).src = true ∧
    on.cmd.telemetry.enable = false ∧ telling.cmd.telemetry.enable = true ∧ telling.cmd.telemetry.destIp ≠ 0 ∧ telling.cmd.telemetry.nextAt ≤ nowNs telling ∧ 0 < telling.cmd.telemetry.interval := by
  decide +kernel

/-! ## Safety -/

/-- Emergency stop, door and light curtain serve the light pair, which runs; every input is healthy. -/
def guarded (state : PairState) (motion : PairState) : State :=
  { on with safety := { on.safety with
    noRecord := false
    cfg := { functions := fEstop + fDoor + fLc, lightSrc := fEstop + fDoor + fLc, flags := 0x88 }
    levels := [true, true, true, false, false, false, false, false, true, true, false, true, false]
    light := { state := state }
    motion := { state := motion } } }

def guardedRun : State := guarded .run .unused

theorem witness_demands :
    Shaped guardedRun ∧ ([SafetyInput.estopA, .estopB, .doorNC, .lcA, .lcB].all fun i => guardedRun.safety.on i == true) = true ∧ guardedRun.safety.on .doorNO = false ∧
    ([fEstop, fDoor, fLc].all fun f => guardedRun.safety.uses f && guardedRun.safety.sources .light &&& f != 0) = true ∧ (guardedRun.safety.pair .light).state = .run := by
  unfold Shaped; decide +kernel

/-- The door's inputs have disagreed, and EDM has waited, for 0.5 s. -/
def disagreeing (ago : Nat) : State := { guardedRun with safety := { guardedRun.safety with discrepancy := [(.door, nowNs on - ago)], light := { state := .run, edmSince := some (nowNs on - ago) } } }

theorem witness_lockouts :
    (guardedRun.safety.pair .motion).state = .unused ∧ (guardedRun.safety.pair .light).state ≠ .unused ∧ (guardedRun.safety.pair (outPair .lightP)).state = .run ∧
    guardedRun.safety.discrepancy.find? (·.1 == .door) = none ∧
    (disagreeing 500000000).safety.discrepancy.find? (·.1 == .door) = some (.door, 999500000000) ∧ 999500000000 + guardedRun.safety.discrepancyTime .door * 1000000 ≤ nowNs on ∧
    (disagreeing 499999999).safety.discrepancy.find? (·.1 == .door) = some (.door, 999500000001) ∧ nowNs on < 999500000001 + guardedRun.safety.discrepancyTime .door * 1000000 ∧
    (∀ m ∈ (disagreeing 500000000).safety.mend, m.1 ≠ .door) ∧ (guardedRun.safety.pair .light).edmSince = none ∧ ((disagreeing 500000000).safety.pair .light).edmSince = some 999500000000 ∧
    999500000000 + guardedRun.safety.cfg.edmTime * 1000000 ≤ nowNs on ∧ (disagreeing 500000000).safety.edm .light = true ∧
    (disagreeing 500000000).safety.sfb .light = (((disagreeing 500000000).safety.pair .light).state == .run) := by decide +kernel

theorem witness_input_pulses :
    fedByB .estopA = some false ∧ guardedRun.safety.on .estopA = true ∧ inputUsed guardedRun.safety .estopA = true ∧ .estopA ∉ guardedRun.safety.pulseFails ∧
    ({ guardedRun with safety.pulseFails := [.estopA] } : State).safety.pulseFails = [.estopA] := by decide +kernel

/-- Both pairs wait for a press, the light curtain healthy or not; SRST is stuck or not. -/
def pressed (healthy stuck : Bool) : State :=
  let s := guarded .demand .interlock
  { s with safety := { s.safety with levels := setAt s.safety.levels 8 healthy, stuck := stuck, cfg := { s.safety.cfg with flags := 0xC0, motionSrc := fLc } } }

/-- What a press leaves of the levels, as the statement says it. -/
def offOf (s : State) : SafetyState := { s.safety with levels := setAt s.safety.levels 10 false, pressSince := none, offSince := nowNs s }

theorem witness_presses :
    (pressed true true).safety.stuck = true ∧ (pressed true false).safety.stuck = false ∧ (pressed true false).safety.pending = none ∧
    ((pressed false false).safety.pair .light).state = .demand ∧ (∀ p ∈ [OutPair.light, .motion], (offOf (pressed false false)).pressMoves (nowNs on) p = false) ∧
    (offOf (pressed true false)).pressMoves (nowNs on) .light = true ∧ (offOf (pressed true false)).sources .light &&& (offOf (pressed true false)).demandMask &&& fTwoHand = 0 := by decide +kernel

/-- A change waits for its press. -/
def pendingChange : SafetyChange := ⟨{}, .host, 3, nowNs on - 30000000000⟩
def confirming : State := { on with safety.pending := some pendingChange }

/-- SRST has been on for longer than 3 s; SRST was stuck and is off since 100 ms; the network has been silent for 5 s. -/
def longPress : State := { on with safety.pressSince := some (nowNs on - 3000000001) }
def stuckOff : State := { on with safety := { on.safety with stuck := true, offSince := nowNs on - 100000000 } }
def silent : State := { networked with safety := { networked.safety with netAt := some (nowNs on - 5000000000) } }

theorem witness_safety_timers :
    confirming.safety.pending = some pendingChange ∧ confirming.safety.stuck = false ∧ pendingChange.since + 30000000000 ≤ nowNs confirming ∧ on.safety.pressSince = none ∧
    longPress.safety.pressSince = some 996999999999 ∧ longPress.safety.stuck = false ∧ 996999999999 + 3000000000 < nowNs longPress ∧ on.safety.stuck = false ∧
    stuckOff.safety.stuck = true ∧ stuckOff.safety.on .srst = false ∧ stuckOff.safety.offSince + 100000000 ≤ nowNs stuckOff ∧ on.safety.netAt = none ∧ on.safety.uses fNet = false ∧
    silent.safety.netAt = some 995000000000 ∧ silent.safety.uses fNet = true ∧ silent.safety.netDemand = false ∧ 995000000000 + silent.safety.cfg.netTimeout * 1000000 ≤ nowNs silent ∧
    on.safety.pending = none := by decide +kernel

/-! ## Completions -/

theorem witness_packets_complete :
    (acc nopSpec (req []) on = true ∧ nopSpec.long (req []) = false ∧ nopSpec.apply = false ∧ (nopSpec.run (req []) (startOf (req []) on)).2 matches .done 0 []) ∧
    (let r := req [0, 0x0F, 0, 0x80, 0, 0x40, 0, 0x20, 0]
     acc backgroundSetSpec r on = true ∧ backgroundSetSpec.long r = false ∧ backgroundSetSpec.apply = true ∧
       (unitsAsked backgroundSetSpec r (startOf r on)).any (fun u => failed u.2) = false ∧ prm r 0 1 ≠ 1 ∧ prm (req [1, 0x0F]) 0 1 = 1) ∧
    (let r := req [0, 0, 0, 1] ; let s := addOp { req := r, code := 0x0400, state := 0, long := true } on
     bistRunSpec.long r = true ∧ longCount on < 16 ∧ (bistRunSpec.run r s).2 matches .accepted) := by decide +kernel

theorem witness_host_completes :
    hostService on = .full ∧ (0x82 : BitVec 8).toNat % 128 ∈ [0x00, 0x02, 0x03, 0x40, 0x41] ∧ (beginTransaction on).host.busy = false ∧ (beginTransaction on).fw.running = true ∧
    windowServed on = true ∧ regAt 0x010100 = some .servoGains ∧ regGated on .servoGains = false ∧ on.cmd.sessionKey = none ∧ portRegsOn on 0 = true ∧ checkGated on 0 = false ∧
    checkGated owned 0 = false ∧ (getCheck owned 0).run.isSome = true := by decide +kernel

theorem witness_network_completes :
    let own := frameOf on.fuse.mac 5 0x88B5
    own.length ≤ 9022 ∧ fcsOk own = true ∧ (bodyOf own).src ≠ on.fuse.mac ∧ isPtpEvent (bodyOf own) = false ∧ forwards on (otherPort .A) (bodyOf own) = false ∧
    loopOver (looped 10000000000) = true ∧ holdoverDue (timed fun t => { t with servo := .locked, lastSample := some (nowNs on - 2000000000) }) = true ∧
    holdoverLong (timed fun t => { t with servo := .holdover, holdoverSince := some (nowNs on - 30000000000) }) = true ∧
    (timed fun t => { t with servo := .locked }).power.rtcSetAt + 1000000000 ≤ nowNs on ∧ boundaryDue on = true := by decide +kernel

theorem witness_chain_completes :
    (getPort (missing true twoCells) 0).missingNow = true ∧ linkWatchDue on 0 = true ∧ (moving true).move = some ⟨0, .B, 0, true⟩ ∧
    farthestAnswers 0 .B (missing true (moving true)) = true ∧ boundaryDue (swapping true) = true ∧ on.chain.lastAgeSweep + 100000000 ≤ nowNs on := by decide +kernel

theorem witness_presentation_completes :
    transitDue (onItsWay true true) = true ∧ windowDue (onItsWay false false) = true ∧ regulationDue (startingRail 0) 0 true = true ∧
    regulationDue (startingRail 999900000000) 0 false = true ∧ staggerDue (startingRail 0) = some 1 ∧ overcurrentDue (overcurrent 999000000000) = true ∧
    ambientReadDue sensed = true ∧ ambientFallbackDue sensed = true ∧ (getRail railed 0).shunt ≤ 15 := by decide +kernel

theorem witness_temperature_completes :
    zoneUpdateDue on = true ∧ sensorReturns (sensorAs { status := .brokenByCheck, agreeSince := some (nowNs on - 60000000000) }) 0 = true ∧ shutdownEnds (shut true) = true ∧
    voltageDue unread 0 = true ∧ probationOver { on with fw.probation := some ⟨nowNs on - 600000000000, true, 1, 3⟩ } = true := by decide +kernel

theorem witness_power_completes :
    demandLowerDue (levelled 0 2 (some 999000000000)) = true ∧ (votedMem (some 1000000000000)).power.implicit.any (voteOver (votedMem (some 1000000000000))) = true ∧
    (inMode .nadir).power.mode = .nadir ∧ wakeEnabled (inMode .nadir) .wakeN = true ∧ wakePauseOver (wakingAt 3 1 none) = false ∧ wakeStepDone (wakingAt 3 1 none) = true ∧
    wakeStepLate (wakingAt 3 1 none) = true ∧ coresOn (restarting 0) = true ∧ probationLate unproven = true ∧ firmwareLate (restarting 2000000000) = true ∧
    nrstStuckDue (held 8000000000) = true ∧ supplyAtWork (rising 1 0) = true := by decide +kernel

/-! ## Frames -/

/-- Each row of the frame statements answers a next state, here of a tile that runs. -/
theorem witness_frames_of_rows : ∀ i : Instr, ∃ t, exec i on = .next t := fun i => by cases i <;> exact ⟨_, rfl⟩

theorem witness_light_leaves_run : guardedRun.safety.light.state = .run ∧ ∃ t, exec .heartbeatLoss guardedRun = .next t ∧ t.safety.light.state ≠ .run := by
  refine ⟨rfl, _, rfl, ?_⟩
  decide +kernel

end Sys2Proof.Tests
end

section
/-! PROOF. The self-test and the DRAM (01 R22, R24; 13): what a mark and a rebuilt row leave alone, what each row of the family answers
in each of its cases, and the statement assembled from them. -/

namespace Sys2Proof.Machine

/-! ## What a lost block leaves alone -/

/-- The state of the self-test and of the DRAM is as it was. -/
structure SelfTestAndDramKept (s t : State) : Prop where
  bist : t.bist = s.bist
  dram : t.dram = s.dram

theorem SelfTestAndDramKept.refl (s : State) : SelfTestAndDramKept s s := ⟨rfl, rfl⟩

theorem SelfTestAndDramKept.trans {s t u : State} (h : SelfTestAndDramKept t u) (g : SelfTestAndDramKept s t) :
    SelfTestAndDramKept s u := ⟨h.bist.trans g.bist, h.dram.trans g.dram⟩

theorem SelfTestAndDramKept.foldl {α : Type} {f : State → α → State} (h : ∀ t a, SelfTestAndDramKept t (f t a)) (l : List α)
    (s : State) : SelfTestAndDramKept s (l.foldl f s) := by
  induction l generalizing s with
  | nil => exact .refl s
  | cons a l ih => exact (ih (f s a)).trans (h s a)

/-- An answer or an alert touches neither. -/
theorem ReplyFrame.selfTestAndDram {s t : State} (h : ReplyFrame s t) : SelfTestAndDramKept s t := by
  unfold ReplyFrame at h
  exact ⟨by rw [h], by rw [h]⟩

theorem logAlert_selfTestAndDram (c e : Nat) (x : BitVec 64) (st d : Nat) (s : State) :
    SelfTestAndDramKept s (logAlert c e x st d s) := (logAlert_frame c e x st d s).selfTestAndDram

theorem raiseAlert_selfTestAndDram (c e : Nat) (x : BitVec 64) (st d : Nat) (n : Bool) (s : State) :
    SelfTestAndDramKept s (raiseAlert c e x st d n s) := (raiseAlert_frame c e x st d n s).selfTestAndDram

theorem addFault_selfTestAndDram (x : BitVec 64) (k d : Nat) (sup dbl : Bool) (s : State) :
    SelfTestAndDramKept s (addFault x k d sup dbl s) := by
  unfold addFault
  split
  · dsimp only
    split
    · exact ⟨rfl, rfl⟩
    · exact (raiseAlert_selfTestAndDram ..).trans ⟨rfl, rfl⟩
  · split
    · exact (raiseAlert_selfTestAndDram ..).trans ⟨rfl, rfl⟩
    · exact (logAlert_selfTestAndDram ..).trans ⟨rfl, rfl⟩

theorem recordLink_selfTestAndDram (l b : Nat) (dbl : Bool) (s : State) : SelfTestAndDramKept s (recordLink l b dbl s) := by
  unfold recordLink
  split
  · exact addFault_selfTestAndDram ..
  · exact .refl s

theorem markDead_selfTestAndDram (l h : Nat) (s : State) : SelfTestAndDramKept s (markDead l h s) := by
  refine (logAlert_selfTestAndDram ..).trans ?_
  split
  · exact (addFault_selfTestAndDram ..).trans ⟨rfl, rfl⟩
  · exact ⟨rfl, rfl⟩

theorem doubleFault_selfTestAndDram (l b : Nat) (s : State) : SelfTestAndDramKept s (doubleFault l b s) :=
  (raiseAlert_selfTestAndDram ..).trans <| (recordLink_selfTestAndDram ..).trans <|
    (SelfTestAndDramKept.foldl (fun t c => markDead_selfTestAndDram l (c + 1) t) _ _).trans ⟨rfl, rfl⟩

theorem beginMove_selfTestAndDram (l m : Nat) (gaining : Side) (link : Nat) (s : State) :
    SelfTestAndDramKept s (beginMove l m gaining link s) := ⟨rfl, rfl⟩

theorem failPort_selfTestAndDram (p : Nat) (s : State) : SelfTestAndDramKept s (failPort p s) := by
  have recorded (c : Prop) [Decidable c] (x : BitVec 64) (k d : Nat) (t : State) (h : SelfTestAndDramKept s t) :
      SelfTestAndDramKept s (if c then addFault x k d false false t else t) := by
    split
    · exact (addFault_selfTestAndDram ..).trans h
    · exact h
  unfold failPort
  split
  · exact .refl s
  · dsimp only
    split
    · exact recorded _ _ _ _ _ ⟨rfl, rfl⟩
    · split
      · exact (doubleFault_selfTestAndDram ..).trans (recorded _ _ _ _ _ ⟨rfl, rfl⟩)
      · exact (beginMove_selfTestAndDram ..).trans (recorded _ _ _ _ _ ⟨rfl, rfl⟩)

theorem setServo_selfTestAndDram (x : Servo) (s : State) : SelfTestAndDramKept s (setServo x s) := by
  have left : SelfTestAndDramKept s (if s.time.servo == .holdover then
      clearAlertDetail 0x01 0x01 (servoCode .holdover) (clearAlert 0x01 0x02 (tileTarget s)
        { s with time.holdoverSince := none, time.holdoverAlerted := false }) else s) := by
    split <;> exact ⟨rfl, rfl⟩
  unfold setServo
  split
  · exact .refl s
  · dsimp only
    split
    · exact (raiseAlert_selfTestAndDram ..).trans ⟨left.bist, left.dram⟩
    · exact (logAlert_selfTestAndDram ..).trans ⟨left.bist, left.dram⟩

theorem enterHoldover_selfTestAndDram (s : State) : SelfTestAndDramKept s (enterHoldover s) :=
  (setServo_selfTestAndDram ..).trans ⟨rfl, rfl⟩

theorem runBmca_selfTestAndDram (s : State) : SelfTestAndDramKept s (runBmca s) := by
  unfold runBmca
  dsimp only
  split
  · exact (enterHoldover_selfTestAndDram _).trans ⟨rfl, rfl⟩
  · exact ⟨rfl, rfl⟩

theorem setNet_selfTestAndDram (p : NetPort) (f : PortState → PortState) (s : State) : SelfTestAndDramKept s (setNet p f s) := by
  cases p <;> exact ⟨rfl, rfl⟩

theorem linkDown_selfTestAndDram (p : NetPort) (s : State) : SelfTestAndDramKept s (linkDown p s) := by
  have down := setNet_selfTestAndDram p (fun x => { x with link := false }) s
  unfold linkDown
  split
  · dsimp only
    split
    · exact (runBmca_selfTestAndDram _).trans ((raiseAlert_selfTestAndDram ..).trans ⟨down.bist, down.dram⟩)
    · exact (raiseAlert_selfTestAndDram ..).trans ⟨down.bist, down.dram⟩
  · exact .refl s

theorem breakSensor_selfTestAndDram (k : Nat) (x : SensorStatus) (s : State) : SelfTestAndDramKept s (breakSensor k x s) :=
  (raiseAlert_selfTestAndDram ..).trans ⟨rfl, rfl⟩

theorem loseInput_selfTestAndDram (k : Nat) (s : State) : SelfTestAndDramKept s (loseInput k s) := by
  refine .foldl (fun t i => ?_) _ s
  dsimp only
  split
  · exact breakSensor_selfTestAndDram ..
  · exact .refl t

/-- What an unusable block takes with it lies outside the self-test and the DRAM. -/
theorem loseBlock_selfTestAndDram (id : Nat) (s : State) : SelfTestAndDramKept s (loseBlock id s) := by
  unfold loseBlock
  split
  · exact failPort_selfTestAndDram ..
  · exact ⟨rfl, rfl⟩
  · exact linkDown_selfTestAndDram ..
  · exact loseInput_selfTestAndDram ..
  · exact .refl s

theorem judgeEssential_selfTestAndDram (s : State) : SelfTestAndDramKept s (judgeEssential s) := by
  unfold judgeEssential
  split <;> exact ⟨rfl, rfl⟩

/-- A mark is the change of the block's record; what follows from it leaves the self-test and the DRAM alone. -/
theorem markBlock_selfTestAndDram (id : Nat) (s : State) :
    SelfTestAndDramKept (modBlock id (fun b => { b with state := if essential id then 4 else 2, retestAt := none }) s)
      (markBlock id s) := by
  refine (judgeEssential_selfTestAndDram _).trans ?_
  split
  · exact raiseAlert_selfTestAndDram ..
  · exact (loseBlock_selfTestAndDram ..).trans (raiseAlert_selfTestAndDram ..)

theorem markBlock_dram (id : Nat) (s : State) : (markBlock id s).dram = s.dram := (markBlock_selfTestAndDram id s).dram

/-! ## The record of a block -/

theorem blockRec_congr {s t : State} (h : t.bist = s.bist) (id : Nat) : blockRec t id = blockRec s id := by
  unfold blockRec
  rw [h]

/-- A record is its own block's. -/
theorem blockRec_id (s : State) (id : Nat) : (blockRec s id).id = id := by
  unfold blockRec
  cases h : s.bist.records.find? (·.id == id) with
  | none => rfl
  | some b => simpa using List.find?_some h

/-- The record that was changed. -/
theorem blockRec_modBlock (id : Nat) (f : BlockRec → BlockRec) (s : State) (hf : ∀ b, (f b).id = b.id) :
    blockRec (modBlock id f s) id = f (blockRec s id) := by
  have hnew : (f (blockRec s id)).id = id := (hf _).trans (blockRec_id s id)
  have hold : (s.bist.records.filter (·.id != id)).find? (·.id == id) = none := by simp
  show ((s.bist.records.filter (·.id != id) ++ [f (blockRec s id)]).find? (·.id == id)).getD { id := id } = _
  rw [List.find?_append, hold]
  simp [hnew]

theorem blockRec_markBlock (id : Nat) (s : State) :
    blockRec (markBlock id s) id = { blockRec s id with state := if essential id then 4 else 2, retestAt := none } :=
  (blockRec_congr (markBlock_selfTestAndDram id s).bist id).trans (blockRec_modBlock id _ s fun _ => rfl)

/-! ## Saturated counts -/

theorem satN_eq_min (hi n : Nat) : satN hi n = min hi n := by
  unfold satN
  split <;> omega

theorem inc16_eq_min (n : Nat) : inc16 n = min 0xFFFF (n + 1) := satN_eq_min ..
theorem inc32_eq_min (n : Nat) : inc32 n = min 0xFFFFFFFF (n + 1) := satN_eq_min ..

/-! ## The rows of the self-test (13 R309, R311) -/

/-- A command has the properties of the state that it answers. -/
theorem effect_of_exec {i : Instr} {s t : State} {P : State → Prop} (h : exec i s = .next t) (hp : P t) : Effect i s P :=
  ⟨t, h, hp⟩

theorem exec_bistSlice (pass : Bool) (s : State) :
    exec (.bistSlice pass) s = .next (if bistRuns s then runSlice pass s else s) := rfl

theorem bistSlice_outside {s : State} (pass : Bool) (h : bistRuns s = false) : NoEffect (.bistSlice pass) s := by
  rw [NoEffect, exec_bistSlice, h]; rfl

theorem bistSlice_runs {s t : State} (pass : Bool) (h : bistRuns s = true) (ht : runSlice pass s = t) :
    Effect (.bistSlice pass) s (· = t) := ⟨_, exec_bistSlice pass s, by rw [if_pos h, ht]⟩

theorem runSlice_refused {s : State} (pass : Bool) (h : s.ledger.refuseWork = true) :
    runSlice pass s = { s with bist := { s.bist with refused := min 0xFFFF (s.bist.refused + 1) } } := by
  rw [runSlice, if_pos h, inc16_eq_min]

theorem runSlice_operation {s : State} (pass : Bool) {o : BistOp} {rest : List BistOp} (hw : s.ledger.refuseWork = false)
    (ho : s.bist.ops = o :: rest) : runSlice pass s = opSlice o pass s := by
  simp only [runSlice, hw, ho, Bool.false_eq_true, if_false]

theorem runSlice_cycle {s : State} (pass : Bool) (hw : s.ledger.refuseWork = false) (ho : s.bist.ops = []) :
    runSlice pass s = if cycleDue s then cycleSlice pass s else s := by
  simp only [runSlice, hw, ho, Bool.false_eq_true, if_false]

/-- Without an operation and without a slice due the command does nothing, whether or not self-test runs. -/
theorem bistSlice_idle {s : State} (pass : Bool) (ho : s.bist.ops = []) (hc : cycleDue s = false)
    (hw : s.ledger.refuseWork = false) : NoEffect (.bistSlice pass) s := by
  rw [NoEffect, exec_bistSlice, runSlice_cycle pass hw ho, hc]
  simp only [Bool.false_eq_true, if_false, ite_self]

theorem bistRetest_notDue {s : State} (block : Nat) (pass : Bool) (h : bistRuns s = false ∨ retestDue s block = false) :
    NoEffect (.bistRetest block pass) s := by
  have hc : (bistRuns s && retestDue s block) = false := Bool.and_eq_false_iff.2 h
  show execBistRetest block pass s = _
  rw [execBistRetest, hc]; rfl

theorem exec_bistRetest_pass {s : State} (block : Nat) (hr : bistRuns s = true) (hd : retestDue s block = true) :
    exec (.bistRetest block true) s = .next (logAlert 0x0A 0x01 (tileTarget s) 0 block
      (modBlock block (fun b => { b with state := 0, retestAt := none, failedNow := false, lastPass := nowSeconds s }) s)) := by
  show execBistRetest block true s = _
  rw [execBistRetest, hr, hd]; rfl

theorem exec_bistRetest_fail {s : State} (block : Nat) (hr : bistRuns s = true) (hd : retestDue s block = true) :
    exec (.bistRetest block false) s = .next (markBlock block
      (modBlock block (fun b => { b with failures := inc16 b.failures, lastFail := nowSeconds s }) s)) := by
  show execBistRetest block false s = _
  rw [execBistRetest, hr, hd]; rfl

theorem bistRetest_passed {s : State} (block : Nat) (hr : bistRuns s = true) (hd : retestDue s block = true) :
    Effect (.bistRetest block true) s fun t =>
      (blockRec t block).state = 0 ∧ (blockRec t block).retestAt = none ∧ (blockRec t block).lastPass = nowSeconds s := by
  refine effect_of_exec (exec_bistRetest_pass block hr hd) ?_
  rw [blockRec_congr (logAlert_selfTestAndDram ..).bist, blockRec_modBlock]
  · exact ⟨rfl, rfl, rfl⟩
  · exact fun _ => rfl

theorem bistRetest_failed {s : State} (block : Nat) (hr : bistRuns s = true) (hd : retestDue s block = true) :
    Effect (.bistRetest block false) s fun t =>
      (blockRec t block).state = (if essential block then 4 else 2) ∧ (blockRec t block).retestAt = none ∧
      (blockRec t block).failures = min 0xFFFF ((blockRec s block).failures + 1) := by
  refine effect_of_exec (exec_bistRetest_fail block hr hd) ?_
  rw [blockRec_markBlock, blockRec_modBlock]
  · exact ⟨rfl, rfl, inc16_eq_min _⟩
  · exact fun _ => rfl

theorem bistCycleOverrun_notDue {s : State} (h : s.fw.running = false ∨ overrunDue s = false) :
    NoEffect .bistCycleOverrun s := by
  have hc : (s.fw.running && overrunDue s) = false := Bool.and_eq_false_iff.2 h
  show execBistCycleOverrun s = _
  rw [execBistCycleOverrun, hc]; rfl

theorem bistCycleOverrun_counted {s : State} (hf : s.fw.running = true) (hd : overrunDue s = true) :
    Effect .bistCycleOverrun s fun t =>
      t.bist.overruns = min 0xFFFF (s.bist.overruns + 1) ∧ t.bist.overrunLogged = true := by
  refine effect_of_exec (t := logAlert 0x0A 0x04 (tileTarget s) 0 (inc16 s.bist.overruns)
    { s with bist.overruns := inc16 s.bist.overruns, bist.overrunLogged := true }) ?_ ?_
  · show execBistCycleOverrun s = _
    rw [execBistCycleOverrun, hf, hd]; rfl
  · rw [(logAlert_selfTestAndDram ..).bist]
    exact ⟨inc16_eq_min _, rfl⟩

/-! ## Reads of the DRAM (01 R22) -/

theorem dramCorrectedRead_outside {s : State} (a : Nat) (flips : List (Fin 72)) (h : dramPowered s = false ∨ dramSize ≤ a) :
    NoEffect (.dramCorrectedRead a flips) s := by
  have hc : (dramPowered s && decide (a < dramSize)) = false :=
    Bool.and_eq_false_iff.2 (h.imp_right fun ha => decide_eq_false (Nat.not_lt.2 ha))
  show execDramCorrectedRead a flips s = _
  rw [execDramCorrectedRead, hc]; rfl

/-- A read with up to two wrong bits does what the ECC finds in the word. -/
theorem exec_dramCorrectedRead {s : State} (a : Nat) (flips : List (Fin 72)) (hp : dramPowered s = true) (ha : a < dramSize)
    (hf : flips.eraseDups.length ≤ 2) :
    exec (.dramCorrectedRead a flips) s =
      .next (takeRead (a / 8 * 8) (eccRead (dramWord s (a / 8 * 8)) flips.eraseDups) s) := by
  show execDramCorrectedRead a flips s = _
  rw [execDramCorrectedRead, hp, decide_eq_true ha, readDram, if_pos hf]; rfl

/-- A word written back changes the bytes of the DRAM alone. -/
theorem writeBack_eq (w : Nat) (d : BitVec 64) (s : State) :
    ∃ m, writeBack w d s = { s with dram := { s.dram with mem := m } } := by
  unfold writeBack
  split
  · exact ⟨_, rfl⟩
  · exact ⟨s.dram.mem, rfl⟩

theorem noteCorrection_dram (w : Nat) (s : State) : (noteCorrection w s).dram = { s.dram with
    corrected := inc32 s.dram.corrected
    corrections := (s.dram.corrections.filter fun x => nowNs s < x.2 + 3600000000000 && x.1 != w) ++ [(w, nowNs s)] } :=
  (raiseAlert_selfTestAndDram ..).dram

theorem takeRead_corrected (w : Nat) (d : BitVec 64) (s : State) :
    (takeRead w (.corrected d) s).dram.corrected = min 0xFFFFFFFF (s.dram.corrected + 1) ∧
      (w, nowNs s) ∈ (takeRead w (.corrected d) s).dram.corrections := by
  obtain ⟨m, hm⟩ := writeBack_eq w d s
  rw [takeRead, hm, noteCorrection_dram]
  exact ⟨inc32_eq_min _, List.mem_append_right _ (List.mem_singleton_self _)⟩

/-! ## What rebuilding a row leaves of the rows' lists -/

/-- The remapped and the withdrawn rows are as they were. -/
structure RowsKept (s t : State) : Prop where
  remapped : t.dram.remapped = s.dram.remapped
  withdrawn : t.dram.withdrawn = s.dram.withdrawn

theorem RowsKept.refl (s : State) : RowsKept s s := ⟨rfl, rfl⟩

theorem RowsKept.trans {s t u : State} (h : RowsKept t u) (g : RowsKept s t) : RowsKept s u :=
  ⟨h.remapped.trans g.remapped, h.withdrawn.trans g.withdrawn⟩

theorem SelfTestAndDramKept.rows {s t : State} (h : SelfTestAndDramKept s t) : RowsKept s t :=
  ⟨by rw [h.dram], by rw [h.dram]⟩

theorem loseWords_rows (a n : Nat) (s : State) : RowsKept s (loseWords a n s) := by
  unfold loseWords
  split <;> exact ⟨rfl, rfl⟩

theorem loseBank_rows (k : Nat) (s : State) : RowsKept s (loseBank k s) := by
  unfold loseBank
  split
  · exact .refl s
  · exact (raiseAlert_selfTestAndDram ..).rows.trans ⟨rfl, rfl⟩

theorem dramWrite_rows (a : Nat) (bs : List Byte) (s : State) : RowsKept s (dramWrite a bs s) := ⟨rfl, rfl⟩

theorem rebuildAging_rows (a : Nat) (s : State) : RowsKept s (rebuildAging a s) := dramWrite_rows ..

theorem rebuildInUse_rows (k a : Nat) (s : State) : RowsKept s (rebuildInUse k a s) := by
  unfold rebuildInUse
  split
  · exact dramWrite_rows ..
  · exact (loseBank_rows ..).trans (loseWords_rows ..)

/-- Each region is rebuilt by its own rule, and none moves a row (01 Tables 1-4, 1-5). -/
theorem rebuildRow_rows (a : Nat) (s : State) : RowsKept s (rebuildRow a s) := by
  have bank (k : Nat) : RowsKept s (if s.almanac.inForce = some k then rebuildInUse k a s else loseBank k s) := by
    split
    · exact rebuildInUse_rows ..
    · exact loseBank_rows ..
  unfold rebuildRow
  split
  · exact bank 0
  split
  · exact bank 1
  split
  · exact rebuildAging_rows ..
  split
  · exact ⟨rfl, rfl⟩
  split
  · exact ⟨rfl, rfl⟩
  · exact .refl s

/-! ## Rows that fail (01 R24) -/

theorem dramRowRemap_notDue {s : State} (die : Fin 2) (row : Nat)
    (h : dramPowered s = false ∨ rowExists row = false ∨ rowFails s die.val row = false) :
    NoEffect (.dramRowRemap die row) s := by
  have hc : (dramPowered s && rowExists row && rowFails s die.val row) = false := by
    rwa [Bool.and_eq_false_iff, Bool.and_eq_false_iff, or_assoc]
  show execDramRowRemap die row s = _
  rw [execDramRowRemap, hc]; rfl

theorem exec_dramRowRemap {s : State} (die : Fin 2) (row : Nat) (hp : dramPowered s = true) (he : rowExists row = true)
    (hf : rowFails s die.val row = true) : exec (.dramRowRemap die row) s = .next (remapRow die.val row s) := by
  show execDramRowRemap die row s = _
  rw [execDramRowRemap, hp, he, hf]; rfl

theorem remapRow_toSpare {s : State} (die row : Nat) (h : sparesUsed s die < spareRows s die) :
    (remapRow die row s).dram.remapped = s.dram.remapped ++ [(die, row)] ∧
      (remapRow die row s).dram.withdrawn = s.dram.withdrawn := by
  rw [remapRow, if_pos h]
  obtain ⟨hr, hw⟩ := (raiseAlert_selfTestAndDram ..).rows.trans (rebuildRow_rows ..)
  exact ⟨hr, hw⟩

theorem remapRow_withoutSpare {s : State} (die row : Nat) (h : spareRows s die ≤ sparesUsed s die) :
    (remapRow die row s).dram.withdrawn = s.dram.withdrawn ++ [(die, row)] ∧
      (remapRow die row s).dram.remapped = s.dram.remapped := by
  rw [remapRow, if_neg (Nat.not_lt.2 h), markBlock_dram]
  obtain ⟨hr, hw⟩ := loseWords_rows ..
  exact ⟨hw, hr⟩

theorem dramRowRemap_toSpare {s : State} (die : Fin 2) (row : Nat) (hp : dramPowered s = true) (he : rowExists row = true)
    (hf : rowFails s die.val row = true) (h : sparesUsed s die.val < spareRows s die.val) :
    Effect (.dramRowRemap die row) s fun t => (die.val, row) ∈ t.dram.remapped ∧ t.dram.withdrawn = s.dram.withdrawn := by
  obtain ⟨hr, hw⟩ := remapRow_toSpare die.val row h
  exact ⟨_, exec_dramRowRemap die row hp he hf, by rw [hr]; exact List.mem_append_right _ (List.mem_singleton_self _), hw⟩

theorem dramRowRemap_withoutSpare {s : State} (die : Fin 2) (row : Nat) (hp : dramPowered s = true) (he : rowExists row = true)
    (hf : rowFails s die.val row = true) (h : spareRows s die.val ≤ sparesUsed s die.val) :
    Effect (.dramRowRemap die row) s fun t => (die.val, row) ∈ t.dram.withdrawn ∧ t.dram.remapped = s.dram.remapped := by
  obtain ⟨hw, hr⟩ := remapRow_withoutSpare die.val row h
  exact ⟨_, exec_dramRowRemap die row hp he hf, by rw [hw]; exact List.mem_append_right _ (List.mem_singleton_self _), hr⟩

/-! ## Scrub and self-refresh (01 R22, R27) -/

theorem exec_dramScrub (s : State) :
    exec .dramScrub s = .next (if dramPowered s then { s with dram.scrubbedAt := nowNs s } else s) := rfl

theorem exec_selfRefreshEntry (s : State) :
    exec .selfRefreshEntry s = .next (if dramPowered s && refreshAllowed s then { s with dram.selfRefresh := true } else s) := rfl

theorem exec_selfRefreshExit (s : State) :
    exec .selfRefreshExit s = .next (if dramPowered s then { s with dram.selfRefresh := false } else s) := rfl

theorem selfRefreshEntry_notAllowed {s : State} (h : dramPowered s = false ∨ refreshAllowed s = false) :
    NoEffect .selfRefreshEntry s := by
  have hc : (dramPowered s && refreshAllowed s) = false := Bool.and_eq_false_iff.2 h
  rw [NoEffect, exec_selfRefreshEntry, hc]; rfl

/-! ## The statement -/

/-- Settles O45: each clause is the lemma about its row above. -/
theorem selfTestAndDramRows : Obligations.SelfTestAndDramRows := by
  unfold Obligations.SelfTestAndDramRows
  refine ⟨fun s => ⟨?outside, ?refused, ?operation, ?cycle, ?idle, ?notDue, ?passed, ?failed, ?noOverrun, ?overrun⟩,
    fun s => ⟨?unread, ?read, ?noRemap, ?spare, ?noSpare, ?powered, ?unpowered⟩⟩
  case outside => exact fun pass h => bistSlice_outside pass h
  case refused => exact fun pass h hw => bistSlice_runs pass h (runSlice_refused pass hw)
  case operation => exact fun pass o rest h hw ho => bistSlice_runs pass h (runSlice_operation pass hw ho)
  case cycle => exact fun pass h hw ho hc => bistSlice_runs pass h ((runSlice_cycle pass hw ho).trans (if_pos hc))
  case idle => exact fun pass ho hc hw => bistSlice_idle pass ho hc hw
  case notDue => exact fun block pass h => bistRetest_notDue block pass h
  case passed => exact fun block hr hd => bistRetest_passed block hr hd
  case failed => exact fun block hr hd => bistRetest_failed block hr hd
  case noOverrun => exact bistCycleOverrun_notDue
  case overrun => exact bistCycleOverrun_counted
  case unread => exact fun a flips h => dramCorrectedRead_outside a flips h
  case read =>
    intro a flips hp ha hf
    have hx := exec_dramCorrectedRead a flips hp ha hf
    refine ⟨fun h => ?_, fun d h => ?_, fun h => ?_⟩ <;> rw [h] at hx
    · exact hx
    · exact ⟨_, hx, takeRead_corrected _ d s⟩
    · exact ⟨_, hx, rfl⟩
  case noRemap => exact fun die row h => dramRowRemap_notDue die row h
  case spare => exact fun die row hp he hf h => dramRowRemap_toSpare die row hp he hf h
  case noSpare => exact fun die row hp he hf h => dramRowRemap_withoutSpare die row hp he hf h
  case powered =>
    intro hp
    refine ⟨⟨_, exec_dramScrub s, if_pos hp⟩, fun ha => ⟨_, exec_selfRefreshEntry s, if_pos (by rw [hp, ha]; rfl)⟩,
      fun ha => selfRefreshEntry_notAllowed (.inr ha), ⟨_, exec_selfRefreshExit s, if_pos hp⟩⟩
  case unpowered =>
    intro hp
    refine ⟨?_, selfRefreshEntry_notAllowed (.inl hp), ?_⟩
    · rw [NoEffect, exec_dramScrub, hp]; rfl
    · rw [NoEffect, exec_selfRefreshExit, hp]; rfl

end Sys2Proof.Machine
end

section
/-! PROOF. The command engine (02 R57, R62, R72): what an answer keeps of the operations on record, what the row of an opcode comes to,
and the packets that are scheduled, that wait for a domain, and that are one long operation too many. -/

namespace Sys2Proof.Machine

/-! ## What an answer leaves of the command engine's state -/

@[simp] theorem sendUdp_cmd (dst dport sport : Nat) (b : List Byte) (s : State) : (sendUdp dst dport sport b s).cmd = s.cmd := by
  unfold sendUdp
  dsimp only
  split <;> rfl

@[simp] theorem deliver_cmd (src : Source) (tag : Nat) (b : List Byte) (s : State) : (deliver src tag b s).cmd = s.cmd := by
  cases src with
  | host => rfl
  | net ip port => exact sendUdp_cmd ..

@[simp] theorem sendAlert_cmd (a : Alert) (s : State) : (sendAlert a s).cmd = s.cmd := by
  unfold sendAlert
  split
  · rfl
  · exact sendUdp_cmd ..

/-- The operations on record are as they were, and the source table has the same entries, changed. -/
structure EngineKept (s t : State) : Prop where
  longOps : t.cmd.longOps = s.cmd.longOps
  sources : ∃ f, t.cmd.sources = s.cmd.sources.map f

theorem EngineKept.refl (s : State) : EngineKept s s := ⟨rfl, id, (List.map_id _).symm⟩

theorem EngineKept.trans {s t u : State} (h : EngineKept t u) (g : EngineKept s t) : EngineKept s u := by
  obtain ⟨f, hf⟩ := h.sources
  obtain ⟨k, hk⟩ := g.sources
  exact ⟨h.longOps.trans g.longOps, f ∘ k, by rw [hf, hk, List.map_map]⟩

theorem EngineKept.of_cmd {s t : State} (h : t.cmd = s.cmd) : EngineKept s t :=
  ⟨by rw [h], id, by rw [h, List.map_id]⟩

theorem modSource_engine (src : Source) (f : SourceEntry → SourceEntry) (s : State) : EngineKept s (modSource src f s) := ⟨rfl, _, rfl⟩

theorem deliver_engine (src : Source) (tag : Nat) (b : List Byte) (s : State) : EngineKept s (deliver src tag b s) :=
  .of_cmd (deliver_cmd ..)

theorem addAlert_engine (a : Alert) (s : State) : EngineKept s (addAlert a s) := by
  unfold addAlert recordAlert
  split
  · split
    · exact (EngineKept.of_cmd (sendAlert_cmd ..)).trans ⟨rfl, (EngineKept.refl s).sources⟩
    · exact ⟨rfl, (EngineKept.refl s).sources⟩
  · exact ⟨rfl, (EngineKept.refl s).sources⟩

theorem logBroadcast_engine (x : BitVec 64) (st : Nat) (s : State) : EngineKept s (logBroadcast x st s) := by
  unfold logBroadcast
  split
  · exact addAlert_engine ..
  · exact .refl s

theorem sendReply_engine (c : Nat) (r : Req) (st : Nat) (res : List Byte) (s : State) : EngineKept s (sendReply c r st res s) := by
  unfold sendReply
  split
  · exact (deliver_engine ..).trans (modSource_engine ..)
  · exact deliver_engine ..

/-- An answer changes no operation on record, and neither adds nor removes a source. -/
theorem answer_engine (c : Nat) (r : Req) (st : Nat) (res : List Byte) (s : State) : EngineKept s (answer c r st res s) := by
  unfold answer
  split
  · exact (modSource_engine ..).trans (logBroadcast_engine ..)
  split
  · exact sendReply_engine ..
  · exact modSource_engine ..

theorem answer_longOps (c : Nat) (r : Req) (st : Nat) (res : List Byte) (s : State) :
    (answer c r st res s).cmd.longOps = s.cmd.longOps := (answer_engine ..).longOps

theorem ReplyFrame.ephemeris {s t : State} (h : ReplyFrame s t) : t.cmd.ephemeris = s.cmd.ephemeris := by
  unfold ReplyFrame at h
  rw [h]

/-- Results that fit a reply are answered at once (18 R404). -/
theorem answerLarge_nil (c : Nat) (r : Req) (st : Nat) (s : State) : answerLarge c r st [] s = answer c r st [] s :=
  if_pos (Nat.zero_le _)

/-! ## The row of an opcode (02 Table 2-8) -/

/-- Every row that a command packet carries is its opcode's packet through steps 7 to 12: so reads each row's arm of the dispatch. -/
theorem exec_packet {i : Instr} {o : OpSpec} {r : Req} (s : State) (h : packetOf i = some (o, r)) :
    exec i s = .next (runPacket (period s) o r s) := by
  cases i <;> cases h <;> rfl

/-- A packet that passes steps 7 to 11 while firmware runs goes on to step 12. -/
theorem runPacket_checked {o : OpSpec} {r : Req} {s : State} (p : Period) (hf : s.fw.running = true) (hp : preChecks o r s = St.ok) :
    runPacket p o r s = acceptOp p o r s := by
  rw [runPacket, hf, if_pos hp]
  rfl

/-- A packet of a long-running opcode that is accepted begins its operation. -/
theorem runPacket_long {o : OpSpec} {r : Req} {s : State} (p : Period) (h : Accepted o r s) (hl : o.long r = true) :
    runPacket p o r s = beginLong o r s := by
  obtain ⟨hf, hp, hs, hd⟩ := h
  rw [runPacket_checked p hf hp, acceptOp, hs, hd]
  exact if_pos hl

theorem beginLong_full {o : OpSpec} {r : Req} {s : State} (h : 16 ≤ longCount s) : beginLong o r s = answer o.code r St.busy [] s :=
  if_pos h

theorem runPacket_asleep {o : OpSpec} {r : Req} {s : State} (p : Period) (hf : s.fw.running = true) (hp : preChecks o r s = St.ok)
    (hs : r.sched = none) (hd : asleep o r s ≠ []) : runPacket p o r s = awaitWake o r s := by
  rw [runPacket_checked p hf hp, acceptOp, hs]
  exact if_pos (by simpa using hd)

theorem runPacket_scheduled {o : OpSpec} {r : Req} {s : State} (p : Period) {at_ : Nat} (hf : s.fw.running = true)
    (hp : preChecks o r s = St.ok) (hs : r.sched = some at_) : runPacket p o r s = schedule p o r at_ s := by
  rw [runPacket_checked p hf hp, acceptOp, hs]

/-! ## Commands to the cells leave the command engine alone -/

@[simp] theorem sendCommand_cmd (p : Nat) (c : CellCommand) (s : State) : (sendCommand p c s).cmd = s.cmd := by
  unfold sendCommand portSend
  split
  · rfl
  · dsimp only
    split <;> rfl

@[simp] theorem commandTo_cmd (l c op reg : Nat) (ws : List Nat) (s : State) : (commandTo l c op reg ws s).cmd = s.cmd := sendCommand_cmd ..

/-- A part of the state that each operation of a fold keeps is kept by the fold. -/
theorem foldl_keeps {α β : Type} (part : State → β) {f : State → α → State} (h : ∀ t a, part (f t a) = part t) (l : List α) (s : State) :
    part (l.foldl f s) = part s := by
  induction l generalizing s with
  | nil => rfl
  | cons a l ih => exact (ih (f s a)).trans (h s a)

theorem stageCells_cmd (r : Req) (s : State) : (stageCells r s).cmd = s.cmd := foldl_keeps State.cmd (fun _ _ => commandTo_cmd ..) _ _

/-- What a staging does outside the command engine: of all the rows CELL_CONFIG alone writes, to its cells. -/
theorem staged_cmd {i : Instr} {o : OpSpec} {r : Req} (s : State) (h : packetOf i = some (o, r)) : (o.staged r s).cmd = s.cmd := by
  cases i
  case cellConfig => cases h; exact stageCells_cmd ..
  all_goals cases h <;> rfl

/-! ## Implicit votes and operations on record (02 R62, R72) -/

/-- The state with implicit votes for a list of domains changes in these votes alone. -/
theorem foldl_addImplicit_eq (r : Req) (ds : List Domain) (s : State) :
    ∃ vs, ds.foldl (fun t d => addImplicit r d t) s = { s with power.implicit := s.power.implicit ++ vs } := by
  induction ds generalizing s with
  | nil => exact ⟨[], by simp⟩
  | cons d ds ih =>
    have one : ∃ vs, addImplicit r d s = { s with power.implicit := s.power.implicit ++ vs } := by
      unfold addImplicit
      split
      · exact ⟨[], by simp⟩
      · exact ⟨_, rfl⟩
    obtain ⟨vs, hv⟩ := one
    obtain ⟨ws, hw⟩ := ih (addImplicit r d s)
    exact ⟨vs ++ ws, by rw [List.foldl_cons, hw, hv, List.append_assoc]⟩

theorem addImplicit_votes (r : Req) (d : Domain) (s : State) :
    ∃ v ∈ (addImplicit r d s).power.implicit, v.domain = d ∧ v.src = r.src ∧ v.tag = r.tag := by
  unfold addImplicit
  split
  · rename_i h
    obtain ⟨v, hv, hvd⟩ := List.any_eq_true.1 h
    exact ⟨v, hv, by simpa [and_assoc] using hvd⟩
  · exact ⟨_, List.mem_append_right _ (List.mem_singleton_self _), rfl, rfl, rfl⟩

/-- Each domain of the list has its implicit vote. -/
theorem foldl_addImplicit_votes (r : Req) (ds : List Domain) (s : State) :
    ∀ d ∈ ds, ∃ v ∈ (ds.foldl (fun t d => addImplicit r d t) s).power.implicit, v.domain = d ∧ v.src = r.src ∧ v.tag = r.tag := by
  induction ds generalizing s with
  | nil => exact fun d h => nomatch h
  | cons a ds ih =>
    intro d hd
    rcases List.mem_cons.1 hd with rfl | hd
    · obtain ⟨vs, hvs⟩ := foldl_addImplicit_eq r ds (addImplicit r d s)
      obtain ⟨v, hv, hvd⟩ := addImplicit_votes r d s
      exact ⟨v, by rw [List.foldl_cons, hvs]; exact List.mem_append_left _ hv, hvd⟩
    · exact ih _ d hd

/-- A new record is on the list. -/
theorem mem_addOp (o : LongOp) (s : State) : o ∈ (addOp o s).cmd.longOps := List.mem_append_right _ (List.mem_singleton_self _)

theorem isOp_self (o : LongOp) : isOp o.req.src o.req.tag o = true := by simp [isOp]

/-! ## A packet that needs a sleeping domain (02 R72) -/

/-- The state in which the ACCEPTED reply of a waiting packet goes out. -/
def waitingState (o : OpSpec) (r : Req) (s : State) : State :=
  let s2 := addOp { req := r, code := o.code, state := 3, long := o.long r } ((asleep o r s).foldl (fun t d => addImplicit r d t) s)
  { s2 with cmd.waiting := s2.cmd.waiting ++ [⟨o.code, r, (asleep o r s).headD .always, none⟩] }

theorem awaitWake_waits {o : OpSpec} {r : Req} {s : State} (h : o.long r = false ∨ longCount s < 16) :
    awaitWake o r s = answer o.code r St.accepted (u32 (packetLatency s (asleep o r s))) (waitingState o r s) := by
  have room : ¬ (o.long r && 16 ≤ longCount s) = true := by
    rcases h with h | h
    · simp [h]
    · simp [Nat.not_le.2 h]
  exact if_neg room

theorem awaitWake_effect {o : OpSpec} {r : Req} {s t : State} (h : o.long r = false ∨ longCount s < 16) (ht : t = awaitWake o r s) :
    t.cmd.waiting = s.cmd.waiting ++ [⟨o.code, r, (asleep o r s).headD .always, none⟩] ∧
    (∀ d ∈ asleep o r s, ∃ v ∈ t.power.implicit, v.domain = d ∧ v.src = r.src ∧ v.tag = r.tag) ∧
    (∃ op ∈ t.cmd.longOps, isOp r.src r.tag op = true ∧ op.state = 3) ∧
    t = { s with
      cmd := t.cmd
      host := t.host
      net := { s.net with tx := t.net.tx, wire := t.net.wire }
      power := { s.power with implicit := t.power.implicit } } := by
  have frame := answer_frame o.code r St.accepted (u32 (packetLatency s (asleep o r s))) (waitingState o r s)
  have ops := answer_longOps o.code r St.accepted (u32 (packetLatency s (asleep o r s))) (waitingState o r s)
  rw [← awaitWake_waits h, ← ht] at frame ops
  obtain ⟨vs, hvs⟩ := foldl_addImplicit_eq r (asleep o r s) s
  have votes := foldl_addImplicit_votes r (asleep o r s) s
  have waiting : t.cmd.waiting = (waitingState o r s).cmd.waiting := by rw [frame]
  have power : t.power = (waitingState o r s).power := by rw [frame]
  refine ⟨?_, ?_, ?_, ?_⟩
  · rw [waiting, waitingState, hvs]; rfl
  · rw [power]; exact votes
  · exact ⟨_, by rw [ops]; exact mem_addOp .., isOp_self _, rfl⟩
  · rw [frame, waitingState, hvs]; rfl

/-! ## A scheduled packet (02 R48, 03 R97, R98) -/

/-- The entry that a scheduled packet takes. -/
def scheduledEntry (p : Period) (o : OpSpec) (r : Req) (at_ : Nat) (s : State) : EphEntry :=
  let us := if o.apply && !o.long r then lockUnits r.src (o.units r s) s else []
  let want := p.boundaryAfter at_
  let n := readyBoundary p s 65536 (max want (p.frameOf (nowNs s)))
  { index := freeIndex s, code := o.code, req := r, srcIndex := sourceIndex r.src s, time := at_, arrival := nowNs s, boundary := n,
    loaded := false, state := if (asleep o r s).isEmpty then 1 else 2, late := n != want, units := stagedOf o.code r us,
    domains := o.domains r s }

/-- The state in which the ACCEPTED reply of a scheduled packet goes out. -/
def scheduledState (p : Period) (o : OpSpec) (r : Req) (at_ : Nat) (s : State) : State :=
  let e := scheduledEntry p o r at_ s
  let ds := asleep o r s
  let kept := if o.apply && !o.long r then replaceHeld r.src e.units (o.staged r s) else s
  let s2 := addOp { req := r, code := o.code, state := 3, long := o.long r, late := e.late } (ds.foldl (fun x d => addImplicit r d x) kept)
  { s2 with
    cmd.ephemeris := s2.cmd.ephemeris ++ [e]
    cmd.waiting := if ds.isEmpty then s2.cmd.waiting else s2.cmd.waiting ++ [⟨o.code, r, ds.headD .always, some e⟩] }

/-- A scheduled packet whose units stage, with room among the long operations, takes its entry. -/
theorem schedule_takesEntry {o : OpSpec} {r : Req} {at_ : Nat} {s : State} (p : Period)
    (hu : (unitsAsked o r s).any (fun u => failed u.2) = false) (hc : longCount s < 16) :
    schedule p o r at_ s = answer o.code r St.accepted (if (asleep o r s).isEmpty then [] else u32 (packetLatency s (asleep o r s)))
      (scheduledState p o r at_ s) := by
  have units : ¬ ((if o.apply && !o.long r then lockUnits r.src (o.units r s) s else []).any fun u => failed u.2) = true := by
    split
    · exact Bool.eq_false_iff.1 hu
    · exact Bool.false_ne_true
  have room : ¬ (o.long r && 16 ≤ longCount s) = true := by simp [Nat.not_le.2 hc]
  exact (if_neg units).trans (if_neg room)

theorem scheduledState_ephemeris {o : OpSpec} {r : Req} {at_ : Nat} {s : State} (p : Period) (h : (o.staged r s).cmd = s.cmd) :
    (scheduledState p o r at_ s).cmd.ephemeris = s.cmd.ephemeris ++ [scheduledEntry p o r at_ s] := by
  have kept : (if o.apply && !o.long r then replaceHeld r.src (scheduledEntry p o r at_ s).units (o.staged r s) else s).cmd.ephemeris =
      s.cmd.ephemeris := by
    split
    · show (o.staged r s).cmd.ephemeris = _
      rw [h]
    · rfl
  obtain ⟨vs, hvs⟩ := foldl_addImplicit_eq r (asleep o r s)
    (if o.apply && !o.long r then replaceHeld r.src (scheduledEntry p o r at_ s).units (o.staged r s) else s)
  rw [scheduledState, hvs]
  exact congrArg (· ++ _) kept

theorem schedule_effect {o : OpSpec} {r : Req} {at_ : Nat} {s : State} (p : Period) (h : (o.staged r s).cmd = s.cmd)
    (hu : (unitsAsked o r s).any (fun u => failed u.2) = false) (hc : longCount s < 16) :
    (schedule p o r at_ s).cmd.ephemeris = s.cmd.ephemeris ++ [scheduledEntry p o r at_ s] ∧
      ∃ op ∈ (schedule p o r at_ s).cmd.longOps, isOp r.src r.tag op = true ∧ op.state = 3 := by
  rw [schedule_takesEntry p hu hc]
  constructor
  · exact (answer_frame ..).ephemeris.trans (scheduledState_ephemeris p h)
  · rw [answer_longOps]
    exact ⟨_, mem_addOp .., isOp_self _, rfl⟩

/-! ## The statement -/

/-- Settles O12: beginLong's, awaitWake's and schedule's effects, each for the packet that step 12 brings to it. -/
theorem scheduledAndWaitingPackets : Obligations.ScheduledAndWaitingPackets := by
  unfold Obligations.ScheduledAndWaitingPackets
  refine ⟨?seventeenth, ?waiting, ?scheduled⟩
  case seventeenth =>
    intro i o r s hi h hl hc
    refine effect_of_exec (exec_packet s hi) ?_
    rw [runPacket_long _ h hl, beginLong_full hc]
    exact ⟨rfl, answer_frame ..⟩
  case waiting =>
    intro i o r s hi hf hp hs hd hl
    exact effect_of_exec (exec_packet s hi) (awaitWake_effect hl (runPacket_asleep _ hf hp hs hd))
  case scheduled =>
    intro i o r s at_ hi hf hp hs hu hc
    refine effect_of_exec (exec_packet s hi) ?_
    rw [runPacket_scheduled _ hf hp hs]
    obtain ⟨hentry, hop⟩ := schedule_effect (period s) (at_ := at_) (staged_cmd s hi) hu hc
    exact ⟨_, hentry, rfl, rfl, rfl, rfl, rfl, bne_iff_ne, hop⟩

end Sys2Proof.Machine
end

section
/-! PROOF. The host port (02 R39 to R45, R56, R71): the service of the window, what each transaction comes to, the registers as they are
written, and the statements about them. -/

namespace Sys2Proof.Machine

/-! ## HIRQ_N and the status word (02 R43, Table 2-3) -/

theorem b2n_le_one (b : Bool) : b2n b ≤ 1 := by cases b <;> decide
theorem safeCode_lt (s : State) : safeCode s < 4 := by unfold safeCode; split <;> decide
theorem powerCode_lt (s : State) : powerCode s < 8 := by unfold powerCode; split <;> decide
theorem servoCode_lt (x : Servo) : servoCode x < 4 := by cases x <;> decide

/-- A bit of a word by its place in the sum that gives the word. -/
theorem getLsbD_ofNat_of_div {n k : Nat} {b : Bool} (hk : k < 32) (h : n / 2 ^ k % 2 = b2n b) : (BitVec.ofNat 32 n).getLsbD k = b := by
  rw [BitVec.getLsbD_ofNat, Nat.testBit_eq_decide_div_mod_eq, h]
  cases b <;> simp [b2n, hk]

/-- Each field of the status word stays within its place, so that the bits of DONE, ALERT and WAKE are theirs alone. -/
theorem statusWord_bits {s : State} (h : thermNow s < 4) :
    (statusWord s).getLsbD 30 = s.host.done ∧ (statusWord s).getLsbD 28 = alertBit s ∧ (statusWord s).getLsbD 16 = s.host.wake := by
  have flag := b2n_le_one
  have hdone := flag s.host.done
  have herror := flag s.host.error
  have halert := flag (alertBit s)
  have hgated := flag s.host.gated
  have hpartial := flag (partialBit s)
  have hmag := flag (magBit s)
  have hheal := flag (healBit s)
  have hunusable := flag (unusableBit s)
  have hwake := flag s.host.wake
  have hsafe := safeCode_lt s
  have hservo := servoCode_lt s.time.servo
  have hpower := powerCode_lt s
  have htag := s.host.lastTag.isLt
  have hlevel := s.power.level.isLt
  have hseq := s.host.seq.isLt
  unfold statusWord
  refine ⟨getLsbD_ofNat_of_div (by decide) ?_, getLsbD_ofNat_of_div (by decide) ?_, getLsbD_ofNat_of_div (by decide) ?_⟩ <;> omega

/-- Settles O9: the definition of the pin, and the places of the status word's fields. -/
theorem hirqFollowsDoneAlertAndWake : Obligations.HirqFollowsDoneAlertAndWake := by
  unfold Obligations.HirqFollowsDoneAlertAndWake
  exact fun s => ⟨by simp [hirqNLow, or_assoc], statusWord_bits⟩

/-! ## Who serves the port (02 R45, 20 R446) -/

theorem hostService_full {s : State} (h : domainOn s .always = true) : hostService s = .full := if_pos h

/-- The always-on domain is off in NADIR, during a wake and after a failed one. -/
theorem always_off {s : State} (h : s.power.mode = .nadir ∨ s.power.mode = .waking ∨ s.power.mode = .wakeFailed) :
    domainOn s .always = false := by
  rcases h with h | h | h <;> simp [domainOn, domainAbsent, h]

theorem hostService_asleep {s : State} (h : s.power.mode = .nadir) (hv : s.fuse.vhost33 = true) : hostService s = .asleep := by
  simp [hostService, always_off (.inl h), h, hv]

theorem hostService_nightwatch {s : State} (h : s.power.mode = .waking ∨ s.power.mode = .wakeFailed) (hv : s.fuse.vhost33 = false) :
    hostService s = .nightwatch := by
  have off := always_off (.inr h)
  rcases h with h | h <;> simp [hostService, off, h, hv]

theorem wakeBy_hostPort_nadir {s : State} (h : s.power.mode = .nadir) : wakeBy .hostPort s = startWake 2 0 s := by
  simp [wakeBy, wakeEnabled, h, wakeCode]

/-- While the always-on domain stands, an edge of HCS_N is no wake event, but for an entry to NADIR. -/
theorem wakeBy_hostPort_on {s : State} (h : domainOn s .always = true) (hn : s.power.mode ≠ .enteringNadir) : wakeBy .hostPort s = s := by
  have off : ¬ (s.power.mode = .nadir ∨ s.power.mode = .waking ∨ s.power.mode = .wakeFailed) := fun hm =>
    Bool.false_ne_true ((always_off hm).symm.trans h)
  rw [not_or, not_or] at off
  obtain ⟨hnadir, hwaking, hfailed⟩ := off
  unfold wakeBy
  cases hm : s.power.mode <;> simp_all [wakeEnabled]

/-- During a wake and after a failed one the edge is counted in the wake record (16 R368, R369). -/
theorem wakeBy_hostPort_waking {s : State} (h : s.power.mode = .waking ∨ s.power.mode = .wakeFailed) :
    wakeBy .hostPort s = { s with power := { s.power with record := (wakeBy .hostPort s).power.record } } := by
  rcases h with h | h <;> simp [wakeBy, wakeEnabled, h]

/-- The start of a transaction that is no wake event. -/
theorem beginTransaction_on {s : State} (h : domainOn s .always = true) (hn : s.power.mode ≠ .enteringNadir) :
    beginTransaction s = { s with host := { s.host with shiftedStatus := statusWord s, shifted := [], gated := false } } := by
  rw [beginTransaction, wakeBy_hostPort_on h hn]

/-! ## The transactions that the window serves (02 R40 to R42) -/

section Served
variable {s : State} (h : hostService s = .full)
include h

theorem exec_status (code : BitVec 8) : exec (.status code) s =
    .next (endTransaction (!([0x00, 0x02, 0x03, 0x40, 0x41].contains (code.toNat % 128))) (beginTransaction s)) := by
  show execStatus code s = _
  rw [execStatus, h]

theorem exec_windowWrite_misaligned (quad : Bool) {addr : BitVec 24} (ws : List Word) (ha : addr.toNat % 4 ≠ 0) :
    exec (.windowWrite quad addr ws) s = .next (endTransaction true (beginTransaction s)) := by
  show execWindowWrite quad addr ws s = _
  rw [execWindowWrite, h]
  exact congrArg _ (if_pos (bne_iff_ne.2 ha))

theorem exec_windowWrite_aligned (quad : Bool) {addr : BitVec 24} (ws : List Word) (ha : addr.toNat % 4 = 0) :
    exec (.windowWrite quad addr ws) s = .next (endTransaction false (windowWords addr.toNat ws (beginTransaction s))) := by
  show execWindowWrite quad addr ws s = _
  rw [execWindowWrite, h]
  exact congrArg _ (if_neg (by simp [ha]))

theorem exec_windowRead_misaligned (quad : Bool) {addr : BitVec 24} (n : Nat) (ha : addr.toNat % 4 ≠ 0) :
    exec (.windowRead quad addr n) s = .next (endTransaction true (beginTransaction s)) := by
  show execWindowRead quad addr n s = _
  rw [execWindowRead, h]
  exact congrArg _ (if_pos (bne_iff_ne.2 ha))

theorem exec_windowRead_aligned (quad : Bool) {addr : BitVec 24} (n : Nat) (ha : addr.toNat % 4 = 0) :
    exec (.windowRead quad addr n) s = .next (endTransaction false
      ((List.range n).foldl (fun t i => readWord ((addr.toNat + 4 * i) % 2 ^ 24) t) (beginTransaction s))) := by
  show execWindowRead quad addr n s = _
  rw [execWindowRead, h]
  exact congrArg _ (if_neg (by simp [ha]))

theorem exec_packetWrite_ignored (quad : Bool) {addr : BitVec 24} (bytes : List Byte)
    (hb : addr ≠ 0 ∨ (beginTransaction s).host.busy = true ∨ (beginTransaction s).fw.running = false) :
    exec (.packetWrite quad addr bytes) s = .next (endTransaction true (beginTransaction s)) := by
  show execPacketWrite quad addr bytes s = _
  rw [execPacketWrite, h]
  exact congrArg _ (if_pos (by simpa [or_assoc] using hb))

theorem exec_packetWrite_taken (quad : Bool) (bytes : List Byte) (hb : (beginTransaction s).host.busy = false)
    (hf : (beginTransaction s).fw.running = true) :
    exec (.packetWrite quad 0 bytes) s = .next (hostPacket bytes (endTransaction false (beginTransaction s))) := by
  show execPacketWrite quad 0 bytes s = _
  rw [execPacketWrite, h]
  exact congrArg _ (if_neg (by simp [hb, hf]))

theorem exec_replyRead (quad : Bool) (off : BitVec 24) (n : Nat) : exec (.replyRead quad off n) s =
    .next (endTransaction false { beginTransaction s with
      host.shifted := padTo n (slice (beginTransaction s).host.reply off.toNat n)
      host.done := (beginTransaction s).host.done &&
        !(off.toNat < (beginTransaction s).host.reply.length && (beginTransaction s).host.reply.length ≤ off.toNat + n) }) := by
  show execReplyRead quad off n s = _
  rw [execReplyRead, h]

end Served

/-! ## Words of the window (02 R71) -/

theorem windowWord_unmapped {a : Nat} (v : Nat) (b auth : Bool) (s : State) (h : regAt a = none) : windowWord a v b auth s = s := by
  rw [windowWord, h]

theorem windowWord_gated {a : Nat} {x : Reg} {s : State} (v : Nat) (b auth : Bool) (h : regAt a = some x) (hg : regGated s x = true) :
    windowWord a v b auth s = { s with host.gated := true } := by
  rw [windowWord, h]
  exact if_pos hg

theorem windowWord_written {a : Nat} {x : Reg} {s : State} (v : Nat) (b auth : Bool) (h : regAt a = some x) (hg : regGated s x = false) :
    windowWord a v b auth s = writeReg x b auth v s := by
  rw [windowWord, h]
  exact if_neg (Bool.eq_false_iff.1 hg)

/-- A window address lies within the 24 bits of the window. -/
theorem window_address (addr : BitVec 24) : (addr.toNat + 4 * 0) % 2 ^ 24 = addr.toNat := Nat.mod_eq_of_lt addr.isLt

/-- A write of a single word is the write of its address. -/
theorem windowWords_one (addr : BitVec 24) (w : Word) (s : State) :
    windowWords addr.toNat [w] s = windowWord addr.toNat w.toNat false false s :=
  congrArg (fun a => windowWord a w.toNat false false s) (window_address addr)

theorem readWords_one (addr : BitVec 24) (s : State) :
    (List.range 1).foldl (fun t i => readWord ((addr.toNat + 4 * i) % 2 ^ 24) t) s = readWord addr.toNat s :=
  congrArg (fun a => readWord a s) (window_address addr)

theorem readWord_unmapped {a : Nat} (s : State) (h : regAt a = none) :
    readWord a s = { s with host.shifted := s.host.shifted ++ u32 0 } := by
  rw [readWord, h]

theorem readWord_gated {a : Nat} {x : Reg} {s : State} (h : regAt a = some x) (hg : regGated s x = true) :
    readWord a s = { s with host.shifted := s.host.shifted ++ u32 0, host.gated := true } := by
  rw [readWord, h]
  exact if_pos hg

theorem readWord_served {a : Nat} {x : Reg} {s : State} (h : regAt a = some x) (hg : regGated s x = false) :
    readWord a s = { s with host.shifted := s.host.shifted ++ u32 (regValue s x) } := by
  rw [readWord, h]
  exact if_neg (Bool.eq_false_iff.1 hg)

/-- The host port alone has changed, and neither the status word that is shifted out. -/
structure HostOnly (s t : State) : Prop where
  eq : t = { s with host := t.host }
  status : t.host.shiftedStatus = s.host.shiftedStatus

theorem HostOnly.refl (s : State) : HostOnly s s := ⟨rfl, rfl⟩

theorem HostOnly.trans {s t u : State} (h : HostOnly t u) (g : HostOnly s t) : HostOnly s u :=
  ⟨h.eq.trans (by rw [g.eq]), h.status.trans g.status⟩

theorem readWord_hostOnly (a : Nat) (s : State) : HostOnly s (readWord a s) := by
  unfold readWord
  split
  · exact ⟨rfl, rfl⟩
  · split <;> exact ⟨rfl, rfl⟩

theorem foldl_hostOnly {α : Type} {f : State → α → State} (h : ∀ t a, HostOnly t (f t a)) (l : List α) (s : State) :
    HostOnly s (l.foldl f s) := by
  induction l generalizing s with
  | nil => exact .refl s
  | cons a l ih => exact (ih (f s a)).trans (h s a)

theorem length_padTo (n : Nat) {bs : List Byte} (h : bs.length ≤ n) : (padTo n bs).length = n := by
  simp [padTo, zeros, Nat.add_sub_cancel' h, List.take_of_length_le h]

theorem length_slice_le (bs : List Byte) (off n : Nat) : (slice bs off n).length ≤ n := List.length_take_le ..

/-- Settles O25: each transaction in its form of above, with the start of a transaction that is no wake event. -/
theorem hostWindow : Obligations.HostWindow := by
  unfold Obligations.HostWindow
  refine ⟨fun s hon hn => ?reads, fun s hon hn => ?writes⟩
  case reads =>
    have full := hostService_full hon
    have start := beginTransaction_on hon hn
    refine ⟨fun code => ?status, fun quad addr n => ?read, fun quad addr ha hr => ?unmapped, fun quad addr x ha hr hg => ?gated,
      fun quad addr x ha hr hg => ?served, fun quad off n => ?reply⟩
    case status =>
      refine effect_of_exec (exec_status full code) ?_
      rw [start]
      exact ⟨rfl, by simp [endTransaction]⟩
    case read =>
      by_cases ha : addr.toNat % 4 = 0
      · refine effect_of_exec (exec_windowRead_aligned full quad n ha) ?_
        obtain ⟨heq, hst⟩ := foldl_hostOnly (fun t i => readWord_hostOnly ((addr.toNat + 4 * i) % 2 ^ 24) t) (List.range n) (beginTransaction s)
        refine ⟨?_, ?_, by simp [endTransaction, ha], fun h => absurd ha h⟩
        · rw [endTransaction, heq, start]
        · exact hst.trans (by rw [start])
      · refine effect_of_exec (exec_windowRead_misaligned full quad n ha) ?_
        rw [start]
        exact ⟨rfl, rfl, by simp [endTransaction, ha], fun _ => rfl⟩
    case unmapped =>
      refine effect_of_exec (exec_windowRead_aligned full quad 1 ha) ?_
      rw [readWords_one, readWord_unmapped _ hr, start]
      exact ⟨rfl, rfl⟩
    case gated =>
      refine effect_of_exec (exec_windowRead_aligned full quad 1 ha) ?_
      have hb : regGated (beginTransaction s) x = true := by rw [start]; exact hg
      rw [readWords_one, readWord_gated hr hb, start]
      exact ⟨rfl, rfl⟩
    case served =>
      refine effect_of_exec (exec_windowRead_aligned full quad 1 ha) ?_
      have hb : regGated (beginTransaction s) x = false := by rw [start]; exact hg
      rw [readWords_one, readWord_served hr hb, start]
      exact ⟨by cases x <;> rfl, rfl⟩
    case reply =>
      refine effect_of_exec (exec_replyRead full quad off n) ?_
      rw [start]
      refine ⟨rfl, rfl, length_padTo n (length_slice_le ..), ?_⟩
      simp only [endTransaction, Bool.and_eq_true, Bool.not_eq_true', ← Bool.not_eq_true, decide_eq_true_eq]
  case writes =>
    have full := hostService_full hon
    have start := beginTransaction_on hon hn
    intro begun
    refine ⟨fun quad addr ws ha => ?misaligned, fun quad addr w ha hr => ?dropped, fun quad addr w x ha hr hg => ?gated,
      fun quad addr w x ha hr hg => ?written⟩
    case misaligned => exact effect_of_exec (exec_windowWrite_misaligned full quad ws ha) (by rw [start]; rfl)
    case dropped =>
      refine effect_of_exec (exec_windowWrite_aligned full quad [w] ha) ?_
      rw [windowWords_one, windowWord_unmapped _ _ _ _ hr, start]; rfl
    case gated =>
      refine effect_of_exec (exec_windowWrite_aligned full quad [w] ha) ?_
      rw [windowWords_one, start, windowWord_gated _ _ _ hr hg]; rfl
    case written =>
      refine effect_of_exec (exec_windowWrite_aligned full quad [w] ha) ?_
      rw [windowWords_one, start, windowWord_written _ _ _ hr hg]; rfl

end Sys2Proof.Machine
end

section
/-! PROOF. Registers as they are written (02 R56, R71; 03 R75, R91; 07 R193), the port while Nightwatch serves it, and the rows of the
host port and of the check units in their complete forms. -/

namespace Sys2Proof.Machine

/-! ## Fields of a word -/

theorem extractLsb'_toNat_eq_field (v : Word) (lo n : Nat) : (v.extractLsb' lo (n + 1)).toNat = field v.toNat (lo + n) lo := by
  rw [BitVec.extractLsb'_toNat, Nat.shiftRight_eq_div_pow, field, Nat.add_sub_cancel_left]

/-! ## The rows of the registers -/

section Window
variable {s : State} (h : domainOn s .always = true)
include h

theorem exec_registerWrite (a : Nat) (v : Word) : exec (.registerWrite a v) s = .next (windowWord a v.toNat false false s) :=
  congrArg _ (if_pos h)

theorem exec_commandPolicyWrite (b auth : Bool) (v : Word) :
    exec (.commandPolicyWrite b auth v) s = .next (writeReg .policy b auth v.toNat s) := congrArg _ (if_pos h)

theorem exec_portConfigWrite (p : NetPort) (v : Word) : exec (.portConfigWrite p v) s = .next (writePortConfig p v.toNat s) :=
  congrArg _ (if_pos h)

/-- A register outside the SCAN groups, METER and the check units is never gated. -/
theorem regGated_always {x : Reg} (hx : regDomain x = .always) (hc : ∀ u off, x ≠ .check u off) : regGated s x = false := by
  cases x with
  | check u off => exact absurd rfl (hc u off)
  | portTrim p => cases hx
  | portSkew p => cases hx
  | inputLimit => cases hx
  | _ => simp [regGated, regDomain, h]

theorem registerWrite_readOnly {a : Nat} {x : Reg} (v : Word) (ha : regAt a = some x) (hg : regGated s x = false)
    (hw : ∀ b auth n, writeReg x b auth n s = s) : NoEffect (.registerWrite a v) s :=
  (exec_registerWrite h a v).trans (congrArg _ ((windowWord_written _ _ _ ha hg).trans (hw ..)))

theorem registerWrite_servoGains (v : Word) : Effect (.registerWrite 0x010100 v) s fun t =>
    t = { s with time.alpha := (v.extractLsb' 16 16).toNat, time.beta := (v.extractLsb' 0 16).toNat } := by
  refine effect_of_exec (exec_registerWrite h ..) ?_
  have hg : regGated s .servoGains = false := regGated_always h rfl fun _ _ => Reg.noConfusion
  have hbeta : field v.toNat 15 0 = v.toNat % 2 ^ 16 := by simp [field]
  rw [windowWord_written _ _ _ (by decide) hg, extractLsb'_toNat_eq_field v 16 15, extractLsb'_toNat_eq_field v 0 15, hbeta]
  rfl

theorem registerWrite_inputLimit (v : Word) (hm : domainOn s .meter = true) : Effect (.registerWrite 0x050000 v) s fun t =>
    t = { s with ledger.limit :=
      if 50 ≤ (v.extractLsb' 0 16).toNat ∧ (v.extractLsb' 0 16).toNat ≤ 600 then (v.extractLsb' 0 16).toNat else s.ledger.limit } := by
  refine effect_of_exec (exec_registerWrite h ..) ?_
  have hg : regGated s .inputLimit = false := by simp [regGated, regDomain, hm]
  have hl : field v.toNat 15 0 = v.toNat % 2 ^ 16 := by simp [field]
  rw [windowWord_written _ _ _ (by decide) hg, extractLsb'_toNat_eq_field v 0 15, hl]
  simp [writeReg]

end Window

/-! ## COMMAND_POLICY (02 R56, Table 2-7) -/

theorem policyOpen_eq_true {s : State} {auth : Bool} (h : auth = true ∨ s.cmd.sessionKey = none) : policyOpen s true auth = true := by
  simpa [policyOpen] using h

theorem policyOpen_eq_false {s : State} {b auth : Bool} (h : b = false ∨ (auth = false ∧ s.cmd.sessionKey.isSome = true)) :
    policyOpen s b auth = false := by
  rcases h with h | ⟨ha, hk⟩
  · rw [policyOpen, h, Bool.false_and]
  · rw [policyOpen, ha, Bool.false_or, ← Option.not_isSome, hk]; exact Bool.and_false _

theorem writePolicy_eq (v : Word) (p : Policy) : writePolicy v.toNat p = {
    wakeAllow := (v.extractLsb' 16 4).toNat
    maxGap := if 2 ≤ (v.extractLsb' 8 8).toNat ∧ (v.extractLsb' 8 8).toNat ≤ 127 then (v.extractLsb' 8 8).toNat else p.maxGap
    aliveHost := v.getLsbD 3
    aliveNet := v.getLsbD 2
    authHost := v.getLsbD 1
    authNet := v.getLsbD 0 } := by
  rw [extractLsb'_toNat_eq_field v 16 3, extractLsb'_toNat_eq_field v 8 7]
  simp [writePolicy, bitN, BitVec.getLsbD]

theorem commandPolicyWrite_open {s : State} {auth : Bool} (v : Word) (h : domainOn s .always = true)
    (ho : auth = true ∨ s.cmd.sessionKey = none) :
    exec (.commandPolicyWrite true auth v) s = .next { s with cmd.policy := writePolicy v.toNat s.cmd.policy } :=
  (exec_commandPolicyWrite h ..).trans (congrArg _ (if_pos (policyOpen_eq_true ho)))

theorem commandPolicyWrite_locked {s : State} {b auth : Bool} (v : Word) (h : domainOn s .always = true)
    (hl : b = false ∨ (auth = false ∧ s.cmd.sessionKey.isSome = true)) : NoEffect (.commandPolicyWrite b auth v) s :=
  (exec_commandPolicyWrite h ..).trans (congrArg _ (if_neg (Bool.eq_false_iff.1 (policyOpen_eq_false hl))))

/-! ## PORT_CONFIG (03 R75, Table 3-1) -/

/-- Both Ethernet ports are as they were. -/
structure NetPortsKept (s t : State) : Prop where
  portA : t.net.portA = s.net.portA
  portB : t.net.portB = s.net.portB

theorem NetPortsKept.refl (s : State) : NetPortsKept s s := ⟨rfl, rfl⟩

theorem NetPortsKept.trans {s t u : State} (h : NetPortsKept t u) (g : NetPortsKept s t) : NetPortsKept s u :=
  ⟨h.portA.trans g.portA, h.portB.trans g.portB⟩

theorem NetPortsKept.getNet {s t : State} (h : NetPortsKept s t) (p : NetPort) : getNet t p = getNet s p := by
  cases p with
  | A => exact h.portA
  | B => exact h.portB

theorem ReplyFrame.netPorts {s t : State} (h : ReplyFrame s t) : NetPortsKept s t := by
  unfold ReplyFrame at h
  exact ⟨by rw [h], by rw [h]⟩

theorem setServo_netPorts (x : Servo) (s : State) : NetPortsKept s (setServo x s) := by
  have left : NetPortsKept s (if s.time.servo == .holdover then clearAlertDetail 0x01 0x01 (servoCode .holdover)
      (clearAlert 0x01 0x02 (tileTarget s) { s with time.holdoverSince := none, time.holdoverAlerted := false }) else s) := by
    split <;> exact ⟨rfl, rfl⟩
  unfold setServo
  split
  · exact .refl s
  dsimp only
  split
  · exact (raiseAlert_frame ..).netPorts.trans ⟨left.portA, left.portB⟩
  · exact (logAlert_frame ..).netPorts.trans ⟨left.portA, left.portB⟩

theorem runBmca_netPorts (s : State) : NetPortsKept s (runBmca s) := by
  unfold runBmca
  dsimp only
  split
  · exact (setServo_netPorts ..).trans ⟨rfl, rfl⟩
  · exact ⟨rfl, rfl⟩

theorem getNet_setNet_same (p : NetPort) (f : PortState → PortState) (s : State) : getNet (setNet p f s) p = f (getNet s p) := by
  cases p <;> rfl

theorem getNet_setNet_other {p q : NetPort} (f : PortState → PortState) (s : State) (h : q ≠ p) :
    getNet (setNet p f s) q = getNet s q := by
  cases p with
  | A => cases q with
    | A => exact absurd rfl h
    | B => rfl
  | B => cases q with
    | A => rfl
    | B => exact absurd rfl h

/-- A link that goes down changes LINK of its port, and the other port not at all. -/
theorem linkDown_netPorts (p : NetPort) (s : State) : NetPortsKept (setNet p (fun x => { x with link := false }) s) (linkDown p s) := by
  unfold linkDown
  split
  · dsimp only
    split
    · exact (runBmca_netPorts _).trans ((raiseAlert_frame ..).netPorts.trans ⟨rfl, rfl⟩)
    · exact (raiseAlert_frame ..).netPorts.trans ⟨rfl, rfl⟩
  · rename_i h
    have down : { getNet s p with link := false } = getNet s p := by rw [← Bool.eq_false_iff.2 h]
    cases p with
    | A => exact ⟨down.symm, rfl⟩
    | B => exact ⟨rfl, down.symm⟩

/-- The FEC that a word leaves in force: a reserved code keeps the old one. -/
def fecTaken (v : Nat) (x : PortState) : Nat := if field v 11 10 = 3 then x.fec else field v 11 10

/-- The MODE that a word leaves in force. -/
def modeTaken (v : Nat) (x : PortState) : Nat := if field v 9 8 = 3 then x.mode else field v 9 8

/-- A port's fields after a word. -/
def portTaken (v : Nat) (x : PortState) : PortState := { x with
  vlan := field v 31 20
  pcp := field v 19 17
  snoop := bitN v 12
  fec := fecTaken v x
  mode := modeTaken v x
  link := x.link && (fecTaken v x == x.fec && modeTaken v x == x.mode) }

theorem getNet_writePortConfig_same (p : NetPort) (v : Nat) (s : State) :
    getNet (writePortConfig p v s) p = portTaken v (getNet s p) := by
  have link : getNet (if fecTaken v (getNet s p) != (getNet s p).fec || modeTaken v (getNet s p) != (getNet s p).mode then linkDown p s else s) p =
      { getNet s p with link := (portTaken v (getNet s p)).link } := by
    rw [portTaken, bne, bne, ← Bool.not_and]
    cases fecTaken v (getNet s p) == (getNet s p).fec && modeTaken v (getNet s p) == (getNet s p).mode with
    | true => simp
    | false => rw [Bool.and_false]; exact ((linkDown_netPorts p s).getNet p).trans (getNet_setNet_same ..)
  have recorded (t : State) : getNet { t with flash.recordDue := true } p = getNet t p := NetPortsKept.getNet ⟨rfl, rfl⟩ p
  refine (getNet_setNet_same ..).trans ?_
  rw [recorded]
  exact congrArg (fun x : PortState => { x with
    vlan := field v 31 20, pcp := field v 19 17, snoop := bitN v 12,
    fec := fecTaken v (getNet s p), mode := modeTaken v (getNet s p) }) link

theorem getNet_writePortConfig_other {p q : NetPort} (v : Nat) (s : State) (h : q ≠ p) : getNet (writePortConfig p v s) q = getNet s q := by
  have restarted (c : Prop) [Decidable c] : getNet (if c then linkDown p s else s) q = getNet s q := by
    split
    · exact ((linkDown_netPorts p s).getNet q).trans (getNet_setNet_other _ _ h)
    · rfl
  have recorded (t : State) : getNet { t with flash.recordDue := true } q = getNet t q := NetPortsKept.getNet ⟨rfl, rfl⟩ q
  exact (getNet_setNet_other _ _ h).trans ((recorded _).trans (restarted _))

theorem portConfigWrite_effect {s : State} (p : NetPort) (v : Word) (h : domainOn s .always = true) :
    Effect (.portConfigWrite p v) s fun t =>
      (getNet t p).vlan = (v.extractLsb' 20 12).toNat ∧ (getNet t p).pcp = (v.extractLsb' 17 3).toNat ∧
      (getNet t p).snoop = v.getLsbD 12 ∧
      (getNet t p).fec = (if (v.extractLsb' 10 2).toNat = 3 then (getNet s p).fec else (v.extractLsb' 10 2).toNat) ∧
      (getNet t p).mode = (if (v.extractLsb' 8 2).toNat = 3 then (getNet s p).mode else (v.extractLsb' 8 2).toNat) ∧
      (getNet t p).link = ((getNet s p).link && (getNet t p).fec == (getNet s p).fec && (getNet t p).mode == (getNet s p).mode) ∧
      (∀ q, q ≠ p → getNet t q = getNet s q) := by
  refine effect_of_exec (exec_portConfigWrite h ..) ?_
  rw [getNet_writePortConfig_same, extractLsb'_toNat_eq_field v 20 11, extractLsb'_toNat_eq_field v 17 2,
    extractLsb'_toNat_eq_field v 10 1, extractLsb'_toNat_eq_field v 8 1]
  exact ⟨rfl, rfl, rfl, rfl, rfl, (Bool.and_assoc ..).symm, fun q hq => getNet_writePortConfig_other _ _ hq⟩

/-! ## The port in NADIR and during a wake (02 R45, 20 R446) -/

/-- With VHOST on V3P3 the edge of HCS_N wakes a tile in NADIR, and no transaction has another effect. -/
theorem asleep_transactions {s : State} (hm : s.power.mode = .nadir) (hv : s.fuse.vhost33 = true) :
    (∀ code, Effect (.status code) s fun t => t = startWake 2 0 s) ∧
    (∀ quad addr n, Effect (.windowRead quad addr n) s fun t => t = startWake 2 0 s) ∧
    (∀ quad addr ws, Effect (.windowWrite quad addr ws) s fun t => t = startWake 2 0 s) ∧
    (∀ quad addr bytes, Effect (.packetWrite quad addr bytes) s fun t => t = startWake 2 0 s) ∧
    ∀ quad off n, Effect (.replyRead quad off n) s fun t => t = startWake 2 0 s := by
  have serves := hostService_asleep hm hv
  have wakes := wakeBy_hostPort_nadir hm
  refine ⟨fun code => ⟨_, rfl, ?_⟩, fun quad addr n => ⟨_, rfl, ?_⟩, fun quad addr ws => ⟨_, rfl, ?_⟩,
    fun quad addr bytes => ⟨_, rfl, ?_⟩, fun quad off n => ⟨_, rfl, ?_⟩⟩ <;> rw [serves, wakes]

theorem nightwatch_transactions {s : State} (hm : s.power.mode = .waking ∨ s.power.mode = .wakeFailed) (hv : s.fuse.vhost33 = false) :
    (∀ quad addr n, addr.toNat % 4 = 0 → 0 < n → Effect (.windowRead quad addr n) s fun t =>
      t.host.shifted = zeros (4 * n) ∧ t.host.gated = true ∧
      t = { s with host := t.host, power := { s.power with record := t.power.record } }) ∧
    (∀ quad addr ws, Effect (.windowWrite quad addr ws) s fun t =>
      t = { s with host := t.host, power := { s.power with record := t.power.record } }) ∧
    ∀ code, Effect (.status code) s fun t =>
      t.host.shifted = [] ∧ t = { s with host := t.host, power := { s.power with record := t.power.record } } := by
  have serves := hostService_nightwatch hm hv
  have counts : beginTransaction s = { s with
      host := (beginTransaction s).host
      power := { s.power with record := (beginTransaction s).power.record } } := by
    unfold beginTransaction
    rw [wakeBy_hostPort_waking hm]
  refine ⟨fun quad addr n ha hn => ⟨_, rfl, ?_⟩, fun quad addr ws => ⟨_, rfl, ?_⟩, fun code => ⟨_, rfl, ?_⟩⟩ <;> rw [serves]
  · have aligned : ¬ (addr.toNat % 4 != 0) = true := by simp [ha]
    have some_word : (n != 0) = true := by simp [Nat.ne_of_gt hn]
    dsimp only
    rw [if_neg aligned]
    exact ⟨rfl, by simp [endTransaction, some_word], by rw [endTransaction, counts]⟩
  · dsimp only
    rw [endTransaction, counts]
  · exact ⟨rfl, by dsimp only; rw [endTransaction, counts]⟩

/-- Settles O26: the port without its window, then each register by the lemma about its write. -/
theorem registerWrites : Obligations.RegisterWrites := by
  unfold Obligations.RegisterWrites
  refine ⟨fun s hm hv => asleep_transactions hm hv, fun s hm hv => nightwatch_transactions hm hv, fun v s h => ?registers,
    fun b auth v s h => ⟨fun hl => commandPolicyWrite_locked v h hl, fun hb ho => ?policy⟩, fun p v s h => portConfigWrite_effect p v h⟩
  case registers =>
    refine ⟨fun a ha => ?_, fun a x ha hg => ?_, registerWrite_servoGains h v, fun hm => registerWrite_inputLimit h v hm,
      fun a k ha => ?_, fun a k ha => ?_⟩
    · exact (exec_registerWrite h a v).trans (congrArg _ (windowWord_unmapped _ _ _ _ ha))
    · exact effect_of_exec (exec_registerWrite h a v) (windowWord_gated _ _ _ ha hg)
    · exact registerWrite_readOnly h v ha (regGated_always h rfl fun _ _ => Reg.noConfusion) fun _ _ _ => rfl
    · exact registerWrite_readOnly h v ha (regGated_always h rfl fun _ _ => Reg.noConfusion) fun _ _ _ => rfl
  case policy =>
    rw [hb]
    refine effect_of_exec (commandPolicyWrite_open v h ho) ?_
    rw [writePolicy_eq]

/-! ## The rows in their complete forms -/

theorem checkWrite_served {u : Nat} {s : State} (f : CheckUnit → CheckUnit) (h : windowServed s = true) (hg : checkGated s u = false) :
    checkWrite u f s = modCheck u f s := by
  rw [checkWrite, h, hg]; rfl

/-- Settles O52: the transactions and registers of above; a check unit's row is the write of its function. -/
theorem hostAndRegisterRowsComplete : Obligations.HostAndRegisterRowsComplete := by
  unfold Obligations.HostAndRegisterRowsComplete
  refine ⟨fun s h => ?port, fun v s h => ?registers, fun u v s h hg => ?check⟩
  case port =>
    refine ⟨fun code hc => ?_, fun quad addr ws ha => exec_windowWrite_aligned h quad ws ha,
      fun quad addr n ha => exec_windowRead_aligned h quad n ha, fun quad bytes hb hf => exec_packetWrite_taken h quad bytes hb hf,
      fun quad off n => exec_replyRead h quad off n⟩
    rw [exec_status h, List.contains_iff_mem.2 hc]; rfl
  case registers =>
    refine ⟨fun a x ha hg => ?_, fun auth ho => commandPolicyWrite_open v h ho, fun p => exec_portConfigWrite h p v,
      fun p hp => congrArg _ (if_pos hp), fun p hp => congrArg _ (if_pos hp)⟩
    rw [exec_registerWrite h, windowWord_written _ _ _ ha hg]
  case check =>
    have row (f : CheckUnit → CheckUnit) := congrArg (Host.Outcome.next (φ := Fault) (ρ := Refusal)) (checkWrite_served f h hg)
    refine ⟨row _, row _, row _, row _, row _, row _, row _, row _, row _, row _, fun x hx => ?_⟩
    show execCheckRunComplete u s = _
    rw [execCheckRunComplete, hx]

end Sys2Proof.Machine
end

section
/-! PROOF. The rows that stage configuration and the system rows (02 R66 to R68; 03 R99, R101; 14 R325; 18 R400, R401, R407): what each
comes to once its packet is accepted. -/

namespace Sys2Proof.Machine

/-! ## Short rows -/

/-- An accepted packet of a short row is answered with the status and the results of its run. -/
theorem exec_shortDone {i : Instr} {o : OpSpec} {r : Req} {s x : State} {st : Nat} {res : List Byte} (hi : packetOf i = some (o, r))
    (h : Accepted o r s) (hl : o.long r = false) (ha : o.apply = false) (hr : o.run r (startOf r s) = (x, .done st res)) :
    exec i s = .next (answerLarge o.code r st res x) := by
  rw [exec_packet s hi, short_of h hl ha, hr]; rfl

/-- One whose reply comes later leaves the state of its run. -/
theorem exec_shortLater {i : Instr} {o : OpSpec} {r : Req} {s x : State} (hi : packetOf i = some (o, r))
    (h : Accepted o r s) (hl : o.long r = false) (ha : o.apply = false) (hr : o.run r (startOf r s) = (x, .later)) :
    exec i s = .next x := by
  rw [exec_packet s hi, short_of h hl ha, hr]; rfl

/-! ## Rows that stage configuration (02 R66 to R68) -/

/-- An accepted packet of a row that stages is its staging, concluded. -/
theorem staged_of {o : OpSpec} {r : Req} {s : State} (h : Accepted o r s) (hl : o.long r = false) (ha : o.apply = true) :
    runPacket (period s) o r s =
      conclude o.code r false (stageOp o r false (startOf r s)).2 (stageOp o r false (startOf r s)).1 := by
  obtain ⟨hf, hp, hs, hd⟩ := h
  rw [runPacket_checked _ hf hp, acceptOp, hs, hd]
  simp only [List.isEmpty_nil, Bool.not_true, Bool.false_eq_true, if_false, hl, begin_, ha, Bool.not_false, Bool.and_self, if_true]
  rfl

section Stage
variable {o : OpSpec} {r : Req} {s : State}

theorem stageOp_refused (q : Bool) (hu : (unitsAsked o r s).any (fun u => failed u.2) = true) :
    stageOp o r q s = (s, .done St.notCommitted (notCommittedResults ((unitsAsked o r s).map (·.2)))) := if_pos hu

theorem stageOp_held (q : Bool) (hu : (unitsAsked o r s).any (fun u => failed u.2) = false) (hm : prm r 0 1 = 1) :
    stageOp o r q s = (holdUnits r.src (stagedOf o.code r (unitsAsked o r s)) (o.staged r s), .done St.deferred []) :=
  (if_neg (Bool.eq_false_iff.1 hu)).trans (if_pos hm)

theorem stageOp_committing (q : Bool) (hu : (unitsAsked o r s).any (fun u => failed u.2) = false) (hm : prm r 0 1 ≠ 1) :
    stageOp o r q s = (queueCommit o.code r (stagedOf o.code r (unitsAsked o r s)) q
      (replaceHeld r.src (stagedOf o.code r (unitsAsked o r s)) (o.staged r s)), .later) :=
  (if_neg (Bool.eq_false_iff.1 hu)).trans (if_neg hm)

end Stage

/-- A row that stages refuses its units as a whole, holds them, or queues their commit. -/
theorem stages_of {i : Req → Instr} {o : OpSpec} (hi : ∀ r, packetOf (i r) = some (o, r)) (hl : ∀ r, o.long r = false)
    (ha : o.apply = true) : Stages i o := by
  intro r s h us
  have run := (exec_packet s (hi r)).trans (congrArg _ (staged_of h (hl r) ha))
  refine ⟨fun hu => ?refused, fun hu hm => ?held, fun hu hm => ?committing⟩
  case refused =>
    rw [stageOp_refused false hu] at run
    exact ⟨_, run, rfl, (answerLarge_frame ..).trans (dropOp_frame ..)⟩
  case held =>
    rw [stageOp_held false hu hm] at run
    exact effect_of_exec (t := answerLarge o.code r St.deferred [] (holdUnits r.src (stagedOf o.code r us) (o.staged r (startOf r s))))
      run ⟨rfl, answerLarge_frame ..⟩
  case committing =>
    rw [stageOp_committing false hu (by rw [hm]; decide)] at run
    exact ⟨_, run, rfl⟩

/-- Settles O14: each of the rows is a short one that stages. -/
theorem configurationRowsStageWholeUnits : Obligations.ConfigurationRowsStageWholeUnits := by
  unfold Obligations.ConfigurationRowsStageWholeUnits
  refine ⟨?_, ?_, ?_, ?_, ?_, ?_, ?_, ?_, ?_, ?_, ?_, ?_, ?_, ?_, ?_, ?_, ?_, ?_⟩
  all_goals exact stages_of (fun _ => rfl) (fun _ => rfl) rfl

/-! ## RESET and COMMIT (18 R400, 02 R68) -/

theorem resetSpec_run_cold {r : Req} (s : State) (h : prm r 0 1 = 0) :
    resetSpec.run r s = ({ s with fw.resetCold := some (nowNs s + 1000000) }, .done St.ok []) := congrArg (·, _) (if_pos h)

theorem resetSpec_run_warm {r : Req} (s : State) (h : prm r 0 1 = 1) :
    resetSpec.run r s = ({ s with fw.resetWarm := some (nowNs s + 1000000) }, .done St.ok []) :=
  congrArg (·, _) (if_neg (by rw [h]; decide))

theorem commitSpec_run_idle {r : Req} {s : State} (h : ∀ x ∈ s.cmd.held, x.src ≠ r.src) : commitSpec.run r s = (s, .done St.ok []) :=
  if_neg (by simpa using h)

theorem commitSpec_run_held {r : Req} {s : State} (h : ∃ x ∈ s.cmd.held, x.src = r.src) :
    commitSpec.run r s = (queueCommit 0x0006 r [] false s, .later) := if_pos (by simpa using h)

/-! ## KEY_PROVISION (18 R407) -/

theorem keyProvisionSpec_run_refused {r : Req} {s : State} (h : unwrapKey r s = none) :
    keyProvisionSpec.run r s = (s, .done St.authFail []) := by
  unfold keyProvisionSpec
  dsimp only
  rw [h]

theorem keyProvisionSpec_run_installed {r : Req} {s : State} {key : List Byte} (h : unwrapKey r s = some key) :
    keyProvisionSpec.run r s = (installKey r key s, .done St.ok []) := by
  unfold keyProvisionSpec
  dsimp only
  rw [h]

/-- A key that is installed changes the command engine's state alone. -/
theorem installKey_eq (r : Req) (key : List Byte) (s : State) : installKey r key s = { s with cmd := (installKey r key s).cmd } := by
  unfold installKey
  dsimp only
  split <;> rfl

theorem installKey_nonce (r : Req) (key : List Byte) (s : State) : slice r.params 4 12 ∈ (installKey r key s).cmd.nonces := by
  unfold installKey
  dsimp only
  split <;> exact List.mem_cons_self

theorem installKey_session {r : Req} (key : List Byte) (s : State) (h : prm r 0 1 = 0) :
    (installKey r key s).cmd.sessionKey = some key ∧ (installKey r key s).cmd.sources = [] ∧
      (installKey r key s).cmd.streamKeys = s.cmd.streamKeys := by
  rw [installKey, if_pos h]
  exact ⟨rfl, rfl, rfl⟩

theorem installKey_stream {r : Req} (key : List Byte) (s : State) (h : prm r 0 1 = 1) :
    ((prm r 1 1, prm r 2 1), key) ∈ (installKey r key s).cmd.streamKeys ∧ (installKey r key s).cmd.sessionKey = s.cmd.sessionKey := by
  rw [installKey, if_neg (by rw [h]; decide)]
  exact ⟨List.mem_append_right _ (List.mem_singleton_self _), rfl⟩

theorem keyProvision_installs {r : Req} {s : State} {key : List Byte} (h : Accepted keyProvisionSpec r s)
    (hk : unwrapKey r (startOf r s) = some key) :
    Effect (.keyProvision r) s fun t =>
      slice r.params 4 12 ∈ t.cmd.nonces ∧
      (prm r 0 1 = 0 → t.cmd.sessionKey = some key ∧ t.cmd.sources = [] ∧ t.cmd.streamKeys = s.cmd.streamKeys) ∧
      (prm r 0 1 = 1 → ((prm r 1 1, prm r 2 1), key) ∈ t.cmd.streamKeys ∧ t.cmd.sessionKey = s.cmd.sessionKey) ∧
      t = { s with cmd := t.cmd, host := t.host, net := { s.net with tx := t.net.tx, wire := t.net.wire } } := by
  have run := exec_shortDone (i := .keyProvision r) rfl h rfl rfl (keyProvisionSpec_run_installed hk)
  rw [answerLarge_nil] at run
  refine effect_of_exec run ?_
  have frame := answer_frame keyProvisionSpec.code r St.ok [] (installKey r key (startOf r s))
  obtain ⟨f, hf⟩ := (answer_engine keyProvisionSpec.code r St.ok [] (installKey r key (startOf r s))).sources
  generalize answer keyProvisionSpec.code r St.ok [] (installKey r key (startOf r s)) = t at frame hf
  refine ⟨?_, fun h0 => ?_, fun h1 => ?_, ?_⟩
  · rw [frame]; exact installKey_nonce ..
  · obtain ⟨hkey, hsources, hstreams⟩ := installKey_session key (startOf r s) h0
    exact ⟨by rw [frame]; exact hkey, by rw [hf, hsources]; rfl, by rw [frame]; exact hstreams⟩
  · obtain ⟨hstream, hkey⟩ := installKey_stream key (startOf r s) h1
    exact ⟨by rw [frame]; exact hstream, by rw [frame]; exact hkey⟩
  · rw [frame, installKey_eq]; rfl

/-! ## SCHEDULE_CANCEL and SNAPSHOT (03 R99, R101) -/

theorem abortFill_ephemeris (b : Buffer) (s : State) : (abortFill b s).cmd.ephemeris = s.cmd.ephemeris := by
  unfold abortFill
  split <;> rfl

theorem sweepReleased_ephemeris (s : State) : (sweepReleased s).cmd.ephemeris = s.cmd.ephemeris :=
  foldl_keeps (fun t => t.cmd.ephemeris) (f := fun t (b : Buffer) => dropBuf b.handle (abortFill b t))
    (fun t b => abortFill_ephemeris b t) (s.layers.buffers.filter (releaseDue s)) s

/-- Of an entry that leaves the Ephemeris the index is free again, and every other entry stays. -/
theorem removeEntry_ephemeris (e : EphEntry) (s : State) :
    (removeEntry e s).cmd.ephemeris = s.cmd.ephemeris.filter fun x => x.index != e.index := by
  refine (sweepReleased_ephemeris _).trans (foldl_keeps (fun t => t.cmd.ephemeris) (fun t u => ?_) _ _)
  split
  · exact congrArg CmdState.ephemeris (commandTo_cmd ..)
  · rfl

theorem endAborted_ended (src : Source) (tag : Nat) (s : State) :
    ∀ x ∈ (endAborted src tag s).cmd.longOps, isOp src tag x = true → opLive x = false := by
  intro x hx hop
  obtain ⟨o, -, rfl⟩ := List.mem_map.1 hx
  dsimp only at hop ⊢
  by_cases ho : isOp src tag o = true
  · rw [if_pos ho]
    by_cases hl : opLive o = true
    · rw [if_pos hl]; rfl
    · rw [if_neg hl]; exact Bool.eq_false_iff.2 hl
  · rw [if_neg ho] at hop
    exact absurd hop ho

theorem scheduleCancelSpec_run_loaded {r : Req} {s : State} {e : EphEntry} (h : findEntry r.src (prm r 0 2) s = some e)
    (hl : e.loaded = true) : scheduleCancelSpec.run r s = (s, .done St.busy []) := by
  unfold scheduleCancelSpec
  dsimp only
  rw [h]
  exact if_pos hl

theorem scheduleCancelSpec_run_waiting {r : Req} {s : State} {e : EphEntry} (h : findEntry r.src (prm r 0 2) s = some e)
    (hl : e.loaded = false) :
    scheduleCancelSpec.run r s = (endAborted r.src (prm r 0 2) (removeEntry e s), .done St.ok []) := by
  unfold scheduleCancelSpec
  dsimp only
  rw [h]
  exact if_neg (Bool.eq_false_iff.1 hl)

theorem scheduleCancel_removes {r : Req} {s : State} {e : EphEntry} (h : Accepted scheduleCancelSpec r s)
    (he : findEntry r.src (prm r 0 2) s = some e) (hl : e.loaded = false) :
    Effect (.scheduleCancel r) s fun t =>
      (∀ x ∈ t.cmd.ephemeris, x ∈ s.cmd.ephemeris ∧ x.index ≠ e.index) ∧
      (∀ x ∈ s.cmd.ephemeris, x.index ≠ e.index → x ∈ t.cmd.ephemeris) ∧
      (∀ x ∈ t.cmd.longOps, isOp r.src (prm r 0 2) x = true → opLive x = false) := by
  have run := exec_shortDone (i := .scheduleCancel r) rfl h rfl rfl (scheduleCancelSpec_run_waiting (s := startOf r s) he hl)
  rw [answerLarge_nil] at run
  refine effect_of_exec run ?_
  have entries := (answer_frame scheduleCancelSpec.code r St.ok [] (endAborted r.src (prm r 0 2) (removeEntry e (startOf r s)))).ephemeris.trans
    (removeEntry_ephemeris e (startOf r s))
  rw [entries, answer_longOps]
  refine ⟨fun x hx => ?_, fun x hx hi => List.mem_filter.2 ⟨hx, bne_iff_ne.2 hi⟩, endAborted_ended _ _ _⟩
  obtain ⟨hmem, hne⟩ := List.mem_filter.1 hx
  exact ⟨hmem, bne_iff_ne.1 hne⟩

theorem snapshotSpec_run_unscheduled {r : Req} (s : State) (h : r.sched = none) :
    snapshotSpec.run r s = ({ s with cmd.snapshots := s.cmd.snapshots ++ [r] }, .later) := by
  unfold snapshotSpec
  dsimp only
  rw [h]; rfl

/-! ## CHECK_CONTEXT_WRITE (14 R325) -/

theorem checkContextWriteSpec_run_owned {r : Req} {s : State} (h : (getCheck s (prm r 0 1)).owned = true) :
    checkContextWriteSpec.run r s = (s, .done St.busy []) := if_pos h

theorem checkContextWriteSpec_run_free {r : Req} {s : State} (h : (getCheck s (prm r 0 1)).owned = false) :
    checkContextWriteSpec.run r s = (modCheck (prm r 0 1) (fun c => { c with ctx := contextOf r.params }) s, .done St.ok []) :=
  if_neg (Bool.eq_false_iff.1 h)

/-- Settles O15: each row acts by the run that the lemmas above give it. -/
theorem systemRowsAct : Obligations.SystemRowsAct := by
  unfold Obligations.SystemRowsAct
  refine ⟨⟨?cold, ?warm, ?idle, ?held, ?alerts⟩, ⟨?badKey, fun r s key h hk => keyProvision_installs h hk⟩,
    ⟨?regWrite, ?loaded, fun r s e h he hl => scheduleCancel_removes h he hl, ?snapshot⟩, ?config, ?owned, ?free⟩
  case cold => exact acts_of (fun _ _ => rfl) (fun _ _ _ _ => rfl) rfl fun _ _ _ hc => resetSpec_run_cold _ hc
  case warm => exact acts_of (fun _ _ => rfl) (fun _ _ _ _ => rfl) rfl fun _ _ _ hc => resetSpec_run_warm _ hc
  case idle => exact acts_of (fun _ _ => rfl) (fun _ _ _ _ => rfl) rfl fun _ _ _ hc => commitSpec_run_idle hc
  case held => exact fun r s h hh => effect_of_exec (exec_shortLater rfl h rfl rfl (commitSpec_run_held (s := startOf r s) hh)) rfl
  case alerts => exact acts_of (fun _ _ => rfl) (fun _ _ _ _ => rfl) rfl fun _ _ _ _ => rfl
  case badKey =>
    refine acts_of (fun _ _ => rfl) (fun _ _ _ _ => rfl) rfl fun _ _ _ hc => keyProvisionSpec_run_refused hc
  case regWrite => exact acts_of (fun _ _ => rfl) (fun _ _ _ _ => rfl) rfl fun _ _ _ _ => rfl
  case loaded =>
    intro r s e h he hl
    exact effect_of_exec (exec_shortDone rfl h rfl rfl (scheduleCancelSpec_run_loaded (s := startOf r s) he hl))
      ⟨rfl, (answerLarge_frame ..).trans (dropOp_frame ..)⟩
  case snapshot =>
    intro r s h
    obtain ⟨-, -, hs, -⟩ := id h
    exact effect_of_exec (exec_shortLater rfl h rfl rfl (snapshotSpec_run_unscheduled (startOf r s) hs)) rfl
  case config => exact acts_of (fun _ _ => rfl) (fun _ _ _ _ => rfl) rfl fun _ _ _ _ => rfl
  case owned => exact acts_of (fun _ _ => rfl) (fun _ _ _ _ => rfl) rfl fun _ _ _ hc => checkContextWriteSpec_run_owned hc
  case free => exact acts_of (fun _ _ => rfl) (fun _ _ _ _ => rfl) rfl fun _ _ _ hc => checkContextWriteSpec_run_free hc

end Sys2Proof.Machine
end

section
/-! PROOF. A packet written to the host port, through the checks of 02 Table 2-8 in order, and the alive counter of step 6 (02 R41, R42,
R44, R54, R57). -/

namespace Sys2Proof.Machine

/-! ## The checks in order, for a packet of the host port -/

section Intake
variable {p : Packet} {s : State}

theorem receivePacket_badLength (hl : p.lengthOk = false) : receivePacket p s = refuseLength p s := by
  rw [receivePacket, hl]; rfl

theorem receivePacket_badTrailer (hl : p.lengthOk = true) (hc : p.crcOk = false) : receivePacket p s = refuseCrc p s := by
  rw [receivePacket, hl, hc]; rfl

section OfHost
variable (hh : p.ofNet = false) (hl : p.lengthOk = true) (hc : p.crcOk = true)
include hh hl hc

theorem receivePacket_otherTile_broadcast (ht : forTile p s = false) (hb : p.broadcast = true) :
    receivePacket p s = countDrop s := by
  rw [receivePacket, hl, hc, hh, ht, hb]; rfl

theorem receivePacket_otherTile (ht : forTile p s = false) (hb : p.broadcast = false) :
    receivePacket p s = refuse p St.badParam s := by
  rw [receivePacket, hl, hc, hh, ht, hb]; rfl

theorem receivePacket_forTile (ht : forTile p s = true) : receivePacket p s = checkPacket p s := by
  rw [receivePacket, hl, hc, hh, ht]; rfl

end OfHost

theorem checkPacket_badHeader (h : p.headerOk = false) : checkPacket p s = refuse p St.badParam s := by
  rw [checkPacket, h]; rfl

theorem checkPacket_refused (h : p.headerOk = true) (hp : policyStatus p s ≠ St.ok) :
    checkPacket p s = refuse p (policyStatus p s) s := by
  rw [checkPacket, h]
  exact if_pos hp

/-- A packet without ALIVE that passes header and policy is taken for its source and executes. -/
theorem checkPacket_executes (h : p.headerOk = true) (hp : policyStatus p s = St.ok) (ha : p.alive = false) :
    checkPacket p s = executePacket p (takeSource p s) := by
  rw [checkPacket, h, aliveCheck, ha]
  exact if_neg (Decidable.not_not.2 hp)

theorem executePacket_unknown (h : specOf p.code = none) : executePacket p s = answer p.code p.req St.badOpcode [] s := by
  rw [executePacket, h]

theorem executePacket_known {o : OpSpec} (h : specOf p.code = some o) : executePacket p s = runPacket (period s) o p.req s := by
  rw [executePacket, h]

end Intake

/-! ## The alive counter (02 R54, Table 2-6) -/

section Alive
variable {p : Packet} {s : State} {e : SourceEntry} (ha : p.alive = true) (he : findSource p.src s = some e)
include ha he

theorem aliveCheck_known : aliveCheck p s = aliveKnown p e s := by
  rw [aliveCheck, ha, he]; rfl

theorem aliveCheck_sameCounter (hd : aliveStep p s = 0) (ht : e.tag ≠ p.tag) : aliveCheck p s = .refused St.aliveRepeat s := by
  rw [aliveCheck_known ha he, aliveKnown, hd]
  exact if_neg ht

theorem aliveCheck_gap (hd : aliveStep p s ≠ 0) (hg : s.cmd.policy.maxGap < aliveStep p s) : aliveCheck p s =
    .refused St.aliveGap (if p.auth then s else modSource p.src (fun x => { x with last := p.counter }) s) := by
  rw [aliveCheck_known ha he]
  exact (if_neg hd).trans (if_pos hg)

theorem aliveCheck_passes (hd : aliveStep p s ≠ 0) (hg : aliveStep p s ≤ s.cmd.policy.maxGap) :
    aliveCheck p s = .pass (takeSource p (if aliveStep p s = 1 then s else logGap p s)) := by
  rw [aliveCheck_known ha he]
  exact (if_neg hd).trans (if_neg (Nat.not_lt.2 hg))

end Alive

/-! ## The statement -/

/-- A packet that PACKET_WRITE takes: BUSY is set, and an unread reply is gone. -/
theorem exec_packetWrite_received {s : State} (quad : Bool) (bytes : List Byte) (h : domainOn s .always = true)
    (hn : s.power.mode ≠ .enteringNadir) (hb : s.host.busy = false) (hf : s.fw.running = true) :
    exec (.packetWrite quad 0 bytes) s = .next (clearBusy ⟨.host, true, bytes⟩ (receivePacket ⟨.host, true, bytes⟩
      { s with host := { s.host with
        shiftedStatus := statusWord s
        shifted := []
        gated := false
        error := false
        busy := true
        done := false
        reply := [] } })) := by
  have start := beginTransaction_on h hn
  rw [exec_packetWrite_taken (hostService_full h) quad bytes (by rw [start]; exact hb) (by rw [start]; exact hf), start]
  rfl

/-- Settles O29: the packet's end at each check, all checks before it passed. -/
theorem packetWriteRunsThePacket : Obligations.PacketWriteRunsThePacket := by
  unfold Obligations.PacketWriteRunsThePacket
  refine ⟨fun quad addr bytes s h hn hi => ?ignored, fun quad bytes s h hn hb hf => ?taken, fun p s e ha he => ?alive⟩
  case ignored =>
    have start := beginTransaction_on h hn
    refine effect_of_exec (exec_packetWrite_ignored (hostService_full h) quad bytes (by rw [start]; exact hi)) ?_
    rw [start]; rfl
  case taken =>
    intro p s1
    have received {t : State} (ht : receivePacket p s1 = t) : Effect (.packetWrite quad 0 bytes) s fun u => u = clearBusy p t :=
      effect_of_exec (exec_packetWrite_received quad bytes h hn hb hf) (congrArg (clearBusy p) ht)
    have checked {t : State} (hl : p.lengthOk = true) (hc : p.crcOk = true) (hm : forTile p s = true) (ht : checkPacket p s1 = t) :
        Effect (.packetWrite quad 0 bytes) s fun u => u = clearBusy p t :=
      received ((receivePacket_forTile (s := s1) rfl hl hc hm).trans ht)
    refine ⟨fun hl => ?length, fun hl hc => ?trailer, fun hl hc hm hbr => ?dropped, fun hl hc hm hbr => ?otherTile, fun hl hc hm hh => ?header,
      fun hl hc hm hh hp => ?policy, fun hl hc hm hh hp ha ho => ?unknown, fun o hl hc hm hh hp ha ho => ?known⟩
    case length => exact received (receivePacket_badLength hl)
    case trailer => exact received (receivePacket_badTrailer hl hc)
    case dropped => exact received (receivePacket_otherTile_broadcast rfl hl hc hm hbr)
    case otherTile => exact received (receivePacket_otherTile rfl hl hc hm hbr)
    case header => exact checked hl hc hm (checkPacket_badHeader hh)
    case policy => exact checked hl hc hm (checkPacket_refused (s := s1) hh hp)
    case unknown => exact checked hl hc hm ((checkPacket_executes (s := s1) hh hp ha).trans (executePacket_unknown ho))
    case known => exact checked hl hc hm ((checkPacket_executes (s := s1) hh hp ha).trans (executePacket_known ho))
  case alive =>
    refine ⟨fun hd ht => aliveCheck_sameCounter ha he hd ht, fun hd hg hau => ?authGap, fun hd hg hau => ?gap, fun hd hg => ?next,
      fun hd hg => ?skipped⟩
    case authGap => rw [aliveCheck_gap ha he hd hg, hau]; rfl
    case gap => rw [aliveCheck_gap ha he hd hg, hau]; rfl
    case next => rw [aliveCheck_passes ha he (by omega) (by omega), if_pos hd]
    case skipped => rw [aliveCheck_passes ha he (by omega) hg, if_neg (by omega)]

end Sys2Proof.Machine
end

section
/-! PROOF. Two statements that a state refutes: ABORT of a running CHECK_RUN, whose record gets the results of what it has fed (14 R326),
and THERMAL_READ between a change of the raster and the next update of the zones (11 R273, R289). -/

namespace Sys2Proof.Machine

/-- A tile that runs, with its identity. -/
def runningTile : State := { State.reset with
  power := { State.reset.power with mode := .run }
  fw := { State.reset.fw with running := true }
  net := { State.reset.net with identity := some ⟨0x0A000002, 24, 0, 1, 2⟩ } }

/-- A packet of the host port, tag 7, that wants a reply. -/
def hostRequest (params : List Byte) : Req :=
  { src := .host, tag := 7, auth := false, alive := false, replyReq := true, broadcast := false, sched := none, target := 0, params := params }

/-! ## ABORT of a running CHECK_RUN -/

/-- The record of a CHECK_RUN of the host port, tag 9, that runs. -/
def checkRunRecord : LongOp := { req := { hostRequest (zeros 16) with tag := 9 }, code := 0x0B01, state := 0, long := true }

/-- Its run over one byte of DRAM. -/
def checkRunAtWork : CheckRun :=
  { src := .host, tag := 9, saved := {}, flash := false, continue_ := false, compare := false, addr := 0, length := 1, expected := 0, began := 0 }

/-- Check unit 0 is owned by that run. -/
def checkRunningTile : State := { runningTile with
  check := [{ run := some checkRunAtWork }, {}, {}, {}]
  cmd.longOps := [checkRunRecord] }

/-- ABORT of tag 9. -/
def abortRequest : Req := hostRequest (u16 9 ++ u16 0)

theorem abortRequest_accepted : Accepted abortSpec abortRequest checkRunningTile :=
  ⟨rfl, by decide +kernel, rfl, rfl⟩

theorem abortRequest_names : findOp .host (prm abortRequest 0 2) (startOf abortRequest checkRunningTile) = some checkRunRecord := by
  decide +kernel

/-- The aborted record has the 16 bytes of results of Table 14-10. -/
theorem abort_checkRun_results :
    (findOp .host (prm abortRequest 0 2) (runPacket (period checkRunningTile) abortSpec abortRequest checkRunningTile)).map
      (·.results.length) = some 16 := by
  decide +kernel

/-- So it is not the record of before but for its state, its final status and its progress. -/
theorem abort_checkRun_not_asBefore {t : State} (h : exec (.abort abortRequest) checkRunningTile = .next t) :
    findOp .host (prm abortRequest 0 2) t ≠ some { checkRunRecord with
      state := 2, final := St.notCommitted, progress := 1000, bulk := none, doneAt := nowNs checkRunningTile } := by
  intro hop
  rw [exec_packet _ rfl, Host.Outcome.next.injEq] at h
  have results := abort_checkRun_results
  rw [h, hop] at results
  exact absurd results (by decide)

/-- Refutes O16: ABORT of a running CHECK_RUN gives its record the results of what was fed. -/
theorem not_partialResultsAndAbort : ¬ Obligations.PartialResultsAndAbort := by
  unfold Obligations.PartialResultsAndAbort
  rintro ⟨-, abort⟩
  obtain ⟨-, -, stopped⟩ := abort _ _ _ abortRequest_accepted abortRequest_names
  obtain ⟨t, ht, -, -, -, record⟩ := stopped rfl (by decide)
  exact abort_checkRun_not_asBefore ht record

/-- Refutes O51, in its clause of ABORT: the state that refutes O16. -/
theorem not_packetRowsComplete : ¬ Obligations.PacketRowsComplete := by
  unfold Obligations.PacketRowsComplete
  rintro ⟨-, -, abort, -⟩
  obtain ⟨t, ht, record⟩ := abort _ _ _ abortRequest_accepted abortRequest_names rfl (by decide)
  exact abort_checkRun_not_asBefore ht record

/-! ## THERMAL_READ of zones that do not fit the raster yet -/

/-- A raster of one cell, the grid of the zones still that of no raster. -/
def unfittedTile : State := { runningTile with chain.width := 16, chain.height := 32 }

/-- THERMAL_READ without the zones' temperatures. -/
def thermalRequest : Req := hostRequest (zeros 4)

theorem thermalRequest_accepted : Accepted thermalReadSpec thermalRequest unfittedTile :=
  ⟨rfl, by decide +kernel, rfl, by decide +kernel⟩

/-- The reply is that of the fitted zones, whose hottest one stands at ambient temperature, and not that of no zone. -/
theorem not_reads_thermalRead {res : Req → State → List Byte} (h : res thermalRequest (startOf thermalRequest unfittedTile) =
    thermalBytes unfittedTile) : ¬ Reads .thermalRead thermalReadSpec res := by
  intro reads
  obtain ⟨t, ht, answered, -⟩ := reads _ _ thermalRequest_accepted
  rw [exec_packet _ rfl, Host.Outcome.next.injEq] at ht
  rw [← ht, h] at answered
  exact absurd (congrArg (fun u => u.host.reply) answered) (by decide +kernel)

/-- Refutes O13: THERMAL_READ fits the zones to the raster before it reads them. -/
theorem not_readRowsAnswerWithoutEffect : ¬ Obligations.ReadRowsAnswerWithoutEffect := by
  unfold Obligations.ReadRowsAnswerWithoutEffect
  rintro ⟨⟨-, -, -, -, -, -, -, -, -, -, -, thermal, -⟩, -⟩
  exact not_reads_thermalRead (by decide +kernel) thermal

end Sys2Proof.Machine
end

section
/-! PROOF. Layer buffers and streams (04 R105, R109, R130): what a lookup in the pool finds after each of its changes, and the rows
BUFFER_ALLOC, BUFFER_RELEASE and STREAM_DROP. -/

namespace Sys2Proof.Machine

/-! ## Checks in order (02 R57) -/

theorem firstFail_ok {a : Nat} {l : List Nat} (h : firstFail (a :: l) = St.ok) : a = St.ok ∧ firstFail l = St.ok := by
  rw [firstFail] at h
  split at h
  · exact ⟨‹_›, h⟩
  · contradiction

/-! ## Lookup in the pool of buffers -/

/-- An answer leaves the buffers, layers and streams alone. -/
theorem ReplyFrame.layers {s t : State} (h : ReplyFrame s t) : t.layers = s.layers := by
  unfold ReplyFrame at h
  rw [h]

theorem findBuf_congr {s t : State} (h : t.layers.buffers = s.layers.buffers) (k : Nat) : findBuf t k = findBuf s k :=
  congrArg (List.find? _) h

theorem findBuf_handle {s : State} {h : Nat} {b : Buffer} (hb : findBuf s h = some b) : b.handle = h := by
  simpa using List.find?_some hb

/-- A buffer that was changed under its handle, and every other. -/
theorem findBuf_modBuf (h k : Nat) {f : Buffer → Buffer} (s : State) (hf : ∀ b, (f b).handle = b.handle) :
    findBuf (modBuf h f s) k = if k = h then (findBuf s k).map f else findBuf s k := by
  have key : ((fun b : Buffer => b.handle == k) ∘ fun b => if b.handle == h then f b else b) = fun b => b.handle == k := by
    funext b
    dsimp only [Function.comp]
    split <;> simp [hf]
  have mapped : findBuf (modBuf h f s) k = (findBuf s k).map fun b => if b.handle == h then f b else b := by
    unfold findBuf modBuf
    rw [List.find?_map, key]
  rw [mapped]
  cases hb : findBuf s k with
  | none => simp
  | some b =>
    rw [Option.map_some, findBuf_handle hb]
    by_cases hk : k = h <;> simp [hk]

theorem findBuf_dropBuf_self (h : Nat) (s : State) : findBuf (dropBuf h s) h = none := by
  simp [findBuf, dropBuf]

theorem findBuf_dropBuf_other {h k : Nat} (s : State) (hk : k ≠ h) : findBuf (dropBuf h s) k = findBuf s k := by
  unfold findBuf dropBuf
  rw [List.find?_filter]
  congr 1
  funext b
  by_cases hb : b.handle = k <;> simp [hb, hk]

/-- An aborted fill ends its operation and keeps the buffer. -/
theorem abortFill_buffers (b : Buffer) (s : State) : (abortFill b s).layers.buffers = s.layers.buffers := by
  unfold abortFill
  split <;> rfl

/-! ## BUFFER_ALLOC (04 R105) -/

theorem newBuffer_fromSlide (r : Req) (s : State) : (newBuffer r.params s).fromSlide = bitN (prm r 1 1) 6 :=
  congrArg (bitN · 6) (be_one r.params 1).symm

theorem bufferAllocSpec_run_busy {r : Req} {s : State} (h : allocBusy r.params s = true) :
    bufferAllocSpec.run r s = (s, .done St.busy []) := if_pos h

theorem bufferAllocSpec_run_free {r : Req} {s : State} (h : allocBusy r.params s = false) (hs : bitN (prm r 1 1) 6 = false) :
    bufferAllocSpec.run r s =
      ({ s with layers.buffers := s.layers.buffers ++ [newBuffer r.params s] }, .done St.ok (allocBytes (newBuffer r.params s))) :=
  (if_neg (Bool.eq_false_iff.1 h)).trans (if_neg (by rw [newBuffer_fromSlide, hs]; exact Bool.false_ne_true))

theorem bufferAllocSpec_run_slide {r : Req} {s : State} (h : allocBusy r.params s = false) (hs : bitN (prm r 1 1) 6 = true) :
    bufferAllocSpec.run r s = ({ s with layers.buffers := s.layers.buffers ++
      [{ newBuffer r.params s with state := .filling, filler := .slide, opSrc := r.src, opTag := r.tag }] }, .accepted) :=
  (if_neg (Bool.eq_false_iff.1 h)).trans (if_pos ((newBuffer_fromSlide r s).trans hs))

/-! ## BUFFER_RELEASE (04 R109, Table 4-3) -/

/-- A release that passed its row's check names a buffer. -/
theorem bufferRelease_names {r : Req} {s : State} (h : bufferReleaseSpec.check r s = St.ok) : ∃ b, findBuf s (prm r 0 2) = some b := by
  obtain ⟨-, hb⟩ := firstFail_ok h
  obtain ⟨hb, -⟩ := firstFail_ok hb
  exact Option.isSome_iff_exists.1 ((need_ok _).1 hb)

theorem releaseBuf_ring {s : State} {h : Nat} {b : Buffer} (hb : findBuf s h = some b) (hr : inRing s h = true) :
    releaseBuf h s = (s, St.busy) := by
  rw [releaseBuf, hb]
  exact if_pos hr

theorem releaseBuf_named {s : State} {h : Nat} {b : Buffer} (hb : findBuf s h = some b) (hr : inRing s h = false)
    (hn : isNamed s h = true) : releaseBuf h s = (modBuf h (fun b => { b with releasePending := true }) s, St.deferred) := by
  rw [releaseBuf, hb]
  exact (if_neg (Bool.eq_false_iff.1 hr)).trans (if_pos (by rw [hn]; rfl))

theorem releaseBuf_unused {s : State} {h : Nat} {b : Buffer} (hb : findBuf s h = some b) (hr : inRing s h = false)
    (hn : isNamed s h = false) (hs : b.state = .free ∨ b.state = .ready) : releaseBuf h s = (dropBuf h (abortFill b s), St.ok) := by
  rw [releaseBuf, hb]
  refine (if_neg (Bool.eq_false_iff.1 hr)).trans (if_neg ?_)
  rcases hs with hs | hs <;> rw [hn, hs] <;> decide

theorem bufferReleaseSpec_run {r : Req} {s x : State} {st : Nat} (h : releaseBuf (prm r 0 2) s = (x, st)) :
    bufferReleaseSpec.run r s = (x, .done st []) := by
  unfold bufferReleaseSpec
  dsimp only
  rw [h]

/-- A buffer that nothing uses leaves the pool, and every other stays. -/
theorem bufferRelease_removes {r : Req} {s : State} {b : Buffer} (h : Accepted bufferReleaseSpec r s)
    (hb : findBuf s (prm r 0 2) = some b) (hr : inRing s (prm r 0 2) = false) (hn : isNamed s (prm r 0 2) = false)
    (hs : b.state = .free ∨ b.state = .ready) :
    Effect (.bufferRelease r) s fun t => findBuf t (prm r 0 2) = none ∧ ∀ k, k ≠ prm r 0 2 → findBuf t k = findBuf s k := by
  have run := exec_shortDone (i := .bufferRelease r) rfl h rfl rfl
    (bufferReleaseSpec_run (releaseBuf_unused (s := startOf r s) hb hr hn hs))
  refine effect_of_exec run ?_
  have kept := findBuf_congr (congrArg LayerState.buffers
    (answerLarge_frame bufferReleaseSpec.code r St.ok [] (dropBuf (prm r 0 2) (abortFill b (startOf r s)))).layers)
  refine ⟨(kept _).trans (findBuf_dropBuf_self ..), fun k hk => ?_⟩
  calc findBuf _ k = findBuf (dropBuf (prm r 0 2) (abortFill b (startOf r s))) k := kept k
    _ = findBuf (abortFill b (startOf r s)) k := findBuf_dropBuf_other _ hk
    _ = findBuf s k := findBuf_congr (abortFill_buffers ..) k

/-! ## STREAM_DROP (04 R130) -/

theorem freeBuf_streams (h : Nat) (s : State) : (freeBuf h s).layers.streams = s.layers.streams := by
  unfold freeBuf
  split
  · rfl
  · split <;> rfl

/-- The default in the place of an element reads as a missing one. -/
theorem getD_setAt_default {α : Type} (l : List α) (i : Nat) (d : α) : (setAt l i d).getD i d = d := by
  unfold setAt
  rw [List.getD_eq_getElem?_getD, List.getElem?_set_self']
  cases l[i]? <;> rfl

/-- A dropped stream is forgotten: the buffers that it filled are freed after it has gone. -/
theorem dropStream_forgets (h : Nat) (s : State) : (dropStream h s).layers.streams.getD h none = none := by
  unfold dropStream
  split
  · assumption
  · refine (congrArg (·.getD h none) (foldl_keeps (fun t => t.layers.streams)
      (f := fun t (b : Buffer) => freeBuf b.handle t) (fun t b => freeBuf_streams b.handle t) _ _)).trans ?_
    exact getD_setAt_default ..

/-! ## The statement -/

/-- Settles O18: each row acts by the run that the lemmas above give it, and a dropped stream is forgotten. -/
theorem pixelDataRowsAct : Obligations.PixelDataRowsAct := by
  unfold Obligations.PixelDataRowsAct
  refine ⟨?free, ?busy, ?ring, ?named, fun r s b h hb hr hn hs => bufferRelease_removes h hb hr hn hs, ?drop, dropStream_forgets⟩
  case free =>
    exact acts_of (fun _ _ => rfl) (fun _ _ _ hc => hc.1) rfl fun _ _ _ ⟨hs, hb⟩ => bufferAllocSpec_run_free hb hs
  case busy => exact acts_of (fun _ _ => rfl) (fun _ _ _ hc => hc.1) rfl fun _ _ _ ⟨_, hb⟩ => bufferAllocSpec_run_busy hb
  case ring =>
    refine acts_of (fun _ _ => rfl) (fun _ _ _ _ => rfl) rfl fun r s hk hr => ?_
    obtain ⟨b, hb⟩ := bufferRelease_names hk
    exact bufferReleaseSpec_run (releaseBuf_ring (s := startOf r s) hb hr)
  case named =>
    refine acts_of (fun _ _ => rfl) (fun _ _ _ _ => rfl) rfl fun r s hk ⟨hr, hn⟩ => ?_
    obtain ⟨b, hb⟩ := bufferRelease_names hk
    exact bufferReleaseSpec_run (releaseBuf_named (s := startOf r s) hb hr hn)
  case drop => exact acts_of (fun _ _ => rfl) (fun _ _ _ _ => rfl) rfl fun _ _ _ _ => rfl

end Sys2Proof.Machine
end

section
/-! PROOF. Operations that take their data in bulk blocks (04 R110, 06 R161, R165, 17 R389, R390, 18 R404, R407): the record of an
operation as it begins and as it waits for its blocks, and the rows that begin so. -/

namespace Sys2Proof.Machine

/-! ## Operations as they begin -/

/-- The state in which a long operation begins: its record is made. -/
def recordedOp (o : OpSpec) (r : Req) (s : State) : State := addOp { req := r, code := o.code, state := 0, long := true } s

/-- An accepted packet of a long row whose run is accepted is answered ACCEPTED. -/
theorem exec_longAccepted {i : Instr} {o : OpSpec} {r : Req} {s x : State} (hi : packetOf i = some (o, r)) (h : Accepted o r s)
    (hl : o.long r = true) (hc : longCount s < 16) (hr : o.run r (recordedOp o r s) = (x, .accepted)) :
    exec i s = .next (answer o.code r St.accepted [] x) := by
  unfold recordedOp at hr
  rw [exec_packet s hi, long_of h hl hc, hr]

/-- The record of a new operation is its source's one record of the tag. -/
theorem findOp_addOp (o : LongOp) (s : State) : findOp o.req.src o.req.tag (addOp o s) = some o := by
  have gone : (s.cmd.longOps.filter fun x => !isOp o.req.src o.req.tag x).find? (isOp o.req.src o.req.tag) = none := by simp
  show (s.cmd.longOps.filter (fun x => !isOp o.req.src o.req.tag x) ++ [o]).find? _ = _
  rw [List.find?_append, gone]
  simp [isOp_self]

/-- A record that was changed under its source and tag. -/
theorem findOp_modOp {src : Source} {tag : Nat} {f : LongOp → LongOp} (s : State) (hf : ∀ o, (f o).req = o.req) :
    findOp src tag (modOp src tag f s) = (findOp src tag s).map f := by
  have key : (isOp src tag ∘ fun o => if isOp src tag o then f o else o) = isOp src tag := by
    funext o
    dsimp only [Function.comp]
    split <;> simp [isOp, hf]
  unfold findOp modOp
  rw [List.find?_map, key]
  cases ho : s.cmd.longOps.find? (isOp src tag) with
  | none => rfl
  | some o => rw [Option.map_some, if_pos (List.find?_some ho)]; rfl

/-! ## Operations that wait for their blocks (18 R404, R407) -/

/-- What an operation that begins to wait for `length` bytes has: no block, and the session command key of this moment. -/
def newBulk (r : Req) (length : Nat) (s : State) : BulkIn :=
  ⟨length, [], nowNs s, ((findSource r.src s).map (·.extSeq)).getD 0, s.cmd.sessionKey⟩

theorem findOp_awaitBulk {r : Req} {s : State} {op : LongOp} (length : Nat) (h : findOp r.src r.tag s = some op) :
    findOp r.src r.tag (awaitBulk r length s) = some { op with bulk := some (newBulk r length s) } := by
  show findOp r.src r.tag (modOp r.src r.tag (fun o => { o with bulk := some (newBulk r length s) }) s) = _
  rw [findOp_modOp, h]
  · rfl
  · exact fun _ => rfl

/-! ## ALMANAC_LOAD (06 R161) -/

theorem almanacLoadSpec_run_busy {r : Req} {s : State} (h : loadRuns s r = true ∨ swapPending s (inactiveBank s) = true) :
    almanacLoadSpec.run r s = (s, .done St.busy []) := if_pos (Bool.or_eq_true_iff.2 h)

theorem almanacLoadSpec_run_free {r : Req} {s : State} (hl : loadRuns s r = false) (hp : swapPending s (inactiveBank s) = false) :
    almanacLoadSpec.run r s = if prm r 0 1 = 0 then (awaitBulk r (prm r 4 4) s, .accepted) else (s, .accepted) :=
  if_neg (by rw [hl, hp]; exact Bool.false_ne_true)

/-! ## BUFFER_WRITE (04 R110) -/

/-- The buffer of a BUFFER_WRITE that waits for its data. -/
def writtenBuffer (r : Req) (b : Buffer) : Buffer :=
  { b with state := .filling, filler := .bulkWrite, incomplete := [], opSrc := r.src, opTag := r.tag }

theorem bufferWriteSpec_run_writable {r : Req} {s : State} {b : Buffer} (hb : findBuf s (prm r 0 2) = some b)
    (hw : writable s b = true) :
    bufferWriteSpec.run r s = (awaitBulk r (prm r 8 4) (modBuf (prm r 0 2) (writtenBuffer r) s), .accepted) := by
  unfold bufferWriteSpec
  dsimp only
  rw [hb]
  refine (if_pos hw).trans ?_
  rw [findBuf_handle hb]
  rfl

/-- The operation waits for its blocks, its buffer fills from them, and every other buffer stays. -/
theorem bufferWrite_begins {r : Req} {s : State} {b : Buffer} (h : Accepted bufferWriteSpec r s) (hc : longCount s < 16)
    (hb : findBuf s (prm r 0 2) = some b) (hw : writable s b = true) :
    Effect (.bufferWrite r) s fun t =>
      (∃ op ∈ t.cmd.longOps, isOp r.src r.tag op = true ∧ op.state = 0 ∧ op.bulk.map (·.length) = some (prm r 8 4)) ∧
      (∃ x, findBuf t (prm r 0 2) = some x ∧ x.state = .filling ∧ x.filler = .bulkWrite ∧ x.mem = b.mem) ∧
      ∀ k, k ≠ prm r 0 2 → findBuf t k = findBuf s k := by
  have found : findOp r.src r.tag (modBuf (prm r 0 2) (writtenBuffer r) (recordedOp bufferWriteSpec r s)) =
      some { req := r, code := bufferWriteSpec.code, state := 0, long := true } :=
    findOp_addOp { req := r, code := bufferWriteSpec.code, state := 0, long := true } s
  have waiting := findOp_awaitBulk (prm r 8 4) found
  refine effect_of_exec (exec_longAccepted (i := .bufferWrite r) rfl h rfl hc
    (bufferWriteSpec_run_writable (s := recordedOp bufferWriteSpec r s) hb hw)) ?_
  have buffers (k : Nat) := (findBuf_congr (congrArg LayerState.buffers (answer_frame bufferWriteSpec.code r St.accepted []
    (awaitBulk r (prm r 8 4) (modBuf (prm r 0 2) (writtenBuffer r) (recordedOp bufferWriteSpec r s)))).layers) k).trans
    (findBuf_modBuf (prm r 0 2) k (recordedOp bufferWriteSpec r s) (f := writtenBuffer r) fun _ => rfl)
  refine ⟨⟨_, ?_, List.find?_some waiting, rfl, rfl⟩, ⟨writtenBuffer r b, ?_, rfl, rfl, rfl⟩, fun k hk => ?_⟩
  · rw [answer_longOps]
    exact List.mem_of_find?_eq_some waiting
  · exact (buffers _).trans ((if_pos rfl).trans (congrArg (Option.map (writtenBuffer r)) hb))
  · exact (buffers k).trans (if_neg hk)

/-! ## NVM_WRITE and IMAGE_STAGE (17 R389, R390) -/

theorem nvmWriteSpec_run_free {r : Req} {s : State} (h : flashStatus s = St.ok) :
    nvmWriteSpec.run r s = if prm r 8 4 ≤ 8176 then (nvmReceived r (inlineData r) s, .accepted)
      else (awaitBulk r (prm r 8 4) s, .accepted) := if_neg (Decidable.not_not.2 h)

theorem imageStageSpec_run_free {r : Req} {s : State} (hp : s.fw.probation = none) (hs : stagingRuns s r = false) :
    imageStageSpec.run r s = if s.therm.shutdownAt.isSome then (s, .done St.thermalRefused [])
      else (awaitBulk r (prm r 0 4) s, .accepted) := if_neg (by rw [hp, hs]; exact Bool.false_ne_true)

/-! ## The statement -/

/-- Settles O22: each row begins by the run that the lemmas above give it, and the record of an operation that waits is the one on
record with its blocks to come. -/
theorem bulkOperationsAwaitTheirData : Obligations.BulkOperationsAwaitTheirData := by
  unfold Obligations.BulkOperationsAwaitTheirData
  refine ⟨?loadFile, ?loadModule, ?loadBusy, ?binTables, fun r s b h hc hb hw => bufferWrite_begins h hc hb hw, ?large, ?inline,
    ?image, ?shutdown, ?record⟩
  case loadFile =>
    exact begins_of (fun _ _ => rfl) (fun _ _ _ => rfl) fun _ _ _ _ _ ⟨hl, hp, hm⟩ => (almanacLoadSpec_run_free hl hp).trans (if_pos hm)
  case loadModule =>
    exact begins_of (fun _ _ => rfl) (fun _ _ _ => rfl) fun _ _ _ _ _ ⟨hl, hp, hm⟩ => (almanacLoadSpec_run_free hl hp).trans (if_neg hm)
  case loadBusy => exact refuses_of (fun _ _ => rfl) (fun _ _ _ => rfl) fun _ _ _ _ _ hb => almanacLoadSpec_run_busy hb
  case binTables => exact begins_of (fun _ _ => rfl) (fun _ _ _ => rfl) fun _ _ _ _ _ _ => rfl
  case large =>
    exact begins_of (fun _ _ => rfl) (fun _ _ _ => rfl) fun _ _ _ _ _ ⟨hf, hn⟩ =>
      (nvmWriteSpec_run_free hf).trans (if_neg (Nat.not_le.2 hn))
  case inline =>
    exact begins_of (fun _ _ => rfl) (fun _ _ _ => rfl) fun _ _ _ _ _ ⟨hf, hn⟩ => (nvmWriteSpec_run_free hf).trans (if_pos hn)
  case image =>
    exact begins_of (fun _ _ => rfl) (fun _ _ _ => rfl) fun _ _ _ _ _ ⟨hp, hs, ht⟩ =>
      (imageStageSpec_run_free hp hs).trans (if_neg (by rw [ht]; exact Bool.false_ne_true))
  case shutdown =>
    exact refuses_of (fun _ _ => rfl) (fun _ _ _ => rfl) fun _ _ _ _ _ ⟨hp, hs, ht⟩ => (imageStageSpec_run_free hp hs).trans (if_pos ht)
  case record => exact fun r length s op h => ⟨newBulk r length s, findOp_awaitBulk length h, rfl, rfl, rfl, rfl⟩

end Sys2Proof.Machine
end

section
/-! PROOF. Long operations of the tile (04 R105, R126; 06 R172, R173; 12; 13 R311, R313; 14 R326; 15 R349, R351): what the run of each row
comes to, and the rows that take a buffer, a check unit or the inactive bank. -/

namespace Sys2Proof.Machine

/-! ## BUFFER_ALLOC from a slide and WRITEBACK (04 R105, R126) -/

/-- A buffer from a slide is in the pool at once, and fills. -/
theorem bufferAlloc_fillsFromSlide {r : Req} {s : State} (h : Accepted bufferAllocSpec r s) (hc : longCount s < 16)
    (hs : bitN (prm r 1 1) 6 = true) (hb : allocBusy r.params s = false) :
    Effect (.bufferAlloc r) s fun t => t.layers.buffers = s.layers.buffers ++
      [{ newBuffer r.params s with state := .filling, filler := .slide, opSrc := r.src, opTag := r.tag }] :=
  effect_of_exec (exec_longAccepted rfl h hs hc (bufferAllocSpec_run_slide (s := recordedOp bufferAllocSpec r s) hb hs))
    (congrArg LayerState.buffers (answer_frame ..).layers)

/-- The write-back that a request asks for. -/
def writebackOf (r : Req) : Writeback :=
  { src := r.src, tag := r.tag, view := prm r 0 1, tap := prm r 1 1, handle := prm r 2 2, x := prm r 4 2, y := prm r 6 2,
    width := prm r 8 2, height := prm r 10 2, frame := none }

/-- The buffer that a write-back fills. -/
def capturedBuffer (r : Req) (b : Buffer) : Buffer := { b with state := .filling, filler := .writeback, opSrc := r.src, opTag := r.tag }

theorem writebackSpec_run_ok {r : Req} {s : State} (h : writebackStatus r s = St.ok) :
    writebackSpec.run r s = (modBuf (prm r 2 2) (capturedBuffer r)
      { s with layers.writeback := s.layers.writeback ++ [writebackOf r] }, .accepted) := by
  unfold writebackSpec
  dsimp only
  rw [h]
  rfl

theorem writeback_begins {r : Req} {s : State} {b : Buffer} (h : Accepted writebackSpec r s) (hc : longCount s < 16)
    (hw : writebackStatus r s = St.ok) (hb : findBuf s (prm r 2 2) = some b) :
    Effect (.writeback r) s fun t => t.layers.writeback = s.layers.writeback ++ [writebackOf r] ∧
      findBuf t (prm r 2 2) = some (capturedBuffer r b) := by
  refine effect_of_exec (exec_longAccepted (i := .writeback r) rfl h rfl hc
    (writebackSpec_run_ok (s := recordedOp writebackSpec r s) hw)) ?_
  have kept := (answer_frame writebackSpec.code r St.accepted [] (modBuf (prm r 2 2) (capturedBuffer r)
    { recordedOp writebackSpec r s with layers.writeback := s.layers.writeback ++ [writebackOf r] })).layers
  refine ⟨congrArg LayerState.writeback kept, ?_⟩
  refine (findBuf_congr (congrArg LayerState.buffers kept) _).trans ((findBuf_modBuf (f := capturedBuffer r) _ _ _ fun _ => rfl).trans ?_)
  exact (if_pos rfl).trans (congrArg (Option.map (capturedBuffer r)) hb)

/-! ## BIST_RUN and CALIBRATE (13 R311, 12) -/

theorem bistRunSpec_run_shutdown {r : Req} {s : State} (h : s.therm.shutdownAt.isSome = true) :
    bistRunSpec.run r s = (s, .done St.thermalRefused []) := if_pos h

theorem bistRunSpec_run {r : Req} {s : State} (h : s.therm.shutdownAt = none) : bistRunSpec.run r s = ({ s with
    bist.ops := s.bist.ops ++ [{ src := r.src, tag := r.tag, restore := false, blocks := namedBlocks r }] }, .accepted) :=
  if_neg (by rw [h]; exact Bool.false_ne_true)

theorem calibrateSpec_run {r : Req} {s : State} (h : s.therm.shutdownAt = none) : calibrateSpec.run r s =
    if calibrating s then (s, .done St.busy [])
    else ({ s with trim.run := some (calRunOf r s), trim.latest := some (trimsNow s) }, .accepted) :=
  if_neg (by rw [h]; exact Bool.false_ne_true)

/-! ## CHECK_RUN (14 R326) -/

/-- An answer leaves the check units alone. -/
theorem ReplyFrame.check {s t : State} (h : ReplyFrame s t) : t.check = s.check := by
  unfold ReplyFrame at h
  rw [h]

/-- The run that a request asks for, of a unit with the given context. -/
def checkRunOf (r : Req) (c : CheckUnit) (now : Nat) : CheckRun :=
  { src := r.src, tag := r.tag, saved := c.ctx, flash := bitN (prm r 1 1) 7, continue_ := bitN (prm r 1 1) 6,
    compare := bitN (prm r 1 1) 5, addr := prm r 4 4, length := prm r 8 4, expected := prm r 12 4, began := now }

/-- A check unit that a run takes. -/
def takenUnit (r : Req) (x : CheckRun) (c : CheckUnit) : CheckUnit :=
  { c with ctx := if bitN (prm r 1 1) 6 then c.ctx else c.ctx.reload, run := some x }

theorem checkRunSpec_run_owned {r : Req} {s : State} (h : (getCheck s (prm r 0 1)).owned = true) :
    checkRunSpec.run r s = (s, .done St.busy []) := if_pos h

theorem checkRunSpec_run_free {r : Req} {s : State} (h : (getCheck s (prm r 0 1)).owned = false) : checkRunSpec.run r s =
    (modCheck (prm r 0 1) (takenUnit r (checkRunOf r (getCheck s (prm r 0 1)) (nowNs s))) s, .accepted) :=
  if_neg (Bool.eq_false_iff.1 h)

/-- A CHECK_RUN that passed its row's check names one of the four units. -/
theorem checkRun_unit {r : Req} {s : State} (h : checkRunSpec.check r s = St.ok) : prm r 0 1 < 4 := by
  obtain ⟨-, h⟩ := firstFail_ok h
  obtain ⟨h, -⟩ := firstFail_ok h
  have fields := (need_ok _).1 h
  simp only [Bool.and_eq_true, decide_eq_true_eq] at fields
  obtain ⟨⟨hu, -⟩, -⟩ := fields
  omega

theorem checkRun_begins {r : Req} {s : State} (h : Accepted checkRunSpec r s) (hc : longCount s < 16) (hlen : s.check.length = 4)
    (ho : (getCheck s (prm r 0 1)).owned = false) :
    Effect (.checkRun r) s fun t =>
      getCheck t (prm r 0 1) = takenUnit r (checkRunOf r (getCheck s (prm r 0 1)) (nowNs s)) (getCheck s (prm r 0 1)) ∧
      ∀ u, u ≠ prm r 0 1 → getCheck t u = getCheck s u := by
  obtain ⟨-, hp, -, -⟩ := id h
  have unit : prm r 0 1 < s.check.length := by rw [hlen]; exact checkRun_unit (check_of hp)
  refine effect_of_exec (exec_longAccepted (i := .checkRun r) rfl h rfl hc
    (checkRunSpec_run_free (s := recordedOp checkRunSpec r s) ho)) ?_
  have units (u : Nat) := (congrArg (·.getD u {}) (answer_frame checkRunSpec.code r St.accepted [] (modCheck (prm r 0 1)
    (takenUnit r (checkRunOf r (getCheck s (prm r 0 1)) (nowNs s))) (recordedOp checkRunSpec r s))).check).trans
    (getCheck_modCheck (recordedOp checkRunSpec r s) (prm r 0 1) u _ unit)
  exact ⟨(units _).trans (if_pos rfl), fun u hu => (units u).trans (if_neg hu.symm)⟩

/-! ## SAFETY_CONFIG (15 R349, R351) -/

theorem safetyConfigSpec_run_used {r : Req} {s : State} (h : s.safety.light.state = .run ∨ s.safety.motion.state = .run) :
    safetyConfigSpec.run r s = (s, .done St.locked []) := if_pos (by simpa using h)

theorem safetyConfigSpec_run_unused {r : Req} {s : State} (hl : s.safety.light.state ≠ .run) (hm : s.safety.motion.state ≠ .run) :
    safetyConfigSpec.run r s =
      if s.fuse.commissioned && prm r 1 1 = 0 then (s, .done St.locked [])
      else if s.safety.pending.isSome then (s, .done St.busy [])
      else ({ s with safety := { s.safety with pending := some ⟨safetyCfgOf r.params, r.src, r.tag, nowNs s⟩ } }, .accepted) :=
  if_neg (by simp [hl, hm])

/-! ## AGING_RECAST now (06 R172, R173) -/

/-- An answer leaves the Almanac alone. -/
theorem ReplyFrame.almanac {s t : State} (h : ReplyFrame s t) : t.almanac = s.almanac := by
  unfold ReplyFrame at h
  rw [h]

theorem enqueueFlash_almanac (w : FlashWrite) (s : State) : (enqueueFlash w s).almanac = s.almanac := by
  unfold enqueueFlash beginFlash
  dsimp only
  split
  · rfl
  · split <;> rfl

/-- A recast that starts is on record with its operation and the bank that it builds. -/
theorem startRecast_recast (op : Option (Source × Nat)) (f : List Byte) (s : State) :
    (startRecast op f s).almanac.recast = some ⟨op, inactiveBank s⟩ := by
  unfold startRecast
  rw [enqueueFlash_almanac]

theorem agingRecastSpec_run_waits {r : Req} {s : State} (h : prm r 0 1 = 1) (hw : recastWaits s = true) :
    agingRecastSpec.run r s = (s, .done St.busy []) := by
  unfold agingRecastSpec
  dsimp only
  rw [h]
  exact if_pos hw

theorem agingRecastSpec_run_stored {r : Req} {s : State} {f : List Byte} (h : prm r 0 1 = 1) (hw : recastWaits s = false)
    (hf : storedFile s = some f) : agingRecastSpec.run r s = (startRecast (some (r.src, r.tag)) f s, .accepted) := by
  unfold agingRecastSpec
  dsimp only
  rw [h, hf]
  exact if_neg (Bool.eq_false_iff.1 hw)

/-- Without a stored file the recast ends in the step that starts it (notes/assumptions/40.md). -/
theorem agingRecastSpec_run_torn {r : Req} {s : State} (h : prm r 0 1 = 1) (hw : recastWaits s = false)
    (hf : storedFile s = none) : agingRecastSpec.run r s = (completeOp r.src r.tag St.nvmTorn [] s, .accepted) := by
  unfold agingRecastSpec
  dsimp only
  rw [h, hf]
  exact if_neg (Bool.eq_false_iff.1 hw)

theorem agingRecastNow_begins {r : Req} {s : State} {f : List Byte} (h : Accepted agingRecastSpec (withByte r 0 1) s)
    (hc : longCount s < 16) (ha : prm (withByte r 0 1) 0 1 = 1)
    (hw : recastWaits (recordedOp agingRecastSpec (withByte r 0 1) s) = false)
    (hf : storedFile (recordedOp agingRecastSpec (withByte r 0 1) s) = some f) :
    Effect (.agingRecastNow r) s fun t => t = answer agingRecastSpec.code (withByte r 0 1) St.accepted []
        (startRecast (some (r.src, r.tag)) f (recordedOp agingRecastSpec (withByte r 0 1) s)) ∧
      t.almanac.recast = some ⟨some (r.src, r.tag), inactiveBank (recordedOp agingRecastSpec (withByte r 0 1) s)⟩ :=
  effect_of_exec (exec_longAccepted rfl h (decide_eq_true ha) hc (agingRecastSpec_run_stored ha hw hf))
    ⟨rfl, (congrArg AlmanacState.recast (answer_frame ..).almanac).trans (startRecast_recast ..)⟩

/-! ## The statement -/

/-- Settles O23: each row begins, or is refused, by the run that the lemmas above give it. -/
theorem longOperationsBegin : Obligations.LongOperationsBegin := by
  unfold Obligations.LongOperationsBegin
  refine ⟨fun r s h hc hs hb => bufferAlloc_fillsFromSlide h hc hs hb, fun r s b h hc hw hb => writeback_begins h hc hw hb,
    ?bist, ?bistShutdown, ?restore, ?calibrate, ?calibrateBusy, ?owned,
    fun r s h hc ⟨hlen, _⟩ ho => checkRun_begins h hc hlen ho, ?runs, ?uncommission, ?confirm, ?recastWaits,
    fun r s f h hc ha hw hf => agingRecastNow_begins h hc ha hw hf, ?torn⟩
  case bist => exact begins_of (fun _ _ => rfl) (fun _ _ _ => rfl) fun _ _ _ _ _ ht => bistRunSpec_run ht
  case bistShutdown => exact refuses_of (fun _ _ => rfl) (fun _ _ _ => rfl) fun _ _ _ _ _ ht => bistRunSpec_run_shutdown ht
  case restore => exact begins_of (fun _ _ => rfl) (fun _ _ _ => rfl) fun _ _ _ _ _ _ => rfl
  case calibrate =>
    exact begins_of (fun _ _ => rfl) (fun _ _ _ => rfl) fun _ _ _ _ _ ⟨ht, hb⟩ =>
      (calibrateSpec_run ht).trans (if_neg (Bool.eq_false_iff.1 hb))
  case calibrateBusy =>
    exact refuses_of (fun _ _ => rfl) (fun _ _ _ => rfl) fun _ _ _ _ _ ⟨ht, hb⟩ => (calibrateSpec_run ht).trans (if_pos hb)
  case owned => exact refuses_of (fun _ _ => rfl) (fun _ _ _ => rfl) fun _ _ _ _ _ ho => checkRunSpec_run_owned ho
  case runs => exact refuses_of (fun _ _ => rfl) (fun _ _ _ => rfl) fun _ _ _ _ _ hu => safetyConfigSpec_run_used hu
  case uncommission =>
    exact refuses_of (fun _ _ => rfl) (fun _ _ _ => rfl) fun _ _ _ _ _ ⟨hl, hm, hf, h0⟩ =>
      (safetyConfigSpec_run_unused hl hm).trans (if_pos (by simp [hf, h0]))
  case confirm =>
    exact begins_of (fun _ _ => rfl) (fun _ _ _ => rfl) fun _ _ _ _ _ ⟨hl, hm, hn, hp⟩ =>
      (safetyConfigSpec_run_unused hl hm).trans ((if_neg (by simpa using hn)).trans
        (if_neg (by rw [hp]; exact Bool.false_ne_true)))
  case recastWaits =>
    exact refuses_of (fun _ _ => rfl) (fun _ _ hc => decide_eq_true hc.1) fun _ _ _ _ _ ⟨ha, hw⟩ => agingRecastSpec_run_waits ha hw
  case torn =>
    exact begins_of (fun _ _ => rfl) (fun _ _ hc => decide_eq_true hc.1) fun _ _ _ _ _ ⟨ha, hw, hf⟩ => agingRecastSpec_run_torn ha hw hf

end Sys2Proof.Machine
end

section
/-! PROOF. Operations that measure the tile (06 R166; 09 R237; 10 R259; 18 R409): what the run of each row comes to, and how the
operation begins or is refused. -/

namespace Sys2Proof.Machine

/-! ## CHAIN_ENUMERATE (09 R237) -/

theorem chainEnumerateSpec_run_busy {r : Req} {s : State} (h : s.chain.enumRun.isSome = true) :
    chainEnumerateSpec.run r s = (s, .done St.busy []) := if_pos h

theorem chainEnumerateSpec_run_free {r : Req} {s : State} (h : s.chain.enumRun = none) : chainEnumerateSpec.run r s =
    (enumFrom ⟨r.src, r.tag, targetLoops s r.target, targetLoops s r.target, 0⟩ s, .accepted) :=
  if_neg (by rw [h]; exact Bool.false_ne_true)

/-! ## DIAG_RUN (10 R259; 18 R409) -/

theorem diagRunSpec_run_shutdown {r : Req} {s : State} (h : s.therm.shutdownAt.isSome = true) :
    diagRunSpec.run r s = (s, .done St.thermalRefused []) := if_pos h

theorem diagRunSpec_run {r : Req} {s : State} (h : s.therm.shutdownAt = none) : diagRunSpec.run r s =
    if prm r 0 1 = 4 && !fitsOneEnd s (prm r 1 1) then (s, .done St.busy []) else (beginDiag r s, .accepted) :=
  if_neg (by rw [h]; exact Bool.false_ne_true)

/-- A ball test does not begin where the other end cannot hold the loop of its port. -/
theorem diagRunSpec_run_unfit {r : Req} {s : State} (ht : s.therm.shutdownAt = none) (hm : prm r 0 1 = 4)
    (hf : fitsOneEnd s (prm r 1 1) = false) : diagRunSpec.run r s = (s, .done St.busy []) :=
  (diagRunSpec_run ht).trans (if_pos (by simp [hm, hf]))

/-- Only a ball test asks for the other end. -/
theorem diagRunSpec_run_free {r : Req} {s : State} (ht : s.therm.shutdownAt = none)
    (hf : prm r 0 1 = 4 → fitsOneEnd s (prm r 1 1) = true) : diagRunSpec.run r s = (beginDiag r s, .accepted) :=
  (diagRunSpec_run ht).trans (if_neg (by simpa using hf))

/-- The run of a DIAG_RUN as it begins, of the given cells. -/
def newDiagRun (r : Req) (mode : Nat) (cells : List (Nat × Nat)) (s : State) : DiagRun :=
  ⟨r.src, r.tag, mode, prm r 1 1, cells, diagRows cells, 0, cells ++ cells, nowNs s, activeRecords s⟩

theorem beginDiag_cells {r : Req} {s : State} {mode : Nat} (hm : prm r 0 1 = mode) (h4 : mode ≠ 4) : beginDiag r s =
    { s with chain.diagRuns := s.chain.diagRuns ++ [newDiagRun r mode (targetCells s r.target) s] } := by
  subst hm
  unfold beginDiag
  rw [if_neg h4]
  rfl

theorem beginDiag_balls {r : Req} {s : State} (hm : prm r 0 1 = 4) : beginDiag r s =
    { s with chain.diagRuns := s.chain.diagRuns ++ [newDiagRun r 4 [] s] } := by
  unfold beginDiag
  rw [if_pos hm, hm]
  rfl

/-- The rows of DIAG_RUN that test cells, with their modes. -/
def cellTests : List ((Req → Instr) × Nat) := [(.diagRunShort, 1), (.diagRunAdjShort, 2), (.diagRunOpen, 3)]

theorem exec_cellTest {i : Req → Instr} {mode : Nat} (h : (i, mode) ∈ cellTests) (r : Req) (s : State) :
    exec (i r) s = .next (runPacket (period s) diagRunSpec (withByte r 0 mode) s) := by
  simp only [cellTests, List.mem_cons, Prod.mk.injEq, List.not_mem_nil, or_false] at h
  obtain ⟨rfl, rfl⟩ | ⟨rfl, rfl⟩ | ⟨rfl, rfl⟩ := h <;> rfl

theorem cellTest_mode {i : Req → Instr} {mode : Nat} (h : (i, mode) ∈ cellTests) : mode ≠ 4 := by
  simp only [cellTests, List.mem_cons, Prod.mk.injEq, List.not_mem_nil, or_false] at h
  omega

/-- Every row of DIAG_RUN is refused in the thermal shutdown. -/
theorem diagRun_refusedInShutdown {i : Req → Instr} {mode : Nat}
    (hi : ∀ r s, exec (i r) s = .next (runPacket (period s) diagRunSpec (withByte r 0 mode) s)) :
    Refuses i diagRunSpec (some mode) (fun _ s => s.therm.shutdownAt.isSome = true) St.thermalRefused :=
  refuses_of hi (fun _ _ _ => rfl) fun _ _ _ _ _ ht => diagRunSpec_run_shutdown ht

/-! ## The statement -/

/-- Settles O24: each row begins, or is refused, by the run that the lemmas above give it. -/
theorem measuringOperationsBegin : Obligations.MeasuringOperationsBegin := by
  unfold Obligations.MeasuringOperationsBegin
  refine ⟨?verify, ?enumerate, ?enumerates, fun i mode hi => ?cells, ?balls, ?unfit, fun i mode hi => ?shutdown⟩
  case verify => exact begins_of (fun _ _ => rfl) (fun _ _ _ => rfl) fun _ _ _ _ _ _ => rfl
  case enumerate =>
    exact begins_of (fun _ _ => rfl) (fun _ _ _ => rfl) fun _ _ _ _ _ hn => chainEnumerateSpec_run_free hn
  case enumerates =>
    exact refuses_of (fun _ _ => rfl) (fun _ _ _ => rfl) fun _ _ _ _ _ hr => chainEnumerateSpec_run_busy hr
  case cells =>
    have notBalls : mode ≠ 4 := cellTest_mode hi
    exact begins_of (exec_cellTest hi) (fun _ _ _ => rfl) fun _ _ _ _ _ ⟨ht, hm⟩ =>
      (diagRunSpec_run_free ht fun h4 => absurd (hm.symm.trans h4) notBalls).trans
        (congrArg (·, Ans.accepted) (beginDiag_cells hm notBalls))
  case balls =>
    exact begins_of (fun _ _ => rfl) (fun _ _ _ => rfl) fun _ _ _ _ _ ⟨ht, hm, hf⟩ =>
      (diagRunSpec_run_free ht fun _ => hf).trans (congrArg (·, Ans.accepted) (beginDiag_balls hm))
  case unfit =>
    exact refuses_of (fun _ _ => rfl) (fun _ _ _ => rfl) fun _ _ _ _ _ ⟨ht, hm, hf⟩ => diagRunSpec_run_unfit ht hm hf
  case shutdown =>
    obtain hc | hb := List.mem_append.1 (show (i, mode) ∈ cellTests ++ [(.diagRunBallTest, 4)] from hi)
    · exact diagRun_refusedInShutdown (exec_cellTest hc)
    · obtain ⟨rfl, rfl⟩ := Prod.mk.inj (List.mem_singleton.1 hb)
      exact diagRun_refusedInShutdown fun _ _ => rfl

end Sys2Proof.Machine
end

section
/-! PROOF. The rows of the current ledger (07 R188, R191 to R193; 15 R342; 19 R423): when a rail may start and what its start leaves
alone, what a request for headroom enters, what each judgement of the input current changes, and the reads of the ambient sensor. -/

namespace Sys2Proof.Machine

/-! ## Rows that act when they are due -/

/-- A row that is not due does nothing. -/
theorem noEffect_of_guard {i : Instr} {s t : State} {due : Bool} (hi : exec i s = .next (if due then t else s)) (hd : due = false) :
    NoEffect i s := hi.trans (by rw [hd]; rfl)

/-- A row that is due has the effect of its function. -/
theorem effect_of_guard {i : Instr} {s t : State} {due : Bool} {P : State → Prop} (hi : exec i s = .next (if due then t else s))
    (hd : due = true) (hp : P t) : Effect i s P := effect_of_exec (hi.trans (by rw [hd]; rfl)) hp

/-- An answer or an alert leaves the ledger alone. -/
theorem ReplyFrame.ledger {s t : State} (h : ReplyFrame s t) : t.ledger = s.ledger := by
  unfold ReplyFrame at h
  rw [h]

/-- An answer or an alert leaves the causes of FAULT_N alone. -/
theorem ReplyFrame.faults {s t : State} (h : ReplyFrame s t) : t.faults = s.faults := by
  unfold ReplyFrame at h
  rw [h]

/-! ## Which rail starts (07 R192) -/

theorem exec_railStart (s : State) :
    exec .railStart s = .next (if railStartDue s then raiseRail ((railsWaiting s).headD 0) s else s) := rfl

theorem exec_railStaggerExpiry (s : State) : exec .railStaggerExpiry s = execRailStaggerExpiry s := rfl

/-- No rail starts while the light pair is used and not in run, in a thermal shutdown, without REFIN, or outside RUN. -/
theorem railsMayStart_eq_false {s : State} (h : (s.safety.light.state ≠ .run ∧ s.safety.light.state ≠ .unused) ∨
    s.therm.shutdownAt.isSome = true ∨ s.power.refinLost = true ∨ s.power.mode ≠ .run) : railsMayStart s = false := by
  obtain ⟨hr, hu⟩ | ht | hl | hm := h
  · rw [railsMayStart, beq_eq_false_iff_ne.2 hr, beq_eq_false_iff_ne.2 hu, Bool.or_false, Bool.and_false]
  · rw [railsMayStart, Option.isNone_eq_false_iff.2 ht, Bool.and_false, Bool.false_and, Bool.false_and]
  · rw [railsMayStart, hl, Bool.not_true, Bool.and_false, Bool.false_and]
  · rw [railsMayStart, beq_eq_false_iff_ne.2 hm, Bool.false_and, Bool.false_and, Bool.false_and]

theorem railStartDue_eq_false {s : State} (h : railsMayStart s = false) : railStartDue s = false := by
  rw [railStartDue, h, Bool.false_and, Bool.false_and, Bool.false_and]

theorem staggerDue_eq_none {s : State} (h : railsMayStart s = false) : staggerDue s = none := by
  unfold staggerDue
  split
  · rw [h, Bool.false_and]
    exact if_neg Bool.false_ne_true
  · rfl

theorem staggerDue_eq_some {s : State} {q r at_ : Nat} (hs : s.ledger.started = some (q, at_)) (hn : nextInStart s = some r)
    (hm : railsMayStart s = true) (ht : at_ + (getRail s r).stagger * 1000000 ≤ nowNs s) : staggerDue s = some r := by
  rw [staggerDue, hs, hn]
  exact if_pos (Bool.and_eq_true_iff.2 ⟨hm, decide_eq_true ht⟩)

theorem railStaggerExpiry_notAllowed {s : State} (h : railsMayStart s = false) : NoEffect .railStaggerExpiry s := by
  rw [NoEffect, exec_railStaggerExpiry, execRailStaggerExpiry, staggerDue_eq_none h]

theorem lt_four_of_mem_railsWaiting {s : State} {r : Nat} (h : r ∈ railsWaiting s) : r < 4 :=
  List.mem_range.1 (List.mem_filter.1 h).1

/-- The next rail of a start-up is one that waits. -/
theorem mem_railsWaiting_of_nextInStart {s : State} {r : Nat} (h : nextInStart s = some r) : r ∈ railsWaiting s := by
  unfold nextInStart at h
  split at h
  · exact List.mem_of_find?_eq_some h
  · contradiction

/-! ## A rail that starts (07 R192) -/

/-- The rail that is raised starts now from magnitude 0, and the others stand. -/
theorem raiseRail_rails {s : State} {r : Nat} (h : r < s.ledger.rails.length) :
    (getRail (raiseRail r s) r).phase = .starting (nowNs s) ∧ (getRail (raiseRail r s) r).m = 0 ∧
      ∀ q, q ≠ r → getRail (raiseRail r s) q = getRail s q := by
  have raised (q : Nat) := getRail_modRail { s with ledger.started := some (r, nowNs s) } r q
    (fun x => { x with phase := .starting (nowNs s), m := 0 }) h
  have self := (raised r).trans (if_pos rfl)
  exact ⟨congrArg Rail.phase self, congrArg Rail.m self, fun q hq => (raised q).trans (if_neg hq.symm)⟩

theorem raiseRail_eq (r : Nat) (s : State) : raiseRail r s = { s with ledger := (raiseRail r s).ledger } := rfl

/-- The rail in regulation rises from magnitude 0, and the others stand. -/
theorem enterRegulation_rails {s : State} {r : Nat} (h : r < s.ledger.rails.length) :
    (getRail (enterRegulation r s) r).phase = .rising ∧ (getRail (enterRegulation r s) r).m = 0 ∧
      ∀ q, q ≠ r → getRail (enterRegulation r s) q = getRail s q := by
  have entered (q : Nat) := getRail_modRail { s with chain.lastAgeSweep := nowNs s } r q
    (fun x => { x with phase := .rising, m := 0 }) h
  have self := (entered r).trans (if_pos rfl)
  exact ⟨congrArg Rail.phase self, congrArg Rail.m self, fun q hq => (entered q).trans (if_neg hq.symm)⟩

/-- A start is over once regulation is reported. -/
theorem regulationDue_reported {s : State} {r at_ : Nat} (h : (getRail s r).phase = .starting at_) :
    regulationDue s r true = true := by
  rw [regulationDue, h]; rfl

/-- Without a report it is over 100 ms after LED_EN rose. -/
theorem regulationDue_unreported {s : State} {r at_ : Nat} (h : (getRail s r).phase = .starting at_) :
    regulationDue s r false = decide (at_ + 100000000 ≤ nowNs s) := by
  rw [regulationDue, h]; exact Bool.false_or _

theorem exec_railInRegulation (r : Fin 4) (reported : Bool) (s : State) :
    exec (.railInRegulation r reported) s = .next (if regulationDue s r reported then enterRegulation r s else s) := rfl

/-! ## Headroom (07 R191) -/

theorem exec_headroomRequest (h : HeadroomReq) (s : State) : exec (.headroomRequest h) s = .next (askHeadroom h s) := rfl

theorem noteRefusal_grants (h : HeadroomReq) (ok : Bool) (s : State) :
    (noteRefusal h ok s).ledger.grants = s.ledger.grants := by
  unfold noteRefusal
  split
  · rfl
  · split <;> rfl
  · rfl

theorem noteRefusal_railStart {h : HeadroomReq} (hw : h.who = .railStart) (s : State) :
    (noteRefusal h false s).ledger.retryAt = nowNs s + 1000000000 := by
  rw [noteRefusal, hw]; rfl

/-- A grant to a measurement stays within the effective budget of its rail in its window. -/
theorem granted_le_effectiveBudget {h : HeadroomReq} {s : State} (hw : h.who = .diagRun ∨ h.who = .twinkle ∨ h.who = .calibration)
    (ho : headroomOk s h = true) : ((granted s h.rail h.window + h.current : Nat) : Rat) ≤ effectiveBudget s h.rail := by
  unfold headroomOk at ho
  obtain hw | hw | hw := hw <;> rw [hw] at ho <;> exact of_decide_eq_true (Bool.and_eq_true_iff.1 ho).2

/-! ## The input current (07 R193) -/

/-- Since when the current is above 110 % of the limit, after a sample. -/
def overSinceAfter (mean10ms : Nat) (s : State) : Option Nat :=
  if 110 * s.ledger.limit < 100 * mean10ms then some (s.ledger.overSince.getD (nowNs s)) else none

/-- The causes of FAULT_N after a sample: an overcurrent that has ended holds it no longer. -/
def faultsAfterSample (mean10ms : Nat) (s : State) : List FaultCause :=
  if 110 * s.ledger.limit < 100 * mean10ms ∨ s.ledger.overSince = none then s.faults
  else s.faults.filter (· != .inputOvercurrent)

/-- The level's judgement changes what the input limit asks and when it last did. -/
theorem judgeInput_eq (mean10ms mean1s : Nat) (s : State) : ∃ level step,
    judgeInput mean10ms mean1s s = { s with ledger := { s.ledger with inputLevel := level, lastStep := step } } := by
  unfold judgeInput
  simp only []
  split
  · exact ⟨_, _, rfl⟩
  · split <;> exact ⟨_, _, rfl⟩

/-- Above 95 % the level goes down one step, at most one in 10 ms. -/
theorem judgeInput_steps {mean10ms : Nat} (mean1s : Nat) {s : State} (hi : 95 * s.ledger.limit < 100 * mean10ms)
    (hl : s.power.level.val < 3) (ht : s.ledger.lastStep + 10000000 ≤ nowNs s) : judgeInput mean10ms mean1s s =
      { s with ledger.inputLevel := max s.ledger.inputLevel (s.power.level.val + 1), ledger.lastStep := nowNs s } :=
  if_pos (Bool.and_eq_true_iff.2 ⟨Bool.and_eq_true_iff.2 ⟨decide_eq_true hi, decide_eq_true hl⟩, decide_eq_true ht⟩)

/-- Besides alerts the refusals' judgement changes whether work is refused. -/
theorem judgeRefusals_frame (mean10ms : Nat) (s : State) : ReplyFrame
    { s with ledger.refuseWork := (decide (95 * s.ledger.limit < 100 * mean10ms) && s.power.level.val == 3) }
    (judgeRefusals mean10ms s) := by
  unfold judgeRefusals
  simp only []
  split
  · exact raiseAlert_frame ..
  · split
    · exact clearAlert_frame ..
    · exact .refl _

theorem overSinceAfter_begins {mean10ms : Nat} {s : State} (hi : 110 * s.ledger.limit < 100 * mean10ms)
    (ho : s.ledger.overSince = none) : overSinceAfter mean10ms s = some (nowNs s) := by
  rw [overSinceAfter, if_pos hi, ho]; rfl

theorem overSinceAfter_lasts {mean10ms : Nat} {s : State} (hi : 110 * s.ledger.limit < 100 * mean10ms)
    (ho : s.ledger.overSince.isSome = true) : overSinceAfter mean10ms s = s.ledger.overSince := by
  obtain ⟨at_, ho⟩ := Option.isSome_iff_exists.1 ho
  rw [overSinceAfter, if_pos hi, ho]; rfl

theorem overSinceAfter_below {mean10ms : Nat} {s : State} (hi : ¬ 110 * s.ledger.limit < 100 * mean10ms) :
    overSinceAfter mean10ms s = none := if_neg hi

theorem faultsAfterSample_kept {mean10ms : Nat} {s : State}
    (h : 110 * s.ledger.limit < 100 * mean10ms ∨ s.ledger.overSince = none) : faultsAfterSample mean10ms s = s.faults := if_pos h

theorem faultsAfterSample_ended {mean10ms : Nat} {s : State} (hi : ¬ 110 * s.ledger.limit < 100 * mean10ms)
    (ho : s.ledger.overSince.isSome = true) : faultsAfterSample mean10ms s = s.faults.filter (· != .inputOvercurrent) :=
  if_neg (not_or.2 ⟨hi, Option.isSome_iff_ne_none.1 ho⟩)

/-- Besides alerts the overcurrent's judgement changes since when it lasts and, where it ends, its cause of FAULT_N. -/
theorem judgeOver_frame (mean10ms : Nat) (s : State) : ReplyFrame
    { s with ledger.overSince := overSinceAfter mean10ms s, faults := faultsAfterSample mean10ms s } (judgeOver mean10ms s) := by
  by_cases hi : 110 * s.ledger.limit < 100 * mean10ms
  · by_cases ho : s.ledger.overSince.isSome = true
    · rw [overSinceAfter_lasts hi ho, faultsAfterSample_kept (.inl hi), judgeOver, if_pos hi, if_pos ho]
      exact .refl s
    · have begins := overSinceAfter_begins hi (Option.not_isSome_iff_eq_none.1 ho)
      rw [begins, faultsAfterSample_kept (.inl hi), judgeOver, if_pos hi, if_neg ho]
      exact raiseAlert_frame ..
  · by_cases ho : s.ledger.overSince.isSome = true
    · rw [overSinceAfter_below hi, faultsAfterSample_ended hi ho, judgeOver, if_neg hi, if_pos ho]
      rfl
    · have never := Option.not_isSome_iff_eq_none.1 ho
      rw [(overSinceAfter_below hi).trans never.symm, faultsAfterSample_kept (.inr never), judgeOver, if_neg hi, if_neg ho]
      exact .refl s

theorem ReplyFrame.overSinceAfter {s t : State} (h : ReplyFrame s t) (mean10ms : Nat) :
    overSinceAfter mean10ms t = overSinceAfter mean10ms s := by
  unfold ReplyFrame at h
  rw [h]; rfl

theorem ReplyFrame.faultsAfterSample {s t : State} (h : ReplyFrame s t) (mean10ms : Nat) :
    faultsAfterSample mean10ms t = faultsAfterSample mean10ms s := by
  unfold ReplyFrame at h
  rw [h]; rfl

/-- What a sample leaves of the ledger, whose fields the three judgements change each for itself. -/
structure Sampled (mean10ms mean1s : Nat) (s t : State) : Prop where
  current : t.ledger.vinCurrent = mean10ms
  level : t.ledger.inputLevel = (judgeInput mean10ms mean1s s).ledger.inputLevel
  step : t.ledger.lastStep = (judgeInput mean10ms mean1s s).ledger.lastStep
  refused : t.ledger.refuseWork = (decide (95 * s.ledger.limit < 100 * mean10ms) && s.power.level.val == 3)
  overSince : t.ledger.overSince = overSinceAfter mean10ms s
  faults : t.faults = faultsAfterSample mean10ms s

theorem judgements_sampled {s : State} {mean10ms mean1s : Nat} (h : s.ledger.vinCurrent = mean10ms) :
    Sampled mean10ms mean1s s (judgeOver mean10ms (judgeRefusals mean10ms (judgeInput mean10ms mean1s s))) := by
  obtain ⟨level, step, stepped⟩ := judgeInput_eq mean10ms mean1s s
  have refused := judgeRefusals_frame mean10ms (judgeInput mean10ms mean1s s)
  have overcurrent := judgeOver_frame mean10ms (judgeRefusals mean10ms (judgeInput mean10ms mean1s s))
  exact {
    current := by rw [overcurrent.ledger, refused.ledger, stepped]; exact h
    level := by rw [overcurrent.ledger, refused.ledger]
    step := by rw [overcurrent.ledger, refused.ledger]
    refused := by rw [overcurrent.ledger, refused.ledger, stepped]
    overSince := by rw [overcurrent.ledger, refused.overSinceAfter, stepped]; rfl
    faults := by rw [overcurrent.faults, refused.faultsAfterSample, stepped]; rfl }

section
variable {s t : State} {mean10ms mean1s : Nat} (h : Sampled mean10ms mean1s s t)
include h

theorem Sampled.begins (hi : 110 * s.ledger.limit < 100 * mean10ms) (ho : s.ledger.overSince = none) :
    t.ledger.overSince = some (nowNs s) := h.overSince.trans (overSinceAfter_begins hi ho)

theorem Sampled.ends (hi : ¬ 110 * s.ledger.limit < 100 * mean10ms) :
    t.ledger.overSince = none ∧ (s.ledger.overSince.isSome = true → FaultCause.inputOvercurrent ∉ t.faults) := by
  refine ⟨h.overSince.trans (overSinceAfter_below hi), fun ho => ?_⟩
  rw [h.faults, faultsAfterSample_ended hi ho]
  exact fun held => bne_iff_ne.1 (List.mem_filter.1 held).2 rfl

theorem Sampled.steps (hi : 95 * s.ledger.limit < 100 * mean10ms) (hl : s.power.level.val < 3)
    (hk : s.ledger.lastStep + 10000000 ≤ nowNs s) :
    s.power.level.val + 1 ≤ t.ledger.inputLevel ∧ t.ledger.lastStep = nowNs s := by
  rw [h.level, h.step, judgeInput_steps mean1s hi hl hk]
  exact ⟨Nat.le_max_right .., rfl⟩

theorem Sampled.refuses_iff :
    t.ledger.refuseWork = true ↔ 95 * s.ledger.limit < 100 * mean10ms ∧ s.power.level.val = 3 := by
  rw [h.refused, Bool.and_eq_true, decide_eq_true_iff, beq_iff_eq]

end

theorem mem_assertFault (c : FaultCause) (s : State) : c ∈ (assertFault c s).faults := by
  simp only [assertFault]
  split
  · exact List.contains_iff_mem.1 ‹_›
  · exact List.mem_append_right _ (List.mem_singleton_self c)

theorem exec_inputOvercurrent1s (s : State) :
    exec .inputOvercurrent1s s = .next (if overcurrentDue s then assertFault .inputOvercurrent s else s) := rfl

theorem overcurrentDue_since {s : State} {at_ : Nat} (h : s.ledger.overSince = some at_) :
    overcurrentDue s = decide (at_ + 1000000000 ≤ nowNs s) := by
  rw [overcurrentDue, h]

theorem overcurrentDue_none {s : State} (h : s.ledger.overSince = none) : overcurrentDue s = false := by
  rw [overcurrentDue, h]

/-! ## The ambient ceiling (07 R188) -/

theorem exec_ambientSensorRead (lux : Option Nat) (s : State) :
    exec (.ambientSensorRead lux) s = .next (if ambientReadDue s then readAmbient lux s else s) := rfl

theorem exec_ambientFallbackTimeout (s : State) : exec .ambientFallbackTimeout s = .next (if ambientFallbackDue s then
    raiseAlert 0x05 0x06 (tileTarget s) 0 0 false { s with ledger.ambient.a := s.ledger.ambient.gain, ledger.ambient.failed := true }
    else s) := rfl

theorem ambientReadDue_eq_false {s : State} (h : s.ledger.ambient.mode ≠ 1 ∨ s.fw.running = false) : ambientReadDue s = false := by
  obtain hm | hf := h
  · rw [ambientReadDue, beq_eq_false_iff_ne.2 hm, Bool.and_false, Bool.false_and]
  · rw [ambientReadDue, hf, Bool.false_and, Bool.false_and]

theorem ambientReadDue_eq_true {s : State} (hf : s.fw.running = true) (hm : s.ledger.ambient.mode = 1)
    (ht : s.ledger.ambient.lastRead + 1000000000 ≤ nowNs s) : ambientReadDue s = true := by
  rw [ambientReadDue, hf, hm, decide_eq_true ht]; rfl

theorem ambientFallbackDue_eq_false {s : State} (hm : s.ledger.ambient.mode ≠ 1) : ambientFallbackDue s = false := by
  rw [ambientFallbackDue, beq_eq_false_iff_ne.2 hm, Bool.false_and, Bool.false_and]

theorem ambientFallbackDue_eq_true {s : State} (hm : s.ledger.ambient.mode = 1) (hf : s.ledger.ambient.failed = false)
    (ht : s.ledger.ambient.lastGood + 10000000000 ≤ nowNs s) : ambientFallbackDue s = true := by
  rw [ambientFallbackDue, hm, hf, decide_eq_true ht]; rfl

/-- Besides alerts a good read changes the ambient ceiling's own fields. -/
theorem readAmbient_some_frame (x : Nat) (s : State) : ReplyFrame
    { s with ledger.ambient := { s.ledger.ambient with
      a := (curveEval (s.ledger.ambient.curve.map fun p => ((p.1 : Int), (p.2 : Int))) (x : Nat)).toNat
      lastRead := nowNs s, lastGood := nowNs s, failed := false } } (readAmbient (some x) s) := by
  unfold readAmbient
  simp only []
  split
  · exact clearAlert_frame ..
  · exact .refl _

/-! ## The statement -/

/-- Settles O38: each row acts, or does nothing, as the lemmas above say of its guard and of its function. -/
theorem ledgerRows : Obligations.LedgerRows := by
  unfold Obligations.LedgerRows
  refine ⟨fun s hs => ?rails, fun s hs => ?noRail, fun h s => ?headroom, fun i1 i2 s => ?input, fun s => ?ambient⟩
  case rails =>
    obtain ⟨-, four, -⟩ := hs
    have raised {r : Nat} (hr : r ∈ railsWaiting s) := raiseRail_rails (Nat.lt_of_lt_of_eq (lt_four_of_mem_railsWaiting hr) four.symm)
    refine ⟨noEffect_of_guard (exec_railStart s), fun r rest hd hw => ?start, railStaggerExpiry_notAllowed,
      fun q r at_ hq hn hm ht => ?stagger, fun r at_ hr => ?regulation⟩
    case start =>
      obtain ⟨phase, m, others⟩ := raised (hw ▸ List.mem_cons_self)
      refine effect_of_guard (exec_railStart s) hd ?_
      rw [hw]
      exact ⟨phase, m, others, raiseRail_eq r s⟩
    case stagger =>
      refine effect_of_exec ?_ (raised (mem_railsWaiting_of_nextInStart hn))
      rw [exec_railStaggerExpiry, execRailStaggerExpiry, staggerDue_eq_some hq hn hm ht]
    case regulation =>
      obtain ⟨phase, m, others⟩ := enterRegulation_rails (Nat.lt_of_lt_of_eq r.isLt four.symm)
      refine ⟨?_, fun ht => ?_, fun ht => ?_⟩
      · exact effect_of_guard (exec_railInRegulation r true s) (regulationDue_reported hr) ⟨phase, m, rfl, others⟩
      · exact effect_of_guard (exec_railInRegulation r false s)
          ((regulationDue_unreported hr).trans (decide_eq_true ht)) phase
      · exact noEffect_of_guard (exec_railInRegulation r false s)
          ((regulationDue_unreported hr).trans (decide_eq_false (Nat.not_le.2 ht)))
  case noRail =>
    have may := railsMayStart_eq_false hs
    exact ⟨noEffect_of_guard (exec_railStart s) (railStartDue_eq_false may), railStaggerExpiry_notAllowed may⟩
  case headroom =>
    refine ⟨fun ok => ?_, fun refused => ?_, granted_le_effectiveBudget⟩
    · refine effect_of_exec ((exec_headroomRequest h s).trans (congrArg _ (if_pos ok))) ?_
      exact noteRefusal_grants ..
    · refine effect_of_exec ((exec_headroomRequest h s).trans (congrArg _ (if_neg (Bool.eq_false_iff.1 refused)))) ?_
      exact ⟨noteRefusal_grants .., fun hw => noteRefusal_railStart hw s⟩
  case input =>
    refine ⟨?sample, fun at_ ho ht => ?lasts, fun ho => ?ended⟩
    case sample =>
      have sampled := judgements_sampled (s := { s with ledger.vinCurrent := i1 }) (mean10ms := i1) (mean1s := i2) rfl
      exact effect_of_exec rfl ⟨sampled.current, sampled.begins, fun hi => sampled.ends (Nat.not_lt.2 hi), sampled.steps,
        sampled.refuses_iff⟩
    case lasts =>
      exact effect_of_guard (exec_inputOvercurrent1s s) ((overcurrentDue_since ho).trans (decide_eq_true ht))
        ⟨rfl, mem_assertFault ..⟩
    case ended => exact noEffect_of_guard (exec_inputOvercurrent1s s) (overcurrentDue_none ho)
  case ambient =>
    refine ⟨fun lux h => ?notDue, fun hf hm ht => ?reads, fun hm hf ht => ?fallback, fun hm => ?otherMode⟩
    case notDue => exact noEffect_of_guard (exec_ambientSensorRead lux s) (ambientReadDue_eq_false h)
    case reads =>
      have due : ambientReadDue s = true := ambientReadDue_eq_true hf hm ht
      refine ⟨effect_of_guard (exec_ambientSensorRead none s) due rfl, fun x => ?_⟩
      refine effect_of_guard (exec_ambientSensorRead (some x) s) due ?_
      rw [(readAmbient_some_frame x s).ledger]
      exact ⟨rfl, rfl, rfl⟩
    case fallback =>
      refine effect_of_guard (exec_ambientFallbackTimeout s) (ambientFallbackDue_eq_true hm hf ht) ?_
      rw [(raiseAlert_frame ..).ledger]
      exact ⟨rfl, rfl⟩
    case otherMode => exact noEffect_of_guard (exec_ambientFallbackTimeout s) (ambientFallbackDue_eq_false hm)

end Sys2Proof.Machine
end

section
/-! PROOF. Camera sync, composites and slide fills (08 R207, 19 R430, 04 R105, R126): the input that each row of camera sync leaves,
what a finished frame adds and what its write-backs leave alone, and the state of a buffer after its slide. -/

namespace Sys2Proof.Machine

/-- An answer or an alert leaves presentation alone. -/
theorem ReplyFrame.pres {s t : State} (h : ReplyFrame s t) : t.pres = s.pres := by
  unfold ReplyFrame at h
  rw [h]

/-! ## The sync inputs -/

theorem getSync_congr {s t : State} (h : t.pres.sync = s.pres.sync) (j : Nat) : getSync t j = getSync s j :=
  congrArg (·.getD j {}) h

theorem getSync_setSync {s : State} {i : Nat} (j : Nat) (x : SyncInput) (h : i < s.pres.sync.length) :
    getSync (setSync i x s) j = if i = j then x else getSync s j := by
  unfold getSync setSync setAt
  rw [List.getD_eq_getElem?_getD, List.getElem?_set, if_pos h, List.getD_eq_getElem?_getD]
  split <;> rfl

theorem getSync_setSync_same {s : State} {i : Nat} (x : SyncInput) (h : i < s.pres.sync.length) : getSync (setSync i x s) i = x :=
  (getSync_setSync i x h).trans (if_pos rfl)

theorem getSync_setSync_other {s : State} {i j : Nat} (x : SyncInput) (h : i < s.pres.sync.length) (hj : j ≠ i) :
    getSync (setSync i x s) j = getSync s j := (getSync_setSync j x h).trans (if_neg hj.symm)

theorem logSync_frame (i : Nat) (old new : SyncLock) (s : State) : ReplyFrame s (logSync i old new s) := by
  unfold logSync
  split
  · exact .refl s
  · split
    · exact raiseAlert_frame ..
    · exact (logAlert_frame ..).trans (clearAlertDetail_frame ..)
    · exact .refl s

theorem judgeOverlap_sync (s : State) : (judgeOverlap s).pres.sync = s.pres.sync := by
  unfold judgeOverlap
  dsimp only
  split
  · rw [(raiseAlert_frame ..).pres]
  · split
    · rw [(clearAlert_frame ..).pres]
    · rfl

/-- The log and the overlap's judgement that follow a change of an input leave every input as it is. -/
theorem getSync_judged (i j : Nat) (old new : SyncLock) (s : State) : getSync (judgeOverlap (logSync i old new s)) j = getSync s j :=
  getSync_congr ((judgeOverlap_sync _).trans (congrArg PresState.sync (logSync_frame ..).pres)) j

/-! ## Edges (08 R207, 19 R430) -/

theorem exec_camSyncEdge_ignored {i : Fin 5} {e width : Nat} {falling : Bool} {s : State}
    (h : edgeCounts (getSync s i) falling width = false) : exec (.camSyncEdge i e falling width) s = .next s := by
  change execCamSyncEdge i e falling width s = _
  rw [execCamSyncEdge, h]; rfl

theorem exec_camSyncEdge_taken {i : Fin 5} {width : Nat} {falling : Bool} {s : State} (e : Nat)
    (h : edgeCounts (getSync s i) falling width = true) (hw : 120 ≤ width) :
    exec (.camSyncEdge i e falling width) s = .next (takeEdge i e s) := by
  change execCamSyncEdge i e falling width s = _
  rw [execCamSyncEdge, h, if_pos hw]; rfl

/-- A glitch is dropped, and the other inputs stand. -/
theorem takeEdge_glitch {s : State} {i e : Nat} (hi : i < s.pres.sync.length) (h : isGlitch e (getSync s i) = true) :
    getSync (takeEdge i e s) i = dropEdge e (getSync s i) ∧ ∀ j, j ≠ i → getSync (takeEdge i e s) j = getSync s j := by
  have dropped : takeEdge i e s = setSync i (dropEdge e (getSync s i)) s := if_pos h
  rw [dropped]
  exact ⟨getSync_setSync_same _ hi, fun j hj => getSync_setSync_other _ hi hj⟩

/-- An edge that is no glitch steps its input's loop, and the other inputs stand. -/
theorem takeEdge_steps {s : State} {i e : Nat} (hi : i < s.pres.sync.length) (h : isGlitch e (getSync s i) = false) :
    getSync (takeEdge i e s) i = { syncEdge (period s).q e (getSync s i) with lastSeen := some e } ∧
      ∀ j, j ≠ i → getSync (takeEdge i e s) j = getSync s j := by
  have stepped (j : Nat) : getSync (takeEdge i e s) j =
      getSync (setSync i { syncEdge (period s).q e (getSync s i) with lastSeen := some e } s) j :=
    (congrArg (getSync · j) (if_neg (Bool.eq_false_iff.1 h))).trans (getSync_judged ..)
  exact ⟨(stepped i).trans (getSync_setSync_same _ hi), fun j hj => (stepped j).trans (getSync_setSync_other _ hi hj)⟩

theorem exec_syncEdgeMissing (i : Fin 5) (s : State) :
    exec (.syncEdgeMissing i) s = .next (if edgeMissing s i then missEdge i s else s) := rfl

/-- A missing edge is counted, and the fourth in a row loses the input. -/
theorem getSync_missEdge {s : State} {i : Nat} (hi : i < s.pres.sync.length) :
    getSync (missEdge i s) i = { getSync s i with
      missing := (getSync s i).missing + 1
      state := if 4 ≤ (getSync s i).missing + 1 then .lost else (getSync s i).state } :=
  (getSync_judged ..).trans (getSync_setSync_same _ hi)

/-! ## The drift (08 R207) -/

theorem exec_genlockCheck (i : Fin 5) (s : State) :
    exec (.genlockCheck i) s = .next (if genlockDue s i then judgeGenlock i s else s) := rfl

/-- How far an input has drifted over its window in ns. -/
def syncDrift (T : Rat) (x : SyncInput) : Rat := wrapQ (phaseQ x.psi - phaseQ x.driftPsi) T

/-- Whether an input drifted more than 10 µs over its window. -/
def driftsOff (T : Rat) (x : SyncInput) : Bool := decide (10000 < syncDrift T x) || decide (syncDrift T x < -10000)

theorem driftsOff_iff {T : Rat} {x : SyncInput} : driftsOff T x = true ↔ 10000 < syncDrift T x ∨ syncDrift T x < -10000 := by
  rw [driftsOff, Bool.or_eq_true, decide_eq_true_iff, decide_eq_true_iff]

/-- Besides alerts the judgement of an input notes its outcome and begins the next window. -/
theorem judgeGenlock_frame (i : Nat) (s : State) : ReplyFrame (setSync i { getSync s i with
    notGenlocked := driftsOff (period s).q (getSync s i), driftAt := nowNs s, driftPsi := (getSync s i).psi } s) (judgeGenlock i s) := by
  unfold judgeGenlock
  dsimp only
  split
  · exact raiseAlert_frame ..
  · split
    · exact clearAlertDetail_frame ..
    · exact .refl _

theorem getSync_judgeGenlock {s : State} {i : Nat} (hi : i < s.pres.sync.length) : getSync (judgeGenlock i s) i = { getSync s i with
    notGenlocked := driftsOff (period s).q (getSync s i), driftAt := nowNs s, driftPsi := (getSync s i).psi } :=
  (getSync_congr (congrArg PresState.sync (judgeGenlock_frame i s).pres) i).trans (getSync_setSync_same _ hi)

/-! ## Operations that end (02 R63) -/

/-- Besides the operation's own record and its votes, its completion changes what an answer changes. -/
theorem completeOp_frame (src : Source) (tag status : Nat) (results : List Byte) (s : State) :
    ReplyFrame (finishOp src tag status results s) (completeOp src tag status results s) := by
  have aborted (o : LongOp) (t : State) : ReplyFrame t (answerAbort o t) := by
    unfold answerAbort
    split
    · exact answer_frame ..
    · exact .refl t
  unfold completeOp
  dsimp only
  split
  · refine (aborted _ _).trans ?_
    split
    · exact sendBlocks_frame ..
    · exact .refl _
  · exact .refl _

theorem completeOp_layers (src : Source) (tag status : Nat) (results : List Byte) (s : State) :
    (completeOp src tag status results s).layers = s.layers := (completeOp_frame ..).layers

/-! ## Composites (04 R126, 07 R182) -/

/-- The parts of the state to which a finished frame adds its images and sums, and the frames that are still to be composed. -/
def compositeParts (s : State) : PresState × LedgerState × List Latched := (s.pres, s.ledger, s.layers.latched)

theorem completeOp_compositeParts (src : Source) (tag status : Nat) (results : List Byte) (s : State) :
    compositeParts (completeOp src tag status results s) = compositeParts s := by
  have ended := completeOp_frame src tag status results s
  unfold compositeParts
  rw [ended.pres, ended.ledger, ended.layers]
  rfl

theorem enqueueFlash_compositeParts (w : FlashWrite) (s : State) : compositeParts (enqueueFlash w s) = compositeParts s := by
  unfold enqueueFlash beginFlash
  dsimp only
  split
  · rfl
  · split <;> rfl

theorem finishFill_compositeParts (h : Nat) (s : State) : compositeParts (finishFill h s) = compositeParts s := by
  unfold finishFill
  dsimp only
  split
  · split
    · exact enqueueFlash_compositeParts ..
    · rfl
  · rfl

theorem takeWriteback_compositeParts (w : Writeback) (image : List (List Nat)) (s : State) :
    compositeParts (takeWriteback w image s) = compositeParts s := by
  unfold takeWriteback
  split
  · rfl
  · exact (completeOp_compositeParts ..).trans (finishFill_compositeParts ..)

/-- The write-backs of a frame leave images, sums and latched frames alone. -/
theorem takeWritebacks_compositeParts (frame : Nat) (views : List Nat) (stage2 stage3 : Nat → List (List Nat)) (s : State) :
    compositeParts (takeWritebacks frame views stage2 stage3 s) = compositeParts s :=
  foldl_keeps compositeParts (fun _ _ => takeWriteback_compositeParts ..) _ _

/-- An image is of its frame and its view. -/
theorem viewImage_of (c : Latched) (s : State) (v : Nat) (px : List (List Nat)) (k : Option (List (List Complement))) :
    (viewImage c s v px k).frame = c.frame ∧ (viewImage c s v px k).view = v := by
  cases k <;> exact ⟨rfl, rfl⟩

/-- A finished frame adds an image of each of its views that is not frozen, adds its sums, and is latched no more. -/
theorem finishFrame_adds (c : Latched) (s : State) :
    (∃ new, (finishFrame c s).pres.images = s.pres.images ++ new ∧
      ∀ i ∈ new, i.frame = c.frame ∧ i.view ∈ c.prog.views ∧ frozenFor s c.frame i.view = false) ∧
    (∃ x, (finishFrame c s).ledger.sums = s.ledger.sums ++ [x] ∧ x.frame = c.frame) ∧
    (finishFrame c s).layers.latched = s.layers.latched.filter fun x => x.frame != c.frame := by
  unfold finishFrame
  extract_lets l views live made comp images frozen stage3 s1
  obtain ⟨pres, rest⟩ := Prod.mk.inj (takeWritebacks_compositeParts c.frame live (composite made) stage3 s : compositeParts s1 = _)
  obtain ⟨ledger, latched⟩ := Prod.mk.inj rest
  refine ⟨⟨images, congrArg (·.images ++ images) pres, fun i hi => ?_⟩,
    ⟨frameSums c.frame (images ++ frozen), congrArg (·.sums ++ _) ledger, rfl⟩,
    congrArg (List.filter fun x => x.frame != c.frame) latched⟩
  obtain ⟨v, hv, rfl⟩ := List.mem_map.1 hi
  obtain ⟨shown, thawed⟩ := List.mem_filter.1 hv
  obtain ⟨frame, view⟩ := viewImage_of c l v (composite made v) (if v = 0 then comp else none)
  rw [view]
  exact ⟨frame, shown, (Bool.not_eq_true' _).mp thawed⟩

theorem exec_compositeComplete_none {s : State} (h : nextComposite s = none) : exec .compositeComplete s = .next s := by
  change execCompositeComplete s = _
  rw [execCompositeComplete, h]

theorem exec_compositeComplete_some {s : State} {c : Latched} (h : nextComposite s = some c) :
    exec .compositeComplete s = .next (finishFrame c s) := by
  change execCompositeComplete s = _
  rw [execCompositeComplete, h]

/-! ## Slide fills (04 R105, 17 R388) -/

/-- A buffer that bears the handle of a change has been changed. -/
theorem exists_of_mem_modBuf {h : Nat} {f : Buffer → Buffer} {s : State} {x : Buffer} (hx : x ∈ (modBuf h f s).layers.buffers)
    (hh : x.handle = h) : ∃ b, x = f b := by
  obtain ⟨b, -, rfl⟩ := List.mem_map.1 hx
  split
  · exact ⟨b, rfl⟩
  · next other =>
    rw [if_neg other] at hh
    exact absurd (beq_iff_eq.2 hh) other

theorem readyBuf_ready {h : Nat} {s : State} {x : Buffer} (hx : x ∈ (readyBuf h s).layers.buffers) (hh : x.handle = h) :
    x.state = .ready ∧ x.filler = .none := by
  obtain ⟨b, rfl⟩ := exists_of_mem_modBuf hx hh
  exact ⟨rfl, rfl⟩

/-- A buffer that is returned is free, or no longer there. -/
theorem freeBuf_free {h : Nat} {s : State} {x : Buffer} (hx : x ∈ (freeBuf h s).layers.buffers) (hh : x.handle = h) :
    x.state = .free := by
  unfold freeBuf at hx
  split at hx
  · next absent => exact absurd (beq_iff_eq.2 hh) (List.find?_eq_none.1 absent x hx)
  · split at hx
    · exact absurd hh (bne_iff_ne.1 (List.mem_filter.1 hx).2)
    · obtain ⟨b, rfl⟩ := exists_of_mem_modBuf hx hh
      rfl

theorem finishSlide_ready {b x : Buffer} {d : List Byte} {s : State} (hd : objectData s 7 b.slide = some d)
    (hx : x ∈ (finishSlide b s).layers.buffers) (hh : x.handle = b.handle) : x.state = .ready ∧ x.filler = .none := by
  rw [finishSlide, hd, completeOp_layers] at hx
  exact readyBuf_ready hx hh

theorem finishSlide_free {b x : Buffer} {s : State} (hd : objectData s 7 b.slide = none)
    (hx : x ∈ (finishSlide b s).layers.buffers) (hh : x.handle = b.handle) : x.state = .free := by
  rw [finishSlide, hd, completeOp_layers] at hx
  exact freeBuf_free hx hh

theorem exec_slideFillComplete_none {s : State} (h : slideFill s = none) : exec .slideFillComplete s = .next s := by
  change execSlideFillComplete s = _
  rw [execSlideFillComplete, h]

theorem exec_slideFillComplete_some {s : State} {b : Buffer} (h : slideFill s = some b) :
    exec .slideFillComplete s = .next (finishSlide b s) := by
  change execSlideFillComplete s = _
  rw [execSlideFillComplete, h]

/-! ## The statement -/

/-- Settles O43: each row does nothing where its guard says so, and else leaves what the lemmas above say of its function. -/
theorem syncAndCompositeRows : Obligations.SyncAndCompositeRows := by
  unfold Obligations.SyncAndCompositeRows
  refine ⟨fun i s hs => ?sync, fun s => ?composite⟩
  case sync =>
    obtain ⟨-, -, -, -, five, -⟩ := hs
    have hi : i.val < s.pres.sync.length := Nat.lt_of_lt_of_eq i.isLt five.symm
    refine ⟨fun _ _ _ hc => exec_camSyncEdge_ignored hc,
      fun e _ _ hc hw hg => effect_of_exec (exec_camSyncEdge_taken e hc hw) (takeEdge_steps hi hg),
      fun e _ _ hc hw hg => effect_of_exec (exec_camSyncEdge_taken e hc hw) (takeEdge_glitch hi hg),
      noEffect_of_guard (exec_syncEdgeMissing i s), fun hm => ?missing,
      noEffect_of_guard (exec_genlockCheck i s), fun hd => ?drift⟩
    case missing =>
      refine effect_of_guard (exec_syncEdgeMissing i s) hm ?_
      rw [getSync_missEdge hi]
      exact ⟨rfl, rfl⟩
    case drift =>
      refine effect_of_guard (exec_genlockCheck i s) hd ?_
      rw [getSync_judgeGenlock hi]
      exact ⟨rfl, rfl, driftsOff_iff⟩
  case composite =>
    refine ⟨exec_compositeComplete_none, fun c hc => ?frame, exec_slideFillComplete_none,
      fun b d hb hd => effect_of_exec (exec_slideFillComplete_some hb) fun x => finishSlide_ready hd,
      fun b hb hd => effect_of_exec (exec_slideFillComplete_some hb) fun x => finishSlide_free hd⟩
    obtain ⟨images, sums, latched⟩ := finishFrame_adds c s
    refine effect_of_exec (exec_compositeComplete_some hc) ⟨images, sums, fun x hx => ?_⟩
    rw [latched] at hx
    obtain ⟨stands, other⟩ := List.mem_filter.1 hx
    exact ⟨stands, bne_iff_ne.1 other⟩

end Sys2Proof.Machine
end

section
/-! PROOF. The check units (14 R319 to R326): what each register write makes of a unit, a feed into an empty queue, the end of a CHECK_RUN,
and the verdicts of the alive-counter checker. -/

namespace Sys2Proof.Machine

theorem inc8_eq_min (n : Nat) : inc8 n = min 255 (n + 1) := satN_eq_min ..

/-- A row of a check unit that is served changes its own unit and nothing else. -/
theorem CheckRow.effect {i : Instr} {u : Fin 4} {f : CheckUnit → CheckUnit} {s : State} {P : State → Prop} (h : CheckRow i u f s)
    (hw : windowServed s = true) (hg : checkGated s u = false) (hs : Shaped s)
    (hp : ∀ t, t = { s with check := t.check } → getCheck t u = f (getCheck s u) →
      (∀ w : Nat, w ≠ u.val → getCheck t w = getCheck s w) → P t) : Effect i s P := by
  obtain ⟨served, -, -⟩ := h
  obtain ⟨t, ht, rfl⟩ := served hw hg
  obtain ⟨four, -⟩ := hs
  have units (w : Nat) := getCheck_modCheck s u.val w f (Nat.lt_of_lt_of_eq u.isLt four.symm)
  exact ⟨_, ht, hp _ rfl ((units u).trans (if_pos rfl)) fun w hw => (units w).trans (if_neg hw.symm)⟩

/-! ## The control registers (14 Table 14-4, R320) -/

/-- CHK_CTRL as the statement reads its fields: the value stands only while the algorithm stays the same and RESTART is clear. -/
theorem CheckUnit.writeCtrl_eq (v : Word) (c : CheckUnit) : c.writeCtrl v.toNat =
    let w := (v.extractLsb' 0 5).toNat + 1
    let same := w = c.ctx.width ∧ v.getLsbD 8 = c.ctx.refIn ∧ v.getLsbD 9 = c.ctx.refOut
    { c with
      ctx := { c.ctx with
        width := w, refIn := v.getLsbD 8, refOut := v.getLsbD 9
        value := if same ∧ v.getLsbD 25 = false then c.ctx.value else c.ctx.init % 2 ^ w }
      collide := c.collide && !v.getLsbD 26 } := by
  have width : (v.extractLsb' 0 5).toNat = field v.toNat 4 0 := extractLsb'_toNat_eq_field v 0 4
  unfold CheckUnit.writeCtrl BitVec.getLsbD
  rw [width]
  generalize field v.toNat 4 0 + 1 = w, v.toNat.testBit 8 = refIn, v.toNat.testBit 9 = refOut, v.toNat.testBit 25 = restart
  dsimp only
  congr 1
  have reloads : (w != c.ctx.width || refIn != c.ctx.refIn || refOut != c.ctx.refOut || restart) = true ↔
      ¬ ((w = c.ctx.width ∧ refIn = c.ctx.refIn ∧ refOut = c.ctx.refOut) ∧ restart = false) := by
    simp only [Bool.or_eq_true, bne_iff_ne, ne_eq, Decidable.not_and_iff_not_or_not, Bool.not_eq_false, or_assoc]
  by_cases stands : (w = c.ctx.width ∧ refIn = c.ctx.refIn ∧ refOut = c.ctx.refOut) ∧ restart = false
  · rw [if_pos stands, if_neg fun h => reloads.1 h stands]
  · rw [if_neg stands, if_pos (reloads.2 stands)]
    rfl

/-! ## Feeds (14 R321) -/

/-- The feed commands, each with the number of its bytes. -/
theorem exec_feed {u : Fin 4} {v : Word} {n : Nat} {i : Instr}
    (hi : (n, i) ∈ [(1, Instr.feed8 u v), (2, Instr.feed16 u v), (4, Instr.feed32 u v)]) (s : State) :
    exec i s = .next (checkWrite u (·.feed (nowNs s) n v.toNat) s) := by
  simp only [List.mem_cons, Prod.mk.injEq, List.not_mem_nil, or_false] at hi
  obtain ⟨rfl, rfl⟩ | ⟨rfl, rfl⟩ | ⟨rfl, rfl⟩ := hi <;> rfl

theorem CheckUnit.feed_owned {c : CheckUnit} (now n v : Nat) (h : c.run.isSome = true) : c.feed now n v = { c with collide := true } :=
  if_pos h

theorem CheckUnit.feed_free {c : CheckUnit} (now n v : Nat) (hr : c.run = none) (hq : c.queue = []) : c.feed now n v =
    { c with fedAt := some now, ctx := { c.ctx with value := crcRun c.ctx.alg c.ctx.value (ube n v) } } := by
  have free : ¬ c.owned = true := by simp [CheckUnit.owned, hr]
  rw [CheckUnit.feed, if_neg free]
  simp [CheckUnit.drain, hq]

/-! ## The end of a CHECK_RUN (14 R326) -/

/-- A unit that its run gives back: the saved context is in force again, and OWNED is clear. -/
def returnedUnit (x : CheckRun) (c : CheckUnit) : CheckUnit := { c with ctx := x.saved, run := none }

theorem completeOp_check (src : Source) (tag status : Nat) (results : List Byte) (s : State) :
    (completeOp src tag status results s).check = s.check := (completeOp_frame ..).check

theorem exec_checkRunComplete_owned {u : Fin 4} {x : CheckRun} {s : State} (h : (getCheck s u).run = some x) :
    exec (.checkRunComplete u) s = .next (finishCheckRun u x s) := by
  change execCheckRunComplete u s = _
  rw [execCheckRunComplete, h]

theorem exec_checkRunComplete_free {u : Fin 4} {s : State} (h : (getCheck s u).run = none) :
    exec (.checkRunComplete u) s = .next s := by
  change execCheckRunComplete u s = _
  rw [execCheckRunComplete, h]

/-- The operation's completion leaves the check units as the release left them. -/
theorem getCheck_finishCheckRun (u w : Nat) (x : CheckRun) (s : State) :
    getCheck (finishCheckRun u x s) w = getCheck (releaseCheck u (nextFree s)) w :=
  congrArg (·.getD w {}) (completeOp_check ..)

theorem finishCheckRun_units {u : Nat} {x : CheckRun} {s : State} (h : (getCheck s u).run = some x) (hu : u < s.check.length) :
    getCheck (finishCheckRun u x s) u = returnedUnit x (getCheck s u) ∧
      ∀ w, w ≠ u → getCheck (finishCheckRun u x s) w = getCheck s w := by
  have units (w : Nat) := (getCheck_finishCheckRun u w x s).trans (getCheck_modCheck (nextFree s) u w _ hu)
  have before : getCheck (nextFree s) u = getCheck s u := rfl
  refine ⟨(units u).trans ((if_pos rfl).trans ?_), fun w hw => (units w).trans (if_neg hw.symm)⟩
  rw [before, h]
  rfl

/-! ## ALIVE_CTRL (14 Table 14-5) -/

/-- A context with the fields of an ALIVE_CTRL word; those out of range stay. -/
def aliveControlled (v : Word) (x : CheckContext) : CheckContext := { x with
  step := if (v.extractLsb' 16 8).toNat = 0 then x.step else (v.extractLsb' 16 8).toNat
  maxGap := if 1 ≤ (v.extractLsb' 8 8).toNat ∧ (v.extractLsb' 8 8).toNat ≤ 127 then (v.extractLsb' 8 8).toNat else x.maxGap
  resync := v.getLsbD 1 }

theorem CheckUnit.writeAliveCtrl_eq (v : Word) (c : CheckUnit) : c.writeAliveCtrl v.toNat =
    if v.getLsbD 0 then { c with ctx := aliveControlled v c.ctx, enable := true, started := false, gaps := 0, faults := 0 }
    else { c with ctx := aliveControlled v c.ctx, enable := false } := by
  have step : (v.extractLsb' 16 8).toNat = field v.toNat 23 16 := extractLsb'_toNat_eq_field v 16 7
  have gap : (v.extractLsb' 8 8).toNat = field v.toNat 15 8 := extractLsb'_toNat_eq_field v 8 7
  unfold CheckUnit.writeAliveCtrl aliveControlled BitVec.getLsbD
  rw [step, gap]
  dsimp only
  simp only [Bool.and_eq_true, decide_eq_true_eq]

/-! ## How many steps a counter has gone on (14 R324) -/

theorem aliveK_eq_zero_iff {step maxGap d : Nat} :
    aliveK step maxGap d = 0 ↔ ∀ k, 1 ≤ k → k ≤ maxGap → k * step % 256 ≠ d := by
  have absent : aliveK step maxGap d = 0 ↔ (List.range maxGap).find? (fun i => (i + 1) * step % 256 == d) = none := by
    unfold aliveK
    cases (List.range maxGap).find? _ with
    | none => exact iff_of_true rfl rfl
    | some i => exact iff_of_false (Nat.succ_ne_zero i) nofun
  rw [absent, List.find?_eq_none]
  constructor
  · intro h k pos le
    have := h (k - 1) (List.mem_range.2 (by omega))
    rwa [Nat.sub_add_cancel pos, beq_iff_eq] at this
  · intro h i hi
    rw [beq_iff_eq]
    exact h (i + 1) (Nat.succ_pos i) (List.mem_range.1 hi)

theorem aliveK_eq_one_iff {step maxGap d : Nat} : aliveK step maxGap d = 1 ↔ 1 ≤ maxGap ∧ d = step % 256 := by
  have first : aliveK step maxGap d = 1 ↔ (List.range maxGap).find? (fun i => (i + 1) * step % 256 == d) = some 0 := by
    unfold aliveK
    cases (List.range maxGap).find? _ with
    | none => exact iff_of_false Nat.zero_ne_one nofun
    | some i => exact ⟨fun h => congrArg some (Nat.succ.inj h), fun h => congrArg Nat.succ (Option.some.inj h)⟩
  rw [first, List.find?_range_eq_some, Nat.zero_add, Nat.one_mul, beq_iff_eq, List.mem_range]
  exact ⟨fun ⟨one, pos, _⟩ => ⟨pos, one.symm⟩, fun ⟨pos, one⟩ => ⟨one.symm, pos, nofun⟩⟩

/-- A counter that has not gone on by one step, but by some number of steps up to MAX_GAP, has gone on by two or more. -/
theorem two_le_aliveK {step maxGap d : Nat} (h1 : d ≠ step % 256) (h : ∃ k, 2 ≤ k ∧ k ≤ maxGap ∧ k * step % 256 = d) :
    2 ≤ aliveK step maxGap d := by
  obtain ⟨k, two, le, hk⟩ := h
  have ne_zero : aliveK step maxGap d ≠ 0 := fun zero => aliveK_eq_zero_iff.1 zero k (Nat.le_of_succ_le two) le hk
  have ne_one : aliveK step maxGap d ≠ 1 := fun one => h1 (aliveK_eq_one_iff.1 one).2
  omega

/-! ## A counter received (14 R324) -/

/-- How far a counter lies from the last one taken. -/
def aliveDiff (c : CheckUnit) (v : Nat) : Nat := (v % 256 + 256 - c.last.toNat) % 256

/-- The number of steps, up to MAX_GAP, that a counter has gone on. -/
def aliveSteps (c : CheckUnit) (v : Nat) : Nat := aliveK c.ctx.step c.ctx.maxGap (aliveDiff c v)

section Judged
variable {c : CheckUnit} {v : Nat}

theorem aliveFeed_disabled (he : c.enable = false) : c.aliveFeed v = c := if_pos (by rw [he]; rfl)

variable (he : c.enable = true)
include he

theorem aliveFeed_start (hs : c.started = false) :
    c.aliveFeed v = { c with last := BitVec.ofNat 8 (v % 256), started := true, outcome := .start } := by
  simp [CheckUnit.aliveFeed, he, hs]

variable (hs : c.started = true)
include hs

theorem aliveFeed_repeat (hd : aliveDiff c v = 0) :
    c.aliveFeed v = { c with outcome := .repeat, faults := inc8 c.faults } := by
  unfold aliveDiff at hd
  simp [CheckUnit.aliveFeed, he, hs, hd]

variable (hd : aliveDiff c v ≠ 0)
include hd

/-- A counter that differs from the last one is judged by the number of its steps. -/
theorem aliveFeed_differs : c.aliveFeed v =
    if aliveSteps c v = 1 then { c with last := BitVec.ofNat 8 (v % 256), outcome := .ok }
    else if 2 ≤ aliveSteps c v then { c with last := BitVec.ofNat 8 (v % 256), outcome := .gap, gaps := inc8 c.gaps }
    else { (if c.ctx.resync then { c with last := BitVec.ofNat 8 (v % 256) } else c) with outcome := .outOfStep, faults := inc8 c.faults } := by
  have enabled : ¬ (!c.enable) = true := by simp [he]
  have running : ¬ (!c.started) = true := by simp [hs]
  exact (if_neg enabled).trans ((if_neg running).trans (if_neg hd))

theorem aliveFeed_ok (hk : aliveSteps c v = 1) : c.aliveFeed v = { c with last := BitVec.ofNat 8 (v % 256), outcome := .ok } :=
  (aliveFeed_differs he hs hd).trans (if_pos hk)

theorem aliveFeed_gap (hk : 2 ≤ aliveSteps c v) :
    c.aliveFeed v = { c with last := BitVec.ofNat 8 (v % 256), outcome := .gap, gaps := inc8 c.gaps } :=
  (aliveFeed_differs he hs hd).trans ((if_neg (by omega)).trans (if_pos hk))

theorem aliveFeed_outOfStep (hk : aliveSteps c v = 0) : c.aliveFeed v = { c with
    last := if c.ctx.resync then BitVec.ofNat 8 (v % 256) else c.last
    outcome := .outOfStep
    faults := inc8 c.faults } := by
  rw [aliveFeed_differs he hs hd, hk]
  cases c.ctx.resync <;> rfl

end Judged

/-! ## The statement -/

/-- Settles O27: each write by what it makes of its unit, the run's end by the release of its unit, and a received counter by the number
of its steps. -/
theorem checkAndAliveRows : Obligations.CheckAndAliveRows := by
  unfold Obligations.CheckAndAliveRows
  refine ⟨fun u v s => ?registers, fun u v s n i hi => ?feed, fun u s hs => ⟨fun x hx => ?complete, exec_checkRunComplete_free⟩,
    fun u v s hw hg hs => ⟨?aliveCtrl, ?aliveFeed⟩⟩
  case registers =>
    exact ⟨row_of rfl fun _ => rfl, row_of rfl fun _ => rfl, row_of rfl fun _ => rfl, row_of rfl fun _ => rfl,
      row_of rfl (CheckUnit.writeCtrl_eq v)⟩
  case feed =>
    have row : CheckRow i u (·.feed (nowNs s) n v.toNat) s := row_of (exec_feed hi s) fun _ => rfl
    have ⟨_, gated, unserved⟩ := row
    refine ⟨unserved, gated, fun hw hg hs => row.effect hw hg hs fun t frame unit others => ⟨frame, others, fun hr => ?_, fun hr hq => ?_⟩⟩
    · rw [unit, CheckUnit.feed_owned _ _ _ hr]
    · rw [unit, CheckUnit.feed_free _ _ _ hr hq]
  case complete =>
    obtain ⟨four, -⟩ := hs
    exact effect_of_exec (exec_checkRunComplete_owned hx) (finishCheckRun_units hx (Nat.lt_of_lt_of_eq u.isLt four.symm))
  case aliveCtrl =>
    have row : CheckRow (.aliveCtrlWrite u v) u (·.writeAliveCtrl v.toNat) s := row_of rfl fun _ => rfl
    refine row.effect hw hg hs fun t frame unit _ => ⟨frame, ?_⟩
    rw [unit, CheckUnit.writeAliveCtrl_eq]
    cases v.getLsbD 0 with
    | false => exact ⟨rfl, rfl, rfl, rfl, nofun⟩
    | true => exact ⟨rfl, rfl, rfl, rfl, fun _ => ⟨rfl, rfl, rfl⟩⟩
  case aliveFeed =>
    have row : CheckRow (.aliveFeed u v) u (·.aliveFeed v.toNat) s := row_of rfl fun _ => rfl
    refine row.effect hw hg hs fun t frame unit _ => ⟨frame, fun he => ?_, fun he hn => ?_, fun he hr hd => ?_,
      fun he hr hd hm h1 => ?_, fun he hr hd h1 hk => ?_, fun he hr hd hk => ?_⟩
    · rw [unit, aliveFeed_disabled he]
    · rw [unit, aliveFeed_start he hn]
      exact ⟨rfl, rfl, rfl⟩
    · rw [unit, aliveFeed_repeat he hr hd]
      exact ⟨rfl, inc8_eq_min _, rfl⟩
    · rw [unit, aliveFeed_ok he hr hd (aliveK_eq_one_iff.2 ⟨hm, h1⟩)]
      exact ⟨rfl, rfl, rfl⟩
    · rw [unit, aliveFeed_gap he hr hd (two_le_aliveK h1 hk)]
      exact ⟨rfl, inc8_eq_min _, rfl⟩
    · rw [unit, aliveFeed_outOfStep he hr hd (aliveK_eq_zero_iff.2 hk)]
      exact ⟨rfl, inc8_eq_min _, rfl⟩

end Sys2Proof.Machine
end

section
/-! PROOF. The machine-safety condition along every step (15 R335, R345, R351): the condition stands or falls with the two pairs, the
lockout's cause and the record, and the meaning of each command keeps it; so does the idle tick. -/

namespace Sys2Proof.Machine

/-- Whatever the command, its meaning keeps what every step keeps. -/
theorem exec_steps {s t : State} : ∀ i : Instr, exec i s = .next t → Steps s t
  | .status code, h => execStatus_steps code s h
  | .windowWrite quad addr words, h => execWindowWrite_steps quad addr words s h
  | .windowRead quad addr count, h => execWindowRead_steps quad addr count s h
  | .packetWrite quad addr bytes, h => execPacketWrite_steps quad addr bytes s h
  | .replyRead quad offset count, h => execReplyRead_steps quad offset count s h
  | .nop r, h => execNop_steps r s h
  | .identify r, h => execIdentify_steps r s h
  | .query r, h => execQuery_steps r s h
  | .fetchPartial r, h => execFetchPartial_steps r s h
  | .abort r, h => execAbort_steps r s h
  | .resetCold r, h => execResetCold_steps r s h
  | .resetWarm r, h => execResetWarm_steps r s h
  | .commit r, h => execCommit_steps r s h
  | .regRead r, h => execRegRead_steps r s h
  | .regWrite r, h => execRegWrite_steps r s h
  | .alertRead r, h => execAlertRead_steps r s h
  | .keyProvision r, h => execKeyProvision_steps r s h
  | .timeConfig r, h => execTimeConfig_steps r s h
  | .timeStatus r, h => execTimeStatus_steps r s h
  | .scheduleList r, h => execScheduleList_steps r s h
  | .scheduleCancel r, h => execScheduleCancel_steps r s h
  | .snapshot r, h => execSnapshot_steps r s h
  | .streamSubscribe r, h => execStreamSubscribe_steps r s h
  | .streamDrop r, h => execStreamDrop_steps r s h
  | .bufferAlloc r, h => execBufferAlloc_steps r s h
  | .bufferRelease r, h => execBufferRelease_steps r s h
  | .bufferWrite r, h => execBufferWrite_steps r s h
  | .layerSet r, h => execLayerSet_steps r s h
  | .layerClear r, h => execLayerClear_steps r s h
  | .backgroundSet r, h => execBackgroundSet_steps r s h
  | .writeback r, h => execWriteback_steps r s h
  | .bufferStatus r, h => execBufferStatus_steps r s h
  | .scalerCoeffLoad r, h => execScalerCoeffLoad_steps r s h
  | .scalerStatus r, h => execScalerStatus_steps r s h
  | .almanacLoad r, h => execAlmanacLoad_steps r s h
  | .almanacSwap r, h => execAlmanacSwap_steps r s h
  | .almanacVerify r, h => execAlmanacVerify_steps r s h
  | .colourSpaceSet r, h => execColourSpaceSet_steps r s h
  | .binTableLoad r, h => execBinTableLoad_steps r s h
  | .agingRead r, h => execAgingRead_steps r s h
  | .agingRecastSetSchedule r, h => execAgingRecastSetSchedule_steps r s h
  | .agingRecastNow r, h => execAgingRecastNow_steps r s h
  | .agingRecastSuspend r, h => execAgingRecastSuspend_steps r s h
  | .budgetSet r, h => execBudgetSet_steps r s h
  | .ledgerRead r, h => execLedgerRead_steps r s h
  | .ambientSet r, h => execAmbientSet_steps r s h
  | .programSet r, h => execProgramSet_steps r s h
  | .programStatus r, h => execProgramStatus_steps r s h
  | .camsyncConfig r, h => execCamsyncConfig_steps r s h
  | .freeze r, h => execFreeze_steps r s h
  | .blank r, h => execBlank_steps r s h
  | .chainEnumerate r, h => execChainEnumerate_steps r s h
  | .chainStatus r, h => execChainStatus_steps r s h
  | .meridianSet r, h => execMeridianSet_steps r s h
  | .cellConfig r, h => execCellConfig_steps r s h
  | .faultMapRead r, h => execFaultMapRead_steps r s h
  | .diagRunShort r, h => execDiagRunShort_steps r s h
  | .diagRunAdjShort r, h => execDiagRunAdjShort_steps r s h
  | .diagRunOpen r, h => execDiagRunOpen_steps r s h
  | .diagRunBallTest r, h => execDiagRunBallTest_steps r s h
  | .twinkleConfig r, h => execTwinkleConfig_steps r s h
  | .rasterSet r, h => execRasterSet_steps r s h
  | .thermalConfig r, h => execThermalConfig_steps r s h
  | .thermalRead r, h => execThermalRead_steps r s h
  | .calibrate r, h => execCalibrate_steps r s h
  | .trimRead r, h => execTrimRead_steps r s h
  | .bistConfig r, h => execBistConfig_steps r s h
  | .bistRun r, h => execBistRun_steps r s h
  | .bistReport r, h => execBistReport_steps r s h
  | .blockRestore r, h => execBlockRestore_steps r s h
  | .checkConfig r, h => execCheckConfig_steps r s h
  | .checkRun r, h => execCheckRun_steps r s h
  | .checkContextRead r, h => execCheckContextRead_steps r s h
  | .checkContextWrite r, h => execCheckContextWrite_steps r s h
  | .safetyStatus r, h => execSafetyStatus_steps r s h
  | .safetyConfig r, h => execSafetyConfig_steps r s h
  | .safeOffRequest r, h => execSafeOffRequest_steps r s h
  | .powerVoteWithdraw r, h => execPowerVoteWithdraw_steps r s h
  | .powerVoteAdd r, h => execPowerVoteAdd_steps r s h
  | .powerVoteTakeOver r, h => execPowerVoteTakeOver_steps r s h
  | .powerStateRun r, h => execPowerStateRun_steps r s h
  | .powerStateTwilight r, h => execPowerStateTwilight_steps r s h
  | .powerStateNadir r, h => execPowerStateNadir_steps r s h
  | .orderlyShutdown r, h => execOrderlyShutdown_steps r s h
  | .plevelSet r, h => execPlevelSet_steps r s h
  | .wakeRecordRead r, h => execWakeRecordRead_steps r s h
  | .nvmRead r, h => execNvmRead_steps r s h
  | .nvmWrite r, h => execNvmWrite_steps r s h
  | .imageStage r, h => execImageStage_steps r s h
  | .imageActivateStaged r, h => execImageActivateStaged_steps r s h
  | .imageActivateRevert r, h => execImageActivateRevert_steps r s h
  | .imageActivateEndProbation r, h => execImageActivateEndProbation_steps r s h
  | .journalStatus r, h => execJournalStatus_steps r s h
  | .telemetryConfig r, h => execTelemetryConfig_steps r s h
  | .telemetryRead r, h => execTelemetryRead_steps r s h
  | .commandPolicyWrite byRegWrite auth v, h => execCommandPolicyWrite_steps byRegWrite auth v s h
  | .portConfigWrite p v, h => execPortConfigWrite_steps p v s h
  | .chainPortTrimWrite p v, h => execChainPortTrimWrite_steps p v s h
  | .chainPortSkewWrite p v, h => execChainPortSkewWrite_steps p v s h
  | .chkCtrlWrite u v, h => execChkCtrlWrite_steps u v s h
  | .chkRestart u, h => execChkRestart_steps u s h
  | .chkPolyWrite u v, h => execChkPolyWrite_steps u v s h
  | .chkInitWrite u v, h => execChkInitWrite_steps u v s h
  | .chkValueWrite u v, h => execChkValueWrite_steps u v s h
  | .feed8 u v, h => execFeed8_steps u v s h
  | .feed16 u v, h => execFeed16_steps u v s h
  | .feed32 u v, h => execFeed32_steps u v s h
  | .aliveCtrlWrite u v, h => execAliveCtrlWrite_steps u v s h
  | .aliveFeed u v, h => execAliveFeed_steps u v s h
  | .registerWrite addr v, h => execRegisterWrite_steps addr v s h
  | .ethernetFrameReceive p frame, h => execEthernetFrameReceive_steps p frame s h
  | .arpRequest p senderMac senderIp targetIp, h => execArpRequest_steps p senderMac senderIp targetIp s h
  | .icmpEchoRequest p srcMac srcIp dstIp body, h => execIcmpEchoRequest_steps p srcMac srcIp dstIp body s h
  | .igmpQuery p version group robustness queryInterval, h => execIgmpQuery_steps p version group robustness queryInterval s h
  | .igmpReportSnooped p group, h => execIgmpReportSnooped_steps p group s h
  | .snoopMembershipExpiry p group, h => execSnoopMembershipExpiry_steps p group s h
  | .igmpReportRepeat, h => execIgmpReportRepeat_steps s h
  | .ownMacFrame p, h => execOwnMacFrame_steps p s h
  | .loopAlertClear, h => execLoopAlertClear_steps s h
  | .portLinkChange p up, h => execPortLinkChange_steps p up s h
  | .st2110Packet p row payload full, h => execSt2110Packet_steps p row payload full s h
  | .nativePacket p row payload full, h => execNativePacket_steps p row payload full s h
  | .bulkBlock srcIp payload, h => execBulkBlock_steps srcIp payload s h
  | .bulkOperationTimeout, h => execBulkOperationTimeout_steps s h
  | .ptpEventMessage p frame ticks, h => execPtpEventMessage_steps p frame ticks s h
  | .ptpAnnounce p a, h => execPtpAnnounce_steps p a s h
  | .announceReceiptTimeout p, h => execAnnounceReceiptTimeout_steps p s h
  | .offsetSample t, h => execOffsetSample_steps t s h
  | .holdoverEntry, h => execHoldoverEntry_steps s h
  | .holdover30s, h => execHoldover30s_steps s h
  | .rtcUpdate, h => execRtcUpdate_steps s h
  | .frameBoundary, h => execFrameBoundary_steps s h
  | .ephemerisLoad, h => execEphemerisLoad_steps s h
  | .streamLossTimeout l, h => execStreamLossTimeout_steps l s h
  | .streamReturn l, h => execStreamReturn_steps l s h
  | .magnitudeFix, h => execMagnitudeFix_steps s h
  | .presentationFrameStart, h => execPresentationFrameStart_steps s h
  | .prefetchStart, h => execPrefetchStart_steps s h
  | .uploadStart, h => execUploadStart_steps s h
  | .fifoUnderrun p row, h => execFifoUnderrun_steps p row s h
  | .latchWindowOpen, h => execLatchWindowOpen_steps s h
  | .latchLaunch, h => execLatchLaunch_steps s h
  | .transit, h => execTransit_steps s h
  | .camSyncEdge k t falling width, h => execCamSyncEdge_steps k t falling width s h
  | .syncEdgeMissing k, h => execSyncEdgeMissing_steps k s h
  | .genlockCheck k, h => execGenlockCheck_steps k s h
  | .heldChangesDiscard, h => execHeldChangesDiscard_steps s h
  | .resultsExpiry, h => execResultsExpiry_steps s h
  | .implicitVoteWithdraw, h => execImplicitVoteWithdraw_steps s h
  | .domainWakeComplete d, h => execDomainWakeComplete_steps d s h
  | .headroomRequest q, h => execHeadroomRequest_steps q s h
  | .railStart, h => execRailStart_steps s h
  | .railStaggerExpiry, h => execRailStaggerExpiry_steps s h
  | .railInRegulation r reported, h => execRailInRegulation_steps r reported s h
  | .shuntMeasurement r microamps, h => execShuntMeasurement_steps r microamps s h
  | .inputCurrentSample mean10ms mean1s, h => execInputCurrentSample_steps mean10ms mean1s s h
  | .inputOvercurrent1s, h => execInputOvercurrent1s_steps s h
  | .ambientSensorRead lux, h => execAmbientSensorRead_steps lux s h
  | .ambientFallbackTimeout, h => execAmbientFallbackTimeout_steps s h
  | .diodeConversion readings coreMilliwatts, h => execDiodeConversion_steps readings coreMilliwatts s h
  | .diodeBroken d, h => execDiodeBroken_steps d s h
  | .diodeReturn d, h => execDiodeReturn_steps d s h
  | .ntcConversion input ratio, h => execNtcConversion_steps input ratio s h
  | .zoneModelUpdate millivolts, h => execZoneModelUpdate_steps millivolts s h
  | .sensorBroken k, h => execSensorBroken_steps k s h
  | .sensorReturn k, h => execSensorReturn_steps k s h
  | .throttleFactorUpdate, h => execThrottleFactorUpdate_steps s h
  | .flashGraceWindowExpiry, h => execFlashGraceWindowExpiry_steps s h
  | .thermalShutdownEnd, h => execThermalShutdownEnd_steps s h
  | .reportTrain p errors, h => execReportTrain_steps p errors s h
  | .cellReadReply p errors, h => execCellReadReply_steps p errors s h
  | .cellReadTimeout p, h => execCellReadTimeout_steps p s h
  | .localisation p, h => execLocalisation_steps p s h
  | .takeoverBurst l, h => execTakeoverBurst_steps l s h
  | .takeoverCheck l, h => execTakeoverCheck_steps l s h
  | .linkWatchTimeout p, h => execLinkWatchTimeout_steps p s h
  | .restoreTrial l, h => execRestoreTrial_steps l s h
  | .diagSweep, h => execDiagSweep_steps s h
  | .diagMapRead l cell, h => execDiagMapRead_steps l cell s h
  | .cellFailed l cell, h => execCellFailed_steps l cell s h
  | .ageSweep, h => execAgeSweep_steps s h
  | .twinkleDispatch, h => execTwinkleDispatch_steps s h
  | .stressSample, h => execStressSample_steps s h
  | .recastDue, h => execRecastDue_steps s h
  | .recastSwap, h => execRecastSwap_steps s h
  | .almanacFileReceived, h => execAlmanacFileReceived_steps s h
  | .bistSlice pass, h => execBistSlice_steps pass s h
  | .bistRetest block pass, h => execBistRetest_steps block pass s h
  | .bistCycleOverrun, h => execBistCycleOverrun_steps s h
  | .dramCorrectedRead addr flips, h => execDramCorrectedRead_steps addr flips s h
  | .dramRowRemap die row, h => execDramRowRemap_steps die row s h
  | .dramScrub, h => execDramScrub_steps s h
  | .selfRefreshEntry, h => execSelfRefreshEntry_steps s h
  | .selfRefreshExit, h => execSelfRefreshExit_steps s h
  | .watchdogExpiry core, h => execWatchdogExpiry_steps core s h
  | .restoreHandshake, h => execRestoreHandshake_steps s h
  | .firmwareAbsent2s, h => execFirmwareAbsent2s_steps s h
  | .probationHandshakeTimeout, h => execProbationHandshakeTimeout_steps s h
  | .probationEnd, h => execProbationEnd_steps s h
  | .journalCommit, h => execJournalCommit_steps s h
  | .journalScan, h => execJournalScan_steps s h
  | .journalCompaction, h => execJournalCompaction_steps s h
  | .checkpointWrite, h => execCheckpointWrite_steps s h
  | .checkpointErase, h => execCheckpointErase_steps s h
  | .flashScrub bad, h => execFlashScrub_steps bad s h
  | .telemetrySend, h => execTelemetrySend_steps s h
  | .levelChange, h => execLevelChange_steps s h
  | .demandLevelLower, h => execDemandLevelLower_steps s h
  | .wakeEvent w, h => execWakeEvent_steps w s h
  | .wakeStepTimeout, h => execWakeStepTimeout_steps s h
  | .nrstAssert width, h => execNrstAssert_steps width s h
  | .nrstRelease, h => execNrstRelease_steps s h
  | .nrstStuck, h => execNrstStuck_steps s h
  | .por, h => execPor_steps s h
  | .powerUpStep ready, h => execPowerUpStep_steps ready s h
  | .powerUpStepTimeout, h => execPowerUpStepTimeout_steps s h
  | .boot f, h => execBoot_steps f s h
  | .bor vinMillivolts, h => execBor_steps vinMillivolts s h
  | .supplyFault b shorted, h => execSupplyFault_steps b shorted s h
  | .dieTrip, h => execDieTrip_steps s h
  | .refinLost, h => execRefinLost_steps s h
  | .refinRestored, h => execRefinRestored_steps s h
  | .crystalSourceChange crystal, h => execCrystalSourceChange_steps crystal s h
  | .i2cBusStuck recovered, h => execI2cBusStuck_steps recovered s h
  | .pmbusVoltageTimeout r, h => execPmbusVoltageTimeout_steps r s h
  | .scanEnter, h => execScanEnter_steps s h
  | .scanExit, h => execScanExit_steps s h
  | .safetyInputChange k on, h => execSafetyInputChange_steps k on s h
  | .discrepancyTimeout p, h => execDiscrepancyTimeout_steps p s h
  | .inputTestPulse fromB failed, h => execInputTestPulse_steps fromB failed s h
  | .outputTestPulse o readbackOk, h => execOutputTestPulse_steps o readbackOk s h
  | .edmTimeout p, h => execEdmTimeout_steps p s h
  | .resetPress milliseconds, h => execResetPress_steps milliseconds s h
  | .srstStuck, h => execSrstStuck_steps s h
  | .srstStuckClear, h => execSrstStuckClear_steps s h
  | .heartbeatLoss, h => execHeartbeatLoss_steps s h
  | .channelDisagreement p, h => execChannelDisagreement_steps p s h
  | .safetyMemoryFault, h => execSafetyMemoryFault_steps s h
  | .networkSafetyTimeout, h => execNetworkSafetyTimeout_steps s h
  | .safetyConfigTimeout, h => execSafetyConfigTimeout_steps s h
  | .wakeStepReady, h => execWakeStepReady_steps s h
  | .calibrationSlice m, h => execCalibrationSlice_steps m s h
  | .compositeComplete, h => execCompositeComplete_steps s h
  | .slideFillComplete, h => execSlideFillComplete_steps s h
  | .checkRunComplete u, h => execCheckRunComplete_steps u s h
  | .borRelease, h => execBorRelease_steps s h

/-- A step is the meaning of the front command on the queue's rest, or an idle tick. -/
theorem step_cases {s t : State} (h : step s = .next t) :
    (∃ i rest, s.pending = i :: rest ∧ exec i { s with pending := rest } = .next t) ∨ s.pending = [] ∧ t = tick s := by
  unfold step at h
  split at h
  case h_1 i rest front => exact .inl ⟨i, rest, front, h⟩
  case h_2 idle => exact .inr ⟨idle, (Host.Outcome.next.inj h).symm⟩

/-! ## The statement -/

/-- Settles O4: of the front command by `exec_steps`, which does not see that the queue is shorter, and of an idle tick by
`tick_steps`. -/
theorem everyStepKeepsSafetyHolds : Obligations.EveryStepKeepsSafetyHolds := by
  unfold Obligations.EveryStepKeepsSafetyHolds
  intro s t held h
  obtain ⟨i, rest, -, run⟩ | ⟨-, rfl⟩ := step_cases h
  · exact (exec_steps i run).safe held
  · exact (tick_steps s).safe held

end Sys2Proof.Machine
end

section
/-! PROOF. The rules of the safety block (15 R335, R336, R342, R343; Tables 15-6 and 15-7): what a judgement, a lockout and a press make
of a pair, and what the report of a change touches outside the block. -/

namespace Sys2Proof.Machine

/-! ## A pair in its place -/

@[simp] theorem pair_setPair_same (x : SafetyState) (p : OutPair) (v : Pair) : (x.setPair p v).pair p = v := by cases p <;> rfl

theorem pair_setPair_ne {p q : OutPair} (h : q ≠ p) (x : SafetyState) (v : Pair) : (x.setPair p v).pair q = x.pair q := by
  cases p <;> cases q <;> first | rfl | exact absurd rfl h

@[simp] theorem setPair_pair (x : SafetyState) (p : OutPair) : x.setPair p (x.pair p) = x := by cases p <;> rfl

@[simp] theorem demandMask_setPair (x : SafetyState) (p : OutPair) (v : Pair) : (x.setPair p v).demandMask = x.demandMask := by
  cases p <;> rfl

@[simp] theorem sources_setPair (x : SafetyState) (p q : OutPair) (v : Pair) : (x.setPair p v).sources q = x.sources q := by
  cases p <;> cases q <;> rfl

/-- Outside run an output is off. -/
theorem outputOn_eq_false {s : State} {p : OutPair} (h : (s.safety.pair p).state ≠ .run) : outputOn s p = false := by
  rw [outputOn, beq_eq_false_iff_ne.2 h, Bool.false_and]

theorem outputOn_run {s : State} {p : OutPair} (h : (s.safety.pair p).state = .run) : outputOn s p = !s.power.vsafeLow := by
  rw [outputOn, h]; rfl

theorem Pair.locked.not_run {v : Pair} (h : v.locked) : v.state ≠ .run := by
  obtain h | h := h <;> rw [h] <;> decide

/-! ## One pair moves -/

/-- From `s` to `t` nothing moves but the pair. -/
def Moves (p : OutPair) (s t : State) : Prop := t = { s with safety := s.safety.setPair p (t.safety.pair p) }

theorem Moves.refl (p : OutPair) (s : State) : Moves p s s := by
  unfold Moves
  rw [setPair_pair]

section
variable {p : OutPair} {s t : State} (h : Moves p s t)
include h

theorem Moves.other {q : OutPair} (hq : q ≠ p) : t.safety.pair q = s.safety.pair q := by
  rw [h]; exact pair_setPair_ne hq ..

theorem Moves.demandMask : t.safety.demandMask = s.safety.demandMask := by
  rw [h]; exact demandMask_setPair ..

theorem Moves.sources (q : OutPair) : t.safety.sources q = s.safety.sources q := by
  rw [h]; exact sources_setPair ..

end

theorem enterPair_moves (p : OutPair) (st : PairState) (latched : Nat) (s : State) : Moves p s (enterPair p st latched s) := by
  cases p <;> rfl

@[simp] theorem enterPair_state (p : OutPair) (st : PairState) (latched : Nat) (s : State) :
    ((enterPair p st latched s).safety.pair p).state = st := by cases p <;> rfl

@[simp] theorem enterPair_latched (p : OutPair) (st : PairState) (latched : Nat) (s : State) :
    ((enterPair p st latched s).safety.pair p).latched = latched := by cases p <;> rfl

theorem lockPair_moves (p : OutPair) (s : State) : Moves p s (lockPair p s) := by
  unfold lockPair
  split
  · exact .refl p s
  · exact enterPair_moves ..

theorem pressPair_moves (p : OutPair) (s : State) : Moves p s (pressPair p s) := by
  unfold pressPair
  dsimp only
  split <;> exact enterPair_moves ..

/-! ## What a judgement makes of a pair (15 R336, Table 15-6) -/

/-- The functions that drive the pair and demand now. -/
def SafetyState.active (x : SafetyState) (p : OutPair) : Nat := x.demandMask &&& x.sources p

/-- Whether a pair in a demand goes back to run without a press: nothing demands, every latched demand is one that restarts
automatically, and EDM agrees (15 Table 15-4). -/
def SafetyState.restarts (x : SafetyState) (p : OutPair) : Bool :=
  let latched := (x.pair p).latched ||| x.active p
  let own := (if x.auto p then fDoor + fLc else 0) + fTwoHand
  x.active p = 0 && latched &&& own = latched && x.edmReady p

theorem judgePair_of_run {p : OutPair} {s : State} (h : (s.safety.pair p).state = .run) :
    judgePair p s = if s.safety.active p = 0 then s else enterPair p .demand (s.safety.active p) s := by
  simp only [judgePair, h]; rfl

theorem judgePair_of_demand {p : OutPair} {s : State} (h : (s.safety.pair p).state = .demand) :
    judgePair p s = if s.safety.restarts p then enterPair p .run 0 s
      else enterPair p .demand ((s.safety.pair p).latched ||| s.safety.active p) s := by
  simp only [judgePair, h]; rfl

theorem judgePair_of_other {p : OutPair} {s : State} (hr : (s.safety.pair p).state ≠ .run) (hd : (s.safety.pair p).state ≠ .demand) :
    judgePair p s = s := by
  unfold judgePair
  dsimp only
  split
  · contradiction
  · contradiction
  · rfl

theorem active_of_restarts {x : SafetyState} {p : OutPair} (h : x.restarts p = true) : x.active p = 0 := by
  simp only [SafetyState.restarts, Bool.and_eq_true, decide_eq_true_eq] at h
  exact h.1.1

/-- A pair in run is demanded; a pair in a demand stays, or restarts once nothing demands; every other one stays. -/
theorem judgePair_cases (p : OutPair) (s : State) :
    (judgePair p s = s ∧ ((s.safety.pair p).state = .run → s.safety.active p = 0) ∧ (s.safety.pair p).state ≠ .demand) ∨
    ((s.safety.pair p).state = .run ∧ s.safety.active p ≠ 0 ∧ judgePair p s = enterPair p .demand (s.safety.active p) s) ∨
    ((s.safety.pair p).state = .demand ∧ ((∃ latched, judgePair p s = enterPair p .demand latched s) ∨
      judgePair p s = enterPair p .run 0 s ∧ s.safety.active p = 0)) := by
  by_cases run : (s.safety.pair p).state = .run
  · rw [judgePair_of_run run]
    split
    case isTrue idle => exact .inl ⟨rfl, fun _ => idle, by rw [run]; decide⟩
    case isFalse active => exact .inr (.inl ⟨run, active, rfl⟩)
  by_cases demand : (s.safety.pair p).state = .demand
  · rw [judgePair_of_demand demand]
    split
    case isTrue ends => exact .inr (.inr ⟨demand, .inr ⟨rfl, active_of_restarts ends⟩⟩)
    case isFalse => exact .inr (.inr ⟨demand, .inl ⟨_, rfl⟩⟩)
  · exact .inl ⟨judgePair_of_other run demand, fun h => absurd h run, demand⟩

theorem judgePair_moves (p : OutPair) (s : State) : Moves p s (judgePair p s) := by
  obtain ⟨same, -⟩ | ⟨-, -, moved⟩ | ⟨-, ⟨_, moved⟩ | ⟨moved, -⟩⟩ := judgePair_cases p s
  · rw [same]; exact .refl p s
  all_goals rw [moved]; exact enterPair_moves ..

/-- A pair is in run after a judgement only where nothing demands it, and it ran or waited in a demand before. -/
theorem judgePair_run {p : OutPair} {s : State} (h : ((judgePair p s).safety.pair p).state = .run) :
    s.safety.active p = 0 ∧ ((s.safety.pair p).state = .run ∨ (s.safety.pair p).state = .demand) := by
  obtain ⟨same, idle, -⟩ | ⟨-, -, moved⟩ | ⟨demand, ⟨_, moved⟩ | ⟨-, idle⟩⟩ := judgePair_cases p s
  · rw [same] at h
    exact ⟨idle h, .inl h⟩
  · rw [moved, enterPair_state] at h; cases h
  · rw [moved, enterPair_state] at h; cases h
  · exact ⟨idle, .inr demand⟩

/-- A running pair that is demanded latches what demands it. -/
theorem judgePair_demands {p : OutPair} {s : State} (run : (s.safety.pair p).state = .run) (active : s.safety.active p ≠ 0) :
    judgePair p s = enterPair p .demand (s.safety.active p) s := (judgePair_of_run run).trans (if_neg active)

/-- A judgement leaves no pair unused that was used. -/
theorem judgePair_unused {p : OutPair} {s : State} (h : ((judgePair p s).safety.pair p).state = .unused) :
    (s.safety.pair p).state = .unused := by
  obtain ⟨same, -⟩ | ⟨-, -, moved⟩ | ⟨-, ⟨_, moved⟩ | ⟨moved, -⟩⟩ := judgePair_cases p s
  · rw [same] at h; exact h
  all_goals rw [moved, enterPair_state] at h; cases h

/-- The judgement of the motion pair does not look at the light pair. -/
theorem judgePair_motion_of_moves {s t : State} (h : Moves .light s t) :
    (judgePair .motion t).safety.motion = (judgePair .motion s).safety.motion := by
  have same : t.safety.pair .motion = s.safety.pair .motion := h.other (by decide)
  have active : t.safety.active .motion = s.safety.active .motion := by rw [h]; rfl
  have entered (st : PairState) (latched : Nat) : (enterPair .motion st latched t).safety.motion = (enterPair .motion st latched s).safety.motion := by
    rw [h]; rfl
  by_cases run : (s.safety.pair .motion).state = .run
  · rw [judgePair_of_run run, judgePair_of_run (same ▸ run), active]
    split
    · exact same
    · exact entered ..
  by_cases demand : (s.safety.pair .motion).state = .demand
  · have restarts : t.safety.restarts .motion = s.safety.restarts .motion := by rw [h]; rfl
    rw [judgePair_of_demand demand, judgePair_of_demand (same ▸ demand), active, same, restarts]
    split <;> exact entered ..
  · rw [judgePair_of_other run demand, judgePair_of_other (same ▸ run) (same ▸ demand)]
    exact same

/-- Each pair after the evaluation of both is the pair judged alone. -/
theorem judgePairs_pair (p : OutPair) (s : State) : (judgePairs s).safety.pair p = (judgePair p s).safety.pair p := by
  obtain ⟨-, -, light, motion, -⟩ := (reportPairs_kept s (endActuation s (judgePair .motion (judgePair .light s)))).trans (endActuation_kept ..)
  cases p with
  | light => exact light.trans ((judgePair_moves .motion _).other (q := .light) (by decide))
  | motion => exact motion.trans (judgePair_motion_of_moves (judgePair_moves .light s))

/-! ## What a report touches (15 R342, R343) -/

/-- A wake event changes the power state alone. -/
theorem wakeBy_eq (w : WakeSource) (s : State) : wakeBy w s = { s with power := (wakeBy w s).power } := by
  unfold wakeBy
  split
  · rfl
  · split <;> first | rfl | (split <;> rfl)

theorem wakeBy_vsafeLow (w : WakeSource) (s : State) : (wakeBy w s).power.vsafeLow = s.power.vsafeLow := by
  unfold wakeBy
  split
  · rfl
  · split <;> first | rfl | (split <;> rfl)

/-- What the evaluation of the block may change, besides what an alert changes: the block, the rails, the pulses and the grants that it
calls back, and Nightwatch's wake. -/
def SafetyFrame (s t : State) : Prop :=
  ReplyFrame { s with safety := t.safety, ledger := t.ledger, power := t.power, chain := t.chain, plant := t.plant } t

theorem SafetyFrame.trans {s t u : State} (h : SafetyFrame t u) (g : SafetyFrame s t) : SafetyFrame s u := by
  unfold SafetyFrame ReplyFrame at *
  rw [h, g]

theorem ReplyFrame.safetyFrame {s t : State} (h : ReplyFrame s t) : SafetyFrame s t := by
  unfold SafetyFrame ReplyFrame at *
  rw [h]

theorem ReplyFrame.safety {s t : State} (h : ReplyFrame s t) : t.safety = s.safety := by
  unfold ReplyFrame at h
  rw [h]

theorem ReplyFrame.power {s t : State} (h : ReplyFrame s t) : t.power = s.power := by
  unfold ReplyFrame at h
  rw [h]

/-- The pairs whose state has changed. -/
def changedPairs (before s : State) : List OutPair :=
  [OutPair.light, .motion].filter fun p => (before.safety.pair p).state != (s.safety.pair p).state

/-- The pairs are in the states that they were in. -/
def SameStates (x y : SafetyState) : Prop := ∀ p, (x.pair p).state = (y.pair p).state

theorem changedPairs_isEmpty (before s : State) : (changedPairs before s).isEmpty = true ↔ SameStates before.safety s.safety := by
  simp only [changedPairs, List.isEmpty_iff, List.filter_eq_nil_iff, bne_iff_ne, ne_eq, Classical.not_not, List.mem_cons, List.not_mem_nil,
    or_false, forall_eq_or_imp, forall_eq]
  exact ⟨fun ⟨l, m⟩ p => by cases p <;> assumption, fun h => ⟨h .light, h .motion⟩⟩

/-- A change noted: its time, the count of demands, and the alerts of the pairs that have changed. -/
def noteChange (before s : State) : State :=
  (changedPairs before s).foldl (fun t p => raiseAlert 0x0C 0x01 (tileTarget s) 0 (pairCode (s.safety.pair p).state) false t)
    (clearAlert 0x0C 0x01 (tileTarget s) { s with safety := { s.safety with
      lastChange := nowSeconds s
      demands := if (changedPairs before s).any fun p => (s.safety.pair p).state == .demand then inc16 s.safety.demands else s.safety.demands } })

/-- Unless the light pair is in run or unused, the rails fall and the grants are withdrawn (15 R342, 01 R28). -/
def railsFollow (light : PairState) (s : State) : State :=
  if light == .run || light == .unused then s else withdrawGrants (dropRails s)

theorem reportPairs_eq (before s : State) : reportPairs before s =
    if (changedPairs before s).isEmpty then s else wakeBy .safety (railsFollow s.safety.light.state (noteChange before s)) := rfl

theorem reportPairs_of_same {before s : State} (h : SameStates before.safety s.safety) : reportPairs before s = s :=
  (reportPairs_eq before s).trans (if_pos ((changedPairs_isEmpty ..).2 h))

theorem reportPairs_of_changed {before s : State} (h : ¬ SameStates before.safety s.safety) :
    reportPairs before s = wakeBy .safety (railsFollow s.safety.light.state (noteChange before s)) :=
  (reportPairs_eq before s).trans (if_neg (mt (changedPairs_isEmpty ..).1 h))

/-- Of the block, a noted change touches the two counts alone; beside it, what an alert touches. -/
theorem noteChange_frame (before s : State) : ∃ at_ n,
    ReplyFrame { s with safety := { s.safety with lastChange := at_, demands := n } } (noteChange before s) :=
  ⟨_, _, (foldl_frame (fun _ _ => raiseAlert_frame ..) _ _).trans (clearAlert_frame ..)⟩

theorem railsFollow_frame (light : PairState) (s : State) : SafetyFrame s (railsFollow light s) := by
  unfold railsFollow
  split <;> rfl

theorem railsFollow_safety (light : PairState) (s : State) : (railsFollow light s).safety = s.safety := by
  unfold railsFollow
  split <;> rfl

theorem railsFollow_power (light : PairState) (s : State) : (railsFollow light s).power = s.power := by
  unfold railsFollow
  split <;> rfl

theorem railsOff_dropRails (s : State) : railsOff (dropRails s) = true := by
  simp [railsOff, dropRails, modRails, ledEnHigh]

theorem wakeBy_frame (w : WakeSource) (s : State) : SafetyFrame s (wakeBy w s) := by
  rw [wakeBy_eq]; rfl

/-- Of the block, a report touches the time of the change and the count of demands. -/
theorem reportPairs_safety (before s : State) :
    ∃ at_ n, (reportPairs before s).safety = { s.safety with lastChange := at_, demands := n } := by
  by_cases same : SameStates before.safety s.safety
  · exact ⟨_, _, congrArg State.safety (reportPairs_of_same same)⟩
  · obtain ⟨at_, n, noted⟩ := noteChange_frame before s
    refine ⟨at_, n, ?_⟩
    rw [reportPairs_of_changed same, wakeBy_eq, railsFollow_safety, noted.safety]

theorem reportPairs_vsafeLow (before s : State) : (reportPairs before s).power.vsafeLow = s.power.vsafeLow := by
  by_cases same : SameStates before.safety s.safety
  · rw [reportPairs_of_same same]
  · obtain ⟨_, _, noted⟩ := noteChange_frame before s
    rw [reportPairs_of_changed same, wakeBy_vsafeLow, railsFollow_power, noted.power]

theorem reportPairs_frame (before s : State) : SafetyFrame s (reportPairs before s) := by
  by_cases same : SameStates before.safety s.safety
  · rw [reportPairs_of_same same]; rfl
  · obtain ⟨_, _, noted⟩ := noteChange_frame before s
    rw [reportPairs_of_changed same]
    exact (wakeBy_frame ..).trans ((railsFollow_frame ..).trans (noted.safetyFrame.trans rfl))

/-- The light pair that has come out of run leaves every rail off. -/
theorem reportPairs_railsOff {before s : State} (changed : before.safety.light.state ≠ s.safety.light.state)
    (run : s.safety.light.state ≠ .run) (unused : s.safety.light.state ≠ .unused) : railsOff (reportPairs before s) = true := by
  have differ : ¬ SameStates before.safety s.safety := fun same => changed (same .light)
  rw [reportPairs_of_changed differ, wakeBy_eq, railsFollow, beq_eq_false_iff_ne.2 run, beq_eq_false_iff_ne.2 unused]
  exact railsOff_dropRails _

/-! ## Evaluations of the block -/

/-- From `s` to `t` nothing changes but the block. -/
def OnlySafety (s t : State) : Prop := t = { s with safety := t.safety }

theorem OnlySafety.refl (s : State) : OnlySafety s s := rfl

theorem OnlySafety.trans {s t u : State} (h : OnlySafety t u) (g : OnlySafety s t) : OnlySafety s u := by
  unfold OnlySafety at *
  rw [h, g]

theorem Moves.onlySafety {p : OutPair} {s t : State} (h : Moves p s t) : OnlySafety s t := by
  unfold Moves at h
  unfold OnlySafety
  rw [h]

theorem endActuation_onlySafety (before s : State) : OnlySafety s (endActuation before s) := by
  unfold endActuation
  split <;> rfl

theorem endActuation_pair (before s : State) (p : OutPair) : (endActuation before s).safety.pair p = s.safety.pair p := by
  obtain ⟨-, -, light, motion, -⟩ := endActuation_kept before s
  cases p
  · exact light
  · exact motion

theorem reportPairs_pair (before s : State) (p : OutPair) : (reportPairs before s).safety.pair p = s.safety.pair p := by
  obtain ⟨-, -, light, motion, -⟩ := reportPairs_kept before s
  cases p
  · exact light
  · exact motion

/-- The block was evaluated: its inputs and notes have changed to `s0`, its pairs from there to `s1`, of which a used light pair stays
used, and what has changed was reported. -/
def Evaluated (s t : State) : Prop := ∃ s0 s1, OnlySafety s s0 ∧ OnlySafety s s1 ∧ SameStates s.safety s0.safety ∧
  (s1.safety.light.state = .unused → s0.safety.light.state = .unused) ∧ t = reportPairs s0 s1

/-- New notes alone are an evaluation that finds no change. -/
theorem evaluated_of_noted {s t : State} (h : OnlySafety s t) (same : SameStates s.safety t.safety) : Evaluated s t :=
  ⟨t, t, h, h, same, id, (reportPairs_of_same fun _ => rfl).symm⟩

theorem Evaluated.refl (s : State) : Evaluated s s := evaluated_of_noted rfl fun _ => rfl

/-- Notes that have changed, the light pair moved, then the motion pair, and the report. -/
theorem evaluated_of_moves {s s0 a b c : State} (h : OnlySafety s s0) (same : SameStates s.safety s0.safety) (noted : OnlySafety s0 a)
    (light : Moves .light a b) (motion : Moves .motion b c) (used : b.safety.light.state = .unused → s0.safety.light.state = .unused) :
    Evaluated s (reportPairs s0 (endActuation s0 c)) := by
  refine ⟨s0, _, h, (endActuation_onlySafety ..).trans (motion.onlySafety.trans (light.onlySafety.trans (noted.trans h))), same,
    fun unused => used ?_, rfl⟩
  have kept : (endActuation s0 c).safety.light = b.safety.light :=
    (endActuation_pair s0 c .light).trans (motion.other (q := .light) (by decide))
  rw [← kept]; exact unused

theorem judgePairs_evaluated {s s0 : State} (h : OnlySafety s s0) (same : SameStates s.safety s0.safety) :
    Evaluated s (judgePairs s0) :=
  evaluated_of_moves h same (.refl s0) (judgePair_moves ..) (judgePair_moves ..) (judgePair_unused (p := .light))

theorem lockPair_unused {p : OutPair} {s : State} (h : ((lockPair p s).safety.pair p).state = .unused) :
    (s.safety.pair p).state = .unused := by
  unfold lockPair at h
  split at h
  case isTrue unused => exact beq_iff_eq.1 unused
  case isFalse => rw [enterPair_state] at h; cases h

/-- The cause that stands after a lockout by `cause`: an internal one stands (15 Table 15-7). -/
def withCause (cause : Nat) (s : State) : State :=
  { s with safety := { s.safety with cause := if 0x10 ≤ s.safety.cause then s.safety.cause else cause } }

theorem withCause_onlySafety (cause : Nat) (s : State) : OnlySafety s (withCause cause s) := rfl

theorem lockout_eq (cause : Nat) (s : State) :
    lockout cause s = reportPairs s (endActuation s (lockPair .motion (lockPair .light (withCause cause s)))) := rfl

theorem lockout_evaluated (cause : Nat) {s s0 : State} (h : OnlySafety s s0) (same : SameStates s.safety s0.safety) :
    Evaluated s (lockout cause s0) := by
  rw [lockout_eq]
  exact evaluated_of_moves h same (withCause_onlySafety ..) (lockPair_moves ..) (lockPair_moves ..) (lockPair_unused (p := .light))

section
variable {s t : State} (h : Evaluated s t)
include h

theorem Evaluated.frame : SafetyFrame s t := by
  obtain ⟨s0, s1, -, only, -, -, rfl⟩ := h
  refine (reportPairs_frame ..).trans ?_
  rw [only]; rfl

theorem Evaluated.railsOff (run : s.safety.light.state = .run) (left : t.safety.light.state ≠ .run) : railsOff t = true := by
  obtain ⟨s0, s1, -, -, same, used, rfl⟩ := h
  have run0 : s0.safety.light.state = .run := (same .light).symm.trans run
  have left1 : s1.safety.light.state ≠ .run := by
    rw [← show _ = s1.safety.light from reportPairs_pair s0 s1 .light]; exact left
  refine reportPairs_railsOff (fun eq => left1 (eq.symm.trans run0)) left1 fun unused => ?_
  rw [used unused] at run0
  cases run0

theorem Evaluated.quiet (light : t.safety.light = s.safety.light) (motion : t.safety.motion = s.safety.motion) :
    t.ledger = s.ledger ∧ t.power = s.power := by
  obtain ⟨s0, s1, -, only, same, -, rfl⟩ := h
  have pairs (p : OutPair) : s1.safety.pair p = s.safety.pair p := by
    rw [← reportPairs_pair s0 s1 p]
    cases p
    · exact light
    · exact motion
  rw [reportPairs_of_same fun p => by rw [pairs p]; exact (same p).symm, only]
  exact ⟨rfl, rfl⟩

end

/-! ## The rows that evaluate the block -/

theorem exec_safetyInputChange (i : SafetyInput) (on : Bool) (s : State) :
    exec (.safetyInputChange i on) s = .next (if s.safety.on i == on then s else takeLevel i on s) := rfl
theorem exec_discrepancyTimeout (p : SafetyPair) (s : State) : exec (.discrepancyTimeout p) s = execDiscrepancyTimeout p s := rfl
theorem exec_inputTestPulse (b : Bool) (l : List SafetyInput) (s : State) : exec (.inputTestPulse b l) s = .next (testInputs b l s) := rfl
theorem exec_outputTestPulse (o : SafetyOut) (ok : Bool) (s : State) : exec (.outputTestPulse o ok) s =
    .next (if (s.safety.pair (outPair o)).state == .run && !ok then lockout 0x12 s else s) := rfl
theorem exec_edmTimeout (p : OutPair) (s : State) : exec (.edmTimeout p) s = execEdmTimeout p s := rfl
theorem exec_channelDisagreement (p : OutPair) (s : State) :
    exec (.channelDisagreement p) s = .next (if (s.safety.pair p).state == .unused then s else lockout 0x10 s) := rfl
theorem exec_networkSafetyTimeout (s : State) : exec .networkSafetyTimeout s = execNetworkSafetyTimeout s := rfl

/-- The block with a new level, before its pairs are judged. -/
def levelled (i : SafetyInput) (on : Bool) (s : State) : SafetyState :=
  let x := { s.safety with levels := setAt s.safety.levels (inputIndex i) on }
  let x1 := match i with
    | .srst => if on then { x with pressSince := some (nowNs s) } else { x with pressSince := none, offSince := nowNs s }
    | .sfbLight => if on != (x.light.state == PairState.run) then { x with light := { x.light with edmSince := none } } else x
    | .sfbMotion => if on != (x.motion.state == PairState.run) then { x with motion := { x.motion with edmSince := none } } else x
    | _ => x
  ((x1.twoHand (nowNs s)).timeDiscrepancy (nowNs s)).followMend

theorem takeLevel_eq (i : SafetyInput) (on : Bool) (s : State) : takeLevel i on s = judgePairs { s with safety := levelled i on s } := rfl

theorem levelled_sameStates (i : SafetyInput) (on : Bool) (s : State) : SameStates s.safety (levelled i on s) := by
  intro p
  cases i
  case sfbLight => unfold levelled; dsimp only; split <;> cases p <;> rfl
  case sfbMotion => unfold levelled; dsimp only; split <;> cases p <;> rfl
  case srst => cases on <;> cases p <;> rfl
  all_goals cases p <;> rfl

theorem sameStates_setPair {x : SafetyState} {p : OutPair} {v : Pair} (h : v.state = (x.pair p).state) :
    SameStates x (x.setPair p v) := by
  intro q
  by_cases hq : q = p
  · rw [hq, pair_setPair_same, h]
  · rw [pair_setPair_ne hq]

theorem discrepancyTimeout_evaluated {p : SafetyPair} {s t : State} (h : exec (.discrepancyTimeout p) s = .next t) : Evaluated s t := by
  rw [exec_discrepancyTimeout] at h
  unfold execDiscrepancyTimeout at h
  cases h
  split
  · split
    · exact lockout_evaluated _ rfl fun q => by cases q <;> rfl
    · exact .refl s
  · exact .refl s

theorem edmTimeout_evaluated {p : OutPair} {s t : State} (h : exec (.edmTimeout p) s = .next t) : Evaluated s t := by
  rw [exec_edmTimeout] at h
  unfold execEdmTimeout at h
  cases h
  split
  · dsimp only
    split
    · exact lockout_evaluated _ rfl (sameStates_setPair rfl)
    · exact .refl s
  · exact .refl s

theorem networkSafetyTimeout_evaluated {s t : State} (h : exec .networkSafetyTimeout s = .next t) : Evaluated s t := by
  rw [exec_networkSafetyTimeout] at h
  unfold execNetworkSafetyTimeout at h
  cases h
  split
  · split
    · exact judgePairs_evaluated rfl fun q => by cases q <;> rfl
    · exact .refl s
  · exact .refl s

theorem safetyInputChange_evaluated {i : SafetyInput} {on : Bool} {s t : State} (h : exec (.safetyInputChange i on) s = .next t) :
    Evaluated s t := by
  rw [exec_safetyInputChange] at h
  cases h
  split
  · exact .refl s
  · exact judgePairs_evaluated rfl (levelled_sameStates i on s)

theorem inputTestPulse_evaluated {b : Bool} {l : List SafetyInput} {s t : State} (h : exec (.inputTestPulse b l) s = .next t) :
    Evaluated s t := by
  rw [exec_inputTestPulse] at h
  cases h
  unfold testInputs
  dsimp only
  split
  · exact lockout_evaluated _ rfl fun q => by cases q <;> rfl
  · exact evaluated_of_noted rfl fun q => by cases q <;> rfl

theorem outputTestPulse_evaluated {o : SafetyOut} {ok : Bool} {s t : State} (h : exec (.outputTestPulse o ok) s = .next t) :
    Evaluated s t := by
  rw [exec_outputTestPulse] at h
  cases h
  split
  · exact lockout_evaluated _ rfl fun _ => rfl
  · exact .refl s

theorem channelDisagreement_evaluated {p : OutPair} {s t : State} (h : exec (.channelDisagreement p) s = .next t) : Evaluated s t := by
  rw [exec_channelDisagreement] at h
  cases h
  split
  · exact .refl s
  · exact lockout_evaluated _ rfl fun _ => rfl

/-- A lockout that no condition guards. -/
theorem lockoutRow_evaluated {i : Instr} {cause : Nat} {s t : State} (hi : exec i s = .next (lockout cause s)) (h : exec i s = .next t) :
    Evaluated s t := by
  rw [hi] at h
  cases h
  exact lockout_evaluated _ rfl fun _ => rfl

end Sys2Proof.Machine
end

section
/-! PROOF. What the rows of the safety block touch (15 R342, R343, R351), from the evaluation that each of them is, and what a message
of the network does to the outputs (15 R347, R348). -/

namespace Sys2Proof.Machine

/-! ## Presses (15 R344, R349) -/

/-- What a press may change, besides what an alert changes: as an evaluation, and the flash and the fuses. -/
def PressFrame (s t : State) : Prop := SafetyFrame { s with flash := t.flash, fuse := t.fuse } t

theorem PressFrame.trans {s t u : State} (h : PressFrame t u) (g : PressFrame s t) : PressFrame s u := by
  unfold PressFrame SafetyFrame ReplyFrame at *
  rw [h, g]

theorem SafetyFrame.pressFrame {s t : State} (h : SafetyFrame s t) : PressFrame s t := by
  unfold PressFrame SafetyFrame ReplyFrame at *
  rw [h]

theorem OnlySafety.safetyFrame {s t : State} (h : OnlySafety s t) : SafetyFrame s t := by
  unfold OnlySafety at h
  rw [h]; rfl

/-- Besides what an answer changes, the completion of an operation changes its implicit votes. -/
theorem completeOp_votes (src : Source) (tag status : Nat) (results : List Byte) (s : State) :
    ReplyFrame { s with power.implicit := (completeOp src tag status results s).power.implicit } (completeOp src tag status results s) := by
  have h := completeOp_frame src tag status results s
  rw [h.power]
  exact h.trans rfl

theorem enqueueFlash_eq (w : FlashWrite) (s : State) : enqueueFlash w s = { s with flash := (enqueueFlash w s).flash } := by
  unfold enqueueFlash beginFlash
  dsimp only
  split
  · rfl
  · split <;> rfl

theorem ReplyFrame.withImplicit {s t : State} (h : ReplyFrame s t) (l : List ImplicitVote) :
    ReplyFrame { s with power.implicit := l } { t with power.implicit := l } := by
  unfold ReplyFrame at *
  rw [h]

theorem dropChange_votes (c : SafetyChange) (s : State) : ReplyFrame
    { s with safety := { s.safety with pending := none }, power.implicit := (dropChange c s).power.implicit } (dropChange c s) :=
  (completeOp_votes ..).trans ((logAlert_frame ..).withImplicit _)

theorem dropChange_safety (c : SafetyChange) (s : State) : (dropChange c s).safety = { s.safety with pending := none } :=
  (dropChange_votes c s).safety

theorem dropChange_frame (c : SafetyChange) (s : State) : SafetyFrame s (dropChange c s) :=
  (dropChange_votes c s).safetyFrame.trans rfl

/-- A change in force: the new configuration, and the commissioned fuse with the first that uses a function (15 R349, R351). -/
def confirmed (c : SafetyChange) (s : State) : State :=
  let s1 := installSafety c.cfg { s with safety := { s.safety with pending := none } }
  { s1 with fuse.commissioned := s1.fuse.commissioned || c.cfg.functions != 0 }

theorem confirmChange_eq (c : SafetyChange) (s : State) : confirmChange c s = completeOp c.src c.tag St.ok []
    (enqueueFlash { type := 3, key := 0, data := safetyBytes c.cfg, use := .safety, op := none } (reportPairs s (confirmed c s))) := rfl

theorem confirmed_frame (c : SafetyChange) (s : State) : PressFrame s (confirmed c s) := rfl

theorem enqueueFlash_frame (w : FlashWrite) (s : State) : PressFrame s (enqueueFlash w s) := by
  rw [enqueueFlash_eq]; rfl

theorem confirmChange_frame (c : SafetyChange) (s : State) : PressFrame s (confirmChange c s) := by
  rw [confirmChange_eq]
  have completed := (completeOp_votes c.src c.tag St.ok []
    (enqueueFlash { type := 3, key := 0, data := safetyBytes c.cfg, use := .safety, op := none } (reportPairs s (confirmed c s)))).safetyFrame
  exact (completed.trans rfl).pressFrame.trans
    ((enqueueFlash_frame ..).trans ((reportPairs_frame ..).pressFrame.trans (confirmed_frame ..)))

/-- The presses on the pairs change the block alone. -/
theorem pressEach_onlySafety (l : List OutPair) (s : State) : OnlySafety s (l.foldl (fun t p => pressPair p t) s) := by
  induction l generalizing s with
  | nil => exact .refl s
  | cons p l ih => exact (ih _).trans (pressPair_moves p s).onlySafety

/-- The pairs that wait for a press. -/
def waitingPairs (s : State) : List OutPair :=
  [OutPair.light, .motion].filter fun p => [PairState.interlock, .demand, .lockout].contains (s.safety.pair p).state

/-- The pairs that a press moves now. -/
def movingPairs (s : State) : List OutPair := (waitingPairs s).filter (s.safety.pressMoves (nowNs s))

/-- The pairs moved: once none is left in lockout its cause is gone. -/
def pressedState (s : State) : State :=
  let s1 := (movingPairs s).foldl (fun t p => pressPair p t) s
  if [OutPair.light, .motion].any fun p => (s1.safety.pair p).state == .lockout then s1
  else { s1 with safety := { s1.safety with cause := 0, mend := [] } }

theorem pressPairs_eq (s : State) : pressPairs s = if (waitingPairs s).isEmpty || s.safety.noRecord then s
    else if (movingPairs s).isEmpty then { s with safety := { s.safety with refused := inc16 s.safety.refused } }
    else reportPairs s (endActuation s (pressedState s)) := rfl

theorem pressedState_onlySafety (s : State) : OnlySafety s (pressedState s) := by
  unfold pressedState
  dsimp only
  split
  · exact pressEach_onlySafety ..
  · exact OnlySafety.trans (t := List.foldl _ s _) rfl (pressEach_onlySafety ..)

theorem pressPairs_frame (s : State) : SafetyFrame s (pressPairs s) := by
  rw [pressPairs_eq]
  split
  · rfl
  · split
    · rfl
    · exact (reportPairs_frame ..).trans ((endActuation_onlySafety ..).trans (pressedState_onlySafety s)).safetyFrame

theorem pressReset_frame (s : State) : PressFrame s (pressReset s) := by
  unfold pressReset
  split
  · split
    · exact confirmChange_frame ..
    · exact ((pressPairs_frame _).trans (dropChange_frame ..)).pressFrame
  · exact (pressPairs_frame s).pressFrame

/-! ## SRST and the time for a change -/

/-- The block as a press ends: SRST is off. -/
def pressOver (s : State) : SafetyState :=
  { s.safety with levels := setAt s.safety.levels 10 false, pressSince := none, offSince := nowNs s }

theorem exec_resetPress (ms : Nat) (s : State) : exec (.resetPress ms) s = .next (if 100 ≤ ms && ms ≤ 3000 then
    (if s.safety.stuck then { s with safety := pressOver s } else pressReset { s with safety := pressOver s }) else s) := rfl
theorem exec_srstStuck (s : State) : exec .srstStuck s = execSrstStuck s := rfl
theorem exec_srstStuckClear (s : State) : exec .srstStuckClear s =
    .next (if s.safety.stuck && !s.safety.on .srst && s.safety.offSince + 100000000 ≤ nowNs s then
      clearAlert 0x0C 0x02 (tileTarget s) { s with safety := { s.safety with stuck := false } } else s) := rfl
theorem exec_safetyConfigTimeout (s : State) : exec .safetyConfigTimeout s = execSafetyConfigTimeout s := rfl

theorem srstStuck_frame {s t : State} (h : exec .srstStuck s = .next t) : ReplyFrame { s with safety := t.safety } t := by
  rw [exec_srstStuck] at h
  unfold execSrstStuck at h
  cases h
  split
  · split
    · rw [(raiseAlert_frame ..).safety]
      exact raiseAlert_frame ..
    · rfl
  · rfl

theorem srstStuckClear_frame {s t : State} (h : exec .srstStuckClear s = .next t) : ReplyFrame { s with safety := t.safety } t := by
  rw [exec_srstStuckClear] at h
  cases h
  split <;> rfl

theorem safetyConfigTimeout_frame {s t : State} (h : exec .safetyConfigTimeout s = .next t) :
    ReplyFrame { s with safety := t.safety, power.implicit := t.power.implicit } t := by
  rw [exec_safetyConfigTimeout] at h
  unfold execSafetyConfigTimeout at h
  cases h
  split
  · split
    · rw [dropChange_safety]
      exact dropChange_votes ..
    · rfl
  · rfl

/-! ## The statement of the frame -/

/-- Settles O60: the rows that demand or lock are evaluations of the block, and a press is one after its change has come into force. -/
theorem safetyRowsChangeOnlyTheirParts : Obligations.SafetyRowsChangeOnlyTheirParts := by
  unfold Obligations.SafetyRowsChangeOnlyTheirParts
  refine ⟨fun s t i hi h => ?evaluates, fun i hi s t h => ?srst, fun s t h => ?timeout, fun ms s t h => ?press⟩
  case evaluates =>
    have evaluated : Evaluated s t := by
      obtain hl | ⟨x, on, rfl⟩ | ⟨p, rfl⟩ | ⟨b, l, rfl⟩ | ⟨o, ok, rfl⟩ | ⟨p, rfl⟩ | ⟨p, rfl⟩ := hi
      · simp only [List.mem_cons, List.not_mem_nil, or_false] at hl
        obtain rfl | rfl | rfl := hl
        · exact lockoutRow_evaluated rfl h
        · exact lockoutRow_evaluated rfl h
        · exact networkSafetyTimeout_evaluated h
      · exact safetyInputChange_evaluated h
      · exact discrepancyTimeout_evaluated h
      · exact inputTestPulse_evaluated h
      · exact outputTestPulse_evaluated h
      · exact edmTimeout_evaluated h
      · exact channelDisagreement_evaluated h
    exact ⟨evaluated.frame, evaluated.railsOff, evaluated.quiet⟩
  case srst =>
    simp only [List.mem_cons, List.not_mem_nil, or_false] at hi
    obtain rfl | rfl := hi
    · exact srstStuck_frame h
    · exact srstStuckClear_frame h
  case timeout => exact safetyConfigTimeout_frame h
  case press =>
    rw [exec_resetPress] at h
    cases h
    split
    · split
      · rfl
      · exact PressFrame.trans (t := { s with safety := pressOver s }) (pressReset_frame _) rfl
    · exact ReplyFrame.refl _

end Sys2Proof.Machine
end

section
/-! PROOF. The demands and the outputs (15 R336, R347, R348; Tables 15-1, 15-4): the bit of the demands that each function sets, the pair
that it drives out of run, and what a message of the network makes of the outputs. -/

namespace Sys2Proof.Machine

/-! ## The demands as bits (15 Tables 15-1, 15-10) -/

theorem and_two_pow_ne_zero {n k : Nat} : n &&& 2 ^ k ≠ 0 ↔ n.testBit k = true := by
  constructor
  · intro h
    obtain ⟨i, both⟩ := Nat.exists_testBit_of_ne_zero h
    rw [Nat.testBit_and, Nat.testBit_two_pow, Bool.and_eq_true, decide_eq_true_eq] at both
    obtain ⟨bit, rfl⟩ := both
    exact bit
  · intro bit zero
    have at_k := Nat.testBit_and n (2 ^ k) k
    rw [zero, bit, Nat.testBit_two_pow_self, Nat.zero_testBit] at at_k
    exact Bool.false_ne_true at_k

/-- The demands of the five functions as a mask. -/
def demandBits (estop door valid2h lc net : Bool) : Nat :=
  (if estop then fEstop else 0) + (if door then fDoor else 0) + (if valid2h then 0 else fTwoHand) + (if lc then fLc else 0) +
    (if net then fNet else 0)

theorem demandBits_testBit : ∀ estop door valid2h lc net : Bool, (demandBits estop door valid2h lc net).testBit 7 = estop ∧
    (demandBits estop door valid2h lc net).testBit 6 = door ∧ (demandBits estop door valid2h lc net).testBit 4 = lc ∧
    (demandBits estop door valid2h lc net).testBit 3 = net := by decide

/-- The functions whose inputs demand, used or not. -/
def SafetyState.demanding (x : SafetyState) : Nat := demandBits (!x.on .estopA || !x.on .estopB) (!x.on .doorNC || x.on .doorNO)
  x.valid2h (!x.on .lcA || !x.on .lcB) x.netDemand

theorem demandMask_eq (x : SafetyState) : x.demandMask = x.demanding &&& x.cfg.functions := by
  unfold SafetyState.demandMask SafetyState.demanding demandBits
  simp only [Bool.or_eq_true]

section
variable (x : SafetyState)

theorem demanding_estop : x.demanding.testBit 7 = (!x.on .estopA || !x.on .estopB) := (demandBits_testBit ..).1
theorem demanding_door : x.demanding.testBit 6 = (!x.on .doorNC || x.on .doorNO) := (demandBits_testBit ..).2.1
theorem demanding_lc : x.demanding.testBit 4 = (!x.on .lcA || !x.on .lcB) := (demandBits_testBit ..).2.2.1
theorem demanding_net : x.demanding.testBit 3 = x.netDemand := (demandBits_testBit ..).2.2.2

end

/-- A used function that demands is among those that drive a pair of which it is a source. -/
theorem active_and_ne_zero {x : SafetyState} {p : OutPair} {k : Nat} (demands : x.demanding.testBit k = true)
    (used : x.uses (2 ^ k) = true) (source : x.sources p &&& 2 ^ k ≠ 0) : x.active p &&& 2 ^ k ≠ 0 := by
  have function : x.cfg.functions &&& 2 ^ k ≠ 0 := bne_iff_ne.1 used
  rw [and_two_pow_ne_zero] at *
  rw [SafetyState.active, demandMask_eq, Nat.testBit_and, Nat.testBit_and, demands, function, source]
  rfl

theorem ne_zero_of_and_ne_zero {n m : Nat} (h : n &&& m ≠ 0) : n ≠ 0 := fun zero => h (by rw [zero, Nat.zero_and])

/-! ## The evaluation of both pairs -/

/-- Of the block, an evaluation changes the pairs, two-hand control's arming, and the counts of a report. -/
theorem judgePairs_safety (s : State) : ∃ light motion valid2h armed at_ n, (judgePairs s).safety =
    { s.safety with light := light, motion := motion, valid2h := valid2h, armed := armed, lastChange := at_, demands := n } := by
  obtain ⟨at_, n, reported⟩ := reportPairs_safety s (endActuation s (judgePair .motion (judgePair .light s)))
  have motion := judgePair_moves .motion (judgePair .light s)
  have light := judgePair_moves .light s
  unfold judgePairs
  dsimp only
  rw [reported]
  unfold endActuation
  split <;> rw [motion, light] <;> exact ⟨_, _, _, _, _, _, rfl⟩

theorem judgePairs_netDemand (s : State) : (judgePairs s).safety.netDemand = s.safety.netDemand := by
  obtain ⟨_, _, _, _, _, _, judged⟩ := judgePairs_safety s
  rw [judged]

theorem judgePairs_levels (s : State) : (judgePairs s).safety.levels = s.safety.levels := by
  obtain ⟨_, _, _, _, _, _, judged⟩ := judgePairs_safety s
  rw [judged]

theorem judgePairs_vsafeLow (s : State) : (judgePairs s).power.vsafeLow = s.power.vsafeLow := by
  have only : OnlySafety s (endActuation s (judgePair .motion (judgePair .light s))) :=
    (endActuation_onlySafety ..).trans ((judgePair_moves ..).onlySafety.trans (judgePair_moves ..).onlySafety)
  refine (reportPairs_vsafeLow ..).trans ?_
  rw [only]

/-- An output that is on after an evaluation has no demand, and its pair was in run or in a demand. -/
theorem judgePairs_outputOn {s : State} {p : OutPair} (h : outputOn (judgePairs s) p = true) : s.safety.active p = 0 ∧
    s.power.vsafeLow = false ∧ ((s.safety.pair p).state = .run ∨ (s.safety.pair p).state = .demand) := by
  rw [outputOn, Bool.and_eq_true, beq_iff_eq, judgePairs_pair, judgePairs_vsafeLow, Bool.not_eq_true'] at h
  obtain ⟨idle, before⟩ := judgePair_run h.1
  exact ⟨idle, h.2, before⟩

/-- A running pair that is demanded leaves run, its outputs off, and what drives it is latched. -/
theorem judgePairs_demands {s : State} {p : OutPair} (run : (s.safety.pair p).state = .run) (active : s.safety.active p ≠ 0) :
    ((judgePairs s).safety.pair p).state = .demand ∧ outputOn (judgePairs s) p = false ∧
      ((judgePairs s).safety.pair p).latched = s.safety.active p := by
  have demand : ((judgePairs s).safety.pair p).state = .demand := by
    rw [judgePairs_pair, judgePair_demands run active, enterPair_state]
  refine ⟨demand, outputOn_eq_false (by rw [demand]; decide), ?_⟩
  rw [judgePairs_pair, judgePair_demands run active, enterPair_latched]

/-! ## Messages of the network (15 R347, R348) -/

/-- The block with a message that it accepts. -/
def heard (m : List Byte) (s : State) : SafetyState :=
  { s.safety with alive := some (getB m 4), netAt := some (nowNs s), netDemand := bitN (getB m 5) 7 || bitN (getB m 5) 6 }

theorem takeMessage_eq (m : List Byte) (s : State) : takeMessage m s = if messageOk s.safety m then
    judgePairs { s with safety := heard m s } else { s with safety := { s.safety with discarded := inc16 s.safety.discarded } } := rfl

theorem heard_pair (m : List Byte) (s : State) (p : OutPair) : (heard m s).pair p = s.safety.pair p := by cases p <;> rfl

/-- No message turns an output on whose pair did not wait in a demand. -/
theorem takeMessage_turnsNothingOn {m : List Byte} {s : State} {p : OutPair} (waits : (s.safety.pair p).state ≠ .demand)
    (h : outputOn (takeMessage m s) p = true) : outputOn s p = true := by
  rw [takeMessage_eq] at h
  split at h
  case isTrue =>
    obtain ⟨-, supplied, before⟩ := judgePairs_outputOn h
    dsimp only at before supplied
    rw [heard_pair] at before
    rw [outputOn_run (before.resolve_right waits), supplied]; rfl
  case isFalse => cases p <;> exact h

/-- A demand in an accepted message turns the outputs off that the network drives. -/
theorem takeMessage_turnsOff {m : List Byte} {s : State} {p : OutPair} (ok : messageOk s.safety m = true)
    (demand : (bitN (getB m 5) 7 || bitN (getB m 5) 6) = true) (used : s.safety.uses fNet = true)
    (source : s.safety.sources p &&& fNet ≠ 0) : outputOn (takeMessage m s) p = false := by
  rw [takeMessage_eq, if_pos ok]
  refine Bool.eq_false_iff.2 fun on => ?_
  have active : (heard m s).active p &&& 2 ^ 3 ≠ 0 :=
    active_and_ne_zero ((demanding_net _).trans demand) used (by cases p <;> exact source)
  exact ne_zero_of_and_ne_zero active (judgePairs_outputOn on).1

/-- Settles O19: the row acts by its message, and the message by the evaluation of the pairs. -/
theorem safeOffRequestNeverTurnsOn : Obligations.SafeOffRequestNeverTurnsOn := by
  unfold Obligations.SafeOffRequestNeverTurnsOn
  refine ⟨?row, fun _ _ _ => takeMessage_turnsNothingOn, fun _ _ _ => takeMessage_turnsOff⟩
  case row => exact acts_of (fun _ _ => rfl) (fun _ _ _ _ => rfl) rfl fun _ _ _ _ => rfl

end Sys2Proof.Machine
end

section
/-! PROOF. Safety inputs, lockouts and test pulses (15 R331, R335, R336, R338 to R341): what a new level makes of the inputs and of the
pairs, when a row locks, and which inputs a pulse notes. -/

namespace Sys2Proof.Machine

/-! ## A new level (15 R331, R336) -/

theorem inputIndex_lt (i : SafetyInput) : inputIndex i < 13 := by cases i <;> decide

theorem inputIndex_inj {i j : SafetyInput} (h : inputIndex i = inputIndex j) : i = j := by
  cases i <;> cases j <;> first | rfl | cases h

theorem levelled_levels (i : SafetyInput) (on : Bool) (s : State) :
    (levelled i on s).levels = setAt s.safety.levels (inputIndex i) on := by
  cases i
  case srst => cases on <;> rfl
  case sfbLight => unfold levelled; dsimp only; split <;> rfl
  case sfbMotion => unfold levelled; dsimp only; split <;> rfl
  all_goals rfl

theorem levelled_cfg (i : SafetyInput) (on : Bool) (s : State) : (levelled i on s).cfg = s.safety.cfg := by
  cases i
  case srst => cases on <;> rfl
  case sfbLight => unfold levelled; dsimp only; split <;> rfl
  case sfbMotion => unfold levelled; dsimp only; split <;> rfl
  all_goals rfl

/-- The input has its new level, and every other one its own. -/
theorem levelled_on {s : State} (shaped : Shaped s) (i j : SafetyInput) (on : Bool) :
    (levelled i on s).on j = if i = j then on else s.safety.on j := by
  obtain ⟨-, -, -, -, -, -, -, -, -, thirteen⟩ := shaped
  have inside : inputIndex i < s.safety.levels.length := thirteen ▸ inputIndex_lt i
  unfold SafetyState.on
  rw [levelled_levels]
  by_cases same : i = j
  · subst same
    simp [setAt, inside]
  · rw [if_neg same]
    have apart : inputIndex i ≠ inputIndex j := fun eq => same (inputIndex_inj eq)
    simp [setAt, List.getD_eq_getElem?_getD, List.getElem?_set_ne apart]

theorem takeLevel_on {s : State} (shaped : Shaped s) (i j : SafetyInput) (on : Bool) :
    (takeLevel i on s).safety.on j = if i = j then on else s.safety.on j := by
  rw [← levelled_on shaped, takeLevel_eq, SafetyState.on, judgePairs_levels]
  rfl

theorem exec_level {i : SafetyInput} {on : Bool} {s : State} (h : s.safety.on i ≠ on) :
    exec (.safetyInputChange i on) s = .next (takeLevel i on s) :=
  (exec_safetyInputChange i on s).trans (by rw [beq_eq_false_iff_ne.2 h]; rfl)

/-- The bit of a function, and the input with the level at which its channel demands. -/
def channels : List (Nat × SafetyInput × Bool) :=
  [(7, .estopA, false), (7, .estopB, false), (6, .doorNC, false), (6, .doorNO, true), (4, .lcA, false), (4, .lcB, false)]

theorem demanding_of_channel {k : Nat} {i : SafetyInput} {on : Bool} (h : (k, i, on) ∈ channels) {x : SafetyState} (hx : x.on i = on) :
    x.demanding.testBit k = true := by
  simp only [channels, List.mem_cons, Prod.mk.injEq, List.not_mem_nil, or_false] at h
  obtain ⟨rfl, rfl, rfl⟩ | ⟨rfl, rfl, rfl⟩ | ⟨rfl, rfl, rfl⟩ | ⟨rfl, rfl, rfl⟩ | ⟨rfl, rfl, rfl⟩ | ⟨rfl, rfl, rfl⟩ := h
  · rw [demanding_estop, hx]; rfl
  · rw [demanding_estop, hx, Bool.not_false, Bool.or_true]
  · rw [demanding_door, hx]; rfl
  · rw [demanding_door, hx, Bool.or_true]
  · rw [demanding_lc, hx]; rfl
  · rw [demanding_lc, hx, Bool.not_false, Bool.or_true]

/-- A channel that leaves its healthy level drives every running pair of its function out of run. -/
theorem takeLevel_demands {k : Nat} {i : SafetyInput} {on : Bool} {s : State} {p : OutPair} (h : (k, i, on) ∈ channels) (shaped : Shaped s)
    (used : s.safety.uses (2 ^ k) = true) (source : s.safety.sources p &&& 2 ^ k ≠ 0) (run : (s.safety.pair p).state = .run) :
    ((takeLevel i on s).safety.pair p).state = .demand ∧ outputOn (takeLevel i on s) p = false ∧
      ((takeLevel i on s).safety.pair p).latched &&& 2 ^ k ≠ 0 := by
  have demands : (levelled i on s).demanding.testBit k = true :=
    demanding_of_channel h ((levelled_on shaped i i on).trans (if_pos rfl))
  have active : (levelled i on s).active p &&& 2 ^ k ≠ 0 := by
    refine active_and_ne_zero demands ?_ ?_
    · rw [SafetyState.uses, levelled_cfg]; exact used
    · have same : (levelled i on s).sources p = s.safety.sources p := by cases p <;> simp only [SafetyState.sources, levelled_cfg]
      rw [same]; exact source
  rw [takeLevel_eq]
  obtain ⟨demand, off, latched⟩ := judgePairs_demands (s := { s with safety := levelled i on s })
    ((levelled_sameStates i on s p).symm.trans run) (ne_zero_of_and_ne_zero active)
  exact ⟨demand, off, latched ▸ active⟩

/-! ## Lockouts (15 R335, Table 15-7) -/

/-- Both pairs locked, their outputs off, and the cause on record. -/
def LockedBy (cause : Nat) (s t : State) : Prop := t.safety.light.locked ∧ t.safety.motion.locked ∧
  outputOn t .light = false ∧ outputOn t .motion = false ∧ t.safety.cause = if 0x10 ≤ s.safety.cause then s.safety.cause else cause

theorem lockout_locks (cause : Nat) {s s0 : State} (h : s0.safety.cause = s.safety.cause) : LockedBy cause s (lockout cause s0) := by
  obtain ⟨-, -, -, light, motion, stands⟩ := lockout_spec cause s0
  refine ⟨light, motion, outputOn_eq_false light.not_run, outputOn_eq_false motion.not_run, ?_⟩
  rw [stands, h]

/-- A row that locks where a guard holds. -/
theorem effect_of_lockout {i : Instr} {cause : Nat} {s s0 : State} (hi : exec i s = .next (lockout cause s0))
    (h : s0.safety.cause = s.safety.cause) : Effect i s (LockedBy cause s) := effect_of_exec hi (lockout_locks cause h)

theorem channelDisagreement_unused {p : OutPair} {s : State} (h : (s.safety.pair p).state = .unused) :
    NoEffect (.channelDisagreement p) s := by
  rw [NoEffect, exec_channelDisagreement, h]; rfl

theorem channelDisagreement_used {p : OutPair} {s : State} (h : (s.safety.pair p).state ≠ .unused) :
    Effect (.channelDisagreement p) s (LockedBy 0x10 s) :=
  effect_of_lockout ((exec_channelDisagreement p s).trans (by rw [beq_eq_false_iff_ne.2 h]; rfl)) rfl

theorem outputTestPulse_idle {o : SafetyOut} {ok : Bool} {s : State} (h : (s.safety.pair (outPair o)).state ≠ .run ∨ ok = true) :
    NoEffect (.outputTestPulse o ok) s := by
  rw [NoEffect, exec_outputTestPulse]
  obtain h | rfl := h
  · rw [beq_eq_false_iff_ne.2 h]; rfl
  · rw [Bool.not_true, Bool.and_false]; rfl

theorem outputTestPulse_fails {o : SafetyOut} {s : State} (h : (s.safety.pair (outPair o)).state = .run) :
    Effect (.outputTestPulse o false) s (LockedBy 0x12 s) :=
  effect_of_lockout ((exec_outputTestPulse o false s).trans (by rw [h]; rfl)) rfl

section
variable {p : SafetyPair} {s : State}

theorem discrepancyTimeout_none (h : s.safety.discrepancy.find? (·.1 == p) = none) : NoEffect (.discrepancyTimeout p) s := by
  rw [NoEffect, exec_discrepancyTimeout, execDiscrepancyTimeout, h]

/-- The discrepancy noted: the lockout that follows asks for both levels of the pair. -/
def unmended (p : SafetyPair) (s : State) : State :=
  { s with safety := { s.safety with mend := (s.safety.mend.filter fun m => m.1 != p) ++ [(p, false, false)] } }

theorem exec_discrepancyTimeout_some {q : SafetyPair} {at_ : Nat} (h : s.safety.discrepancy.find? (·.1 == p) = some (q, at_)) :
    exec (.discrepancyTimeout p) s = .next (if at_ + s.safety.discrepancyTime p * 1000000 ≤ nowNs s && !mendFresh s p then
      lockout (discrepancyCause p) (unmended p s) else s) := by
  rw [exec_discrepancyTimeout, execDiscrepancyTimeout, h]
  rfl

theorem discrepancyTimeout_early {q : SafetyPair} {at_ : Nat} (h : s.safety.discrepancy.find? (·.1 == p) = some (q, at_))
    (early : nowNs s < at_ + s.safety.discrepancyTime p * 1000000) : NoEffect (.discrepancyTimeout p) s := by
  rw [NoEffect, exec_discrepancyTimeout_some h, decide_eq_false (Nat.not_le.2 early)]; rfl

theorem discrepancyTimeout_locks {q : SafetyPair} {at_ : Nat} (h : s.safety.discrepancy.find? (·.1 == p) = some (q, at_))
    (late : at_ + s.safety.discrepancyTime p * 1000000 ≤ nowNs s) (fresh : ∀ m ∈ s.safety.mend, m.1 ≠ p) :
    Effect (.discrepancyTimeout p) s (LockedBy (discrepancyCause p) s) := by
  have notFresh : mendFresh s p = false := by
    refine List.any_eq_false.2 fun m hm => ?_
    rw [beq_eq_false_iff_ne.2 (fresh m hm)]; exact Bool.false_ne_true
  exact effect_of_lockout (s0 := unmended p s)
    ((exec_discrepancyTimeout_some h).trans (by rw [decide_eq_true late, notFresh]; rfl)) rfl

end

section
variable {p : OutPair} {s : State}

theorem edmTimeout_none (h : (s.safety.pair p).edmSince = none) : NoEffect (.edmTimeout p) s := by
  rw [NoEffect, exec_edmTimeout]
  simp only [execEdmTimeout, h]

/-- The causes of 15 Table 15-7 for a pair whose switch does not follow. -/
def edmCause : OutPair → Nat
  | .light => 0x06
  | .motion => 0x07

/-- The pair with its wait for EDM over. -/
def edmOver (p : OutPair) (s : State) : State :=
  { s with safety := s.safety.setPair p { s.safety.pair p with edmSince := none } }

theorem exec_edmTimeout_some {at_ : Nat} (h : (s.safety.pair p).edmSince = some at_) : exec (.edmTimeout p) s =
    .next (if at_ + s.safety.cfg.edmTime * 1000000 ≤ nowNs s && s.safety.edm p && (s.safety.sfb p == ((s.safety.pair p).state == .run)) then
      lockout (edmCause p) (edmOver p s) else s) := by
  rw [exec_edmTimeout]
  simp only [execEdmTimeout, h]
  cases p <;> rfl

theorem edmTimeout_locks {at_ : Nat} (h : (s.safety.pair p).edmSince = some at_) (late : at_ + s.safety.cfg.edmTime * 1000000 ≤ nowNs s)
    (edm : s.safety.edm p = true) (sfb : s.safety.sfb p = ((s.safety.pair p).state == .run)) :
    Effect (.edmTimeout p) s (LockedBy (edmCause p) s) := by
  refine effect_of_lockout (s0 := edmOver p s) ((exec_edmTimeout_some h).trans ?_) (by cases p <;> rfl)
  rw [decide_eq_true late, edm, sfb, beq_self_eq_true]
  rfl

end

/-! ## Input test pulses (15 R338, R339) -/

/-- The block with the inputs of one source that have failed: the other source's notes stay. -/
def pulsed (fromB : Bool) (bad : List SafetyInput) (s : State) : State :=
  { s with safety := { s.safety with
    pulseFails := (s.safety.pulseFails.filter fun i => fedByB i != some fromB) ++ bad
    pulseFaults := bad.foldl (fun n _ => inc16 n) s.safety.pulseFaults } }

/-- The inputs that a pulse of the source tests, of those that failed. -/
def failedOf (fromB : Bool) (failed : List SafetyInput) (s : State) : List SafetyInput :=
  (allInputs.filter fun i => fedByB i == some fromB && s.safety.on i && inputUsed s.safety i).filter failed.contains

theorem testInputs_eq (fromB : Bool) (failed : List SafetyInput) (s : State) : testInputs fromB failed s =
    if (failedOf fromB failed s).any s.safety.pulseFails.contains then lockout 0x05 (pulsed fromB (failedOf fromB failed s) s)
    else pulsed fromB (failedOf fromB failed s) s := rfl

theorem failedOf_nil (fromB : Bool) (s : State) : failedOf fromB [] s = [] := by simp [failedOf]

/-- Of one input that failed, the pulse notes that one. -/
theorem failedOf_singleton {fromB : Bool} {i : SafetyInput} {s : State} (fed : fedByB i = some fromB) (on : s.safety.on i = true)
    (used : inputUsed s.safety i = true) : failedOf fromB [i] s = [i] := by
  have alone : allInputs.filter [i].contains = [i] := by cases i <;> decide
  unfold failedOf
  rw [List.filter_filter, List.filter_congr (fun _ _ => Bool.and_comm ..), ← List.filter_filter, alone]
  simp [fed, on, used]

/-! ## The statement -/

/-- Settles O49: levels by the evaluation of the pairs, every lockout by `lockout_locks`, pulses by the inputs that they note. -/
theorem safetyDemandAndLockoutRows : Obligations.SafetyDemandAndLockoutRows := by
  unfold Obligations.SafetyDemandAndLockoutRows
  refine ⟨fun i on s => ⟨fun same => ?same, fun differs shaped => ?level, fun f p shaped differs channel used source run => ?demands⟩,
    fun s => ?locks, fun b i s => ?pulses⟩
  case same =>
    rw [NoEffect, exec_safetyInputChange, same, beq_self_eq_true]; rfl
  case level =>
    refine effect_of_exec (exec_level differs) ⟨(takeLevel_on shaped i i on).trans (if_pos rfl), fun j other => ?_⟩
    exact (takeLevel_on shaped i j on).trans (if_neg other.symm)
  case demands =>
    have demanded {k : Nat} (h : (k, i, on) ∈ channels) (hf : f = 2 ^ k) : Effect (.safetyInputChange i on) s fun t =>
        (t.safety.pair p).state = .demand ∧ outputOn t p = false ∧ (t.safety.pair p).latched &&& f ≠ 0 := by
      subst hf
      exact effect_of_exec (exec_level differs) (takeLevel_demands h shaped used source run)
    obtain ⟨estop, rfl | rfl, rfl⟩ | ⟨door, rfl, rfl⟩ | ⟨door, rfl, rfl⟩ | ⟨lc, rfl | rfl, rfl⟩ := channel
    · exact demanded (k := 7) (by decide) estop
    · exact demanded (k := 7) (by decide) estop
    · exact demanded (k := 6) (by decide) door
    · exact demanded (k := 6) (by decide) door
    · exact demanded (k := 4) (by decide) lc
    · exact demanded (k := 4) (by decide) lc
  case locks =>
    exact ⟨effect_of_lockout rfl rfl, effect_of_lockout rfl rfl, fun _ => channelDisagreement_unused, fun _ => channelDisagreement_used,
      fun _ _ => outputTestPulse_idle, fun _ => outputTestPulse_fails, fun _ => discrepancyTimeout_none,
      fun _ _ _ => discrepancyTimeout_early, fun _ _ _ => discrepancyTimeout_locks, fun _ => edmTimeout_none,
      fun p _ at_ late edm sfb => by cases p <;> exact edmTimeout_locks at_ late edm sfb⟩
  case pulses =>
    refine ⟨?none, fun fed on used first => ?first, fun fed on used second => ?second⟩
    case none =>
      refine effect_of_exec (exec_inputTestPulse b [] s) ?_
      rw [testInputs_eq, failedOf_nil, List.any_nil, if_neg Bool.false_ne_true]
      refine ⟨rfl, fun j hj => ?_⟩
      rw [pulsed, List.append_nil] at hj
      exact (List.mem_filter.1 hj).1
    case first =>
      refine effect_of_exec (exec_inputTestPulse b [i] s) ?_
      rw [testInputs_eq, failedOf_singleton fed on used, if_neg (by simpa using first)]
      exact ⟨List.mem_append_right _ (List.mem_singleton_self i), inc16_eq_min .., rfl, rfl⟩
    case second =>
      refine effect_of_exec (exec_inputTestPulse b [i] s) ?_
      rw [testInputs_eq, failedOf_singleton fed on used, if_pos (by simpa using second)]
      obtain ⟨-, -, -, light, motion, -⟩ := lockout_spec 0x05 (pulsed b [i] s)
      exact ⟨light, motion⟩

end Sys2Proof.Machine
end

section
/-! PROOF. Reset presses, a stuck SRST, the network's silence and unconfirmed changes (15 R344, R345, R347, R349, R351), and the state
after reset (15 R346): what a press makes of the pairs that it moves, what a confirmed change installs, and when each timer acts. -/

namespace Sys2Proof.Machine

/-! ## Presses by their length (15 R344) -/

theorem resetPress_outside {ms : Nat} (s : State) (h : ms < 100 ∨ 3000 < ms) : NoEffect (.resetPress ms) s :=
  (exec_resetPress ms s).trans (by rw [if_neg (by simp only [Bool.and_eq_true, decide_eq_true_eq]; omega)])

theorem exec_resetPress_within {ms : Nat} {s : State} (lo : 100 ≤ ms) (hi : ms ≤ 3000) : exec (.resetPress ms) s =
    .next (if s.safety.stuck then { s with safety := pressOver s } else pressReset { s with safety := pressOver s }) :=
  (exec_resetPress ms s).trans (by rw [decide_eq_true lo, decide_eq_true hi]; rfl)

theorem exec_resetPress_stuck {ms : Nat} {s : State} (lo : 100 ≤ ms) (hi : ms ≤ 3000) (stuck : s.safety.stuck = true) :
    exec (.resetPress ms) s = .next { s with safety := pressOver s } :=
  (exec_resetPress_within lo hi).trans (by rw [if_pos stuck])

theorem exec_resetPress_free {ms : Nat} {s : State} (lo : 100 ≤ ms) (hi : ms ≤ 3000) (free : s.safety.stuck = false) :
    exec (.resetPress ms) s = .next (pressReset { s with safety := pressOver s }) :=
  (exec_resetPress_within lo hi).trans (by rw [if_neg (Bool.eq_false_iff.1 free)])

theorem pressReset_of_none {s : State} (h : s.safety.pending = none) : pressReset s = pressPairs s := by
  rw [pressReset, h]

theorem pressReset_of_confirmed {s : State} {c : SafetyChange} (h : s.safety.pending = some c) (ht : nowNs s ≤ c.since + 30000000000) :
    pressReset s = confirmChange c s := by
  rw [pressReset, h]
  exact if_pos ht

theorem pressOver_pair (s : State) (p : OutPair) : (pressOver s).pair p = s.safety.pair p := by cases p <;> rfl

/-! ## The pairs that a press moves (15 R344, R345) -/

theorem mem_waitingPairs {s : State} {p : OutPair} : p ∈ waitingPairs s ↔
    (s.safety.pair p).state = .interlock ∨ (s.safety.pair p).state = .demand ∨ (s.safety.pair p).state = .lockout := by
  simp only [waitingPairs, List.mem_filter, List.contains_iff_mem, List.mem_cons, List.not_mem_nil, or_false]
  cases p <;> simp

/-- Only a waiting pair of a block with a record moves. -/
theorem waiting_of_pressMoves {x : SafetyState} {now : Nat} {p : OutPair} (h : x.pressMoves now p = true) : x.noRecord = false ∧
    ((x.pair p).state = .interlock ∨ (x.pair p).state = .demand ∨ (x.pair p).state = .lockout) := by
  simp only [SafetyState.pressMoves, Bool.and_eq_true, Bool.or_eq_true, beq_iff_eq, Bool.not_eq_true'] at h
  obtain ⟨⟨⟨⟨⟨⟨waits, record⟩, -⟩, -⟩, -⟩, -⟩, -⟩ := h
  exact ⟨record, or_assoc.1 waits⟩

theorem pressPairs_noRecord {s : State} (h : s.safety.noRecord = true) : pressPairs s = s := by
  rw [pressPairs_eq, h, Bool.or_true, if_pos rfl]

theorem pressPairs_refused {s : State} {p : OutPair} (waits : p ∈ waitingPairs s) (record : s.safety.noRecord = false)
    (stays : ∀ q, s.safety.pressMoves (nowNs s) q = false) :
    pressPairs s = { s with safety := { s.safety with refused := inc16 s.safety.refused } } := by
  have still : movingPairs s = [] := List.filter_eq_nil_iff.2 fun q _ => Bool.eq_false_iff.1 (stays q)
  have waiting : (waitingPairs s).isEmpty = false := List.isEmpty_eq_false_iff.2 (List.ne_nil_of_mem waits)
  rw [pressPairs_eq, record, waiting, still]
  rfl

theorem pressPairs_moves {s : State} {p : OutPair} (h : s.safety.pressMoves (nowNs s) p = true) :
    p ∈ movingPairs s ∧ pressPairs s = reportPairs s (endActuation s (pressedState s)) := by
  obtain ⟨record, waits⟩ := waiting_of_pressMoves h
  have waiting : p ∈ waitingPairs s := mem_waitingPairs.2 waits
  have moving : p ∈ movingPairs s := List.mem_filter.2 ⟨waiting, h⟩
  refine ⟨moving, ?_⟩
  rw [pressPairs_eq, record, List.isEmpty_eq_false_iff.2 (List.ne_nil_of_mem waiting), List.isEmpty_eq_false_iff.2 (List.ne_nil_of_mem moving)]
  rfl

/-- No demand of two-hand control holds the pair back. -/
def HandsFree (x : SafetyState) (p : OutPair) : Prop := x.sources p &&& x.demandMask &&& fTwoHand = 0

theorem HandsFree.moved {p q : OutPair} {s t : State} (h : HandsFree s.safety p) (m : Moves q s t) : HandsFree t.safety p := by
  unfold HandsFree
  rw [m.sources, m.demandMask]
  exact h

theorem pressPair_run {p : OutPair} {s : State} (h : HandsFree s.safety p) : ((pressPair p s).safety.pair p).state = .run := by
  unfold HandsFree at h
  rw [pressPair, if_pos h, enterPair_state]

/-- A pair that is pressed without such a demand is in run when all have been. -/
theorem pressEach_run {p : OutPair} (l : List OutPair) (s : State) (h : HandsFree s.safety p)
    (pressed : p ∈ l ∨ (s.safety.pair p).state = .run) : ((l.foldl (fun t q => pressPair q t) s).safety.pair p).state = .run := by
  induction l generalizing s with
  | nil => exact pressed.resolve_left (List.not_mem_nil)
  | cons q l ih =>
    refine ih _ (h.moved (pressPair_moves q s)) ?_
    by_cases same : p = q
    · subst same
      exact .inr (pressPair_run h)
    · obtain inList | run := pressed
      · exact .inl ((List.mem_cons.1 inList).resolve_left same)
      · exact .inr (by rw [(pressPair_moves q s).other same]; exact run)

theorem pressedState_run {s : State} {p : OutPair} (moving : p ∈ movingPairs s) (h : HandsFree s.safety p) :
    ((pressedState s).safety.pair p).state = .run := by
  have run := pressEach_run _ s h (.inl moving)
  unfold pressedState
  dsimp only
  split
  · exact run
  · cases p <;> exact run

/-- A press puts a pair that it moves into run, unless two-hand control demands it; its outputs are on with their supply. -/
theorem pressPairs_run {s : State} {p : OutPair} (moves : s.safety.pressMoves (nowNs s) p = true) (h : HandsFree s.safety p) :
    ((pressPairs s).safety.pair p).state = .run ∧ outputOn (pressPairs s) p = !s.power.vsafeLow := by
  obtain ⟨moving, pressed⟩ := pressPairs_moves moves
  have run : ((pressPairs s).safety.pair p).state = .run := by
    rw [pressed, reportPairs_pair, endActuation_pair]
    exact pressedState_run moving h
  refine ⟨run, (outputOn_run run).trans ?_⟩
  rw [pressed, reportPairs_vsafeLow, (endActuation_onlySafety ..).trans (pressedState_onlySafety s)]

/-! ## A change that a press confirms, or none does (15 R349, R351) -/

theorem ReplyFrame.fuse {s t : State} (h : ReplyFrame s t) : t.fuse = s.fuse := by
  unfold ReplyFrame at h
  rw [h]

/-- Of the block, what follows a confirmed change is the two counts of the report. -/
theorem confirmChange_safety (c : SafetyChange) (s : State) :
    ∃ at_ n, (confirmChange c s).safety = { (confirmed c s).safety with lastChange := at_, demands := n } := by
  obtain ⟨at_, n, reported⟩ := reportPairs_safety s (confirmed c s)
  refine ⟨at_, n, ?_⟩
  rw [confirmChange_eq, (completeOp_votes ..).safety, enqueueFlash_eq]
  exact reported

theorem confirmChange_fuse (c : SafetyChange) (s : State) :
    (confirmChange c s).fuse = { s.fuse with commissioned := s.fuse.commissioned || c.cfg.functions != 0 } := by
  rw [confirmChange_eq, (completeOp_votes ..).fuse, enqueueFlash_eq]
  exact (reportPairs_kept s (confirmed c s)).1

/-- With a new configuration every pair waits. -/
theorem confirmed_waits (c : SafetyChange) (s : State) : (confirmed c s).safety.light.waits ∧ (confirmed c s).safety.motion.waits := by
  have start (used internal : Bool) : Pair.waits
      { state := if !used then .unused else if internal then .lockout else .interlock } := by
    cases used <;> cases internal <;> simp [Pair.waits]
  have h := start (bitN c.cfg.flags 7) (0x10 ≤ s.safety.cause)
  have g := start (bitN c.cfg.flags 6) (0x10 ≤ s.safety.cause)
  simp only [decide_eq_true_eq] at h g
  exact ⟨h, g⟩

theorem answerAbort_longOps (o : LongOp) (s : State) : (answerAbort o s).cmd.longOps = s.cmd.longOps := by
  unfold answerAbort
  split
  · exact answer_longOps ..
  · rfl

/-- A completion without results leaves the records as `finishOp` writes them. -/
theorem completeOp_longOps (src : Source) (tag status : Nat) (s : State) :
    (completeOp src tag status [] s).cmd.longOps = (finishOp src tag status [] s).cmd.longOps := by
  unfold completeOp
  dsimp only
  split
  · exact answerAbort_longOps ..
  · rfl

/-- An operation that completes has ended. -/
theorem completeOp_ended {src : Source} {tag status : Nat} {s : State} {o : LongOp}
    (ho : o ∈ (completeOp src tag status [] s).cmd.longOps) (own : isOp src tag o = true) : opEnded o = true := by
  rw [completeOp_longOps] at ho
  obtain ⟨x, -, rfl⟩ := List.mem_map.1 ho
  by_cases same : isOp src tag x
  · rw [if_pos same]
    dsimp only
    split
    · rfl
    case isFalse ended => rw [opEnded, Bool.eq_false_iff.2 ended, Bool.not_false]
  · rw [if_neg same] at own
    exact absurd own same

/-! ## Timers (15 R344, R347, R349) -/

section
variable {s : State}

theorem srstStuck_idle (h : s.safety.pressSince = none ∨ s.safety.stuck = true) : NoEffect .srstStuck s := by
  rw [NoEffect, exec_srstStuck, execSrstStuck]
  obtain h | h := h
  · rw [h]
  · split
    · rw [h, Bool.not_true, Bool.and_false]; rfl
    · rfl

theorem exec_srstStuck_late {at_ : Nat} (h : s.safety.pressSince = some at_) (free : s.safety.stuck = false)
    (late : at_ + 3000000000 < nowNs s) : exec .srstStuck s =
      .next (raiseAlert 0x0C 0x02 (tileTarget s) 0 0 false { s with safety := { s.safety with stuck := true, pressSince := none } }) := by
  rw [exec_srstStuck, execSrstStuck, h]
  dsimp only
  rw [free, decide_eq_true late]
  rfl

theorem srstStuckClear_idle (h : s.safety.stuck = false ∨ s.safety.on .srst = true ∨ nowNs s < s.safety.offSince + 100000000) :
    NoEffect .srstStuckClear s := by
  refine noEffect_of_guard (exec_srstStuckClear s) ?_
  obtain h | h | h := h
  · rw [h]; rfl
  · rw [h, Bool.not_true, Bool.and_false, Bool.false_and]
  · rw [decide_eq_false (Nat.not_le.2 h), Bool.and_false]

theorem exec_networkSafetyTimeout_some {at_ : Nat} (h : s.safety.netAt = some at_) : exec .networkSafetyTimeout s = .next
    (if s.safety.uses fNet && !s.safety.netDemand && at_ + s.safety.cfg.netTimeout * 1000000 ≤ nowNs s then
      judgePairs { s with safety := { s.safety with netDemand := true } } else s) := by
  rw [exec_networkSafetyTimeout, execNetworkSafetyTimeout, h]

theorem networkSafetyTimeout_idle (h : s.safety.netAt = none ∨ s.safety.uses fNet = false) : NoEffect .networkSafetyTimeout s := by
  rw [NoEffect, exec_networkSafetyTimeout, execNetworkSafetyTimeout]
  obtain h | h := h
  · rw [h]
  · split
    · rw [h]; rfl
    · rfl

/-- The network's silence demands, and drives every running pair of its out of run. -/
theorem silence_demands (used : s.safety.uses fNet = true) {p : OutPair} (run : (s.safety.pair p).state = .run)
    (source : s.safety.sources p &&& fNet ≠ 0) :
    ((judgePairs { s with safety := { s.safety with netDemand := true } }).safety.pair p).state = .demand := by
  have active : ({ s.safety with netDemand := true } : SafetyState).active p &&& 2 ^ 3 ≠ 0 :=
    active_and_ne_zero (demanding_net _) used (by cases p <;> exact source)
  exact (judgePairs_demands (s := { s with safety := { s.safety with netDemand := true } }) (by cases p <;> exact run)
    (ne_zero_of_and_ne_zero active)).1

theorem exec_safetyConfigTimeout_late {c : SafetyChange} (h : s.safety.pending = some c) (late : c.since + 30000000000 ≤ nowNs s) :
    exec .safetyConfigTimeout s = .next (dropChange c s) := by
  rw [exec_safetyConfigTimeout, execSafetyConfigTimeout, h]
  exact congrArg _ (if_pos late)

end

/-! ## The statements -/

/-- Settles O50: presses by their length, by the pairs that they move and by the change that waits; the timers by their guards. -/
theorem safetyPressAndTimerRows : Obligations.SafetyPressAndTimerRows := by
  unfold Obligations.SafetyPressAndTimerRows
  refine ⟨fun ms s => ⟨resetPress_outside s, fun lo hi stuck => effect_of_exec (exec_resetPress_stuck lo hi stuck) rfl, ?refused, ?moves,
    ?noRecord, ?confirms⟩, fun s => ⟨srstStuck_idle, ?stuck, srstStuckClear_idle, ?clear, networkSafetyTimeout_idle, ?silent, ?noChange, ?dropped⟩⟩
  case refused =>
    intro lo hi free none ⟨p, waits⟩ record stays
    refine effect_of_exec (exec_resetPress_free lo hi free) ?_
    have waiting : p ∈ waitingPairs { s with safety := pressOver s } := mem_waitingPairs.2 (by rw [pressOver_pair]; exact waits)
    rw [pressReset_of_none (s := { s with safety := pressOver s }) none, pressPairs_refused waiting record stays, inc16_eq_min]
    rfl
  case moves =>
    intro p lo hi free none moves hands
    refine effect_of_exec (exec_resetPress_free lo hi free) ?_
    rw [pressReset_of_none (s := { s with safety := pressOver s }) none]
    exact pressPairs_run moves hands
  case noRecord =>
    intro lo hi free none record
    refine effect_of_exec (exec_resetPress_free lo hi free) ?_
    rw [pressReset_of_none (s := { s with safety := pressOver s }) none, pressPairs_noRecord (s := { s with safety := pressOver s }) record]
    rfl
  case confirms =>
    intro c lo hi free pending inTime
    refine effect_of_exec (exec_resetPress_free lo hi free) ?_
    rw [pressReset_of_confirmed (s := { s with safety := pressOver s }) pending inTime]
    obtain ⟨at_, n, safety⟩ := confirmChange_safety c { s with safety := pressOver s }
    obtain ⟨light, motion⟩ := confirmed_waits c { s with safety := pressOver s }
    rw [safety]
    exact ⟨rfl, rfl, light, motion, confirmChange_fuse ..⟩
  case stuck =>
    intro at_ since free late
    refine effect_of_exec (exec_srstStuck_late since free late) ?_
    rw [(raiseAlert_frame ..).safety]
    exact ⟨rfl, rfl⟩
  case clear =>
    intro stuck off late
    exact effect_of_guard (exec_srstStuckClear s) (by rw [stuck, off, decide_eq_true late]; rfl) rfl
  case silent =>
    intro at_ since used quiet late
    refine effect_of_guard (exec_networkSafetyTimeout_some since) (by rw [used, quiet, decide_eq_true late]; rfl) ?_
    exact ⟨judgePairs_netDemand _, fun _ => silence_demands used⟩
  case noChange =>
    intro none
    rw [NoEffect, exec_safetyConfigTimeout, execSafetyConfigTimeout, none]
  case dropped =>
    intro c pending late
    exact effect_of_exec (exec_safetyConfigTimeout_late pending late) ⟨dropChange_safety c s, fun _ => completeOp_ended⟩

/-- Settles O6: the state after reset holds its defaults. -/
theorem resetMeetsTheInvariants : Obligations.ResetMeetsTheInvariants := by
  unfold Obligations.ResetMeetsTheInvariants
  refine ⟨⟨rfl, Nat.le_refl _, id⟩, ⟨⟨fun internal => absurd internal (by decide), fun _ => ⟨.inl rfl, .inl rfl⟩⟩, fun p => ?off⟩,
    rfl, rfl, fun r hr => ?rail, rfl, rfl, rfl, rfl, rfl, rfl, rfl, rfl, rfl, rfl, rfl, rfl, rfl, rfl, rfl⟩
  case off => cases p <;> rfl
  case rail => rw [List.eq_of_mem_replicate (n := 4) hr]

end Sys2Proof.Machine
end

section
/-! PROOF. The safety block under resets, sleep states and scan test (15 R346): no part of a reset other than POR, of a change of the power
state, of an idle tick or of a boot touches it. One rule per operation, in the model's order; `simp` composes them. -/

namespace Sys2Proof.Machine

/-! ## A state whose safety block stands -/

/-- The safety block is as it was, and so is the note that a boot follows POR, by which `bootSafety` judges whether to load it. -/
abbrev Still (s t : State) : Prop := t.safety = s.safety ∧ t.power.porBoot = s.power.porBoot

theorem Still.refl (s : State) : Still s s := ⟨rfl, rfl⟩

theorem Still.trans {s t u : State} (h : Still t u) (g : Still s t) : Still s u := ⟨h.1.trans g.1, h.2.trans g.2⟩

theorem ReplyFrame.still {s t : State} (h : ReplyFrame s t) : Still s t := ⟨h.safety, by rw [h.power]⟩

@[simp] theorem ite_safety (c : Prop) [Decidable c] (a b : State) : (if c then a else b).safety = if c then a.safety else b.safety := apply_ite ..

@[simp] theorem ite_porBoot (c : Prop) [Decidable c] (a b : State) :
    (if c then a else b).power.porBoot = if c then a.power.porBoot else b.power.porBoot := apply_ite (fun s : State => s.power.porBoot) ..

/-- What each round of a fold keeps of its accumulator, the fold keeps. -/
theorem foldl_acc_keeps {α β γ : Type} (part : β → γ) {f : β → α → β} (h : ∀ b a, part (f b a) = part b) (l : List α) (b : β) :
    part (l.foldl f b) = part b := by
  induction l generalizing b with
  | nil => rfl
  | cons a l ih => exact (ih _).trans (h b a)

theorem foldl_still {α : Type} {f : State → α → State} (h : ∀ t a, Still t (f t a)) (l : List α) (s : State) : Still s (l.foldl f s) :=
  ⟨foldl_keeps State.safety (fun t a => (h t a).1) l s, foldl_keeps (·.power.porBoot) (fun t a => (h t a).2) l s⟩

section
variable {α β : Type}

@[simp] theorem foldl_safety {f : State → α → State} (h : ∀ t a, (f t a).safety = t.safety) (l : List α) (s : State) :
    (l.foldl f s).safety = s.safety := foldl_keeps State.safety h l s

@[simp] theorem foldl_porBoot {f : State → α → State} (h : ∀ t a, (f t a).power.porBoot = t.power.porBoot) (l : List α) (s : State) :
    (l.foldl f s).power.porBoot = s.power.porBoot := foldl_keeps (·.power.porBoot) h l s

@[simp] theorem foldl_fst_safety {f : State × β → α → State × β} (h : ∀ x a, (f x a).1.safety = x.1.safety) (l : List α) (x : State × β) :
    (l.foldl f x).1.safety = x.1.safety := foldl_acc_keeps (·.1.safety) h l x

@[simp] theorem foldl_fst_porBoot {f : State × β → α → State × β} (h : ∀ x a, (f x a).1.power.porBoot = x.1.power.porBoot) (l : List α)
    (x : State × β) : (l.foldl f x).1.power.porBoot = x.1.power.porBoot := foldl_acc_keeps (·.1.power.porBoot) h l x

@[simp] theorem foldl_snd_safety {f : β × State → α → β × State} (h : ∀ x a, (f x a).2.safety = x.2.safety) (l : List α) (x : β × State) :
    (l.foldl f x).2.safety = x.2.safety := foldl_acc_keeps (·.2.safety) h l x

@[simp] theorem foldl_snd_porBoot {f : β × State → α → β × State} (h : ∀ x a, (f x a).2.power.porBoot = x.2.power.porBoot) (l : List α)
    (x : β × State) : (l.foldl f x).2.power.porBoot = x.2.power.porBoot := foldl_acc_keeps (·.2.power.porBoot) h l x

end

/-! ## Clock, network ports, alerts and replies -/

@[simp] theorem clockTick_still (s : State) : Still s (clockTick s) := ⟨rfl, rfl⟩
@[simp] theorem setNet_still (p : NetPort) (f : PortState → PortState) (s : State) : Still s (setNet p f s) := by
  unfold setNet
  split <;> simp [Still]
@[simp] theorem sendUdp_still (dst dport sport : Nat) (payload : List Byte) (s : State) : Still s (sendUdp dst dport sport payload s) :=
  (sendUdp_frame ..).still
@[simp] theorem sendAlert_still (a : Alert) (s : State) : Still s (sendAlert a s) := (sendAlert_frame ..).still
@[simp] theorem recordAlert_still (a : Alert) (s : State) : Still s (recordAlert a s) := (recordAlert_frame ..).still
@[simp] theorem addAlert_still (a : Alert) (s : State) : Still s (addAlert a s) := (addAlert_frame ..).still
@[simp] theorem settleAlerts_still (s : State) : Still s (settleAlerts s) := by simp [Still, settleAlerts]
@[simp] theorem logAlert_still (cls event : Nat) (target : BitVec 64) (status detail : Nat) (s : State) :
    Still s (logAlert cls event target status detail s) :=
  (logAlert_frame ..).still
@[simp] theorem raiseAlert_still (cls event : Nat) (target : BitVec 64) (status detail : Nat) (faultN : Bool) (s : State) :
    Still s (raiseAlert cls event target status detail faultN s) :=
  (raiseAlert_frame ..).still
@[simp] theorem clearAlert_still (cls event : Nat) (target : BitVec 64) (s : State) : Still s (clearAlert cls event target s) :=
  (clearAlert_frame ..).still
@[simp] theorem clearAlertDetail_still (cls event detail : Nat) (s : State) : Still s (clearAlertDetail cls event detail s) :=
  (clearAlertDetail_frame ..).still
@[simp] theorem clearAlertOf_still (cls event : Nat) (target : BitVec 64) (detail : Nat) (s : State) :
    Still s (clearAlertOf cls event target detail s) :=
  ⟨rfl, rfl⟩
@[simp] theorem deliver_still (src : Source) (tag : Nat) (bytes : List Byte) (s : State) : Still s (deliver src tag bytes s) :=
  (deliver_frame ..).still
@[simp] theorem noReply_still (src : Source) (s : State) : Still s (noReply src s) := ⟨rfl, rfl⟩
@[simp] theorem logBroadcast_still (target : BitVec 64) (status : Nat) (s : State) : Still s (logBroadcast target status s) :=
  (logBroadcast_frame ..).still
@[simp] theorem sendReply_still (code : Nat) (r : Req) (status : Nat) (results : List Byte) (s : State) :
    Still s (sendReply code r status results s) :=
  (sendReply_frame ..).still
@[simp] theorem answer_still (code : Nat) (r : Req) (status : Nat) (results : List Byte) (s : State) :
    Still s (answer code r status results s) :=
  (answer_frame ..).still
@[simp] theorem endImplicit_still (src : Source) (tag : Nat) (s : State) : Still s (endImplicit src tag s) := ⟨rfl, rfl⟩
@[simp] theorem finishOp_still (src : Source) (tag status : Nat) (results : List Byte) (s : State) :
    Still s (finishOp src tag status results s) :=
  ⟨rfl, rfl⟩
@[simp] theorem sendBlocks_still (r : Req) (code : Nat) (results : List Byte) (s : State) : Still s (sendBlocks r code results s) :=
  (sendBlocks_frame ..).still
@[simp] theorem keepResults_still (code : Nat) (r : Req) (status : Nat) (results : List Byte) (s : State) :
    Still s (keepResults code r status results s) :=
  ⟨rfl, rfl⟩
@[simp] theorem answerLarge_still (code : Nat) (r : Req) (status : Nat) (results : List Byte) (s : State) :
    Still s (answerLarge code r status results s) :=
  (answerLarge_frame ..).still
@[simp] theorem nextFree_still (s : State) : Still s (nextFree s) := ⟨rfl, rfl⟩
@[simp] theorem addImplicit_still (r : Req) (d : Domain) (s : State) : Still s (addImplicit r d s) := by simp [Still, addImplicit]
@[simp] theorem dropUnvoted_still (s : State) : Still s (dropUnvoted s) := ⟨rfl, rfl⟩
@[simp] theorem answerAbort_still (o : LongOp) (s : State) : Still s (answerAbort o s) := by
  unfold answerAbort
  split <;> simp [Still]
@[simp] theorem completeOp_still (src : Source) (tag status : Nat) (results : List Byte) (s : State) :
    Still s (completeOp src tag status results s) := by
  unfold completeOp
  split <;> simp [Still]
@[simp] theorem conclude_still (code : Nat) (r : Req) (viaQuery : Bool) (a : Ans) (s : State) : Still s (conclude code r viaQuery a s) := by
  unfold conclude
  split <;> simp [Still]
@[simp] theorem awaitWake_still (o : OpSpec) (r : Req) (s : State) : Still s (awaitWake o r s) := by simp [Still, awaitWake]

/-! ## The chain: enumeration, cells and meridians -/

@[simp] theorem settleLoop_still (l : Nat) (s : State) : Still s (settleLoop l s) := ⟨rfl, rfl⟩
@[simp] theorem setDriving_still (p : Nat) (on : Bool) (s : State) : Still s (setDriving p on s) := ⟨rfl, rfl⟩
@[simp] theorem portSend_still (p : Nat) (f : LaneFrame) (s : State) : Still s (portSend p f s) := by simp [Still, portSend]
@[simp] theorem sendCommand_still (p : Nat) (c : CellCommand) (s : State) : Still s (sendCommand p c s) := by simp [Still, sendCommand]
@[simp] theorem commandTo_still (l c op reg : Nat) (words : List Nat) (s : State) : Still s (commandTo l c op reg words s) := by
  simp [Still, commandTo]
@[simp] theorem addFault_still (target : BitVec 64) (kind detail : Nat) (suppressed double : Bool) (s : State) :
    Still s (addFault target kind detail suppressed double s) := by
  unfold addFault
  split <;> simp [Still]
@[simp] theorem clearFault_still (target : BitVec 64) (kind detail : Nat) (s : State) : Still s (clearFault target kind detail s) := by
  simp [Still, clearFault]
@[simp] theorem refeed_still (l : Nat) (s : State) : Still s (refeed l s) := ⟨rfl, rfl⟩
@[simp] theorem writeCommitted_still (l : Nat) (s : State) : Still s (writeCommitted l s) := by
  refine Still.trans (t := List.foldl _ s _) ⟨rfl, rfl⟩ (foldl_still (fun t c => ?_) ..)
  split <;> simp [Still]
@[simp] theorem judgeCells_still (l : Nat) (s : State) : Still s (judgeCells l s) := by simp [Still, judgeCells]
@[simp] theorem reportReplaced_still (l c : Nat) (s : State) : Still s (reportReplaced l c s) := by simp [Still, reportReplaced]
@[simp] theorem markReplaced_still (l : Nat) (s : State) : Still s (markReplaced l s) := by simp [Still, markReplaced]
@[simp] theorem recordEnumeration_still (l : Nat) (s : State) : Still s (recordEnumeration l s) := by simp [Still, recordEnumeration]
@[simp] theorem noteSerials_still (l : Nat) (s : State) : Still s (noteSerials l s) := ⟨rfl, rfl⟩
@[simp] theorem enumerateLoop_still (l : Nat) (s : State) : Still s (enumerateLoop l s) := by simp [Still, enumerateLoop]
@[simp] theorem enumerateLoops_still (ls : List Nat) (s : State) : Still s (enumerateLoops ls s) := by simp [Still, enumerateLoops]
@[simp] theorem discardCell_still (l c : Nat) (s : State) : Still s (discardCell l c s) := by simp [Still, discardCell]
@[simp] theorem applyCell_still (ps : List Byte) (l c frame : Nat) (s : State) : Still s (applyCell ps l c frame s) := by simp [Still, applyCell]
@[simp] theorem applyRaster_still (w h : Nat) (s : State) : Still s (applyRaster w h s) := by simp [Still, applyRaster]
@[simp] theorem burst_still (l m : Nat) (s : State) : Still s (burst l m s) := by simp [Still, burst]
@[simp] theorem applyMeridian_still (ps : List Byte) (l : Nat) (s : State) : Still s (applyMeridian ps l s) := ⟨rfl, rfl⟩
@[simp] theorem modBlock_still (id : Nat) (f : BlockRec → BlockRec) (s : State) : Still s (modBlock id f s) := ⟨rfl, rfl⟩

/-! ## Rails, memories, the journal and the Almanac -/

@[simp] theorem applyRail_still (ps : List Byte) (k : Nat) (s : State) : Still s (applyRail ps k s) := by
  unfold applyRail
  split <;> simp [Still]
@[simp] theorem applyRailMap_still (ps : List Byte) (s : State) : Still s (applyRailMap ps s) := ⟨rfl, rfl⟩
@[simp] theorem setAmbient_still (ps : List Byte) (s : State) : Still s (setAmbient ps s) := ⟨rfl, rfl⟩
@[simp] theorem dramWrite_still (a : Nat) (bs : List Byte) (s : State) : Still s (dramWrite a bs s) := ⟨rfl, rfl⟩
@[simp] theorem flashErase_still (a n : Nat) (s : State) : Still s (flashErase a n s) := ⟨rfl, rfl⟩
@[simp] theorem advanceHead_still (n : Nat) (avoid : Option Nat) (s : State) : Still s (advanceHead n avoid s) := by simp [Still, advanceHead]
@[simp] theorem putEntry_still (type key : Nat) (data : List Byte) (committed fresh : Bool) (avoid : Option Nat) (s : State) :
    Still s (putEntry type key data committed fresh avoid s) := by
  simp [Still, putEntry]
@[simp] theorem putObject_still (type key : Nat) (data : List Byte) (committed fresh : Bool) (s : State) :
    Still s (putObject type key data committed fresh s) := by
  simp [Still, putObject]
@[simp] theorem beginFlash_still (s : State) : Still s (beginFlash s) := by
  unfold beginFlash
  split
  · exact .refl s
  · split <;> simp [Still]
@[simp] theorem enqueueFlash_still (w : FlashWrite) (s : State) : Still s (enqueueFlash w s) := by simp [Still, enqueueFlash]
@[simp] theorem writeRowChecks_still (k : Nat) (s : State) : Still s (writeRowChecks k s) := by simp [Still, writeRowChecks]
@[simp] theorem buildCell_still (k width : Nat) (rule : Option GainRule) (aging : Nat → List (Int × Int)) (matrices : List Byte) (q : Placed)
    (x : State × Memory) : Still x.1 (buildCell k width rule aging matrices q x).1 := by
  simp [Still, buildCell]
@[simp] theorem buildFull_still (k : Nat) (f : List Byte) (rule : GainRule) (content : Nat) (s : State) :
    Still s (buildFull k f rule content s).1 := by
  simp [Still, buildFull]
@[simp] theorem freeBuf_still (h : Nat) (s : State) : Still s (freeBuf h s) := by
  unfold freeBuf
  split <;> simp [Still]
@[simp] theorem abortFill_still (b : Buffer) (s : State) : Still s (abortFill b s) := by
  unfold abortFill
  split <;> simp [Still]
@[simp] theorem sweepReleased_still (s : State) : Still s (sweepReleased s) := by simp [Still, sweepReleased]
@[simp] theorem validate_still (k : Nat) (s : State) : Still s (validate k s) := ⟨rfl, rfl⟩
@[simp] theorem bringBank_still (k : Nat) (s : State) : Still s (bringBank k s) := by simp [Still, bringBank]
@[simp] theorem clearUncorrectable_still (a n : Nat) (s : State) : Still s (clearUncorrectable a n s) := ⟨rfl, rfl⟩
@[simp] theorem bootBank_still (k : Nat) (s : State) : Still s (bootBank k s) := by simp [Still, bootBank]
@[simp] theorem verifyRow_still (k y : Nat) (x : State × VerifyCount) : Still x.1 (verifyRow k y x).1 := by
  unfold verifyRow
  dsimp only
  split
  · exact .refl _
  · split
    · simp [Still]
    · split <;> simp [Still]
@[simp] theorem verifyBank_still (k : Nat) (s : State) : Still s (verifyBank k s).1 := by
  unfold verifyBank
  split <;> simp [Still]
@[simp] theorem verifyBanks_still (ks : List Nat) (s : State) : Still s (verifyBanks ks s).1 := by simp [Still, verifyBanks]
@[simp] theorem selectBank_still (before : Option Nat) (s : State) : Still s (selectBank before s) := by
  unfold selectBank
  extract_lets s1 want
  split
  · simp [Still, s1]
  · split
    · simp [Still, s1]
    · split <;> simp [Still, s1]
@[simp] theorem countWorn_still (s : State) : Still s (countWorn s) := by simp [Still, countWorn]
@[simp] theorem startRecast_still (op : Option (Source × Nat)) (f : List Byte) (s : State) : Still s (startRecast op f s) := by
  simp [Still, startRecast]

/-! ## Healing, streams, house time, temperature and self-test -/

@[simp] theorem recordLink_still (l b : Nat) (double : Bool) (s : State) : Still s (recordLink l b double s) := by simp [Still, recordLink]
@[simp] theorem markDead_still (l h : Nat) (s : State) : Still s (markDead l h s) := by simp [Still, markDead]
@[simp] theorem doubleFault_still (l b : Nat) (s : State) : Still s (doubleFault l b s) := by simp [Still, doubleFault]
@[simp] theorem beginMove_still (l m : Nat) (gaining : Side) (link : Nat) (s : State) : Still s (beginMove l m gaining link s) := ⟨rfl, rfl⟩
@[simp] theorem failPort_still (p : Nat) (s : State) : Still s (failPort p s) := by simp [Still, failPort]
@[simp] theorem enterFault_still (target : BitVec 64) (kind detail : Nat) (double : Bool) (s : State) :
    Still s (enterFault target kind detail double s) := by
  simp [Still, enterFault]
@[simp] theorem syncLoop_still (s : State) (l : Nat) : Still s (syncLoop s l) := by simp [Still, syncLoop]
@[simp] theorem syncPort_still (s : State) (p : Nat) : Still s (syncPort s p) := by simp [Still, syncPort]
@[simp] theorem syncFaults_still (s : State) : Still s (syncFaults s) := by simp [Still, syncFaults]
@[simp] theorem moveMeridians_still (s : State) : Still s (moveMeridians s) := by simp [Still, moveMeridians]
@[simp] theorem sendReport_still (p : NetPort) (group source : Nat) (join : Bool) (s : State) : Still s (sendReport p group source join s) := by
  simp [Still, sendReport]
@[simp] theorem changeReport_still (p : NetPort) (group source : Nat) (join : Bool) (s : State) :
    Still s (changeReport p group source join s) := by
  simp [Still, changeReport]
@[simp] theorem joinPath_still (h : Nat) (p : NetPort) (x : Path) (s : State) : Still s (joinPath h p x s) := by simp [Still, joinPath]
@[simp] theorem leaveGroups_still (h : Nat) (s : State) : Still s (leaveGroups h s) := by simp [Still, leaveGroups]
@[simp] theorem applyStream_still (ps : List Byte) (s : State) : Still s (applyStream ps s) := by simp [Still, applyStream]
@[simp] theorem dropStream_still (h : Nat) (s : State) : Still s (dropStream h s) := by
  unfold dropStream
  split <;> simp [Still]
@[simp] theorem setServo_still (x : Servo) (s : State) : Still s (setServo x s) := by simp [Still, setServo]
@[simp] theorem enterHoldover_still (s : State) : Still s (enterHoldover s) := by simp [Still, enterHoldover]
@[simp] theorem runBmca_still (s : State) : Still s (runBmca s) := by simp [Still, runBmca]
@[simp] theorem linkDown_still (p : NetPort) (s : State) : Still s (linkDown p s) := by simp [Still, linkDown]
@[simp] theorem setSensor_still (k : Nat) (f : Sensor → Sensor) (s : State) : Still s (setSensor k f s) := ⟨rfl, rfl⟩
@[simp] theorem breakSensor_still (k : Nat) (st : SensorStatus) (s : State) : Still s (breakSensor k st s) := by simp [Still, breakSensor]
@[simp] theorem applyThermal_still (ps : List Byte) (s : State) : Still s (applyThermal ps s) := ⟨rfl, rfl⟩
@[simp] theorem noteReset_still (kind : Nat) (stuck : Bool) (s : State) : Still s (noteReset kind stuck s) := ⟨rfl, rfl⟩
@[simp] theorem startWake_still (code latched : Nat) (s : State) : Still s (startWake code latched s) := ⟨rfl, rfl⟩
@[simp] theorem leaveTwilight_still (s : State) : Still s (leaveTwilight s) := ⟨rfl, rfl⟩
@[simp] theorem wakeBy_still (w : WakeSource) (s : State) : Still s (wakeBy w s) := by
  unfold wakeBy
  split
  · exact .refl s
  · split <;> simp [Still]
@[simp] theorem judgeEssential_still (s : State) : Still s (judgeEssential s) := by simp [Still, judgeEssential]
@[simp] theorem loseInput_still (k : Nat) (s : State) : Still s (loseInput k s) := by simp [Still, loseInput]
@[simp] theorem loseBlock_still (id : Nat) (s : State) : Still s (loseBlock id s) := by
  unfold loseBlock
  split <;> simp [Still]
@[simp] theorem markBlock_still (id : Nat) (s : State) : Still s (markBlock id s) := by simp [Still, markBlock]
@[simp] theorem failSlice_still (id slice : Nat) (s : State) : Still s (failSlice id slice s) := ⟨rfl, rfl⟩
@[simp] theorem applyBist_still (ps : List Byte) (s : State) : Still s (applyBist ps s) := ⟨rfl, rfl⟩
@[simp] theorem bootTest_still (failedBlocks : List (Nat × Nat)) (s : State) : Still s (bootTest failedBlocks s) := by simp [Still, bootTest]

/-! ## Diagnosis, the DRAM and the flash -/

@[simp] theorem quietLoop_still (l : Nat) (s : State) : Still s (quietLoop l s) := by simp [Still, quietLoop]
@[simp] theorem enumFrom_still (r : EnumRun) (s : State) : Still s (enumFrom r s) := by
  unfold enumFrom
  split <;> simp [Still]
@[simp] theorem enumNext_still (r : EnumRun) (s : State) : Still s (enumNext r s) := by
  unfold enumNext
  split <;> simp [Still]
@[simp] theorem enumAdvance_still (s : State) : Still s (enumAdvance s) := by
  unfold enumAdvance
  split <;> simp [Still]
@[simp] theorem startAges_still (from_ : Nat) (s : State) : Still s (startAges from_ s) := by simp [Still, startAges]
@[simp] theorem resetAges_still (s : State) : Still s (resetAges s) := by simp [Still, resetAges]
@[simp] theorem senseRead_still (l c : Nat) (codes : List (Nat × Nat)) (since : Option Nat) (x : Sensed) (s : State) :
    Still s (senseRead l c codes since x s) := by
  simp [Still, senseRead]
@[simp] theorem fireCells_still (l : Nat) (s : State) : Still s (fireCells l s) := ⟨rfl, rfl⟩
@[simp] theorem readDiagMap_still (l c : Nat) (s : State) : Still s (readDiagMap l c s) := by
  unfold readDiagMap
  dsimp only
  split <;> simp [Still]
@[simp] theorem shortBall_still (p i : Nat) (s : State) : Still s (shortBall p i s) := by simp [Still, shortBall]
@[simp] theorem testBalls_still (p : Nat) (s : State) : Still s (testBalls p s) := by
  unfold testBalls
  split
  · split <;> simp [Still]
  · exact .refl s
@[simp] theorem ballRun_still (p : Nat) (s : State) : Still s (ballRun p s) := by simp [Still, ballRun]
@[simp] theorem readRun_still (d : DiagRun) (s : State) : Still s (readRun d s).2 := by
  simp [Still, readRun, apply_ite Prod.snd]
@[simp] theorem diagStep_still (d : DiagRun) (s : State) : Still s (diagStep d s).2 := by
  simp [Still, diagStep, apply_ite Prod.snd]
@[simp] theorem diagAdvance_still (s : State) : Still s (diagAdvance s) := by simp [Still, diagAdvance]
@[simp] theorem scrubDram_still (s : State) : Still s (scrubDram s) := ⟨rfl, rfl⟩
@[simp] theorem scrubAdvance_still (s : State) : Still s (scrubAdvance s) := by simp [Still, scrubAdvance]
@[simp] theorem setIdentity_still (d : List Byte) (s : State) : Still s (setIdentity d s) := ⟨rfl, rfl⟩
@[simp] theorem loadCheckpoint_still (d : List Byte) (s : State) : Still s (loadCheckpoint d s) := ⟨rfl, rfl⟩
@[simp] theorem noCheckpoint_still (s : State) : Still s (noCheckpoint s) := ⟨rfl, rfl⟩
@[simp] theorem queueCheckpoint_still (use : FlashUse) (op : Option (Source × Nat)) (s : State) : Still s (queueCheckpoint use op s) := by
  simp [Still, queueCheckpoint]
@[simp] theorem takeVersion_still (s : State) : Still s (takeVersion s) := ⟨rfl, rfl⟩
@[simp] theorem tearFront_still (s : State) : Still s (tearFront s) := by
  unfold tearFront
  split <;> simp [Still]
@[simp] theorem scanJournal_still (s : State) : Still s (scanJournal s) := by simp [Still, scanJournal]
@[simp] theorem revertImage_still (s : State) : Still s (revertImage s) := by
  unfold revertImage
  split <;> simp [Still]

/-! ## Power states and the record of configuration -/

@[simp] theorem dropDomains_still (s : State) : Still s (dropDomains s) := by simp [Still, dropDomains]
@[simp] theorem castVote_still (src : Source) (action mask : Nat) (s : State) : Still s (castVote src action mask s) := by
  unfold castVote
  split <;> simp [Still]
@[simp] theorem armWakes_still (r : Req) (s : State) : Still s (armWakes r s) := ⟨rfl, rfl⟩
@[simp] theorem queueOrderly_still (s : State) : Still s (queueOrderly s) := by simp [Still, queueOrderly]
@[simp] theorem enterNadir_still (r : Req) (orderly : Bool) (s : State) : Still s (enterNadir r orderly s) := by simp [Still, enterNadir]
@[simp] theorem quietPorts_still (s : State) : Still s (quietPorts s) := ⟨rfl, rfl⟩
@[simp] theorem nextWakeStep_still (s : State) : Still s (nextWakeStep s) := by simp [Still, nextWakeStep]
@[simp] theorem failWakeStep_still (s : State) : Still s (failWakeStep s) := by simp [Still, failWakeStep]
@[simp] theorem rejoinGroups_still (s : State) : Still s (rejoinGroups s) := by
  refine foldl_still (fun t h => ?_) ..
  split <;> simp [Still]
@[simp] theorem setLevel_still (k : Nat) (s : State) : Still s (setLevel k s) := ⟨rfl, rfl⟩
@[simp] theorem finishWake_still (s : State) : Still s (finishWake s) := by simp [Still, finishWake]
@[simp] theorem writePortConfig_still (p : NetPort) (v : Nat) (s : State) : Still s (writePortConfig p v s) := by simp [Still, writePortConfig]
@[simp] theorem discardUnits_still (us : List StagedUnit) (s : State) : Still s (discardUnits us s) := by simp [Still, discardUnits]
@[simp] theorem restoreStream_still (ps : List Byte) (s : State) : Still s (restoreStream ps s) := by simp [Still, restoreStream]
@[simp] theorem applyEntry_still (n : Nat) (e : Nat × Nat × List Byte) (s : State) : Still s (applyEntry n e s) := by
  unfold applyEntry
  split
  · exact .refl s
  · split <;> simp [Still]
@[simp] theorem applyRecord_still (n : Nat) (d : List Byte) (s : State) : Still s (applyRecord n d s) := by simp [Still, applyRecord]

/-! ## Resets and supplies -/

@[simp] theorem coldState_still (dramKept : Bool) (s : State) : Still s (coldState dramKept s) := ⟨rfl, rfl⟩
@[simp] theorem coldReset_still (kind : Nat) (s : State) : Still s (coldReset kind s) := ⟨rfl, rfl⟩
@[simp] theorem loseCommands_still (s : State) : Still s (loseCommands s) := by simp [Still, loseCommands]
@[simp] theorem loseWork_still (s : State) : Still s (loseWork s) := by simp [Still, loseWork]
@[simp] theorem abandonNadir_still (s : State) : Still s (abandonNadir s) := by simp [Still, abandonNadir]
@[simp] theorem stopFirmware_still (at_ : Nat) (s : State) : Still s (stopFirmware at_ s) := ⟨rfl, rfl⟩
@[simp] theorem warmState_still (at_ : Nat) (s : State) : Still s (warmState at_ s) := by simp [Still, warmState]
@[simp] theorem warmReset_still (s : State) : Still s (warmReset s) := by simp [Still, warmReset]
@[simp] theorem reportCrash_still (core : Nat) (s : State) : Still s (reportCrash core s) := by simp [Still, reportCrash]
@[simp] theorem dueReset_still (s : State) : Still s (dueReset s) := by simp [Still, dueReset]
@[simp] theorem upkeep_still (s : State) : Still s (upkeep s) := by simp [Still, upkeep]
@[simp] theorem tick_still (s : State) : Still s (tick s) := by simp [Still, tick]
@[simp] theorem holdReset_still (s : State) : Still s (holdReset s) := ⟨rfl, rfl⟩
@[simp] theorem heedNrst_still (s : State) : Still s (heedNrst s) := by simp [Still, heedNrst]
@[simp] theorem pinReset_still (s : State) : Still s (pinReset s) := by simp [Still, pinReset]
@[simp] theorem startSupplies_still (s : State) : Still s (startSupplies s) := ⟨rfl, rfl⟩
@[simp] theorem enterBor_still (c : BorCause) (s : State) : Still s (enterBor c s) := by simp [Still, enterBor]
@[simp] theorem borOrNot_still (c : BorCause) (s : State) : Still s (borOrNot c s) := by simp [Still, borOrNot]
@[simp] theorem quietDevice_still (s : State) : Still s (quietDevice s) := by simp [Still, quietDevice]

/-! ## Boot and the return of firmware -/

@[simp] theorem trainFlash_still (f : BootFindings) (s : State) : Still s (trainFlash f s) := by simp [Still, trainFlash]
@[simp] theorem bootBalls_still (s : State) : Still s (bootBalls s) := by simp [Still, bootBalls]
@[simp] theorem bootChain_still (s : State) : Still s (bootChain s) := by simp [Still, bootChain]
@[simp] theorem bootConfig_still (s : State) : Still s (bootConfig s) := by
  unfold bootConfig
  split <;> split <;> simp [Still]
@[simp] theorem mergeFaults_still (found : List FaultRec) (s : State) : Still s (mergeFaults found s) := ⟨rfl, rfl⟩
@[simp] theorem bootLedger_still (s : State) : Still s (bootLedger s) := by
  unfold bootLedger
  split <;> simp [Still]
@[simp] theorem bootLog_still (s : State) : Still s (bootLog s) := by simp [Still, bootLog]
@[simp] theorem freeLost_still (s : State) : Still s (freeLost s) := by simp [Still, freeLost]
@[simp] theorem thaw_still (s : State) : Still s (thaw s) := by simp [Still, thaw]
@[simp] theorem recastLost_still (s : State) : Still s (recastLost s) := by
  unfold recastLost
  split <;> simp [Still]
@[simp] theorem resumeFirmware_still (s : State) : Still s (resumeFirmware s) := by simp [Still, resumeFirmware]
@[simp] theorem wakeLog_still (s : State) : Still s (wakeLog s) := by simp [Still, wakeLog]

/-! ## Packets -/

theorem resetSpec_still (r : Req) (s : State) : Still s (resetSpec.run r s).1 := by
  unfold resetSpec
  dsimp only
  split <;> exact ⟨rfl, rfl⟩

theorem powerVoteSpec_still (r : Req) (s : State) : Still s (powerVoteSpec.run r s).1 := castVote_still ..

theorem powerStateSpec_still (r : Req) (s : State) : Still s (powerStateSpec.run r s).1 := by
  unfold powerStateSpec
  dsimp only
  split <;> simp [Still, alreadyThere, apply_ite Prod.fst]

section
variable {o : OpSpec} (run : ∀ r s, Still s (o.run r s).1)
include run

theorem beginLong_still (r : Req) (s : State) : Still s (beginLong o r s) := by
  have ran := (run r (addOp { req := r, code := o.code, state := 0, long := true } s)).trans (addOp_frame ..).still
  unfold beginLong
  dsimp only
  split
  · exact answer_still ..
  · split
    · exact (answer_still ..).trans ((dropOp_frame ..).still.trans ran)
    · exact (answer_still ..).trans ran
    · exact ran

variable (apply : o.apply = false)
include apply

theorem begin_still (r : Req) (viaQuery : Bool) (s : State) : Still s (begin_ o r viaQuery s) := by
  unfold begin_
  rw [apply]
  exact (conclude_still ..).trans (run r s)

omit run in
theorem schedule_still (p : Period) (r : Req) (at_ : Nat) (s : State) : Still s (schedule p o r at_ s) := by
  simp [Still, schedule, apply]

theorem runPacket_still (p : Period) (r : Req) (s : State) : Still s (runPacket p o r s) := by
  unfold runPacket
  split
  · exact .refl s
  · split
    · unfold acceptOp
      split
      · exact schedule_still apply ..
      · split
        · exact awaitWake_still ..
        · split
          · exact beginLong_still run ..
          · exact (begin_still run apply ..).trans (dropOp_frame ..).still
    · exact answer_still ..

theorem packet_keeps_safety {i : Instr} {r : Req} {s : State} (h : packetOf i = some (o, r)) : Effect i s fun t => t.safety = s.safety :=
  effect_of_exec (exec_packet s h) (runPacket_still run apply ..).1

end

/-! ## A boot that follows another reset than POR -/

@[simp] theorem finishBoot_safety (s : State) : (finishBoot s).safety = s.safety := by simp [finishBoot]

theorem bootTrims_eq {s : State} (h : s.power.porBoot = false) : bootTrims s = s := by rw [bootTrims, h]; rfl

theorem bootCal_eq (f : BootFindings) {s : State} (h : s.power.porBoot = false) : bootCal f s = s := by rw [bootCal, h]; rfl

theorem bootSafety_eq {s : State} (h : s.power.porBoot = false) : bootSafety s = s := by rw [bootSafety, h]; rfl

theorem bootFrom_safety (slot : Nat) (f : BootFindings) {s : State} (h : s.power.porBoot = false) : (bootFrom slot f s).safety = s.safety := by
  unfold bootFrom
  extract_lets flash s1 s2 s3 s4
  have still1 : Still s s1 := (trainFlash_still ..).trans ⟨rfl, rfl⟩
  have still2 : Still s s2 := Still.trans (by simp [Still, s2]) still1
  have still3 : Still s s3 := by
    simp only [s3, bootTrims_eq (still2.2.trans h)]
    exact (bootChain_still _).trans ((bootBalls_still _).trans ((bootTest_still ..).trans still2))
  have still4 : Still s s4 := by
    simp only [s4, bootCal_eq f (still3.2.trans h)]
    exact (selectBank_still ..).trans ((bootLedger_still _).trans ((bootConfig_still _).trans still3))
  rw [bootSafety_eq (still4.2.trans h), finishBoot_safety]
  exact ((bootLog_still _).trans ((scanJournal_still _).trans still4)).1

/-! ## The statement -/

/-- Settles O8: every part of these rows and of the idle tick is still; after POR the block is its start state. -/
theorem noResetButPorChangesTheSafetyBlock : Obligations.NoResetButPorChangesTheSafetyBlock := by
  unfold Obligations.NoResetButPorChangesTheSafetyBlock
  refine fun s => ⟨fun i hi => ?rows, fun w => ⟨_, rfl, ?nrst⟩, fun v => ⟨_, rfl, ?bor⟩, fun b h => ⟨_, rfl, ?supply⟩, fun c => ⟨_, rfl, ?watchdog⟩,
    fun w => ⟨_, rfl, (wakeBy_still w s).1⟩, fun r i hi => ?packets, (tick_still s).1, fun f other => ⟨_, rfl, ?boot⟩,
    _, rfl, rfl, rfl, fun p => ?off⟩
  case rows =>
    simp only [List.mem_cons, List.not_mem_nil, or_false] at hi
    obtain rfl | rfl | rfl | rfl | rfl | rfl | rfl | rfl | rfl | rfl | rfl | rfl | rfl := hi
    all_goals exact ⟨_, rfl, by simp⟩
  case nrst => simp
  case bor => simp
  case supply => simp
  case watchdog => simp
  case boot =>
    split
    · split
      · exact bootFrom_safety _ f other
      · rfl
    · rfl
  case packets =>
    simp only [List.mem_cons, List.not_mem_nil, or_false] at hi
    obtain rfl | rfl | rfl | rfl | rfl | rfl := hi
    · exact packet_keeps_safety resetSpec_still rfl rfl
    · exact packet_keeps_safety resetSpec_still rfl rfl
    · exact packet_keeps_safety powerStateSpec_still rfl rfl
    · exact packet_keeps_safety powerStateSpec_still rfl rfl
    · exact packet_keeps_safety powerStateSpec_still rfl rfl
    · exact packet_keeps_safety powerVoteSpec_still rfl rfl
  case off => cases p <;> rfl

end Sys2Proof.Machine
end

section
/-! PROOF. The packets of the power controller (16 R358, R360, R361, R363 to R365, R372): what the run of each row comes to, and the rows as
they act, begin and are refused. -/

namespace Sys2Proof.Machine

/-! ## POWER_VOTE (16 R361) -/

theorem castVote_add {src : Source} {action : Nat} (mask : Nat) (s : State) (h : action = 1) : castVote src action mask s =
    { s with power.votes := setAt s.power.votes (voterOf src) (s.power.votes.getD (voterOf src) 0 ||| mask) } := by
  subst h; rfl

theorem powerVoteSpec_run (r : Req) (s : State) : powerVoteSpec.run r s =
    (castVote r.src (prm r 0 1) (prm r 2 2) s, .done St.ok (u16 (domainMask (castVote r.src (prm r 0 1) (prm r 2 2) s)))) := rfl

theorem powerVoteSpec_run_add {r : Req} (s : State) (h : prm r 0 1 = 1) :
    let voted : State := { s with power.votes := setAt s.power.votes (voterOf r.src) (s.power.votes.getD (voterOf r.src) 0 ||| prm r 2 2) }
    powerVoteSpec.run r s = (voted, .done St.ok (u16 (domainMask voted))) := by
  rw [powerVoteSpec_run, castVote_add (prm r 2 2) s h]

/-! ## POWER_STATE (16 R363 to R365) -/

/-- A POWER_STATE that asks for RUN in RUN completes at once, its wake flags taken (notes/assumptions/55.md). -/
theorem powerStateSpec_run_reached {r : Req} {s : State} (hp : prm r 0 1 = 0) (hm : s.power.mode = .run) :
    powerStateSpec.run r s = (completeOp r.src r.tag St.ok [] (armWakes r s), .accepted) := by
  unfold powerStateSpec
  dsimp only
  rw [hp, hm]; rfl

theorem powerStateSpec_run_leaveTwilight {r : Req} {s : State} (hp : prm r 0 1 = 0) (hm : s.power.mode = .twilight) :
    powerStateSpec.run r s = ({ leaveTwilight (armWakes r s) with power.op := some ⟨r.src, r.tag⟩ }, .accepted) := by
  unfold powerStateSpec
  dsimp only
  rw [hp, hm]; rfl

theorem powerStateSpec_run_enterTwilight {r : Req} {s : State} (hp : prm r 0 1 = 1) (hm : s.power.mode = .run) : powerStateSpec.run r s =
    ({ armWakes r s with power.mode := .enteringTwilight, power.op := some ⟨r.src, r.tag⟩ }, .accepted) := by
  unfold powerStateSpec
  dsimp only
  rw [hp, hm]; rfl

/-- From RUN and from TWILIGHT, NADIR is refused while work is held, and entered otherwise. -/
theorem powerStateSpec_run_nadir {r : Req} {s : State} (hp : prm r 0 1 = 2) (hm : s.power.mode = .run ∨ s.power.mode = .twilight) :
    powerStateSpec.run r s = if workHeld r s then (s, .done St.busy (voteMasks s)) else (enterNadir r false s, .accepted) := by
  unfold powerStateSpec
  dsimp only
  rcases hm with hm | hm <;> rw [hp, hm] <;> rfl

theorem powerStateSpec_run_shutdown {r : Req} {s : State} (hp : prm r 0 1 = 3) (hm : s.power.mode = .run ∨ s.power.mode = .twilight) :
    powerStateSpec.run r s = if workHeld r s then (s, .done St.busy (voteMasks s)) else (enterNadir r true s, .accepted) := by
  unfold powerStateSpec
  dsimp only
  rcases hm with hm | hm <;> rw [hp, hm] <;> rfl

/-- The checkpoint of an orderly shutdown changes the flash alone. -/
theorem queueOrderly_power (s : State) : (queueOrderly s).power = s.power := by
  rw [queueOrderly, queueCheckpoint, enqueueFlash_eq]

theorem enterNadir_power (r : Req) (orderly : Bool) (s : State) : (enterNadir r orderly s).power = { (armWakes r s).power with
    mode := .enteringNadir
    fromTwilight := s.power.mode == .twilight
    latchedWakes := []
    op := some ⟨r.src, r.tag⟩
    shutdown := orderly } := by
  cases orderly with
  | false => rfl
  | true => exact queueOrderly_power _

/-- NADIR is refused with the votes that stand, and the power controller is as it was. -/
theorem powerStateNadir_refused {r : Req} {s : State} (h : Accepted powerStateSpec (withByte r 0 2) s) (hc : longCount s < 16)
    (hp : prm (withByte r 0 2) 0 1 = 2) (hm : s.power.mode = .run ∨ s.power.mode = .twilight)
    (hw : workHeld (withByte r 0 2) (recordedOp powerStateSpec (withByte r 0 2) s) = true) :
    Effect (.powerStateNadir r) s fun t => t = answer 0x0D01 (withByte r 0 2) St.busy (voteMasks (recordedOp powerStateSpec (withByte r 0 2) s))
        (dropOp r.src r.tag (recordedOp powerStateSpec (withByte r 0 2) s)) ∧ t.power = s.power := by
  have run := (powerStateSpec_run_nadir (s := recordedOp powerStateSpec (withByte r 0 2) s) hp hm).trans (if_pos hw)
  unfold recordedOp at run
  refine effect_of_exec (exec_packet s rfl) ?_
  rw [long_of h rfl hc, run]
  exact ⟨rfl, (answer_frame ..).power⟩

/-! ## The statement -/

/-- Settles O20: each row acts, begins or is refused by the run that the lemmas above give it. -/
theorem powerRowsAct : Obligations.PowerRowsAct := by
  unfold Obligations.PowerRowsAct
  refine ⟨⟨?withdraw, ?add, ?takeOver, ?level, ?wakeRecord⟩, ?leaveTwilight, ?reached, ?twilight, ?nadir, ?shutdown, fun r orderly s => ?entry,
    fun r s h hc hp hm hw => powerStateNadir_refused h hc hp hm hw⟩
  case withdraw => exact acts_of (fun _ _ => rfl) (fun _ _ _ _ => rfl) rfl fun _ _ _ _ => powerVoteSpec_run ..
  case add => exact acts_of (fun _ _ => rfl) (fun _ _ _ _ => rfl) rfl fun _ _ _ hc => powerVoteSpec_run_add _ hc
  case takeOver => exact acts_of (fun _ _ => rfl) (fun _ _ _ _ => rfl) rfl fun _ _ _ _ => powerVoteSpec_run ..
  case level => exact acts_of (fun _ _ => rfl) (fun _ _ _ _ => rfl) rfl fun _ _ _ _ => rfl
  case wakeRecord => exact acts_of (fun _ _ => rfl) (fun _ _ _ _ => rfl) rfl fun _ _ _ _ => rfl
  case leaveTwilight =>
    exact begins_of (fun _ _ => rfl) (fun _ _ _ => rfl) fun _ _ _ _ _ ⟨hp, hm⟩ => powerStateSpec_run_leaveTwilight hp hm
  case reached => exact begins_of (fun _ _ => rfl) (fun _ _ _ => rfl) fun _ _ _ _ _ ⟨hp, hm⟩ => powerStateSpec_run_reached hp hm
  case twilight => exact begins_of (fun _ _ => rfl) (fun _ _ _ => rfl) fun _ _ _ _ _ ⟨hp, hm⟩ => powerStateSpec_run_enterTwilight hp hm
  case nadir =>
    exact begins_of (fun _ _ => rfl) (fun _ _ _ => rfl) fun _ _ _ _ _ ⟨hp, hm, hw⟩ =>
      (powerStateSpec_run_nadir hp hm).trans (if_neg (Bool.eq_false_iff.1 hw))
  case shutdown =>
    exact begins_of (fun _ _ => rfl) (fun _ _ _ => rfl) fun _ _ _ _ _ ⟨hp, hm, hw⟩ =>
      (powerStateSpec_run_shutdown hp hm).trans (if_neg (Bool.eq_false_iff.1 hw))
  case entry =>
    rw [enterNadir_power]
    exact ⟨rfl, rfl, rfl, rfl, rfl⟩

end Sys2Proof.Machine
end

section
/-! PROOF. The network, bulk data, house time and the boundary (03; 02 R62 to R68; 18 R404): each row, where its condition holds, is the
function of its own meaning. -/

namespace Sys2Proof.Machine

/-- A row whose condition holds comes to its function. -/
theorem exec_of_guard {i : Instr} {s t : State} {c : Prop} [Decidable c] (hi : exec i s = .next (if c then t else s)) (h : c) :
    exec i s = .next t := hi.trans (congrArg _ (if_pos h))

/-! ## Frames on a port (03 R76 to R80, R88, Table 3-2) -/

section Frames
variable {p : NetPort} {bytes : List Byte} {s : State}

/-- A frame that arrives whole and from another MAC is handled. -/
theorem screened_good (k : Frame → State → State) (hl : bytes.length ≤ 9022) (hc : fcsOk bytes = true)
    (hm : Frame.src ⟨bytes.take (bytes.length - 4)⟩ ≠ s.fuse.mac) : screened p bytes k s = k ⟨bytes.take (bytes.length - 4)⟩ s := by
  rw [screened, if_neg (Nat.not_lt.2 hl), hc]
  exact if_neg hm

theorem takeFrame_consumed (hl : bytes.length ≤ 9022) (hc : fcsOk bytes = true)
    (hm : Frame.src ⟨bytes.take (bytes.length - 4)⟩ ≠ s.fuse.mac) (he : isPtpEvent ⟨bytes.take (bytes.length - 4)⟩ = false)
    (hf : forwards s (otherPort p) ⟨bytes.take (bytes.length - 4)⟩ = false) :
    takeFrame p bytes s = consume p ⟨bytes.take (bytes.length - 4)⟩ s := by
  rw [takeFrame, screened_good _ hl hc hm, he, hf]; rfl

theorem exec_ethernetFrameReceive (h : portUp s p = true) :
    exec (.ethernetFrameReceive p bytes) s = .next (takeFrame p bytes s) := exec_of_guard rfl h

theorem exec_ptpEventMessage (ticks : Nat) (h : portUp s p = true) :
    exec (.ptpEventMessage p bytes ticks) s = .next (screened p bytes (takePtp p bytes ticks) s) := exec_of_guard rfl h

theorem exec_icmpEchoRequest (mac ip : Nat) (body : List Byte) (h : portUp s p = true) :
    exec (.icmpEchoRequest p mac ip (ownIp s) body) s = .next (sendIp p mac ip 1 (echoReply body) s) :=
  (exec_of_guard rfl h).trans (congrArg _ (if_pos rfl))

/-! ## Stream packets (03 R83, R85) -/

theorem exec_st2110Packet {h : Fin 8} {st : Stream} {g : Ingest} (hp : portUp s p = true)
    (hs : s.layers.streams.getD h.val none = some st) (hu : st.usesPort p = true) (hn : st.native = false)
    (hg : readSt2110 st bytes = some g) : exec (.st2110Packet p h bytes false) s = .next (takePacket h g s) := by
  show Host.Outcome.next (takeSt2110 p h bytes false s) = _
  rw [takeSt2110, hs]
  dsimp only
  rw [hp, hu, hn, hg]; rfl

theorem exec_nativePacket {h : Fin 8} {st : Stream} {data : List Byte} (hp : portUp s p = true)
    (hs : s.layers.streams.getD h.val none = some st) (hu : st.usesPort p = true) (hn : st.native = true)
    (hh : nativeHeaderOk st bytes = true) (hl : nativeLengthOk st bytes = true) (hd : nativeData s h st bytes = some data) :
    exec (.nativePacket p h bytes false) s =
      .next (takePacket h ⟨be bytes 8 4, be bytes 12 4, bitN (getB bytes 3) 6, nativePixels st bytes data⟩ s) := by
  show Host.Outcome.next (takeNative p h bytes false s) = _
  rw [takeNative, hs]
  dsimp only
  rw [hp, hu, hn, hh, hl, hd]; rfl

end Frames

/-! ## Links and bulk blocks (03 R75, 18 R404) -/

theorem exec_portLinkChange_down {s : State} (p : NetPort) (h : domainOn s .always = true) (hr : s.power.refinLost = false) :
    exec (.portLinkChange p false) s = .next (linkDown p s) := by
  show execPortLinkChange p false s = _
  rw [execPortLinkChange, h, hr]; rfl

/-- A port that gains its link has it; the alert of its loss is cleared and its return logged. -/
theorem portLinkChange_up {s : State} (p : NetPort) (h : domainOn s .always = true) (hr : s.power.refinLost = false)
    (hl : (getNet s p).link = false) (hm : (getNet s p).mode ≠ 0) (hb : portBlockLost s p = false) :
    ∃ t, exec (.portLinkChange p true) s = .next t ∧ (getNet t p).link = true := by
  have run : exec (.portLinkChange p true) s = .next (logAlert 0x01 0x04 (tileTarget s) 0 (linkDetail p + 1)
      (clearAlertDetail 0x01 0x04 (linkDetail p) (setNet p (fun x => { x with link := true }) s))) := by
    show execPortLinkChange p true s = _
    rw [execPortLinkChange, h, hr, hl, hb, decide_eq_false hm]; rfl
  refine ⟨_, run, ?_⟩
  rw [((logAlert_frame ..).trans (clearAlertDetail_frame ..)).netPorts.getNet, getNet_setNet_same]

theorem exec_bulkBlock {ip : Nat} {payload : List Byte} {s : State} {o : LongOp} {x : BulkIn} (hf : s.fw.running = true)
    (h : domainOn s .always = true) (ho : blockOp ip ⟨payload⟩ s = some o) (hx : o.bulk = some x)
    (hb : (Block.whole ⟨payload⟩ && Block.headerOk ⟨payload⟩ && Block.fits ⟨payload⟩ x.length &&
      Block.authOk ⟨payload⟩ x.key x.extSeq s) = true) :
    exec (.bulkBlock ip payload) s = .next (storeBlock o x ⟨payload⟩ s) := by
  refine (exec_of_guard rfl (by rw [hf, h]; rfl)).trans (congrArg _ ?_)
  rw [receiveBlock, ho]
  dsimp only
  rw [hx]
  exact if_pos hb

/-! ## House time (03 R91, 16 R371) -/

theorem exec_offsetSample {x : PtpTimes} {s : State} {a : Int × Int} (hf : s.fw.running = true) (ha : ownStamps s = some a)
    (hu : syncUsed x = true) :
    exec (.offsetSample x) s = .next (takeOffset x a.1 a.2 { s with time.logDelayReq := some x.logDelayReq }) := by
  show execOffsetSample x s = _
  rw [execOffsetSample, hf, ha, hu]; rfl

theorem exec_telemetrySend {s : State} (hf : s.fw.running = true) (h : domainOn s .always = true) (he : s.cmd.telemetry.enable = true)
    (hd : s.cmd.telemetry.destIp ≠ 0) (hn : s.cmd.telemetry.nextAt ≤ nowNs s) : exec .telemetrySend s = .next (sendTelemetry s) :=
  exec_of_guard rfl (by simp [hf, h, he, hd, hn])

/-! ## The statement -/

/-- Settles O53: each row under its condition is its function; the rows without a condition are theirs at once. -/
theorem networkAndTimeRowsComplete : Obligations.NetworkAndTimeRowsComplete := by
  unfold Obligations.NetworkAndTimeRowsComplete
  refine ⟨fun p bytes s hp => ?traffic, fun p s => ?times⟩
  case traffic =>
    refine ⟨fun hl hc hm he hf => ?frame, fun ticks hl hc hm he => ?event, fun mac ip => exec_of_guard rfl hp,
      fun mac ip body => exec_icmpEchoRequest mac ip body hp, fun version group robustness interval _ => exec_of_guard rfl hp,
      fun group => exec_of_guard rfl hp, exec_of_guard rfl hp, fun h st g hs hu hn hg => exec_st2110Packet hp hs hu hn hg,
      fun h st data hs hu hn hh hl hd => exec_nativePacket hp hs hu hn hh hl hd, fun a hf _ => exec_of_guard rfl (by rw [hf, hp]; rfl)⟩
    case frame => rw [exec_ethernetFrameReceive hp, takeFrame_consumed hl hc hm he hf]
    case event =>
      rw [exec_ptpEventMessage ticks hp, screened_good _ hl hc hm]
      exact congrArg _ (if_pos he)
  case times =>
    refine ⟨fun group => rfl, rfl, fun h => exec_of_guard rfl h, fun h hr => exec_portLinkChange_down p h hr,
      fun h hr hl hm hb => portLinkChange_up p h hr hl hm hb, fun ip payload o x hf h ho hx hb => exec_bulkBlock hf h ho hx hb,
      fun hf => exec_of_guard rfl hf, fun hf => exec_of_guard rfl hf, fun x a hf ha hu => exec_offsetSample hf ha hu,
      fun h => exec_of_guard rfl h, fun h => exec_of_guard rfl h, fun hs hn => exec_of_guard rfl (by simp [hs, hn]),
      fun h => exec_of_guard rfl h, rfl, fun l h => exec_of_guard rfl h, fun l h => exec_of_guard rfl h, fun hf => exec_of_guard rfl hf, rfl,
      fun hf h he hd hn => exec_telemetrySend hf h he hd hn⟩

end Sys2Proof.Machine
end

section
/-! PROOF. What alerts and work on the chain may change (18 R406; 09 R237; 10 R257, R269): a frame for each, closed under composition, which
the statements about wakes and resets cite in place of the operations. -/

namespace Sys2Proof.Machine

/-! ## Alerts (18 R406) -/

/-- What an alert may change: the record, the alerts owed, and the datagram that carries it. -/
def AlertFrame (s t : State) : Prop :=
  t = { s with
    cmd := { s.cmd with alerts := t.cmd.alerts, alertsDropped := t.cmd.alertsDropped, owed := t.cmd.owed }
    net := { s.net with tx := t.net.tx, wire := t.net.wire } }

theorem AlertFrame.refl (s : State) : AlertFrame s s := rfl

theorem AlertFrame.trans {s t u : State} (h : AlertFrame t u) (g : AlertFrame s t) : AlertFrame s u := by
  unfold AlertFrame at *
  rw [h, g]

theorem foldl_alertFrame {α : Type} {f : State → α → State} (h : ∀ t a, AlertFrame t (f t a)) (l : List α) (s : State) :
    AlertFrame s (l.foldl f s) := by
  induction l generalizing s with
  | nil => exact .refl s
  | cons a l ih => exact (ih (f s a)).trans (h s a)

theorem sendUdp_alertFrame (dst dport sport : Nat) (b : List Byte) (s : State) : AlertFrame s (sendUdp dst dport sport b s) := by
  unfold sendUdp
  dsimp only
  split <;> rfl

theorem recordAlert_alertFrame (a : Alert) (s : State) : AlertFrame s (recordAlert a s) := by
  unfold recordAlert sendAlert
  split
  · split
    · rfl
    · exact (sendUdp_alertFrame ..).trans rfl
  · rfl

theorem addAlert_alertFrame (a : Alert) (s : State) : AlertFrame s (addAlert a s) := by
  unfold addAlert
  split
  · exact recordAlert_alertFrame ..
  · rfl

theorem logAlert_alertFrame (c e : Nat) (x : BitVec 64) (st d : Nat) (s : State) : AlertFrame s (logAlert c e x st d s) :=
  addAlert_alertFrame ..

theorem raiseAlert_alertFrame (c e : Nat) (x : BitVec 64) (st d : Nat) (n : Bool) (s : State) :
    AlertFrame s (raiseAlert c e x st d n s) := addAlert_alertFrame ..

/-- The alerts owed are recorded. -/
theorem settleAlerts_alertFrame (s : State) : AlertFrame s (settleAlerts s) :=
  (foldl_alertFrame (fun t a => recordAlert_alertFrame a t) _ _).trans rfl

/-! ## The chain (09, 10) -/

/-- What enumeration and the fault map may change: the chain, the attached cells, whether the tile configuration record is due, and alerts. -/
def ChainFrame (s t : State) : Prop :=
  AlertFrame { s with chain := t.chain, plant := t.plant, flash := { s.flash with recordDue := t.flash.recordDue } } t

theorem ChainFrame.refl (s : State) : ChainFrame s s := rfl

theorem ChainFrame.trans {s t u : State} (h : ChainFrame t u) (g : ChainFrame s t) : ChainFrame s u := by
  unfold ChainFrame AlertFrame at *
  rw [h, g]

theorem AlertFrame.chainFrame {s t : State} (h : AlertFrame s t) : ChainFrame s t := by
  unfold ChainFrame AlertFrame at *
  rw [h]

theorem ChainFrame.power {s t : State} (h : ChainFrame s t) : t.power = s.power := by
  unfold ChainFrame AlertFrame at h
  rw [h]

theorem ChainFrame.fw {s t : State} (h : ChainFrame s t) : t.fw = s.fw := by
  unfold ChainFrame AlertFrame at h
  rw [h]

theorem ChainFrame.host {s t : State} (h : ChainFrame s t) : t.host = s.host := by
  unfold ChainFrame AlertFrame at h
  rw [h]

theorem ChainFrame.time {s t : State} (h : ChainFrame s t) : t.time = s.time := by
  unfold ChainFrame AlertFrame at h
  rw [h]

theorem foldl_chainFrame {α : Type} {f : State → α → State} (h : ∀ t a, ChainFrame t (f t a)) (l : List α) (s : State) :
    ChainFrame s (l.foldl f s) := by
  induction l generalizing s with
  | nil => exact .refl s
  | cons a l ih => exact (ih (f s a)).trans (h s a)

theorem ite_chainFrame {c : Prop} [Decidable c] {s t u : State} (ht : ChainFrame s t) (hu : ChainFrame s u) :
    ChainFrame s (if c then t else u) := by
  split
  · exact ht
  · exact hu

theorem commandTo_chainFrame (l c op reg : Nat) (ws : List Nat) (s : State) : ChainFrame s (commandTo l c op reg ws s) := by
  unfold commandTo sendCommand portSend
  exact ite_chainFrame rfl (ite_chainFrame rfl rfl)

theorem addFault_chainFrame (x : BitVec 64) (k d : Nat) (suppressed double : Bool) (s : State) :
    ChainFrame s (addFault x k d suppressed double s) := by
  unfold addFault
  split
  · exact ite_chainFrame rfl ((raiseAlert_alertFrame ..).chainFrame.trans rfl)
  · exact ite_chainFrame ((raiseAlert_alertFrame ..).chainFrame.trans rfl) ((logAlert_alertFrame ..).chainFrame.trans rfl)

theorem clearFault_chainFrame (x : BitVec 64) (k d : Nat) (s : State) : ChainFrame s (clearFault x k d s) := ite_chainFrame rfl rfl

/-! ### Enumeration (09 R237, R239; 10 R257, R268; 17 R395) -/

theorem judgeCells_chainFrame (l : Nat) (s : State) : ChainFrame s (judgeCells l s) :=
  (foldl_chainFrame (fun _ _ => ite_chainFrame ((logAlert_alertFrame ..).chainFrame.trans (addFault_chainFrame ..))
    (clearFault_chainFrame ..)) _ _).trans rfl

theorem reportReplaced_chainFrame (l c : Nat) (s : State) : ChainFrame s (reportReplaced l c s) :=
  (logAlert_alertFrame ..).chainFrame.trans (foldl_chainFrame (fun _ _ => clearFault_chainFrame ..) _ _)

theorem markReplaced_chainFrame (l : Nat) (s : State) : ChainFrame s (markReplaced l s) :=
  (foldl_chainFrame (fun t c => ite_chainFrame (reportReplaced_chainFrame l c t) (.refl t)) _ _).trans rfl

theorem recordEnumeration_chainFrame (l : Nat) (s : State) : ChainFrame s (recordEnumeration l s) := by
  have cleared : ChainFrame s (s.chain.faults.foldl (fun x f => if f.target == loopTarget s l && (f.kind == 5 || f.kind == 8) then
      clearFault (loopTarget s l) f.kind f.detail x else x) s) :=
    foldl_chainFrame (fun t _ => ite_chainFrame (clearFault_chainFrame ..) (.refl t)) _ _
  refine (foldl_chainFrame (fun _ _ => (raiseAlert_alertFrame ..).chainFrame.trans (addFault_chainFrame ..)) _ _).trans ?_
  have quiet : ChainFrame s (clearAlert 0x07 0x07 (loopTarget s l) (clearAlert 0x07 0x01 (loopTarget s l) (s.chain.faults.foldl (fun x f =>
      if f.target == loopTarget s l && (f.kind == 5 || f.kind == 8) then clearFault (loopTarget s l) f.kind f.detail x else x) s))) :=
    ChainFrame.trans rfl cleared
  have mismatched := ite_chainFrame (c := (getLoop s l).mismatch = true)
    ((raiseAlert_alertFrame 0x07 0x07 (loopTarget s l) 0 0 false _).chainFrame.trans quiet) quiet
  exact ite_chainFrame ((addFault_chainFrame ..).trans mismatched) mismatched

theorem writeCommitted_chainFrame (l : Nat) (s : State) : ChainFrame s (writeCommitted l s) := by
  unfold writeCommitted
  refine ChainFrame.trans rfl (foldl_chainFrame (fun t c => ?_) _ _)
  split
  · exact ite_chainFrame (commandTo_chainFrame ..) (.refl t)
  · exact .refl t

theorem modLoop_chainFrame (l : Nat) (f : LoopState → LoopState) (s : State) : ChainFrame s (modLoop l f s) := rfl

theorem modPlant_chainFrame (l : Nat) (f : PlantLoop → PlantLoop) (s : State) : ChainFrame s (modPlant l f s) := rfl

theorem modPort_chainFrame (p : Nat) (f : ChainPort → ChainPort) (s : State) : ChainFrame s (modPort p f s) := rfl

theorem refeed_chainFrame (l : Nat) (s : State) : ChainFrame s (refeed l s) := rfl

theorem noteSerials_chainFrame (l : Nat) (s : State) : ChainFrame s (noteSerials l s) := rfl

theorem enumerateLoop_chainFrame (l : Nat) (s : State) : ChainFrame s (enumerateLoop l s) := by
  unfold enumerateLoop
  exact (noteSerials_chainFrame ..).trans <| (writeCommitted_chainFrame ..).trans <| (recordEnumeration_chainFrame ..).trans <|
    (markReplaced_chainFrame ..).trans <| (judgeCells_chainFrame ..).trans <| (refeed_chainFrame ..).trans <|
    (modPort_chainFrame ..).trans <| (modPort_chainFrame ..).trans <| (modPlant_chainFrame ..).trans (modLoop_chainFrame ..)

theorem enumerateLoops_chainFrame (ls : List Nat) (s : State) : ChainFrame s (enumerateLoops ls s) :=
  foldl_chainFrame (fun t l => enumerateLoop_chainFrame l t) ls s

/-! ### Records that waited for firmware (10 Table 10-10) -/

theorem enterFault_chainFrame (x : BitVec 64) (k d : Nat) (double : Bool) (s : State) : ChainFrame s (enterFault x k d double s) :=
  ite_chainFrame (.refl s) (addFault_chainFrame ..)

theorem syncFaults_chainFrame (s : State) : ChainFrame s (syncFaults s) := by
  have loop (t : State) (l : Nat) : ChainFrame t (syncLoop t l) :=
    (foldl_chainFrame (fun u _ => ite_chainFrame (enterFault_chainFrame ..) (.refl u)) _ _).trans
      (foldl_chainFrame (fun _ _ => enterFault_chainFrame ..) _ _)
  have port (t : State) (p : Nat) : ChainFrame t (syncPort t p) := ite_chainFrame (enterFault_chainFrame ..) (.refl t)
  exact (foldl_chainFrame port _ _).trans (foldl_chainFrame loop _ _)

end Sys2Proof.Machine
end

section
/-! PROOF. Power levels, the wake of a domain, wake events and the wake sequence (16 R355 to R361, R366 to R370): each operation by the cases
of its definition. -/

namespace Sys2Proof.Machine

/-! ## Levels (16 R356, R358) -/

section Levels
variable {s : State}

theorem changeLevel_up (h : targetLevel s < s.power.level.val) : changeLevel s = setLevel (targetLevel s) s := if_pos h

theorem changeLevel_forced (h : s.power.level.val ≤ targetLevel s) (hl : s.power.level.val < limitLevel s) :
    changeLevel s = setLevel (limitLevel s) s := (if_neg (Nat.not_lt.2 h)).trans (if_pos hl)

theorem demandLowerDue_since {at_ : Nat} (h : s.power.slowSince = some at_) : demandLowerDue s =
    (levelsRun s && decide (s.power.level.val < targetLevel s) && decide (at_ + 1000000000 ≤ nowNs s)) := by
  rw [demandLowerDue, h]

/-- While the sequencer is off, no demand lowers the level. -/
theorem demandLowerDue_off (h : levelsRun s = false) : demandLowerDue s = false := by
  cases hs : s.power.slowSince with
  | none => rw [demandLowerDue, hs]
  | some at_ => rw [demandLowerDue_since hs, h]; rfl

end Levels

/-! ## Votes and domains (16 R359 to R361, Table 16-7) -/

/-- Domains drop out of those that are awake, and the DRAM may go into self-refresh with MEM. -/
theorem dropDomains_eq (s : State) : dropDomains s =
    { s with power.awake := (dropDomains s).power.awake, dram.selfRefresh := (dropDomains s).dram.selfRefresh } := by
  unfold dropDomains
  split <;> rfl

theorem awake_of_dropDomains {s : State} {d : Domain} (h : d ∈ (dropDomains s).power.awake) : d ∈ s.power.awake := by
  unfold dropDomains at h
  split at h
  · exact (List.mem_filter.1 h).1
  · exact h

/-- With no request waiting, the wake of a domain is the domain's alone. -/
theorem wakeDomain_idle (d : Domain) {s : State} (h : s.cmd.waiting = []) : wakeDomain d s =
    { s with power.awake := s.power.awake ++ [d], dram.selfRefresh := s.dram.selfRefresh && d != .mem } := by
  unfold wakeDomain runAllWoken
  dsimp only
  rw [h]
  exact ite_self _

/-- In TWILIGHT a domain of the grade that is awake is on. -/
theorem domainOn_twilight {s : State} {d : Domain} (hm : s.power.mode = .twilight) (ha : domainAbsent s d = false) :
    domainOn s d = (d == .always || s.power.awake.contains d) := by
  unfold domainOn
  rw [ha, hm]; rfl

/-! ## Wake events (16 R366, R367, R369) -/

section WakeEvents
variable {w : WakeSource} {s : State}

theorem wakeBy_disabled (h : wakeEnabled s w = false) : wakeBy w s = s := by
  unfold wakeBy
  rw [h]; rfl

variable (h : wakeEnabled s w = true)
include h

theorem wakeBy_nadir (hm : s.power.mode = .nadir) : wakeBy w s = startWake (wakeCode w) 0 s := by
  unfold wakeBy
  rw [h, hm]; rfl

theorem wakeBy_enteringNadir (hm : s.power.mode = .enteringNadir) :
    wakeBy w s = { s with power.latchedWakes := s.power.latchedWakes ++ [wakeCode w] } := by
  unfold wakeBy
  rw [h, hm]; rfl

theorem wakeBy_waking (hm : s.power.mode = .waking ∨ s.power.mode = .wakeFailed) :
    wakeBy w s = { s with power.record := { s.power.record with latched := inc16 s.power.record.latched } } := by
  unfold wakeBy
  rcases hm with hm | hm <;> rw [h, hm] <;> rfl

theorem wakeBy_twilight (hm : s.power.mode = .twilight) :
    (wakeBy w s).power.mode = if w = .wakeN ∨ w = .rtcAlarm then .leavingTwilight else .twilight := by
  unfold wakeBy
  rw [h, hm]
  cases w with
  | wakeN | rtcAlarm => rfl
  | hostPort | portA | safety => exact hm

theorem wakeBy_run (hm : s.power.mode = .run) : wakeBy w s = s := by
  unfold wakeBy
  rw [h, hm]; rfl

end WakeEvents

/-! ## The wake sequence (16 R368, R369) -/

section WakeSteps
variable {s : State}

theorem wakePauseOver_none (h : s.power.wakePause = none) : wakePauseOver s = false := by
  rw [wakePauseOver, h]

theorem wakePauseOver_awake (h : s.power.mode ≠ .waking) : wakePauseOver s = false := by
  cases hp : s.power.wakePause with
  | none => exact wakePauseOver_none hp
  | some at_ => simp [wakePauseOver, hp, h]

/-- The retry from step 1. -/
theorem nextWakeStep_retry {at_ : Nat} (hm : s.power.mode = .waking) (hp : s.power.wakePause = some at_) (ht : at_ + 1000000 ≤ nowNs s) :
    nextWakeStep s = { s with
      power.wakePause := none, power.wakeAttempt := 2, power.wakeStep := 1, power.wakeStepAt := nowNs s
      power.record := { s.power.record with attempts := 2 } } :=
  if_pos (by simp [wakePauseOver, hm, hp, ht])

/-- No step is ready outside a wake, nor while the PLLs of step 3 lack a REFIN. -/
theorem nextWakeStep_idle (hp : wakePauseOver s = false) (hd : wakeStepDone s = false) : nextWakeStep s = s :=
  (if_neg (Bool.eq_false_iff.1 hp)).trans (if_neg (Bool.eq_false_iff.1 hd))

theorem nextWakeStep_done (hp : wakePauseOver s = false) (hd : wakeStepDone s = true) : nextWakeStep s = { s with
    power.wakeStep := s.power.wakeStep + 1, power.wakeStepAt := nowNs s
    dram.selfRefresh := s.dram.selfRefresh && s.power.wakeStep != 5 } :=
  (if_neg (Bool.eq_false_iff.1 hp)).trans (if_pos hd)

theorem wakeStepDone_awake (h : s.power.mode ≠ .waking) : wakeStepDone s = false := by simp [wakeStepDone, h]

theorem wakeStepLate_awake (h : s.power.mode ≠ .waking) : wakeStepLate s = false := by simp [wakeStepLate, h]

/-- A step whose delay has passed is done, the third one only with a valid REFIN (notes/assumptions/55.md). -/
theorem wakeStepDone_of_delay (hm : s.power.mode = .waking) (hp : s.power.wakePause = none) (h1 : 1 ≤ s.power.wakeStep)
    (h6 : s.power.wakeStep ≤ 6) (ht : s.power.wakeStepAt + wakeDelay s.power.wakeStep ≤ nowNs s) :
    wakeStepDone s = !(s.power.wakeStep == 3 && s.power.refinLost) := by
  simp [wakeStepDone, hm, hp, h1, h6, ht]

theorem wakeStepLate_of_limit (hm : s.power.mode = .waking) (hp : s.power.wakePause = none) (h1 : 1 ≤ s.power.wakeStep)
    (ht : s.power.wakeStepAt + wakeLimit s.power.wakeStep ≤ nowNs s) : wakeStepLate s = true := by
  simp [wakeStepLate, hm, hp, h1, ht]

theorem failWakeStep_first (h : s.power.wakeAttempt = 1) : failWakeStep s = { s with
    power.wakePause := some (nowNs s), power.wakeStep := 0, dram.selfRefresh := true
    power.record := { s.power.record with firstStep := s.power.wakeStep } } := if_pos h

/-- The second failed attempt leaves a record of WAKE_FAIL, and FAULT_N stays low. -/
theorem failWakeStep_second (h : s.power.wakeAttempt ≠ 1) :
    (failWakeStep s).power = { s.power with
      mode := .wakeFailed
      wakeStep := 0
      record := { s.power.record with status := St.wakeFail, finalStep := s.power.wakeStep, duration := 0xFFFFFFFF } } ∧
    .wakeFailed ∈ (failWakeStep s).faults := by
  rw [failWakeStep, if_neg h]
  refine ⟨(raiseAlert_frame ..).power, ?_⟩
  rw [(raiseAlert_frame ..).faults]
  exact mem_assertFault ..

end WakeSteps

/-! ## The handshake of step 7 (16 R370) -/

/-- What house time may change, alerts included. -/
def TimeFrame (s t : State) : Prop := AlertFrame { s with time := t.time } t

theorem TimeFrame.trans {s t u : State} (h : TimeFrame t u) (g : TimeFrame s t) : TimeFrame s u := by
  unfold TimeFrame AlertFrame at *
  rw [h, g]

theorem AlertFrame.timeFrame {s t : State} (h : AlertFrame s t) : TimeFrame s t := by
  unfold TimeFrame AlertFrame at *
  rw [h]

theorem setServo_timeFrame (x : Servo) (s : State) : TimeFrame s (setServo x s) := by
  unfold setServo
  split
  · rfl
  · dsimp only
    have left : TimeFrame s (if (s.time.servo == .holdover) = true then clearAlertDetail 0x01 0x01 (servoCode .holdover)
        (clearAlert 0x01 0x02 (tileTarget s) { s with time.holdoverSince := none, time.holdoverAlerted := false }) else s) := by
      split <;> rfl
    split
    · refine (raiseAlert_alertFrame ..).timeFrame.trans (TimeFrame.trans ?_ left)
      rfl
    · refine (logAlert_alertFrame ..).timeFrame.trans (TimeFrame.trans ?_ left)
      rfl

theorem setServo_servo (x : Servo) (s : State) : (setServo x s).time.servo = x := by
  unfold setServo
  split
  · exact eq_of_beq ‹_›
  · dsimp only
    split
    · rw [(raiseAlert_alertFrame ..).chainFrame.time]
    · rw [(logAlert_alertFrame ..).chainFrame.time]

/-- Joining groups again changes the network alone. -/
theorem joinPath_net (h : Nat) (p : NetPort) (x : Path) (s : State) : joinPath h p x s = { s with net := (joinPath h p x s).net } := by
  unfold joinPath changeReport sendReport
  split
  · split <;> rfl
  · rfl

theorem rejoinGroups_keeps {β : Type} (part : State → β) (h : ∀ s n, part { s with net := n } = part s) (s : State) :
    part (rejoinGroups s) = part s := by
  refine foldl_keeps part (fun t k => ?_) _ s
  split
  · rw [joinPath_net, h, joinPath_net, h]
  · rfl

/-- What a wake takes up again: house time, the groups and the chain. -/
def takeUp (s : State) : State :=
  let t := rejoinGroups (setServo .acquiring s)
  enumerateLoops (List.range (gradeLoops t)) t

/-- The power controller, firmware and the host port are not among it, and the servo acquires. -/
theorem takeUp_facts (s : State) : (takeUp s).power = s.power ∧ (takeUp s).fw = s.fw ∧ (takeUp s).host = s.host ∧
    (takeUp s).time.servo = .acquiring := by
  have chain : ChainFrame (rejoinGroups (setServo .acquiring s)) (takeUp s) := enumerateLoops_chainFrame ..
  have timed := (setServo_timeFrame .acquiring s).chainFrame
  refine ⟨?_, ?_, ?_, ?_⟩
  · rw [chain.power, rejoinGroups_keeps State.power fun _ _ => rfl, timed.power]
  · rw [chain.fw, rejoinGroups_keeps State.fw fun _ _ => rfl, timed.fw]
  · rw [chain.host, rejoinGroups_keeps State.host fun _ _ => rfl, timed.host]
  · rw [chain.time, rejoinGroups_keeps State.time fun _ _ => rfl, setServo_servo]

/-- The wake ends in RUN with firmware and WAKE; the rest is taken up, and the level set. -/
theorem finishWake_eq (s : State) : ∃ u k x, finishWake s = logAlert 0x0D 0x01 x 0 0 (setLevel k (takeUp u)) ∧
    u.power = { s.power with
      mode := .run, wakeStep := 0, fromTwilight := false, shutdown := false
      record := { s.power.record with status := 0, duration := (nowNs s - s.power.wakeStart) / 1000 } } ∧
    u.fw.running = true ∧ u.host.wake = true := ⟨_, _, _, rfl, rfl, rfl, rfl⟩

theorem finishWake_facts (s : State) : (finishWake s).power.mode = .run ∧ (finishWake s).power.crystalChanged = s.power.crystalChanged ∧
    (finishWake s).power.record.duration = (nowNs s - s.power.wakeStart) / 1000 ∧ (finishWake s).fw.running = true ∧
    (finishWake s).host.wake = true ∧ (finishWake s).time.servo = .acquiring := by
  obtain ⟨u, k, x, he, hp, hf, hh⟩ := finishWake_eq s
  obtain ⟨hp', hf', hh', ht'⟩ := takeUp_facts u
  have logged := (logAlert_alertFrame 0x0D 0x01 x 0 0 (setLevel k (takeUp u))).chainFrame
  rw [he, logged.power, logged.fw, logged.host, logged.time, setLevel_fw, setLevel_host, setLevel_time, setLevel, hp', hf', hh', hp]
  exact ⟨rfl, rfl, rfl, hf, hh, ht'⟩

/-! ## The statement -/

/-- Settles O35: every operation by its cases above; the level changes in one step, and the PLLs of step 3 wait for REFIN
(notes/assumptions/55.md). -/
theorem levelsDomainsAndWakeRows : Obligations.LevelsDomainsAndWakeRows := by
  unfold Obligations.LevelsDomainsAndWakeRows
  refine ⟨fun s => ⟨fun h => ?off, fun h ht => ?up, fun h ht hl => ?down, fun at_ h hs ha ht => ?lower, fun at_ hs ha => ?early⟩,
    fun s => ⟨fun h => ?stand, fun h => ?withdrawn, fun d h => ?notWoken, fun d hm hv ha ho hw => ?woken⟩,
    fun w s => ⟨fun h => ?disabled, fun h => ⟨fun hm => ?nadir, fun hm => ?latched, fun hm => ?counted, fun hm => ?twilight, fun hm => ?run⟩⟩,
    fun s => ⟨fun hm hp h1 h6 ht => ⟨fun h => ?done, fun h3 hr => ?noRefin⟩, fun hm => ?awake, fun at_ hm hp ht => ?retry,
      fun hm hp h1 ht => ⟨fun ha => ?first, fun ha => ?second⟩, fun hm hw hp hc => ?handshake⟩⟩
  case off => exact ⟨noEffect_of_guard rfl h, noEffect_of_guard rfl (demandLowerDue_off h)⟩
  case up => exact effect_of_guard rfl h (changeLevel_up ht)
  case down => exact effect_of_guard rfl h (changeLevel_forced ht hl)
  case lower => exact effect_of_guard rfl (by simp [demandLowerDue_since hs, h, ha, ht]) rfl
  case early => exact noEffect_of_guard rfl (by simp [demandLowerDue_since hs, ha])
  case stand => exact noEffect_of_guard rfl (by simpa using h)
  case withdrawn =>
    refine effect_of_guard rfl (by simpa using h) ⟨?_, ?_, fun d hd => (awake_of_dropDomains hd :)⟩
    · rw [dropDomains_eq]
    · rw [dropDomains_eq]
  case notWoken => exact noEffect_of_guard rfl (by rcases h with h | h | h | h <;> simp [h])
  case woken =>
    refine effect_of_guard rfl (by simp [hm, hv, ha, ho]) ?_
    rw [wakeDomain_idle d hw]
    refine ⟨rfl, ?_, fun hd => by simp [hd]⟩
    rw [domainOn_twilight (by exact hm) (by exact ha)]
    simp
  case disabled => exact congrArg Host.Outcome.next (wakeBy_disabled h)
  case nadir =>
    refine effect_of_exec (congrArg Host.Outcome.next (wakeBy_nadir h hm)) ?_
    exact ⟨rfl, rfl, rfl, rfl, rfl, rfl⟩
  case latched => exact effect_of_exec rfl (wakeBy_enteringNadir h hm)
  case counted =>
    refine effect_of_exec (congrArg Host.Outcome.next (wakeBy_waking h hm)) ?_
    exact ⟨inc16_eq_min _, rfl, rfl⟩
  case twilight => exact effect_of_exec rfl (wakeBy_twilight h hm)
  case run => exact congrArg Host.Outcome.next (wakeBy_run h hm)
  case done =>
    have ready : wakeStepDone s = true := by
      rw [wakeStepDone_of_delay hm hp h1 h6 ht]
      cases hr : s.power.refinLost with
      | false => rw [Bool.and_false]; rfl
      | true => rw [beq_false_of_ne fun h3 => h ⟨h3, hr⟩]; rfl
    refine effect_of_exec (congrArg Host.Outcome.next (nextWakeStep_done (wakePauseOver_none hp) ready)) ?_
    exact ⟨rfl, hm, fun h5 => by simp [h5], rfl⟩
  case noRefin =>
    refine congrArg Host.Outcome.next (nextWakeStep_idle (wakePauseOver_none hp) ?_)
    rw [wakeStepDone_of_delay hm hp h1 h6 ht, h3, hr]; rfl
  case awake => exact ⟨congrArg Host.Outcome.next (nextWakeStep_idle (wakePauseOver_awake hm) (wakeStepDone_awake hm)),
    noEffect_of_guard rfl (wakeStepLate_awake hm)⟩
  case retry =>
    refine effect_of_exec (congrArg Host.Outcome.next (nextWakeStep_retry hm hp ht)) ?_
    exact ⟨rfl, rfl, rfl, rfl⟩
  case first =>
    refine effect_of_guard rfl (wakeStepLate_of_limit hm hp h1 ht) ?_
    rw [failWakeStep_first ha]
    exact ⟨hm, rfl, rfl, rfl⟩
  case second =>
    obtain ⟨hpow, hf⟩ := failWakeStep_second ha
    refine effect_of_guard rfl (wakeStepLate_of_limit hm hp h1 ht) ?_
    rw [hpow]
    exact ⟨rfl, hf, rfl, rfl⟩
  case handshake =>
    obtain ⟨hmode, hcrystal, hdur, hfw, hhost, hservo⟩ := finishWake_facts s
    refine effect_of_exec (t := finishWake s) ?_ ⟨hmode, hfw, hhost, hservo, hdur⟩
    have silent : wakeLog (finishWake s) = finishWake s := if_neg (by rw [hcrystal, hc]; exact Bool.false_ne_true)
    exact congrArg Host.Outcome.next ((if_pos (by simp [hm, hw, hp])).trans silent)

end Sys2Proof.Machine
end

section
/-! PROOF. The resets, the loss of firmware and the restore handshake (16 R373, R374, R376, Tables 16-14 to 16-16; 01 R30, R31; 02 R73;
13 R317, R318; 17 R392): what each reset keeps and loses. -/

namespace Sys2Proof.Machine

/-! ## PIN and COLD resets (16 R374, R376) -/

/-- What holds after a PIN or COLD reset of any kind. -/
theorem coldReset_facts (kind : Nat) (s : State) : ColdFacts s (coldReset kind s) := by
  refine ⟨rfl, rfl, rfl, rfl, rfl, rfl, rfl, rfl, rfl, rfl, rfl, fun q hq => ?_, List.mem_cons_self, rfl, rfl⟩
  obtain ⟨p, -, rfl⟩ := List.mem_map.1 hq
  rfl

theorem pinReset_counted {s : State} (hi : s.power.nrstIgnored = false) (hs : supplied s = true) (hb : s.power.mode ≠ .heldInBor)
    (hr : s.power.mode ≠ .heldInReset) :
    pinReset s = holdReset (coldReset 3 { s with power.nrstLowSince := some (nowNs s) }) := by
  have heeded : heedNrst s = s := if_neg (by simp [hi])
  unfold pinReset
  rw [heeded]
  exact if_neg (by simp [hi, hs, hb, hr])

theorem nrstStuckDue_held {s : State} {at_ : Nat} (h : s.power.nrstLowSince = some at_) (hm : s.power.mode = .heldInReset)
    (ht : at_ + 8000000000 ≤ nowNs s) : nrstStuckDue s = true := by
  simp [nrstStuckDue, h, hm, ht]

theorem markStuck_head {l : List ResetEntry} {e : ResetEntry} (h : l.head? = some e) : (markStuck l).head? = some { e with stuck := true } := by
  cases l with
  | nil => exact nomatch h
  | cons x l => rw [Option.some.inj h.symm]; rfl

/-! ## Scan test (13 R317) -/

/-- A device that goes quiet has both links down. -/
theorem quietDevice_link (p : NetPort) (s : State) : (getNet (quietDevice s) p).link = false := by
  unfold quietDevice
  rw [(linkDown_netPorts ..).getNet]
  cases p with
  | A =>
    rw [getNet_setNet_other _ _ (by decide), (linkDown_netPorts ..).getNet, getNet_setNet_same]
  | B => rw [getNet_setNet_same]

/-! ## What a WARM or WDT reset keeps (01 R30, 02 R73, Table 16-15) -/

/-- The committed configuration, the Ephemeris, the rails, the reset history, the active slot and the probation: what a WARM or WDT reset
keeps (the Ephemeris by notes/assumptions/56.md). -/
def warmPart (s : State) :=
  (s.cmd.ephemeris, s.cmd.policy, s.layers.layer, s.layers.streams, s.pres, s.ledger, s.power.history, s.flash.active, s.fw.probation)

/-- The operations and replies of the command state: what such a reset loses. -/
def workPart (s : State) := (s.cmd.longOps, s.cmd.held, s.cmd.committing, s.cmd.sources)

theorem ChainFrame.warmPart {s t : State} (h : ChainFrame s t) : warmPart t = warmPart s := by
  unfold ChainFrame AlertFrame at h
  rw [h]; rfl

theorem ChainFrame.workPart {s t : State} (h : ChainFrame s t) : workPart t = workPart s := by
  unfold ChainFrame AlertFrame at h
  rw [h]; rfl

theorem abortFill_warmPart (b : Buffer) (s : State) : warmPart (abortFill b s) = warmPart s := by
  unfold abortFill
  split <;> rfl

theorem sweepReleased_warmPart (s : State) : warmPart (sweepReleased s) = warmPart s :=
  foldl_keeps warmPart (f := fun t (b : Buffer) => dropBuf b.handle (abortFill b t)) (fun t b => abortFill_warmPart b t) _ s

theorem discardUnits_warmPart (us : List StagedUnit) (s : State) : warmPart (discardUnits us s) = warmPart s := by
  refine (sweepReleased_warmPart _).trans (foldl_keeps warmPart (fun t u => ?_) us s)
  split
  · exact (commandTo_chainFrame ..).warmPart
  · rfl

theorem loseCommands_warmPart (s : State) : warmPart (loseCommands s) = warmPart s := discardUnits_warmPart _ s

theorem putEntry_active (type key : Nat) (data : List Byte) (committed fresh : Bool) (avoid : Option Nat) (s : State) :
    (putEntry type key data committed fresh avoid s).flash.active = s.flash.active := by
  unfold putEntry advanceHead
  dsimp only
  split <;> rfl

theorem putObject_active (type key : Nat) (data : List Byte) (committed fresh : Bool) (s : State) :
    (putObject type key data committed fresh s).flash.active = s.flash.active := by
  unfold putObject
  dsimp only
  split
  · rw [putEntry_active, putEntry_active]
  · exact putEntry_active ..

/-- A write torn by a reset leaves the active slot as it is. -/
theorem tearFront_active (s : State) : (tearFront s).flash.active = s.flash.active := by
  unfold tearFront
  split
  · split
    · dsimp only
      rw [putObject_active]
      split <;> rfl
    · rfl
  · rfl

theorem loseWork_warmPart (s : State) : warmPart (loseWork s) = warmPart s := by
  unfold loseWork warmPart
  dsimp only
  split
  · rw [setSlot_cmd, setSlot_layers, setSlot_pres, setSlot_ledger, setSlot_power, setSlot_fw, setSlot]
    dsimp only
    rw [tearFront_active]
  · dsimp only
    rw [tearFront_active]

theorem loseWork_workPart (s : State) : workPart (loseWork s) = workPart s := by
  unfold loseWork
  dsimp only
  split <;> rfl

theorem abandonNadir_parts (s : State) : warmPart (abandonNadir s) = warmPart s ∧ workPart (abandonNadir s) = workPart s := by
  unfold abandonNadir
  split
  · exact ⟨(logAlert_alertFrame ..).chainFrame.warmPart, (logAlert_alertFrame ..).chainFrame.workPart⟩
  · exact ⟨rfl, rfl⟩

theorem dropDomains_parts (s : State) : warmPart (dropDomains s) = warmPart s ∧ workPart (dropDomains s) = workPart s := by
  rw [dropDomains_eq]
  exact ⟨rfl, rfl⟩

theorem stopFirmware_parts (at_ : Nat) (s : State) :
    warmPart (stopFirmware at_ s) = warmPart s ∧ workPart (stopFirmware at_ s) = workPart s := ⟨rfl, rfl⟩

theorem warmState_warmPart (at_ : Nat) (s : State) : warmPart (warmState at_ s) = warmPart s := by
  unfold warmState
  rw [(stopFirmware_parts ..).1, (dropDomains_parts _).1, (abandonNadir_parts _).1, loseWork_warmPart, loseCommands_warmPart]

/-- No reply and no operation is on record any longer; the source table itself stands. -/
theorem loseCommands_workPart (s : State) :
    workPart (loseCommands s) = ([], [], [], s.cmd.sources.map fun e => { e with stored := none, executing := false }) := rfl

theorem warmState_workPart (at_ : Nat) (s : State) :
    workPart (warmState at_ s) = ([], [], [], s.cmd.sources.map fun e => { e with stored := none, executing := false }) := by
  unfold warmState
  rw [(stopFirmware_parts ..).2, (dropDomains_parts _).2, (abandonNadir_parts _).2, loseWork_workPart, loseCommands_workPart]

/-- A WDT reset outside a probation, with the crash reported. -/
theorem watchdogReset_facts (core : Nat) (s : State) : let t := reportCrash core (warmState (nowNs s) (noteReset 5 false s))
    t.fw.running = false ∧ t.fw.restartAt = some (nowNs s) ∧ t.cmd.longOps = [] ∧ t.cmd.held = [] ∧ t.cmd.committing = [] ∧
      (∀ e ∈ t.cmd.sources, e.stored = none) ∧ t.cmd.ephemeris = s.cmd.ephemeris ∧ t.cmd.policy = s.cmd.policy ∧
      t.layers.layer = s.layers.layer ∧ t.layers.streams = s.layers.streams ∧ t.pres.programs = s.pres.programs ∧ t.ledger = s.ledger ∧
      t.safety = s.safety ∧ t.fuse = s.fuse ∧ (t.power.history.head?.map (·.kind)) = some 5 := by
  intro t
  have crash : ChainFrame (warmState (nowNs s) (noteReset 5 false s)) t := (raiseAlert_alertFrame ..).chainFrame
  have kept := crash.warmPart.trans (warmState_warmPart ..)
  have lost := crash.workPart.trans (warmState_workPart ..)
  simp only [warmPart, workPart, Prod.mk.injEq] at kept lost
  obtain ⟨hephemeris, hpolicy, hlayer, hstreams, hpres, hledger, hhistory, -, -⟩ := kept
  obtain ⟨hops, hheld, hcommitting, hsources⟩ := lost
  refine ⟨by rw [crash.fw]; rfl, by rw [crash.fw]; rfl, hops, hheld, hcommitting, fun e he => ?_, hephemeris, hpolicy, hlayer, hstreams,
    congrArg _ hpres, hledger, ?_, ?_, by rw [hhistory]; rfl⟩
  · rw [hsources] at he
    obtain ⟨x, -, rfl⟩ := List.mem_map.1 he
    rfl
  · exact ((reportCrash_still ..).trans (warmState_still ..)).1
  · exact ((reportCrash_kept ..).trans (warmState_kept ..)).1

/-! ## A firmware that is reverted, absent or back (01 R30, R31; 17 R392) -/

theorem revertImage_warmPart {p : Probation} {s : State} (h : s.fw.probation = some p) :
    warmPart (revertImage s) = warmPart { s with fw.probation := none, flash.active := p.previous } := by
  unfold revertImage
  rw [h]
  exact (raiseAlert_alertFrame ..).chainFrame.warmPart

theorem firmwareLate_since {at_ : Nat} {s : State} (h : s.fw.restartAt = some at_) :
    firmwareLate s = (coresOn s && !s.fw.frozen && decide (at_ + 2000000000 ≤ nowNs s)) := by
  rw [firmwareLate, h]

theorem probationLate_since {p : Probation} {s : State} (h : s.fw.probation = some p) :
    probationLate s = (coresOn s && !p.handshake && decide (p.since + 800000000 ≤ nowNs s)) := by
  rw [probationLate, h]

theorem mode_of_coresOn {s : State} (h : coresOn s = true) : s.power.mode ≠ .waking := by
  intro hm
  simp [coresOn, always_off (.inr (.inl hm))] at h

theorem thaw_fw (s : State) : (thaw s).fw = { s.fw with frozen := false } := by
  unfold thaw
  split
  · rfl
  · rw [← Bool.eq_false_iff.2 ‹_›]

theorem freeBuf_fw (h : Nat) (s : State) : (freeBuf h s).fw = s.fw := by
  unfold freeBuf
  split
  · rfl
  · split <;> rfl

theorem freeLost_fw (s : State) : (freeLost s).fw = s.fw := by
  unfold freeLost
  exact foldl_keeps State.fw (f := fun t (b : Buffer) => freeBuf b.handle t) (fun t b => freeBuf_fw b.handle t) _ s

theorem scanJournal_fw (s : State) : (scanJournal s).fw = s.fw := by
  unfold scanJournal
  dsimp only
  split
  · rfl
  · exact (logAlert_alertFrame ..).chainFrame.fw

/-! ### A recast that runs again (06 R173, Table 6-6) -/

theorem countWorn_fw (s : State) : (countWorn s).fw = s.fw := by
  unfold countWorn
  dsimp only
  split
  · rfl
  · exact (logAlert_alertFrame ..).chainFrame.fw

theorem dramWrite_fw (a : Nat) (bs : List Byte) (s : State) : (dramWrite a bs s).fw = s.fw := rfl

theorem writeRowChecks_fw (k : Nat) (s : State) : (writeRowChecks k s).fw = s.fw := by
  unfold writeRowChecks
  exact foldl_keeps State.fw (fun t y => dramWrite_fw ..) _ s

theorem buildCell_fw (k width : Nat) (rule : Option GainRule) (aging : Nat → List (Int × Int)) (matrices : List Byte) (q : Placed)
    (x : State × Memory) : (buildCell k width rule aging matrices q x).1.fw = x.1.fw := by
  unfold buildCell
  refine foldl_acc_keeps (fun y : State × Memory => y.1.fw) (fun y p => ?_) _ x
  exact dramWrite_fw ..

theorem buildFull_fw (k : Nat) (f : List Byte) (rule : GainRule) (content : Nat) (s : State) : (buildFull k f rule content s).1.fw = s.fw := by
  unfold buildFull
  dsimp only
  rw [writeRowChecks_fw]
  refine (foldl_acc_keeps (fun x : State × Memory => x.1.fw) (fun x q => buildCell_fw ..) _ _).trans ?_
  dsimp only
  rw [foldl_keeps State.fw fun t c => dramWrite_fw ..]
  rfl

theorem startRecast_fw (op : Option (Source × Nat)) (f : List Byte) (s : State) : (startRecast op f s).fw = s.fw := by
  unfold startRecast
  dsimp only
  rw [enqueueFlash_eq]
  dsimp only
  rw [buildFull_fw, countWorn_fw]

theorem recastLost_fw (s : State) : (recastLost s).fw = s.fw := by
  unfold recastLost
  split
  · exact startRecast_fw ..
  · rfl

/-- Firmware is back with its handshake noted, and presentation no longer frozen. -/
theorem resumeFirmware_fw (s : State) : ∃ major minor patch, (resumeFirmware s).fw = { s.fw with
    running := true, restartAt := none, major := major, minor := minor, patch := patch, frozen := false
    probation := s.fw.probation.map fun p => { p with handshake := true } } := by
  unfold resumeFirmware
  dsimp only
  rw [recastLost_fw, (syncFaults_chainFrame _).fw, scanJournal_fw, freeLost_fw, thaw_fw, (settleAlerts_alertFrame _).chainFrame.fw]
  exact ⟨_, _, _, rfl⟩

/-! ## The statement -/

/-- Settles O36: what each reset keeps and loses by the lemmas above; a WDT reset keeps the Ephemeris (notes/assumptions/56.md). -/
theorem resetAndRestartRows : Obligations.ResetAndRestartRows := by
  unfold Obligations.ResetAndRestartRows
  refine ⟨fun s => ⟨?por, fun w hw => ?narrow, fun w hw hn hi hs hb hr => ?pin, fun at_ h hm => ?release, fun h => ?released,
      fun at_ h hm ht => ?stuck, fun hm => ?notStuck, fun hm => ?scanExit, fun hm => ?noScan, fun h => ?scan⟩,
    fun core s hc hp => ?watchdog,
    fun s => ⟨fun at_ h hc hf ht => ?absent, fun h => ?present, fun p h hc hh ht => ?revert, fun h => ?noProbation, fun hc h => ?handshake⟩⟩
  case por =>
    refine effect_of_exec rfl ?_
    exact ⟨rfl, rfl, rfl, rfl, rfl, rfl, rfl, rfl, rfl, rfl, List.mem_cons_self, rfl⟩
  case narrow => exact congrArg Host.Outcome.next (if_pos (by simp [hw]))
  case pin =>
    have counts : ¬(decide (w < 200) || s.power.nrstLowSince.isSome) = true := by
      simp [hn]
      omega
    refine effect_of_exec (congrArg Host.Outcome.next ((if_neg counts).trans ((if_pos hw).trans (pinReset_counted hi hs hb hr)))) ?_
    exact ⟨coldReset_facts 3 { s with power.nrstLowSince := some (nowNs s) }, rfl, rfl, rfl⟩
  case release =>
    refine effect_of_exec (congrArg Host.Outcome.next ((if_neg (by simp [h])).trans (if_pos (by simp [hm])))) ?_
    exact ⟨rfl, rfl, rfl, rfl⟩
  case released => exact congrArg Host.Outcome.next (if_pos (by simp [h]))
  case stuck =>
    refine effect_of_guard rfl (nrstStuckDue_held h hm ht) ?_
    rw [(raiseAlert_frame ..).power]
    exact ⟨rfl, rfl, fun e he => markStuck_head he⟩
  case notStuck => exact noEffect_of_guard rfl (by simp [nrstStuckDue, hm])
  case scanExit => exact effect_of_guard rfl (by simp [hm]) ⟨coldReset_facts 4 s, rfl, rfl⟩
  case noScan => exact noEffect_of_guard rfl (by simp [hm])
  case scan =>
    refine effect_of_guard rfl h ?_
    exact ⟨rfl, rfl, rfl, rfl, rfl, mem_assertFault .scan (quietDevice s), quietDevice_link .A s, quietDevice_link .B s⟩
  case watchdog =>
    have due : (if s.fw.probation.isSome then reportCrash core (warmState (restartBase s) (revertImage (noteReset 5 false s)))
        else reportCrash core (warmState (nowNs s) (noteReset 5 false s))) = reportCrash core (warmState (nowNs s) (noteReset 5 false s)) :=
      if_neg (by simp [hp])
    exact effect_of_exec (congrArg Host.Outcome.next ((if_pos hc).trans due)) (watchdogReset_facts core s)
  case absent =>
    refine effect_of_guard rfl (by simp [firmwareLate_since h, hc, hf, ht]) ?_
    rw [(raiseAlert_alertFrame ..).chainFrame.fw, (raiseAlert_frame ..).faults]
    exact ⟨rfl, mem_assertFault ..⟩
  case present => exact noEffect_of_guard rfl (by rw [firmwareLate, h])
  case revert =>
    refine effect_of_guard rfl (by simp [probationLate_since h, hc, hh, ht]) ?_
    have kept := (warmState_warmPart (restartBase s) (revertImage (noteReset 6 false s))).trans (revertImage_warmPart (s := noteReset 6 false s) h)
    simp only [warmPart, Prod.mk.injEq] at kept
    obtain ⟨-, -, -, -, -, -, -, hactive, hprobation⟩ := kept
    exact ⟨hprobation, rfl, hactive⟩
  case noProbation => exact ⟨noEffect_of_guard rfl (by rw [probationLate, h]), noEffect_of_guard rfl (by rw [probationOver, h])⟩
  case handshake =>
    obtain ⟨major, minor, patch, hfw⟩ := resumeFirmware_fw s
    refine effect_of_exec (t := resumeFirmware s) (congrArg Host.Outcome.next ((if_neg (by simp [mode_of_coresOn hc])).trans
      (if_pos (by simp [hc, h])))) ?_
    rw [hfw]
    refine ⟨rfl, rfl, fun p hp => ?_, rfl, (resumeFirmware_still s).1, (resumeFirmware_kept s).1⟩
    obtain ⟨q, -, rfl⟩ := Option.map_eq_some_iff.1 hp
    rfl

end Sys2Proof.Machine
end

section
/-! PROOF. The fuses along every step, the security version of an image and the end of a probation (17 R389 to R392; 15 R351): a step
burns upward, an image below the counter leaves its slot empty, and each action of IMAGE_ACTIVATE is its operation. -/

namespace Sys2Proof.Machine

/-! ## The fuses (17 R391, 15 R351) -/

theorem FusesSince.trans {f : Fuses} {s t : State} (h : FusesSince s.fuse t) (g : FusesSince f s) : FusesSince f t := by
  obtain ⟨same, version, commissioned⟩ := g
  obtain ⟨same', version', commissioned'⟩ := h
  exact ⟨by rw [same', same], Nat.le_trans version version', commissioned' ∘ commissioned⟩

theorem Steps.fusesSince {s t : State} (h : Steps s t) : FusesSince s.fuse t := ⟨h.fuse, h.version, h.commissioned⟩

/-- Of the fuses, a step burns the security version and the commissioned fuse alone, and both upward. -/
theorem step_fusesSince {s t : State} (h : step s = .next t) : FusesSince s.fuse t := by
  obtain ⟨i, rest, -, run⟩ | ⟨-, rfl⟩ := step_cases h
  · exact (exec_steps i run).fusesSince
  · exact (tick_steps s).fusesSince

/-- Settles O3: what holds of the fuses since an earlier time holds after a step, which only burns further. -/
theorem fusesOnlyGrow : Obligations.FusesOnlyGrow := by
  unfold Obligations.FusesOnlyGrow
  exact fun _ _ _ since h => (step_fusesSince h).trans since

/-! ## Images (17 R390, R391) -/

/-- An image below the fuse counter is refused: one that its CRC and its signature let through, by the counter (17 R390). -/
theorem imageStatus_below {s : State} {d : List Byte} (below : be d 8 2 < s.fuse.secVersion) : imageStatus s d ≠ St.ok := by
  rw [imageStatus, if_pos below]
  split
  · decide
  · split <;> decide

theorem slotState_setSlot_empty (k : Nat) (s : State) : slotState (setSlot k .empty s) k = .empty := getD_setAt_default ..

theorem completeOp_slotState (src : Source) (tag status : Nat) (results : List Byte) (s : State) (k : Nat) :
    slotState (completeOp src tag status results s) k = slotState s k := by
  have frame := completeOp_votes src tag status results s
  unfold ReplyFrame at frame
  rw [frame]; rfl

/-- An image that fails its checks leaves the slot that it was written to empty (17 R390). -/
theorem finishImage_refused {w : FlashWrite} {s : State} (h : imageStatus s w.data ≠ St.ok) :
    slotState (finishImage w s) (otherSlot s) = .empty := by
  unfold finishImage
  dsimp only
  rw [if_neg h]
  split
  · rw [completeOp_slotState, slotState_setSlot_empty]
  · exact slotState_setSlot_empty ..

/-! ## The end of a probation (17 R391, R392) -/

theorem endProbation_some {s : State} {p : Probation} (h : s.fw.probation = some p) : endProbation s =
    { s with fw.probation := none, flash.defaultSlot := s.flash.active, fuse.secVersion := max s.fuse.secVersion p.secVersion } := by
  rw [endProbation, h]

/-- Settles O7: an image by its checks, the counter by the end of a probation, and every step by what it does to the fuses. -/
theorem securityVersionIsNeverLowered : Obligations.SecurityVersionIsNeverLowered := by
  unfold Obligations.SecurityVersionIsNeverLowered
  refine ⟨fun s d => imageStatus_below, fun w s h => ?refused, fun s p h => ?raised, fun s t h => ?kept⟩
  case refused => rw [finishImage_refused h]; decide
  case raised => rw [endProbation_some h]
  case kept =>
    obtain ⟨-, version, -⟩ := step_fusesSince h
    exact version

/-! ## IMAGE_ACTIVATE (17 R392, R398) -/

section ImageActivate
variable {r : Req} {s : State}

theorem imageActivateSpec_run_hot (h : s.therm.shutdownAt.isSome = true) :
    imageActivateSpec.run r s = (s, .done St.thermalRefused []) := if_pos h

/-- Outside the shutdown, with no image on its way to the flash, activation begins where a staged image waits. -/
theorem imageActivateSpec_run_staged (hp : prm r 0 1 = 0) (cool : s.therm.shutdownAt = none)
    (idle : s.flash.queue.any (fun w => w.use == .image) = false) (ok : activateOk s 0 = true) :
    imageActivateSpec.run r s = (activateImage s, .done St.ok []) := by
  unfold imageActivateSpec
  dsimp only
  rw [hp, cool, idle, ok]; rfl

theorem imageActivateSpec_run_revert (hp : prm r 0 1 = 1) (cool : s.therm.shutdownAt = none)
    (idle : s.flash.queue.any (fun w => w.use == .image) = false) (ok : activateOk s 1 = true) :
    imageActivateSpec.run r s = (revertSlot s, .done St.ok []) := by
  unfold imageActivateSpec
  dsimp only
  rw [hp, cool, idle, ok]; rfl

/-- The end of a probation waits for no image on its way to the flash. -/
theorem imageActivateSpec_run_endProbation (hp : prm r 0 1 = 2) (cool : s.therm.shutdownAt = none)
    (probing : s.fw.probation.isSome = true) : imageActivateSpec.run r s = (endProbation s, .done St.ok []) := by
  have possible : activateOk s 2 = true := probing
  unfold imageActivateSpec
  dsimp only
  rw [hp, cool, possible]; rfl

/-- In the thermal shutdown the packet is refused, whatever its row. -/
theorem imageActivate_hot {i : Instr} (hi : packetOf i = some (imageActivateSpec, r)) (h : Accepted imageActivateSpec r s)
    (hot : s.therm.shutdownAt.isSome = true) :
    exec i s = .next (answerLarge 0x0E03 r St.thermalRefused [] (startOf r s)) :=
  exec_shortDone (o := imageActivateSpec) hi h rfl rfl (imageActivateSpec_run_hot (s := startOf r s) hot)

end ImageActivate

/-- Settles O21: each action by the run of its packet; in the shutdown none runs. -/
theorem imageActivateRowsAct : Obligations.ImageActivateRowsAct := by
  unfold Obligations.ImageActivateRowsAct
  refine ⟨?staged, ?revert, ?endProbation, fun s p => endProbation_some, fun i r s hi h hot => ?hot⟩
  case staged =>
    exact acts_of (fun _ _ => rfl) (fun _ _ _ _ => rfl) rfl fun _ _ _ ⟨hp, cool, idle, ok⟩ => imageActivateSpec_run_staged hp cool idle ok
  case revert =>
    exact acts_of (fun _ _ => rfl) (fun _ _ _ _ => rfl) rfl fun _ _ _ ⟨hp, cool, idle, ok⟩ => imageActivateSpec_run_revert hp cool idle ok
  case endProbation =>
    exact acts_of (fun _ _ => rfl) (fun _ _ _ _ => rfl) rfl fun _ _ _ ⟨hp, cool, probing⟩ =>
      imageActivateSpec_run_endProbation hp cool probing
  case hot => exact effect_of_exec (imageActivate_hot hi h hot) ⟨rfl, answerLarge_frame ..⟩

end Sys2Proof.Machine
end

section
/-! PROOF. The rows of power, of the resets, of the supplies and of the safety block, each with its condition (16 R356 to R374; 17 R392;
19 R418 to R424, R433; 13 R317; 15 R331 to R349): under it the row is the function of its own meaning. -/

namespace Sys2Proof.Machine

/-! ## Wakes and the restore handshake (16 R364, R370; 01 R30, R31) -/

section Rows
variable {s : State}

/-- WAKE_N and the armed alarm end TWILIGHT. -/
theorem wakeBy_leaves {w : WakeSource} (h : wakeEnabled s w = true) (hm : s.power.mode = .twilight) (hw : w = .wakeN ∨ w = .rtcAlarm) :
    wakeBy w s = leaveTwilight s := by
  unfold wakeBy
  rw [h, hm]
  obtain rfl | rfl := hw <;> rfl

theorem exec_restoreHandshake_wake (hm : s.power.mode = .waking) (h7 : s.power.wakeStep = 7) (hp : s.power.wakePause = none) :
    exec .restoreHandshake s = .next (wakeLog (finishWake s)) :=
  congrArg Host.Outcome.next (if_pos (by simp [hm, h7, hp]))

/-- Cores that run are not in a wake: the handshake is that of a restart. -/
theorem exec_restoreHandshake_restart (hc : coresOn s = true) (h : s.fw.restartAt.isSome = true) :
    exec .restoreHandshake s = .next (resumeFirmware s) :=
  congrArg Host.Outcome.next ((if_neg (by simp [mode_of_coresOn hc])).trans (if_pos (by rw [hc, h]; rfl)))

/-! ## WDT and PIN resets (16 R373, R374) -/

theorem exec_watchdogExpiry (core : Fin 4) (hc : coresOn s = true) (hp : s.fw.probation = none) :
    exec (.watchdogExpiry core) s = .next (reportCrash core (warmState (nowNs s) (noteReset 5 false s))) :=
  (exec_of_guard rfl hc).trans (congrArg Host.Outcome.next (if_neg (by rw [hp]; exact Bool.false_ne_true)))

theorem exec_nrstAssert {w : Nat} (hw : 1000 ≤ w) (hn : s.power.nrstLowSince = none) : exec (.nrstAssert w) s = .next (pinReset s) := by
  have counts : ¬(decide (w < 200) || s.power.nrstLowSince.isSome) = true := by
    simp [hn]
    omega
  exact congrArg Host.Outcome.next ((if_neg counts).trans (if_pos hw))

theorem exec_nrstRelease (hn : s.power.nrstLowSince.isSome = true) (hm : s.power.mode = .heldInReset) :
    exec .nrstRelease s = .next (startSupplies
      (clearAlert 0x00 0x05 (tileTarget s) { s with power.nrstLowSince := none, power.nrstHighSince := nowNs s })) := by
  have low : ¬s.power.nrstLowSince.isNone = true := by rw [← Option.not_isSome, hn]; exact Bool.false_ne_true
  exact congrArg Host.Outcome.next ((if_neg low).trans (if_pos (by rw [hm]; rfl)))

/-! ## Power-up, the boot and BOR (19 R418, R419, R421; 16 R375) -/

theorem exec_boot (f : BootFindings) {k : Nat} (hm : s.power.mode = .booting) (hk : bootSlot s = some k) :
    exec (.boot f) s = .next (bootFrom k f s) := by
  refine (exec_of_guard rfl (by rw [hm]; rfl)).trans (congrArg _ ?_)
  rw [hk]

/-- Above every threshold VIN gives a BOR. -/
theorem exec_bor_high {v : Nat} (h : 27000 < v) : exec (.bor v) s = .next (enterBor .vinHigh s) := by
  refine congrArg Host.Outcome.next ?_
  rw [if_neg (by omega), if_neg (by omega), if_neg (by omega), if_neg (by omega)]

theorem exec_supplyFault (b : Buck) (h : s.power.mode = .run ∨ s.power.mode = .twilight) :
    exec (.supplyFault b false) s = .next (enterBor .regulation s) := by
  refine congrArg Host.Outcome.next ((if_neg Bool.false_ne_true).trans (if_pos ?_))
  obtain h | h := h <;> rw [h] <;> rfl

theorem exec_borRelease (hm : s.power.mode = .heldInBor) (hn : s.power.nrstLowSince = none) :
    exec .borRelease s = .next (startSupplies { s with power.borCauses := [], power.vsafeLow := false }) := by
  refine (exec_of_guard rfl (by rw [hm]; rfl)).trans (congrArg Host.Outcome.next (if_neg ?_))
  rw [hn]
  exact Bool.false_ne_true

/-! ## REFIN and the crystal (19 R423, R424) -/

theorem exec_refinLost (hl : s.power.refinLost = false) (hm : refinMonitored s = true) : exec .refinLost s =
    .next (logAlert 0x0F 0x02 (tileTarget s) 0 0 (assertFault .refin (quietDevice { s with power.refinLost := true }))) :=
  congrArg Host.Outcome.next ((if_neg (Bool.eq_false_iff.1 hl)).trans (if_pos hm))

theorem exec_refinRestored (hl : s.power.refinLost = true) (hf : s.faults.contains .refin = true) (hm : refinMonitored s = true) :
    exec .refinRestored s = .next (coldReset 4 (releaseFault .refin { s with power.refinLost := false })) := by
  have lost : ¬(!s.power.refinLost) = true := by rw [hl]; exact Bool.false_ne_true
  exact congrArg Host.Outcome.next ((if_neg lost).trans (if_pos (by rw [hf, hm]; rfl)))

theorem exec_crystalSourceChange {c : Bool} (h : s.power.rtcCrystal ≠ c) :
    exec (.crystalSourceChange c) s = .next { s with power.rtcCrystal := c, power.crystalChanged := true } :=
  congrArg Host.Outcome.next (if_neg (by rwa [beq_iff_eq]))

/-! ## The safety block (15 R335, R336, R340, R341, R344, R347) -/

theorem exec_discrepancyTimeout_late {p q : SafetyPair} {at_ : Nat} (h : s.safety.discrepancy.find? (·.1 == p) = some (q, at_))
    (late : at_ + s.safety.discrepancyTime p * 1000000 ≤ nowNs s) (fresh : ∀ m ∈ s.safety.mend, m.1 ≠ p) :
    exec (.discrepancyTimeout p) s = .next (lockout (discrepancyCause p) (unmended p s)) := by
  have notFresh : mendFresh s p = false := List.any_eq_false.2 fun m hm => by simp [fresh m hm]
  rw [exec_discrepancyTimeout_some h, decide_eq_true late, notFresh]
  rfl

theorem exec_outputTestPulse_fails {o : SafetyOut} (h : (s.safety.pair (outPair o)).state = .run) :
    exec (.outputTestPulse o false) s = .next (lockout 0x12 s) := by
  rw [exec_outputTestPulse, h]; rfl

theorem exec_edmTimeout_late {p : OutPair} {at_ : Nat} (h : (s.safety.pair p).edmSince = some at_)
    (late : at_ + s.safety.cfg.edmTime * 1000000 ≤ nowNs s) (edm : s.safety.edm p = true)
    (sfb : s.safety.sfb p = ((s.safety.pair p).state == .run)) :
    exec (.edmTimeout p) s = .next (lockout (edmCause p) (edmOver p s)) := by
  rw [exec_edmTimeout_some h, decide_eq_true late, edm, sfb, beq_self_eq_true]
  rfl

theorem exec_srstStuckClear_off (stuck : s.safety.stuck = true) (off : s.safety.on .srst = false)
    (late : s.safety.offSince + 100000000 ≤ nowNs s) :
    exec .srstStuckClear s = .next (clearAlert 0x0C 0x02 (tileTarget s) { s with safety := { s.safety with stuck := false } }) := by
  rw [exec_srstStuckClear, stuck, off, decide_eq_true late]; rfl

theorem exec_channelDisagreement_used {p : OutPair} (h : (s.safety.pair p).state ≠ .unused) :
    exec (.channelDisagreement p) s = .next (lockout 0x10 s) := by
  rw [exec_channelDisagreement, beq_eq_false_iff_ne.2 h]; rfl

theorem exec_networkSafetyTimeout_late {at_ : Nat} (h : s.safety.netAt = some at_) (used : s.safety.uses fNet = true)
    (silent : s.safety.netDemand = false) (late : at_ + s.safety.cfg.netTimeout * 1000000 ≤ nowNs s) :
    exec .networkSafetyTimeout s = .next (judgePairs { s with safety := { s.safety with netDemand := true } }) := by
  rw [exec_networkSafetyTimeout_some h, used, silent, decide_eq_true late]; rfl

end Rows

/-! ## The statement -/

/-- Settles O57: each row under its condition is its function, by the lemmas above where the condition has more than one part; a warm reset
keeps the Ephemeris (notes/assumptions/56.md). -/
theorem powerAndSafetyRowsComplete : Obligations.PowerAndSafetyRowsComplete := by
  unfold Obligations.PowerAndSafetyRowsComplete
  refine ⟨fun s => ?power, fun s => ?supplies, fun s => ?safety⟩
  case power =>
    refine ⟨fun h => exec_of_guard rfl h, fun h => exec_of_guard rfl h, fun h => exec_of_guard rfl h,
      fun d hm hv ha ho => exec_of_guard rfl (by rw [hm, hv, ha, ho]; rfl),
      fun w hm h => congrArg Host.Outcome.next (wakeBy_nadir h hm), fun w hm h hw => congrArg Host.Outcome.next (wakeBy_leaves h hm hw),
      fun hp hd => congrArg Host.Outcome.next (nextWakeStep_done hp hd), fun h => exec_of_guard rfl h, exec_restoreHandshake_wake,
      exec_restoreHandshake_restart, rfl, fun core hc hp => exec_watchdogExpiry core hc hp, fun h => exec_of_guard rfl h,
      fun h => exec_of_guard rfl h, fun w => exec_nrstAssert, exec_nrstRelease, fun h => exec_of_guard rfl h⟩
  case supplies =>
    refine ⟨fun hw ht => exec_of_guard rfl (by rw [hw, decide_eq_true ht]; rfl), fun hw ht => exec_of_guard rfl (by rw [hw, decide_eq_true ht]; rfl),
      fun f k => exec_boot f, fun v hv => congrArg Host.Outcome.next (if_pos hv), fun v => exec_bor_high, fun b => rfl, exec_supplyFault, rfl, exec_borRelease,
      exec_refinLost, exec_refinRestored, fun c => exec_crystalSourceChange, fun h => exec_of_guard rfl h,
      fun hm => exec_of_guard rfl (by rw [hm]; rfl), fun _ h => exec_of_guard rfl h⟩
  case safety =>
    refine ⟨fun i on => exec_level, fun p q at_ => exec_discrepancyTimeout_late, exec_inputTestPulse (s := s), fun o => exec_outputTestPulse_fails,
      fun p at_ h late edm sfb => ?edm, fun ms => exec_resetPress_free, fun at_ => exec_srstStuck_late, exec_srstStuckClear_off, rfl,
      fun p => exec_channelDisagreement_used, rfl, fun at_ => exec_networkSafetyTimeout_late, fun c => exec_safetyConfigTimeout_late⟩
    case edm => cases p <;> exact exec_edmTimeout_late h late edm sfb

end Sys2Proof.Machine
end

section
/-! PROOF. What a boot keeps (16 R375; 17 R378; 15 R351): the fuses and the slot that it boots from. One rule per operation of the boot, in
the model's order; `simp` composes them. -/

namespace Sys2Proof.Machine

/-! ## A link that goes down (03 R75, R84; 19 R423) -/

/-- What a link that goes down may change: the network, house time and alerts. -/
def LinkFrame (s t : State) : Prop := t = { s with time := t.time, net := t.net, cmd := t.cmd }

theorem LinkFrame.refl (s : State) : LinkFrame s s := rfl

theorem LinkFrame.trans {s t u : State} (h : LinkFrame t u) (g : LinkFrame s t) : LinkFrame s u := by
  unfold LinkFrame at *
  rw [h, g]

theorem TimeFrame.linkFrame {s t : State} (h : TimeFrame s t) : LinkFrame s t := by
  unfold TimeFrame AlertFrame at h
  unfold LinkFrame
  rw [h]

theorem runBmca_linkFrame (s : State) : LinkFrame s (runBmca s) := by
  unfold runBmca
  dsimp only
  split
  · exact (setServo_timeFrame ..).linkFrame.trans rfl
  · rfl

theorem setNet_linkFrame (p : NetPort) (f : PortState → PortState) (s : State) : LinkFrame s (setNet p f s) := by
  cases p <;> rfl

theorem linkDown_linkFrame (p : NetPort) (s : State) : LinkFrame s (linkDown p s) := by
  unfold linkDown
  split
  · dsimp only
    have alerted (t : State) (ht : LinkFrame s t) : LinkFrame s (raiseAlert 0x01 0x04 (tileTarget s) 0 (linkDetail p) false t) :=
      (raiseAlert_alertFrame ..).timeFrame.linkFrame.trans ht
    split
    · exact (runBmca_linkFrame _).trans (alerted _ (LinkFrame.trans rfl (setNet_linkFrame ..)))
    · exact alerted _ (LinkFrame.trans rfl (setNet_linkFrame ..))
  · exact .refl s

/-- Every port of a quiet device is undriven. -/
theorem quietDevice_undriven {s : State} : ∀ q ∈ (quietDevice s).chain.ports, q.driving = false := by
  have kept : (quietDevice s).chain = (quietPorts (dropRails s)).chain := by
    rw [quietDevice, linkDown_linkFrame, linkDown_linkFrame]
  rw [kept]
  intro q hq
  obtain ⟨p, -, rfl⟩ := List.mem_map.1 hq
  rfl

theorem quietDevice_power (s : State) : (quietDevice s).power = s.power := by
  rw [quietDevice, linkDown_linkFrame, linkDown_linkFrame]
  rfl

/-! ## The active slot (17 R378) -/

@[simp] theorem ite_active (c : Prop) [Decidable c] (a b : State) :
    (if c then a else b).flash.active = if c then a.flash.active else b.flash.active := apply_ite (fun s : State => s.flash.active) ..

section
variable {α β : Type}

@[simp] theorem foldl_active {f : State → α → State} (h : ∀ t a, (f t a).flash.active = t.flash.active) (l : List α) (s : State) :
    (l.foldl f s).flash.active = s.flash.active := foldl_keeps (·.flash.active) h l s

@[simp] theorem foldl_fst_active {f : State × β → α → State × β} (h : ∀ x a, (f x a).1.flash.active = x.1.flash.active) (l : List α)
    (x : State × β) : (l.foldl f x).1.flash.active = x.1.flash.active := foldl_acc_keeps (·.1.flash.active) h l x

end

/-! ### Alerts, the chain and the network ports -/

theorem ChainFrame.active {s t : State} (h : ChainFrame s t) : t.flash.active = s.flash.active := by
  unfold ChainFrame AlertFrame at h
  rw [h]

@[simp] theorem logAlert_active (cls event : Nat) (target : BitVec 64) (status detail : Nat) (s : State) :
    (logAlert cls event target status detail s).flash.active = s.flash.active := (logAlert_alertFrame ..).chainFrame.active
@[simp] theorem raiseAlert_active (cls event : Nat) (target : BitVec 64) (status detail : Nat) (faultN : Bool) (s : State) :
    (raiseAlert cls event target status detail faultN s).flash.active = s.flash.active := (raiseAlert_alertFrame ..).chainFrame.active
@[simp] theorem settleAlerts_active (s : State) : (settleAlerts s).flash.active = s.flash.active := (settleAlerts_alertFrame s).chainFrame.active
@[simp] theorem addFault_active (target : BitVec 64) (kind detail : Nat) (suppressed double : Bool) (s : State) :
    (addFault target kind detail suppressed double s).flash.active = s.flash.active := (addFault_chainFrame ..).active
@[simp] theorem commandTo_active (l c op reg : Nat) (words : List Nat) (s : State) :
    (commandTo l c op reg words s).flash.active = s.flash.active := (commandTo_chainFrame ..).active
@[simp] theorem enumerateLoops_active (ls : List Nat) (s : State) : (enumerateLoops ls s).flash.active = s.flash.active :=
  (enumerateLoops_chainFrame ls s).active
@[simp] theorem setDriving_active (p : Nat) (on : Bool) (s : State) : (setDriving p on s).flash.active = s.flash.active := rfl
@[simp] theorem recordLink_active (l b : Nat) (double : Bool) (s : State) : (recordLink l b double s).flash.active = s.flash.active := by
  simp [recordLink]
@[simp] theorem markDead_active (l h : Nat) (s : State) : (markDead l h s).flash.active = s.flash.active := by simp [markDead]
@[simp] theorem doubleFault_active (l b : Nat) (s : State) : (doubleFault l b s).flash.active = s.flash.active := by simp [doubleFault]
@[simp] theorem beginMove_active (l m : Nat) (gaining : Side) (link : Nat) (s : State) :
    (beginMove l m gaining link s).flash.active = s.flash.active := rfl
@[simp] theorem failPort_active (p : Nat) (s : State) : (failPort p s).flash.active = s.flash.active := by simp [failPort]
@[simp] theorem shortBall_active (p i : Nat) (s : State) : (shortBall p i s).flash.active = s.flash.active := by simp [shortBall]
@[simp] theorem testBalls_active (p : Nat) (s : State) : (testBalls p s).flash.active = s.flash.active := by
  unfold testBalls
  split
  · split <;> simp
  · rfl

@[simp] theorem setNet_active (p : NetPort) (f : PortState → PortState) (s : State) : (setNet p f s).flash.active = s.flash.active := by
  rw [setNet_linkFrame]
@[simp] theorem linkDown_active (p : NetPort) (s : State) : (linkDown p s).flash.active = s.flash.active := by rw [linkDown_linkFrame]

/-! ### The self-test -/

@[simp] theorem judgeEssential_active (s : State) : (judgeEssential s).flash.active = s.flash.active := by simp [judgeEssential]
@[simp] theorem breakSensor_active (k : Nat) (x : SensorStatus) (s : State) : (breakSensor k x s).flash.active = s.flash.active := by
  simp [breakSensor, setSensor]
@[simp] theorem loseInput_active (k : Nat) (s : State) : (loseInput k s).flash.active = s.flash.active := by simp [loseInput]
@[simp] theorem loseBlock_active (id : Nat) (s : State) : (loseBlock id s).flash.active = s.flash.active := by
  unfold loseBlock
  split <;> simp
@[simp] theorem modBlock_active (id : Nat) (f : BlockRec → BlockRec) (s : State) : (modBlock id f s).flash.active = s.flash.active := rfl
@[simp] theorem markBlock_active (id : Nat) (s : State) : (markBlock id s).flash.active = s.flash.active := by simp [markBlock]
@[simp] theorem failSlice_active (id slice : Nat) (s : State) : (failSlice id slice s).flash.active = s.flash.active := rfl
@[simp] theorem bootTest_active (failedBlocks : List (Nat × Nat)) (s : State) :
    (bootTest failedBlocks s).flash.active = s.flash.active := by simp [bootTest]

/-! ### The Almanac (06 R160, R166, R167) -/

@[simp] theorem dramWrite_active (a : Nat) (bs : List Byte) (s : State) : (dramWrite a bs s).flash.active = s.flash.active := by simp [dramWrite]
@[simp] theorem clearUncorrectable_active (a n : Nat) (s : State) : (clearUncorrectable a n s).flash.active = s.flash.active := rfl
@[simp] theorem verifyRow_active (k y : Nat) (x : State × VerifyCount) : (verifyRow k y x).1.flash.active = x.1.flash.active := by
  unfold verifyRow
  dsimp only
  split
  · rfl
  · split
    · simp
    · split <;> simp
@[simp] theorem verifyBank_active (k : Nat) (s : State) : (verifyBank k s).1.flash.active = s.flash.active := by
  simp [verifyBank, apply_ite Prod.fst]
@[simp] theorem verifyBanks_active (ks : List Nat) (s : State) : (verifyBanks ks s).1.flash.active = s.flash.active := by simp [verifyBanks]
@[simp] theorem bringBank_active (k : Nat) (s : State) : (bringBank k s).flash.active = s.flash.active := by simp [bringBank]
@[simp] theorem bootBank_active (k : Nat) (s : State) : (bootBank k s).flash.active = s.flash.active := by simp [bootBank]
@[simp] theorem buildCell_active (k width : Nat) (rule : Option GainRule) (aging : Nat → List (Int × Int)) (matrices : List Byte) (q : Placed)
    (x : State × Memory) : (buildCell k width rule aging matrices q x).1.flash.active = x.1.flash.active := by
  simp [buildCell]
@[simp] theorem writeRowChecks_active (k : Nat) (s : State) : (writeRowChecks k s).flash.active = s.flash.active := by simp [writeRowChecks]
@[simp] theorem buildFull_active (k : Nat) (f : List Byte) (rule : GainRule) (content : Nat) (s : State) :
    (buildFull k f rule content s).1.flash.active = s.flash.active := by
  simp [buildFull]
@[simp] theorem validate_active (k : Nat) (s : State) : (validate k s).flash.active = s.flash.active := rfl
@[simp] theorem selectBank_active (before : Option Nat) (s : State) : (selectBank before s).flash.active = s.flash.active := by
  unfold selectBank
  extract_lets s1 want
  split
  · simp [s1]
  · split
    · simp [s1]
    · split <;> simp [s1]

/-! ### The tile configuration record (17 R386, R387) -/

@[simp] theorem applyRaster_active (w h : Nat) (s : State) : (applyRaster w h s).flash.active = s.flash.active := by simp [applyRaster]
@[simp] theorem applyRail_active (ps : List Byte) (k : Nat) (s : State) : (applyRail ps k s).flash.active = s.flash.active := by
  unfold applyRail
  split <;> simp
@[simp] theorem applyCell_active (ps : List Byte) (l c frame : Nat) (s : State) : (applyCell ps l c frame s).flash.active = s.flash.active := by
  simp [applyCell]
@[simp] theorem changeReport_active (p : NetPort) (group source : Nat) (join : Bool) (s : State) :
    (changeReport p group source join s).flash.active = s.flash.active := by simp [changeReport, sendReport]
@[simp] theorem joinPath_active (h : Nat) (p : NetPort) (x : Path) (s : State) : (joinPath h p x s).flash.active = s.flash.active := by
  rw [joinPath_net]
@[simp] theorem applyStream_active (ps : List Byte) (s : State) : (applyStream ps s).flash.active = s.flash.active := by simp [applyStream]
@[simp] theorem leaveGroups_active (h : Nat) (s : State) : (leaveGroups h s).flash.active = s.flash.active := by simp [leaveGroups]
@[simp] theorem freeBuf_active (h : Nat) (s : State) : (freeBuf h s).flash.active = s.flash.active := by
  unfold freeBuf
  split <;> simp
@[simp] theorem dropStream_active (h : Nat) (s : State) : (dropStream h s).flash.active = s.flash.active := by
  unfold dropStream
  split <;> simp
@[simp] theorem restoreStream_active (ps : List Byte) (s : State) : (restoreStream ps s).flash.active = s.flash.active := by
  simp [restoreStream]
@[simp] theorem writePortConfig_active (p : NetPort) (v : Nat) (s : State) : (writePortConfig p v s).flash.active = s.flash.active := by
  simp [writePortConfig]
@[simp] theorem applyEntry_active (n : Nat) (e : Nat × Nat × List Byte) (s : State) : (applyEntry n e s).flash.active = s.flash.active := by
  unfold applyEntry
  split
  · rfl
  · split <;> simp [applyRailMap, setAmbient, applyThermal, applyMeridian, applyBist]
@[simp] theorem applyRecord_active (n : Nat) (d : List Byte) (s : State) : (applyRecord n d s).flash.active = s.flash.active := by
  simp [applyRecord, setIdentity]

/-! ### The parts of the boot -/

@[simp] theorem trainFlash_active (f : BootFindings) (s : State) : (trainFlash f s).flash.active = s.flash.active := by simp [trainFlash]
@[simp] theorem bootTrims_active (s : State) : (bootTrims s).flash.active = s.flash.active := by simp [bootTrims, loadTrims]
@[simp] theorem bootBalls_active (s : State) : (bootBalls s).flash.active = s.flash.active := by simp [bootBalls]
@[simp] theorem bootChain_active (s : State) : (bootChain s).flash.active = s.flash.active := by simp [bootChain]
@[simp] theorem enqueueFlash_active (w : FlashWrite) (s : State) : (enqueueFlash w s).flash.active = s.flash.active := by
  unfold enqueueFlash beginFlash
  dsimp only
  split
  · rfl
  · split <;> rfl
@[simp] theorem stageTrim_active (p : Nat) (f : PortTrim → PortTrim) (s : State) : (stageTrim p f s).flash.active = s.flash.active := by
  simp [stageTrim]
@[simp] theorem applyTrimSet_active (t kept : TrimSet) (s : State) : (applyTrimSet t kept s).flash.active = s.flash.active := by
  simp [applyTrimSet]
@[simp] theorem bootCal_active (f : BootFindings) (s : State) : (bootCal f s).flash.active = s.flash.active := by
  simp [bootCal, bootCalibrate]
@[simp] theorem bootConfig_active (s : State) : (bootConfig s).flash.active = s.flash.active := by
  unfold bootConfig
  split <;> split <;> simp [setIdentity]
@[simp] theorem bootLedger_active (s : State) : (bootLedger s).flash.active = s.flash.active := by
  unfold bootLedger
  split <;> simp [resetAges, startAges, mergeFaults, loadCheckpoint, noCheckpoint]
@[simp] theorem bootSafety_active (s : State) : (bootSafety s).flash.active = s.flash.active := by
  unfold bootSafety loadSafety noSafetyRecord
  split
  · split
    · simp [installSafety]
    · simp
  · rfl
@[simp] theorem scanJournal_active (s : State) : (scanJournal s).flash.active = s.flash.active := by simp [scanJournal]
@[simp] theorem bootLog_active (s : State) : (bootLog s).flash.active = s.flash.active := by simp [bootLog]
@[simp] theorem finishBoot_active (s : State) : (finishBoot s).flash.active = s.flash.active := by simp [finishBoot, takeVersion]

/-- The slot that a boot is given is the active one. -/
theorem bootFrom_active (slot : Nat) (f : BootFindings) (s : State) : (bootFrom slot f s).flash.active = slot := by simp [bootFrom]

/-! ## The fuses, and the end of a boot (16 R375) -/

@[simp] theorem bootSafety_fuse (s : State) : (bootSafety s).fuse = s.fuse := by
  unfold bootSafety loadSafety noSafetyRecord
  split
  · split
    · split
      · exact (installSafety_pairs ..).1
      · split <;> rfl
    · split <;> rfl
  · rfl

/-- A boot burns no fuse. -/
theorem bootFrom_fuse (slot : Nat) (f : BootFindings) (s : State) : (bootFrom slot f s).fuse = s.fuse := by
  simp [bootFrom, apply_ite State.fuse]

theorem not_mem_releaseFault (c : FaultCause) (s : State) : c ∉ (releaseFault c s).faults :=
  fun held => bne_iff_ne.1 (List.mem_filter.1 held).2 rfl

/-- After the boot firmware runs, and FAULT_N's boot cause is gone. -/
theorem finishBoot_runs (s : State) : (finishBoot s).power.mode = .run ∧ (finishBoot s).fw.running = true ∧
    FaultCause.notBooted ∉ (finishBoot s).faults ∧ (finishBoot s).power.porBoot = false := by
  unfold finishBoot
  dsimp only
  rw [settleAlerts_alertFrame]
  exact ⟨rfl, rfl, not_mem_releaseFault _ _, rfl⟩

end Sys2Proof.Machine
end

section
/-! PROOF. The supplies, the boot, BOR, REFIN, the crystal and the I2C bus (19 R418 to R424, R433; 16 R373, R375; 17 R378): each row in each
of its cases. -/

namespace Sys2Proof.Machine

/-! ## The steps of the supplies (19 R419, Table 19-6) -/

section Supplies
variable {s : State}

theorem supplyAtWork_step (hm : s.power.mode = .poweringUp) (h1 : 1 ≤ s.power.supplyStep)
    (h7 : ¬ (s.power.supplyStep = 7 ∧ s.power.refinLost = true)) : supplyAtWork s = true := by
  simpa [supplyAtWork, hm, h1, imp_iff_not_or] using h7

theorem powerUpStep_unready (s : State) : NoEffect (.powerUpStep false) s :=
  noEffect_of_guard (t := nextSupply s) rfl (by simp)

theorem exec_powerUpStep_ready (work : supplyAtWork s = true) (late : s.power.supplyStepAt + supplyDelay s.power.supplyStep ≤ nowNs s) :
    exec (.powerUpStep true) s = .next (nextSupply s) := exec_of_guard rfl (by simp [work, late])

theorem exec_powerUpStepTimeout_late (work : supplyAtWork s = true)
    (late : s.power.supplyStepAt + 3 * supplyDelay s.power.supplyStep ≤ nowNs s) :
    exec .powerUpStepTimeout s = .next (failSupply s) := exec_of_guard rfl (by simp [work, late])

theorem nextSupply_next (h : s.power.supplyStep < 7) :
    nextSupply s = { s with power.supplyStep := s.power.supplyStep + 1, power.supplyStepAt := nowNs s } := if_neg (by omega)

theorem nextSupply_last (h : s.power.supplyStep = 7) : nextSupply s = { s with power.mode := .booting, power.supplyFailures := 0 } :=
  if_pos h.ge

theorem failSupply_again (h : s.power.supplyFailures < 2) :
    failSupply s = { s with
      power.supplyStep := 3
      power.supplyStepAt := nowNs s + 10000000
      power.supplyFailures := s.power.supplyFailures + 1 } := if_neg (by omega)

theorem failSupply_third (h : 2 ≤ s.power.supplyFailures) :
    failSupply s = assertFault .supply { s with power.supplyStep := 0, power.supplyFailures := 3 } := if_pos h

/-! ## The boot (16 R375; 17 Table 17-9) -/

theorem exec_boot_noImage (f : BootFindings) (hm : s.power.mode = .booting) (hk : bootSlot s = none) :
    exec (.boot f) s = .next (assertFault .flash s) := by
  refine (exec_of_guard rfl (by rw [hm]; rfl)).trans (congrArg _ ?_)
  rw [hk]

/-! ## BOR (19 R418, R421; 16 R375) -/

/-- What a BOR that comes over a supplied device leaves. -/
theorem enterBor_facts (c : BorCause) (hs : supplied s = true) (hm : s.power.mode ≠ .heldInBor) :
    ColdFacts s (enterBor c s) ∧ (enterBor c s).power.mode = .heldInBor ∧
      (enterBor c s).power.bootFaults = s.power.bootFaults ++ [borRow c] ∧ (enterBor c s).dram = {} ∧
      (enterBor c s).power.history.head?.map (·.kind) = some 2 := by
  have entered : enterBor c s = { coldState false (noteReset 2 false s) with
      power := { keptPower (noteReset 2 false s) with
        mode := .heldInBor, borCauses := [c], bootFaults := s.power.bootFaults ++ [borRow c] } } :=
    (if_neg (by simp [hs])).trans (if_neg (by simpa using hm))
  rw [entered]
  refine ⟨⟨rfl, rfl, rfl, rfl, rfl, rfl, rfl, rfl, rfl, rfl, rfl, fun q hq => ?_, List.mem_cons_self, rfl, rfl⟩, rfl, rfl, rfl, rfl⟩
  obtain ⟨p, -, rfl⟩ := List.mem_map.1 hq
  rfl

/-- Between the thresholds VIN gives no BOR. -/
theorem bor_within {v : Nat} (low : 4050 ≤ v) (high : v ≤ 26000) : NoEffect (.bor v) s :=
  congrArg Host.Outcome.next ((if_neg (by omega)).trans ((if_neg (by omega)).trans (if_pos high)))

theorem exec_borRelease_held (hm : s.power.mode = .heldInBor) (hn : s.power.nrstLowSince.isSome = true) (hi : s.power.nrstIgnored = false) :
    exec .borRelease s = .next (holdReset { s with power.borCauses := [], power.vsafeLow := false }) :=
  (exec_of_guard rfl (by rw [hm]; rfl)).trans (congrArg Host.Outcome.next (if_pos (by rw [hn, hi]; rfl)))

/-! ## REFIN, the crystal and the I2C bus (19 R423, R424, R433) -/

theorem refinLost_again (hl : s.power.refinLost = true) : NoEffect .refinLost s := congrArg Host.Outcome.next (if_pos hl)

theorem refinRestored_present (hl : s.power.refinLost = false) : NoEffect .refinRestored s :=
  congrArg Host.Outcome.next (if_pos (by rw [hl]; rfl))

/-- A loss that had not stopped the device ends without a reset. -/
theorem exec_refinRestored_running (hl : s.power.refinLost = true) (hf : FaultCause.refin ∉ s.faults) :
    exec .refinRestored s = .next (releaseFault .refin { s with power.refinLost := false }) :=
  congrArg Host.Outcome.next ((if_neg (by simp [hl])).trans (if_neg (by simp [hf])))

/-- A loss that stops the device: FAULT_N, and what the device drives goes quiet. -/
theorem refinLost_stops (hl : s.power.refinLost = false) (hm : refinMonitored s = true) :
    Effect .refinLost s fun t => t.power.refinLost = true ∧ FaultCause.refin ∈ t.faults ∧ (∀ q ∈ t.chain.ports, q.driving = false) ∧
      (getNet t .A).link = false ∧ (getNet t .B).link = false := by
  refine effect_of_exec (exec_refinLost hl hm) ?_
  have ports (p : NetPort) := (logAlert_frame 0x0F 0x02 (tileTarget s) 0 0
    (assertFault .refin (quietDevice { s with power.refinLost := true }))).netPorts.getNet p
  rw [ports, ports, logAlert_alertFrame]
  refine ⟨?_, mem_assertFault .refin (quietDevice _), quietDevice_undriven, quietDevice_link .A _, quietDevice_link .B _⟩
  exact congrArg PowerState.refinLost (quietDevice_power { s with power.refinLost := true })

/-- REFIN's return after such a loss. -/
theorem refinRestored_resets (hl : s.power.refinLost = true) (hf : FaultCause.refin ∈ s.faults) (hm : refinMonitored s = true) :
    Effect .refinRestored s fun t => ColdFacts s t ∧ t.power.refinLost = false ∧ FaultCause.refin ∉ t.faults := by
  refine effect_of_exec (exec_refinRestored hl (List.contains_iff_mem.2 hf) hm) ?_
  refine ⟨coldReset_facts 4 (releaseFault .refin { s with power.refinLost := false }), rfl, ?_⟩
  have faults : (coldReset 4 (releaseFault .refin { s with power.refinLost := false })).faults = [.notBooted] := rfl
  rw [faults]
  decide

theorem i2cBusStuck_counted (recovered : Bool) (h : domainOn s .always = true) :
    Effect (.i2cBusStuck recovered) s fun t => t.i2c.stuck = !recovered ∧ t.i2c.faults = min 0xFFFF (s.i2c.faults + 1) := by
  refine effect_of_guard rfl h ?_
  have logged (t : State) : (logAlert 0x0F 0x05 (tileTarget s) 0 0 t).i2c = t.i2c := by rw [logAlert_alertFrame]
  rw [logged]
  exact ⟨rfl, inc16_eq_min _⟩

end Supplies

/-! ## The statement -/

/-- Settles O37: every row in each of its cases, by the lemmas above; the boot keeps the fuses and its slot because each of its parts does. -/
theorem powerUpSupplyAndClockRows : Obligations.PowerUpSupplyAndClockRows := by
  unfold Obligations.PowerUpSupplyAndClockRows
  refine ⟨fun s hm h1 h7 => ?steps, fun f s => ⟨fun hm => ?off, fun hm hk => ?noImage, fun k hm hk => ?image⟩, fun s hs hm => ?bor,
    fun s hm => ?release, fun s => ?clocks⟩
  case steps =>
    have work := supplyAtWork_step hm h1 h7
    refine ⟨powerUpStep_unready s, fun late h => ?next, fun late h => ?last, fun late h => ?again, fun late h => ?third⟩
    case next => exact effect_of_exec (exec_powerUpStep_ready work late) (nextSupply_next h)
    case last => exact effect_of_exec (exec_powerUpStep_ready work late) (nextSupply_last h)
    case again => exact effect_of_exec (exec_powerUpStepTimeout_late work late) (failSupply_again h)
    case third =>
      refine effect_of_exec (exec_powerUpStepTimeout_late work late) ?_
      rw [failSupply_third h]
      exact ⟨rfl, mem_assertFault ..⟩
  case off => exact noEffect_of_guard rfl (beq_eq_false_iff_ne.2 hm)
  case noImage => exact effect_of_exec (exec_boot_noImage f hm hk) ⟨rfl, mem_assertFault ..⟩
  case image =>
    refine effect_of_exec (exec_boot f hm hk) ?_
    obtain ⟨mode, running, booted, por⟩ := finishBoot_runs _
    exact ⟨mode, running, booted, bootFrom_active k f s, por, bootFrom_fuse k f s⟩
  case bor =>
    refine ⟨fun v hv => ?low, fun v hv => ?high, fun v => bor_within, fun b h => ?regulation, fun b => ?short, ?trip, ?none⟩
    case low =>
      exact effect_of_exec (congrArg Host.Outcome.next (if_pos hv))
        (enterBor_facts .vinLow (s := { s with power.vsafeLow := s.power.vsafeLow || decide (v < 2700) }) hs hm)
    case high =>
      obtain ⟨cold, held, noted, -⟩ := enterBor_facts .vinHigh hs hm
      exact effect_of_exec (exec_bor_high hv) ⟨cold, held, noted⟩
    case regulation =>
      obtain ⟨cold, -, noted, -⟩ := enterBor_facts .regulation hs hm
      exact effect_of_exec (exec_supplyFault b h) ⟨cold, noted⟩
    case short =>
      obtain ⟨cold, -, noted, -⟩ := enterBor_facts .short hs hm
      exact effect_of_exec rfl ⟨cold, noted⟩
    case trip =>
      obtain ⟨cold, held, noted, -⟩ := enterBor_facts .dieTrip hs hm
      exact effect_of_exec rfl ⟨cold, held, noted⟩
    case none => exact noEffect_of_guard rfl (beq_eq_false_iff_ne.2 hm)
  case release => exact ⟨fun hn => effect_of_exec (exec_borRelease hm hn) rfl, fun hn hi => effect_of_exec (exec_borRelease_held hm hn hi) rfl⟩
  case clocks =>
    exact ⟨refinLost_again, refinLost_stops, refinRestored_present, refinRestored_resets,
      fun hl hf => effect_of_exec (exec_refinRestored_running hl hf) rfl,
      fun c h => congrArg Host.Outcome.next (if_pos (beq_iff_eq.2 h)), fun c h => effect_of_exec (exec_crystalSourceChange h) rfl,
      fun rec => i2cBusStuck_counted rec, fun rec => noEffect_of_guard rfl⟩

end Sys2Proof.Machine
end

section
/-! PROOF. The step as a whole (00, 02): what the front command is to `exec` and an empty queue to the clock's tick, that every
meaning answers a next state, and what of the state each step leaves. -/

namespace Sys2Proof.Machine

/-- The front command runs on the queue's rest. -/
theorem step_front (i : Instr) (rest : List Instr) (s : State) :
    step { s with pending := i :: rest } = exec i { s with pending := rest } := rfl

theorem step_idle {s : State} (idle : s.pending = []) : step s = .next (tick s) := by
  rw [step, idle]

/-- Each arm of the dispatch is a meaning that ends in `.next`, whatever its conditions: none faults, none is refused. -/
theorem exec_completes (i : Instr) (s : State) : ∃ t, exec i s = .next t := by
  cases i <;> exact ⟨_, rfl⟩

theorem exec_pending {i : Instr} {s t : State} (h : exec i s = .next t) : t.pending = s.pending := (exec_steps i h).pending

/-- Settles O5: of the front command by `exec_steps`, of an idle tick by `tick_steps`. -/
theorem everyStepKeepsTheShape : Obligations.EveryStepKeepsTheShape := by
  unfold Obligations.EveryStepKeepsTheShape
  intro s t shaped h
  obtain ⟨i, rest, -, run⟩ | ⟨-, rfl⟩ := step_cases h
  · exact (exec_steps i run).shaped shaped
  · exact (tick_steps s).shaped shaped

/-- Settles O2: a step runs its front command on the queue's rest, which the command keeps. -/
theorem everyCommandCompletesAndKeepsTheQueue : Obligations.EveryCommandCompletesAndKeepsTheQueue := by
  unfold Obligations.EveryCommandCompletesAndKeepsTheQueue
  refine ⟨exec_completes, fun _ _ _ h => exec_pending h, fun i rest s t front h => ?_⟩
  rw [step, front] at h
  exact exec_pending h

/-- Settles O1. -/
theorem stepRunsTheFrontCommand : Obligations.StepRunsTheFrontCommand := by
  unfold Obligations.StepRunsTheFrontCommand
  exact ⟨step_front, fun s idle => ⟨step_idle idle, (tick_steps s).pending.trans idle⟩⟩

end Sys2Proof.Machine
end

section
/-! PROOF. The rows of the chains, of healing, of diagnosis and of the Almanac, each with its condition (06 R161, R171 to R175; 09 R236;
10 R249 to R272): under it the row is the function of its own meaning. -/

namespace Sys2Proof.Machine

section Rows
variable {s : State}

/-! ## A cell's answer (09 R236) -/

theorem exec_cellReadReply_arriving {p : Fin 48} {es : List (BitVec 16)} {ws : List Nat} (h : arrivingReply p es s = some ws) :
    exec (.cellReadReply p es) s = .next (modPort p (fun q => { q with read := none, answer := ws }) s) := by
  show execCellReadReply p es s = _
  rw [execCellReadReply, h]

/-! ## Moves of the meridian, trials and failed cells (10 R251, R256, R268) -/

theorem exec_takeoverBurst_some {l : Fin 24} {mv : Move} (h : (getLoop s l).move = some mv) :
    exec (.takeoverBurst l) s = .next (if mv.sent then s else takeover l mv s) := by
  show execTakeoverBurst l s = _
  rw [execTakeoverBurst, h]

theorem exec_takeoverBurst_unsent {l : Fin 24} {mv : Move} (h : (getLoop s l).move = some mv) (hs : mv.sent = false) :
    exec (.takeoverBurst l) s = .next (takeover l mv s) := by
  rw [exec_takeoverBurst_some h, hs]; rfl

theorem exec_takeoverCheck_some {l : Fin 24} {mv : Move} (h : (getLoop s l).move = some mv) :
    exec (.takeoverCheck l) s = .next (if !mv.sent then s
      else if farthestAnswers l mv.gaining s then completeMove l mv s
      else modPort (portOf l mv.gaining) (fun q => { q with missingNow := true }) s) := by
  show execTakeoverCheck l s = _
  rw [execTakeoverCheck, h]

theorem exec_takeoverCheck_answered {l : Fin 24} {mv : Move} (h : (getLoop s l).move = some mv) (hs : mv.sent = true)
    (hf : farthestAnswers l mv.gaining s = true) : exec (.takeoverCheck l) s = .next (completeMove l mv s) := by
  rw [exec_takeoverCheck_some h, hs, hf]; rfl

theorem exec_restoreTrial_some {l : Fin 24} {b : Nat} (h : trialLink l s = some b) :
    exec (.restoreTrial l) s = .next (if trialDue l s then restoreTrial l b s else s) := by
  show execRestoreTrial l s = _
  rw [execRestoreTrial, h]

theorem exec_cellFailed_some {l : Fin 24} {c : Fin 100} {x : CellRec} (h : (getLoop s l).cells[c.val]? = some x) :
    exec (.cellFailed l c) s = .next (if cellFails (nowNs s) x then failCell l c s else s) := by
  show execCellFailed l c s = _
  rw [execCellFailed, h]

/-! ## Ages and twinkle (10 R264, R272) -/

theorem exec_ageSweep (s : State) :
    exec .ageSweep s = .next (if s.chain.lastAgeSweep + 100000000 ≤ nowNs s && domainOn s .mem then sweepAges s else s) := rfl

theorem exec_twinkleDispatch (s : State) :
    exec .twinkleDispatch s = .next (if presenting s && s.chain.twinkle.enable && railsOn s then
      (agingCells s).foldl (fun t x => (List.range 32).foldl (fun u row => twinkleRow x.1 row u) t) s else s) := rfl

/-! ## The Almanac (06 R161, R171, R172, R175) -/

theorem exec_stressSample_some {f : FrameSums} (h : sampleDue s = some f) : exec .stressSample s = .next (takeSample f s) := by
  show execStressSample s = _
  rw [execStressSample, h]

theorem exec_recastDue_some {f : List Byte} (h : recastReady s = some f) : exec .recastDue s =
    .next (startRecast none f { s with almanac.nextRecast := some (recastAt s + s.almanac.interval * 3600000000000) }) := by
  show execRecastDue s = _
  rw [execRecastDue, h]

theorem exec_recastSwap_due (hb : boundaryDue s = true) (hf : s.fw.running = true) :
    exec .recastSwap s = .next (recastSwapEffect s) :=
  (exec_of_guard rfl hb).trans (congrArg _ (if_pos hf))

theorem exec_almanacFileReceived_some {o : LongOp} {f : List Byte} (h : loadReady s = some (o, f)) :
    exec .almanacFileReceived s = .next (takeFile o f s) := by
  show execAlmanacFileReceived s = _
  rw [execAlmanacFileReceived, h]

/-- A file whose load no stuck bus fails is judged by its CRC and by its sections. -/
theorem takeFile_received {o : LongOp} (f : List Byte) (h : ¬(prm o.req 0 1 = 1 ∧ s.i2c.stuck = true)) : takeFile o f s =
    if !fileCrcOk f then completeOp o.req.src o.req.tag St.checkFail [] s
    else if !(fileSectionsOk f && fileMatches o.req.src f s) then completeOp o.req.src o.req.tag St.badParam [] s
    else startLoad o f s := by
  rw [takeFile, if_neg (by simpa using h)]

end Rows

/-! ## The statement -/

/-- Settles O54: each row under its condition is its function, by the lemmas above where the row acts on what it finds. -/
theorem chainAndAlmanacRowsComplete : Obligations.ChainAndAlmanacRowsComplete := by
  unfold Obligations.ChainAndAlmanacRowsComplete
  refine ⟨fun p s => ?reports, fun l s => ?healing, fun s => ?diagnosis⟩
  case reports =>
    exact ⟨fun es h => exec_of_guard rfl h,
      fun es ws h => exec_cellReadReply_arriving h,
      fun h => exec_of_guard rfl h, fun h => exec_of_guard rfl h, fun h => exec_of_guard rfl h⟩
  case healing =>
    exact ⟨fun mv h hs => exec_takeoverBurst_unsent h hs, fun mv h hs hf => exec_takeoverCheck_answered h hs hf,
      fun b h hd => (exec_restoreTrial_some h).trans (congrArg _ (if_pos hd)), fun c h => exec_of_guard rfl h,
      fun c x h hf => (exec_cellFailed_some h).trans (congrArg _ (if_pos hf))⟩
  case diagnosis =>
    refine ⟨fun h => exec_of_guard rfl h, fun ht hm => exec_of_guard (exec_ageSweep s) (by rw [decide_eq_true ht, hm]; rfl),
      fun hp he hr => exec_of_guard (exec_twinkleDispatch s) (by rw [hp, he, hr]; rfl), fun f => exec_stressSample_some,
      fun f => exec_recastDue_some, exec_recastSwap_due, fun o f h hi hc hs hm => ?load⟩
    case load => rw [exec_almanacFileReceived_some h, takeFile_received f hi, hc, hs, hm]; rfl

end Sys2Proof.Machine
end

section
/-! PROOF. The rows of presentation, of camera sync, of composition and of the power ledger, each with its condition (04 R105, R126;
07 R184 to R193; 08 R199 to R210; 09 R225, R226): under it the row is the function of its own meaning. -/

namespace Sys2Proof.Machine

section Rows
variable {s : State}

/-! ## Frames, uploads, the latch and the transit (08 R199, R204; 09 R225, R226) -/

theorem exec_presentationFrameStart_some {x : SlotAt} (h : frameInProgress s = some x) :
    exec .presentationFrameStart s = .next (if frameStartDue s then startFrame x s else s) := by
  show execPresentationFrameStart s = _
  rw [execPresentationFrameStart, h]

theorem exec_prefetchStart (s : State) :
    exec .prefetchStart s = .next (if uploadWanted s && slotDue s (uploadPeriod (fullestPort s) + 100000) then
      (activePorts s).foldl (fun t p => modPort p (fun q => { q with prefetched := true })
        { t with pres.fill := setAt t.pres.fill p fifoSize }) s else s) := rfl

theorem exec_uploadStart (s : State) :
    exec .uploadStart s = .next (if presenting s && s.pres.upload.isNone && !s.pres.armed &&
      slotDue s (uploadPeriod (fullestPort s)) then startUpload s else s) := rfl

theorem exec_fifoUnderrun_some {p : Fin 48} {row : Fin 32} {u : Sent} (h : s.pres.upload = some u) :
    exec (.fifoUnderrun p row) s =
      .next (if (getPort s p).uploading && !(getPort s p).underran.contains row.val then fillRow p row u s else s) := by
  show execFifoUnderrun p row s = _
  rw [execFifoUnderrun, h]

theorem exec_latchLaunch (s : State) :
    exec .latchLaunch s = .next (if presenting s && s.pres.armed && !s.pres.launched && slotDue s 1000 then
      { s with pres.launched := true } else s) := rfl

/-! ## Magnitudes and headroom (07 R184, R188) -/

theorem exec_magnitudeFix_some {f : FrameSums} {later : List FrameSums} (h : unfixed s = f :: later) :
    exec .magnitudeFix s = .next (fixFrame f later s) := by
  show execMagnitudeFix s = _
  rw [execMagnitudeFix, h]

theorem exec_headroomRequest_ok {h : HeadroomReq} (ok : headroomOk s h = true) : exec (.headroomRequest h) s =
    .next (noteRefusal h true { s with ledger.grants := s.ledger.grants ++ [⟨h.who, h.rail, h.window, h.current⟩] }) :=
  congrArg Host.Outcome.next (if_pos ok)

theorem exec_railStaggerExpiry_due {r : Nat} (h : staggerDue s = some r) :
    exec .railStaggerExpiry s = .next (raiseRail r s) := by
  rw [exec_railStaggerExpiry, execRailStaggerExpiry, h]

end Rows

/-! ## The statement -/

/-- Settles O55: each row under its condition is its function, by the lemmas above where the row acts on what it finds or its condition
has more than one part. -/
theorem presentationAndLedgerRowsComplete : Obligations.PresentationAndLedgerRowsComplete := by
  unfold Obligations.PresentationAndLedgerRowsComplete
  refine ⟨fun s => ?presentation, fun s => ?ledger⟩
  case presentation =>
    exact ⟨fun x h hd => (exec_presentationFrameStart_some h).trans (congrArg _ (if_pos hd)),
      fun hw hd => exec_of_guard (exec_prefetchStart s) (by rw [hw, hd]; rfl),
      fun hp hu ha hd => exec_of_guard (exec_uploadStart s) (by rw [hp, hu, ha, hd]; rfl),
      fun p row u h hp hr => (exec_fifoUnderrun_some h).trans (congrArg _ (if_pos (by rw [hp, hr]; rfl))),
      fun h => exec_of_guard rfl h, fun hp ha hl hd => exec_of_guard (exec_latchLaunch s) (by rw [hp, ha, hl, hd]; rfl),
      fun h => exec_of_guard rfl h, fun i e falling width h hw => exec_camSyncEdge_taken e h hw,
      fun i h => exec_of_guard (exec_syncEdgeMissing i s) h, fun i h => exec_of_guard (exec_genlockCheck i s) h,
      fun c => exec_compositeComplete_some, fun b => exec_slideFillComplete_some⟩
  case ledger =>
    exact ⟨fun f later => exec_magnitudeFix_some, fun h => exec_headroomRequest_ok, fun h => exec_of_guard (exec_railStart s) h,
      fun r => exec_railStaggerExpiry_due, fun r reported h => exec_of_guard (exec_railInRegulation r reported s) h,
      fun r ua h => exec_of_guard rfl h, fun i1 i2 => rfl, fun h => exec_of_guard (exec_inputOvercurrent1s s) h,
      fun lux h => exec_of_guard (exec_ambientSensorRead lux s) h, fun h => exec_of_guard (exec_ambientFallbackTimeout s) h⟩

end Sys2Proof.Machine
end

section
/-! PROOF. The rows of temperature, of calibration, of self-test, of the DRAM and of storage, each with its condition (01 R22 to R27;
11 R276 to R297; 12; 13 R309 to R317; 17 R378 to R392): under it the row is the function of its own meaning. -/

namespace Sys2Proof.Machine

section Rows
variable {s : State}

/-! ## Sensors and calibration (11 R282, R283; 12 R303) -/

theorem exec_sensorBroken (i : Fin 16) (s : State) :
    exec (.sensorBroken i) s = .next (if (getSensor s i).status == .heldOut && 16 ≤ (getSensor s i).held then
      breakSensor i .brokenByCheck s else s) := rfl

theorem exec_calibrationSlice_running {x : CalRun} (m : CalMeasure) (h : s.trim.run = some x) (hf : s.fw.running = true)
    (hm : meterOn s = true) : exec (.calibrationSlice m) s = .next (calSlice x m s) := by
  show execCalibrationSlice m s = _
  rw [execCalibrationSlice, h, hf, hm]; rfl

/-! ## Self-test (13 R309, R315) -/

theorem exec_bistSlice_operation (pass : Bool) {o : BistOp} {rest : List BistOp} (h : bistRuns s = true)
    (hw : s.ledger.refuseWork = false) (ho : s.bist.ops = o :: rest) : exec (.bistSlice pass) s = .next (opSlice o pass s) := by
  rw [exec_bistSlice, if_pos h, runSlice_operation pass hw ho]

theorem exec_bistSlice_cycle (pass : Bool) (h : bistRuns s = true) (hw : s.ledger.refuseWork = false) (ho : s.bist.ops = [])
    (hc : cycleDue s = true) : exec (.bistSlice pass) s = .next (cycleSlice pass s) := by
  rw [exec_bistSlice, if_pos h, runSlice_cycle pass hw ho, if_pos hc]

theorem exec_bistCycleOverrun (s : State) : exec .bistCycleOverrun s = .next (if s.fw.running && overrunDue s then
    logAlert 0x0A 0x04 (tileTarget s) 0 (inc16 s.bist.overruns)
      { s with bist.overruns := inc16 s.bist.overruns, bist.overrunLogged := true } else s) := rfl

/-! ## Storage (17 R378 to R392; 11 R297) -/

theorem exec_journalCommit_front {w : FlashWrite} (h : flashFront s = some w) : exec .journalCommit s = .next (commitFront w s) := by
  show execJournalCommit s = _
  rw [execJournalCommit, h]

theorem exec_journalCompaction (s : State) :
    exec .journalCompaction s =
      .next (if s.fw.running && s.therm.shutdownAt.isNone && erasedBlocks s < 8 then compact s else s) := rfl

/-- The grace window of the write at the front of the queue. -/
theorem exec_flashGraceWindowExpiry_front {at_ : Nat} {w : FlashWrite} {rest : List FlashWrite} (hg : s.therm.graceFrom = some at_)
    (hq : s.flash.queue = w :: rest) (ht : at_ + 8000000 ≤ nowNs s) : exec .flashGraceWindowExpiry s =
      .next (if w.begun then failWrite w (tearFront { s with therm.graceFrom := none }) else { s with therm.graceFrom := none }) := by
  show execFlashGraceWindowExpiry s = _
  rw [execFlashGraceWindowExpiry, hg, hq]
  exact congrArg _ (if_pos ht)

theorem exec_checkpointWrite_free (hd : checkpointDue s = true) (ht : s.therm.shutdownAt = none) (hq : s.flash.queue = []) :
    exec .checkpointWrite s = .next (queueCheckpoint .checkpoint none s) := by
  show execCheckpointWrite s = _
  rw [execCheckpointWrite, hd, ht, hq]; rfl

theorem exec_checkpointErase_free {g : Nat} (h : s.flash.dirty = some g) (hf : s.fw.running = true) (ht : s.therm.shutdownAt = none)
    (hm : s.power.mode ≠ .enteringNadir) (hq : ∀ w ∈ s.flash.queue, w.begun = false) :
    exec .checkpointErase s = .next (eraseCheckpoint g s) := by
  have idle : s.flash.queue.any (·.begun) = false := List.any_eq_false.2 fun w hw => Bool.eq_false_iff.1 (hq w hw)
  show execCheckpointErase s = _
  rw [execCheckpointErase, h, hf, ht, idle, bne_iff_ne.2 hm]; rfl

theorem exec_flashScrub (bad : List (Nat × Nat)) (s : State) :
    exec (.flashScrub bad) s = .next (if s.fw.running && s.flash.scrubbedAt + 604800000000000 ≤ nowNs s then
      bad.eraseDups.foldl (fun t x => scrubObject (1 < bad.count x) x t) { s with flash.scrubbedAt := nowNs s } else s) := rfl

end Rows

/-! ## The statement -/

/-- Settles O56: each row under its condition is its function, by the lemmas above where the row acts on what it finds or its condition
has more than one part. -/
theorem temperatureTestAndStorageRowsComplete : Obligations.TemperatureTestAndStorageRowsComplete := by
  unfold Obligations.TemperatureTestAndStorageRowsComplete
  refine ⟨fun s => ?temperature, fun s => ?selfTest, fun s => ?storage⟩
  case temperature =>
    exact ⟨fun rs mw h => exec_of_guard rfl h, fun d h => exec_of_guard rfl h, fun d h => exec_of_guard rfl h,
      fun i x h => exec_of_guard rfl h, fun mv h => exec_of_guard rfl h,
      fun i hs hh => exec_of_guard (exec_sensorBroken i s) (by rw [hs, decide_eq_true hh]; rfl), fun i h => exec_of_guard rfl h,
      fun h => exec_of_guard rfl h, fun h => exec_of_guard rfl h, fun r h => exec_of_guard rfl h,
      fun x m => exec_calibrationSlice_running m⟩
  case selfTest =>
    exact ⟨fun pass o rest => exec_bistSlice_operation pass, fun pass => exec_bistSlice_cycle pass, fun block => exec_bistRetest_pass block,
      fun hf hd => exec_of_guard (exec_bistCycleOverrun s) (by rw [hf, hd]; rfl),
      fun hp => ⟨fun a flips ha => exec_of_guard rfl (by rw [hp, decide_eq_true ha]; rfl), fun die row => exec_dramRowRemap die row hp,
        exec_of_guard (exec_dramScrub s) hp, fun hr => exec_of_guard (exec_selfRefreshEntry s) (by rw [hp, hr]; rfl),
        exec_of_guard (exec_selfRefreshExit s) hp⟩⟩
  case storage =>
    exact ⟨fun w => exec_journalCommit_front, fun h => exec_of_guard rfl h,
      fun hf ht he => exec_of_guard (exec_journalCompaction s) (by rw [hf, ht, decide_eq_true he]; rfl),
      fun at_ w rest hg hq ht hb => (exec_flashGraceWindowExpiry_front hg hq ht).trans (congrArg _ (if_pos hb)),
      exec_checkpointWrite_free, fun g => exec_checkpointErase_free,
      fun bad hf ht => exec_of_guard (exec_flashScrub bad s) (by rw [hf, decide_eq_true ht]; rfl), fun h => exec_of_guard rfl h⟩

end Sys2Proof.Machine
end

section
/-! PROOF. Frames, ARP and echo requests (03 R76, R78 to R80, Table 3-2): what each of the screens makes of a frame, the unicast frame that
only passes through, and the one frame that carries an echo reply. -/

namespace Sys2Proof.Machine

section Frames
variable {p : NetPort} {bytes : List Byte} {s : State}

/-! ## Frames that are not whole, and the tile's own (03 R79, R80, Table 3-2) -/

/-- What is ended of a frame that is not whole leaves the rest as it was. -/
theorem passBroken_eq (q : NetPort) (b : List Byte) (s : State) :
    passBroken q b s = { s with net := { s.net with tx := (passBroken q b s).net.tx } } := by
  unfold passBroken
  split <;> rfl

theorem takeFrame_tooLong (h : 9022 < bytes.length) : takeFrame p bytes s =
    passBroken (otherPort p) (bytes.take 9022) { s with net.tooLong := inc32 s.net.tooLong } := if_pos h

theorem takeFrame_badFcs (hl : bytes.length ≤ 9022) (hc : fcsOk bytes = false) : takeFrame p bytes s =
    passBroken (otherPort p) bytes { s with net.badFcs := inc32 s.net.badFcs } := by
  rw [takeFrame, screened, if_neg (Nat.not_lt.2 hl), hc]; rfl

theorem takeFrame_ownMac (hl : bytes.length ≤ 9022) (hc : fcsOk bytes = true)
    (hm : Frame.src ⟨bytes.take (bytes.length - 4)⟩ = s.fuse.mac) : takeFrame p bytes s = seeLoop s := by
  rw [takeFrame, screened, if_neg (Nat.not_lt.2 hl), hc]
  exact if_pos hm

theorem seeLoop_loopSince (s : State) : (seeLoop s).net.loopSince = some (nowNs s) := by
  unfold seeLoop
  dsimp only
  split
  · rfl
  · rw [raiseAlert_alertFrame]

/-! ## Frames for other stations (03 R78) -/

/-- A unicast frame for another station goes out of the other port, where that port is up. -/
theorem forwards_unicast {q : NetPort} {f : Frame} (hq : portUp s q = true) (hs : f.src ≠ s.fuse.mac) (hd : f.dst ≠ s.fuse.mac)
    (hm : f.multicast = false) : forwards s q f = true := by
  simp [forwards, hq, hs, hd, hm]

/-- The tile itself does nothing with it. -/
theorem consume_otherStation {f : Frame} (hd : f.dst ≠ s.fuse.mac) (hm : f.multicast = false) (hb : f.broadcast = false) :
    consume p f s = s := by
  simp [consume, hd, hm, hb]

theorem takeFrame_passes (hl : bytes.length ≤ 9022) (hc : fcsOk bytes = true)
    (hs : Frame.src ⟨bytes.take (bytes.length - 4)⟩ ≠ s.fuse.mac) (hd : Frame.dst ⟨bytes.take (bytes.length - 4)⟩ ≠ s.fuse.mac)
    (hm : Frame.multicast ⟨bytes.take (bytes.length - 4)⟩ = false) (hb : Frame.broadcast ⟨bytes.take (bytes.length - 4)⟩ = false)
    (he : isPtpEvent ⟨bytes.take (bytes.length - 4)⟩ = false) (hf : foreignPtp ⟨bytes.take (bytes.length - 4)⟩ = false)
    (hq : portUp s (otherPort p) = true) : takeFrame p bytes s = send (.forwarded (otherPort p) bytes) s := by
  rw [takeFrame, screened_good _ hl hc hs, he, forwards_unicast hq hs hd hm, passOn, hf]
  exact consume_otherStation (s := send (.forwarded (otherPort p) bytes) s) hd hm hb

/-! ## ARP and ICMP (03 R76) -/

theorem answerArp_other {mac ip target : Nat} (h : target ≠ ownIp s) : answerArp p mac ip target s = s := if_neg h

theorem answerEcho_other {mac ip dst : Nat} {body : List Byte} (h : dst ≠ ownIp s) : answerEcho p mac ip dst body s = s := if_neg h

/-- What is no longer than one chunk is one chunk. -/
theorem chunks_single {α : Type} {n : Nat} {l : List α} (hn : l ≠ []) (hl : l.length ≤ n) : chunks n l = [l] := by
  obtain ⟨a, l, rfl⟩ := List.exists_cons_of_ne_nil hn
  simp [chunks, chunksFuel, List.take_of_length_le hl, List.drop_of_length_le hl]

theorem ipRoom_ge (p : NetPort) (s : State) : 1472 ≤ ipRoom p s := by
  unfold ipRoom
  split <;> decide

/-- IP data of at most 1,472 bytes go in one frame. -/
theorem ipFrames_single {mac ident dst proto : Nat} {data : List Byte} (hn : data ≠ []) (hl : data.length ≤ 1472) :
    ∃ f, ipFrames p mac ident dst proto data s = [f] := by
  rw [ipFrames, chunks_single hn (hl.trans (ipRoom_ge p s))]
  exact ⟨_, rfl⟩

theorem sendIp_single {mac dst proto : Nat} {data : List Byte} (hn : data ≠ []) (hl : data.length ≤ 1472) :
    ∃ f, sendIp p mac dst proto data s = send (.frame p f) (nextFree s) := by
  obtain ⟨f, hf⟩ := ipFrames_single (p := p) (s := s) (mac := mac) (ident := Config.ipIdent s.freeCount % 65536) (dst := dst)
    (proto := proto) hn hl
  exact ⟨f, by rw [sendIp, hf]; rfl⟩

theorem echoReply_length (body : List Byte) : (echoReply body).length = body.length + 4 := by
  simp +arith [echoReply, u16, ube]

end Frames

/-! ## The statement -/

/-- Settles O31: each frame as the screens above leave it; the frame of an echo reply is the only one of its datagram. -/
theorem framesAndAnswers : Obligations.FramesAndAnswers := by
  unfold Obligations.FramesAndAnswers
  refine ⟨fun p bytes s => ⟨fun h => noEffect_of_guard rfl h, fun h hl => ?tooLong, fun h hl hc => ?badFcs, fun h hl hc hm => ?loop,
    fun h hl hc hs hd hm hb he hf hq => ?passes⟩, fun p s mac ip dst body => ⟨?other, fun h hd => ⟨?arp, fun hl => ?echo⟩⟩⟩
  case tooLong =>
    refine effect_of_exec ((exec_ethernetFrameReceive h).trans (by rw [takeFrame_tooLong hl])) ?_
    rw [inc32_eq_min]
    exact passBroken_eq ..
  case badFcs =>
    refine effect_of_exec ((exec_ethernetFrameReceive h).trans (by rw [takeFrame_badFcs hl hc])) ?_
    rw [inc32_eq_min]
    exact passBroken_eq ..
  case loop =>
    exact effect_of_exec ((exec_ethernetFrameReceive h).trans (by rw [takeFrame_ownMac hl hc hm])) (seeLoop_loopSince s)
  case passes =>
    exact effect_of_exec ((exec_ethernetFrameReceive h).trans (by rw [takeFrame_passes hl hc hs hd hm hb he hf hq])) rfl
  case other =>
    rintro (h | h)
    · exact ⟨noEffect_of_guard rfl h, noEffect_of_guard rfl h⟩
    · exact ⟨congrArg Host.Outcome.next (by rw [answerArp_other h, ite_self]),
        congrArg Host.Outcome.next (by rw [answerEcho_other h, ite_self])⟩
  case arp => exact effect_of_exec (exec_of_guard rfl h) (if_pos hd)
  case echo =>
    obtain ⟨f, hf⟩ := sendIp_single (p := p) (s := s) (mac := mac) (dst := ip) (proto := 1) (data := echoReply body)
      (List.ne_nil_of_length_pos (by rw [echoReply_length]; omega)) (by rw [echoReply_length]; omega)
    rw [hd]
    exact ⟨_, exec_icmpEchoRequest mac ip body h, f, hf⟩

end Sys2Proof.Machine
end

section
/-! PROOF. Localisation, the moves of the meridian, restore trials and failed cells (10 R249 to R251, R256, R268): what alerts, fault records
and commands to cells leave of the loops, and the loop that each row leaves. -/

namespace Sys2Proof.Machine

/-! ## What leaves the loops as they are -/

theorem AlertFrame.chain {s t : State} (h : AlertFrame s t) : t.chain = s.chain := by rw [h]

@[simp] theorem raiseAlert_chain (c e : Nat) (x : BitVec 64) (st d : Nat) (n : Bool) (s : State) :
    (raiseAlert c e x st d n s).chain = s.chain := (raiseAlert_alertFrame ..).chain

@[simp] theorem logAlert_chain (c e : Nat) (x : BitVec 64) (st d : Nat) (s : State) : (logAlert c e x st d s).chain = s.chain :=
  (logAlert_alertFrame ..).chain

theorem getLoop_congr {s t : State} (h : t.chain.loops = s.chain.loops) (l : Nat) : getLoop t l = getLoop s l := by
  rw [getLoop, h]; rfl

@[simp] theorem getLoop_raiseAlert (c e : Nat) (x : BitVec 64) (st d : Nat) (n : Bool) (s : State) (l : Nat) :
    getLoop (raiseAlert c e x st d n s) l = getLoop s l := getLoop_congr (by rw [raiseAlert_chain]) l

@[simp] theorem getLoop_logAlert (c e : Nat) (x : BitVec 64) (st d : Nat) (s : State) (l : Nat) :
    getLoop (logAlert c e x st d s) l = getLoop s l := getLoop_congr (by rw [logAlert_chain]) l

@[simp] theorem getLoop_clearAlert (c e : Nat) (x : BitVec 64) (s : State) (l : Nat) : getLoop (clearAlert c e x s) l = getLoop s l := rfl

@[simp] theorem getLoop_addFault (x : BitVec 64) (k d : Nat) (suppressed double : Bool) (s : State) (l : Nat) :
    getLoop (addFault x k d suppressed double s) l = getLoop s l := by
  refine getLoop_congr ?_ l
  unfold addFault
  dsimp only
  split
  · split <;> simp
  · split <;> simp

@[simp] theorem getLoop_clearFault (x : BitVec 64) (k d : Nat) (s : State) (l : Nat) : getLoop (clearFault x k d s) l = getLoop s l := by
  unfold clearFault
  dsimp only
  split <;> rfl

@[simp] theorem getLoop_recordLink (i b : Nat) (double : Bool) (s : State) (l : Nat) :
    getLoop (recordLink i b double s) l = getLoop s l := by
  unfold recordLink
  split
  · exact getLoop_addFault ..
  · rfl

/-- Frames on the lanes of a loop reach the plant alone. -/
@[simp] theorem ite_modPlant_chain (c : Prop) [Decidable c] (l : Nat) (f : PlantLoop → PlantLoop) (s : State) :
    (if c then modPlant l f s else s).chain = s.chain := by
  split <;> rfl

@[simp] theorem getLoop_bothMeridian (i m k : Nat) (s : State) (l : Nat) : getLoop (bothMeridian i m k s) l = getLoop s l :=
  getLoop_congr (by simp [bothMeridian]) l

/-- A command to a cell reaches the plant, or waits in its port for the end of the upload. -/
theorem commandTo_chain (l c op reg : Nat) (ws : List Nat) (s : State) :
    (commandTo l c op reg ws s).chain.loops = s.chain.loops ∧ (commandTo l c op reg ws s).chain.faults = s.chain.faults := by
  unfold commandTo sendCommand portSend
  dsimp only
  split
  · exact ⟨rfl, rfl⟩
  · split <;> exact ⟨rfl, rfl⟩

@[simp] theorem getLoop_commandTo (i c op reg : Nat) (ws : List Nat) (s : State) (l : Nat) :
    getLoop (commandTo i c op reg ws s) l = getLoop s l := getLoop_congr (commandTo_chain ..).1 l

/-! ## Loops and ports that are changed -/

@[simp] theorem getLoop_modPort (p : Nat) (f : ChainPort → ChainPort) (s : State) (l : Nat) : getLoop (modPort p f s) l = getLoop s l := rfl

theorem getLoop_modLoop_same {s : State} {l : Nat} (f : LoopState → LoopState) (h : l < s.chain.loops.length) :
    getLoop (modLoop l f s) l = f (getLoop s l) := by rw [getLoop_modLoop _ _ _ _ h, if_pos rfl]

theorem getPort_modPort_same {s : State} {p : Nat} (f : ChainPort → ChainPort) (h : p < s.chain.ports.length) :
    getPort (modPort p f s) p = f (getPort s p) := by rw [getPort_modPort _ _ _ _ h, if_pos rfl]

/-- What a change keeps of every loop it keeps of the loop that it is made to. -/
theorem getLoop_modLoop_keeps {α : Type} (part : LoopState → α) {f : LoopState → LoopState} (h : ∀ x, part (f x) = part x) (l : Nat)
    (s : State) (j : Nat) : part (getLoop (modLoop l f s) j) = part (getLoop s j) := by
  by_cases hl : l < s.chain.loops.length
  · rw [getLoop_modLoop _ _ _ _ hl]
    split
    · exact h _
    · rfl
  · simp only [getLoop, modLoop, modAt, List.modify_eq_self (Nat.not_lt.1 hl)]

theorem portLoop_lt {s : State} (h : Shaped s) (p : Fin 48) : portLoop p < s.chain.loops.length := by
  obtain ⟨-, -, loops, -⟩ := h
  rw [loops, portLoop]
  omega

theorem portOf_lt {s : State} (h : Shaped s) (l : Fin 24) (e : Side) : portOf l e < s.chain.ports.length := by
  obtain ⟨-, -, -, ports, -⟩ := h
  rw [ports]
  cases e <;> simp only [portOf] <;> omega

theorem Shaped.port {s : State} (h : Shaped s) (p : Fin 48) : p.val < s.chain.ports.length := by
  obtain ⟨-, -, -, ports, -⟩ := h
  omega

theorem Shaped.loop {s : State} (h : Shaped s) (l : Fin 24) : l.val < s.chain.loops.length := by
  obtain ⟨-, -, loops, -⟩ := h
  omega

/-! ## Localisation (10 R249, R250, Table 10-10) -/

section Localisation
variable {p : Nat} {s : State}

/-- The port whose search has run. -/
def searched (p : Nat) (s : State) : State := modPort p (fun q => { q with missingNow := false }) s

/-- The link that follows the last fed cell that answers a port. -/
def foundBreak (p : Nat) (s : State) : Nat :=
  linkAfter (getLoop s (portLoop p)).cells.length (portSide p)
    (answeringHops (getPlant s (portLoop p)) (portSide p) ((getLoop s (portLoop p)).fedCells (portSide p)).length)

theorem localise_allAnswer (hm : (getLoop s (portLoop p)).move = none)
    (h : answeringHops (getPlant s (portLoop p)) (portSide p) ((getLoop s (portLoop p)).fedCells (portSide p)).length =
      ((getLoop s (portLoop p)).fedCells (portSide p)).length) : localise p s = searched p s := by
  unfold localise
  dsimp only
  rw [hm]
  exact if_pos h

theorem localise_firstBreak (hm : (getLoop s (portLoop p)).move = none)
    (h : answeringHops (getPlant s (portLoop p)) (portSide p) ((getLoop s (portLoop p)).fedCells (portSide p)).length ≠
      ((getLoop s (portLoop p)).fedCells (portSide p)).length) (hh : (getLoop s (portLoop p)).healed = false) :
    localise p s = beginMove (portLoop p) (foundBreak p s) (portSide p).other (foundBreak p s)
      (modLoop (portLoop p) (fun x => { x with trial := false, healed := false, broken := [] }) (searched p s)) := by
  unfold localise
  dsimp only
  rw [hm, hh]
  exact if_neg h

theorem localise_secondBreak (hm : (getLoop s (portLoop p)).move = none)
    (h : answeringHops (getPlant s (portLoop p)) (portSide p) ((getLoop s (portLoop p)).fedCells (portSide p)).length ≠
      ((getLoop s (portLoop p)).fedCells (portSide p)).length) (hh : (getLoop s (portLoop p)).healed = true)
    (ht : (getLoop s (portLoop p)).trial = false) : localise p s = doubleFault (portLoop p) (foundBreak p s) (searched p s) := by
  unfold localise
  dsimp only
  rw [hm, hh, ht]
  exact if_neg h

end Localisation

theorem beginMove_move {s : State} {l : Nat} (h : l < s.chain.loops.length) (m : Nat) (gaining : Side) (link : Nat) :
    (getLoop (beginMove l m gaining link s) l).move = some ⟨m, gaining, link, false⟩ := by
  rw [beginMove, getLoop_modLoop_same _ h]

/-- A cell between two breaks is marked; the breaks of its loop stand. -/
theorem markDead_breaks (l h : Nat) (s : State) (j : Nat) :
    ((getLoop (markDead l h s) j).doubleFault, (getLoop (markDead l h s) j).broken) =
      ((getLoop s j).doubleFault, (getLoop s j).broken) := by
  have marked (t : State) (ht : getLoop t j = getLoop (modLoop l (fun lp => lp.modCell (h - 1) (fun r => { r with dead := true, failed := true })) s) j) :
      ((getLoop t j).doubleFault, (getLoop t j).broken) = ((getLoop s j).doubleFault, (getLoop s j).broken) := by
    rw [ht]
    exact getLoop_modLoop_keeps (fun x => (x.doubleFault, x.broken)) (f := fun lp => lp.modCell (h - 1) _) (fun _ => rfl) l s j
  unfold markDead
  dsimp only
  rw [getLoop_logAlert]
  split
  · exact marked _ (getLoop_addFault ..)
  · exact marked _ rfl

/-- The second break of a loop is noted with the first. -/
theorem doubleFault_loop {s : State} {l : Nat} (h : l < s.chain.loops.length) (b : Nat) :
    (getLoop (doubleFault l b s) l).doubleFault = true ∧ b ∈ (getLoop (doubleFault l b s) l).broken := by
  unfold doubleFault
  dsimp only
  rw [getLoop_raiseAlert, getLoop_recordLink]
  have breaks (hs : List Nat) (t : State) := foldl_keeps (fun u => ((getLoop u l).doubleFault, (getLoop u l).broken))
    (f := fun t c => markDead l (c + 1) t) (fun t c => markDead_breaks l (c + 1) t l) hs t
  simp only [Prod.mk.injEq] at breaks
  rw [(breaks ..).1, (breaks ..).2, getLoop_modLoop_same _ h]
  refine ⟨rfl, ?_⟩
  by_cases hb : b ∈ (getLoop s l).broken <;> simp [hb]

/-! ## The move and its check (10 R251) -/

theorem takeover_loop {s : State} {l : Nat} (h : l < s.chain.loops.length) (mv : Move) :
    (getLoop (takeover l mv s) l).m = mv.m ∧ (getLoop (takeover l mv s) l).move = some { mv with sent := true } := by
  unfold takeover
  dsimp only
  rw [getLoop_modLoop_same]
  · exact ⟨rfl, rfl⟩
  · simpa using h

theorem completeMove_loop {s : State} {l : Nat} (h : l < s.chain.loops.length) (mv : Move) :
    (getLoop (completeMove l mv s) l).healed = true ∧ (getLoop (completeMove l mv s) l).move = none ∧
      mv.link ∈ (getLoop (completeMove l mv s) l).broken ∧
      (getLoop (completeMove l mv s) l).heals = min 0xFFFF ((getLoop s l).heals + 1) := by
  unfold completeMove
  dsimp only
  rw [getLoop_raiseAlert, getLoop_recordLink, getLoop_modLoop_same _ h]
  refine ⟨rfl, rfl, ?_, inc16_eq_min _⟩
  by_cases hb : mv.link ∈ (getLoop s l).broken <;> simp [hb]

theorem exec_takeoverCheck_silent {l : Fin 24} {mv : Move} {s : State} (h : (getLoop s l).move = some mv) (hs : mv.sent = true)
    (hf : farthestAnswers l mv.gaining s = false) :
    exec (.takeoverCheck l) s = .next (modPort (portOf l mv.gaining) (fun q => { q with missingNow := true }) s) := by
  rw [exec_takeoverCheck_some h, hs, hf]; rfl

theorem takeover_none {l : Fin 24} {s : State} (h : (getLoop s l).move = none) :
    NoEffect (.takeoverBurst l) s ∧ NoEffect (.takeoverCheck l) s := by
  constructor
  · show execTakeoverBurst l s = _
    rw [execTakeoverBurst, h]
  · show execTakeoverCheck l s = _
    rw [execTakeoverCheck, h]

/-! ## Restore trials (10 R256) -/

theorem restoreTrial_notDue {l : Fin 24} {s : State} (h : trialLink l s = none ∨ trialDue l s = false) :
    NoEffect (.restoreTrial l) s := by
  show execRestoreTrial l s = _
  rw [execRestoreTrial]
  obtain h | h := h
  · rw [h]
  · rw [h]
    split <;> rfl

/-- What a loop notes of its latest trial. -/
def LoopState.trialNote (x : LoopState) : Nat × Bool := (x.lastTrial, x.restoreNow)

/-- The burst of a move keeps what its note of the meridian keeps. -/
theorem burst_keeps {α : Type} (part : LoopState → α) (h : ∀ (x : LoopState) m, part { x with m := m, moveDue := false } = part x)
    (l m : Nat) (s : State) (j : Nat) : part (getLoop (burst l m s) j) = part (getLoop s j) := by
  unfold burst
  dsimp only
  rw [getLoop_modLoop_keeps part fun x => h x m]
  exact congrArg part (getLoop_congr (by simp) j)

/-- Whatever the trial finds, the loop notes it. -/
theorem restoreTrial_loop {s : State} {l : Nat} (h : l < s.chain.loops.length) (b : Nat) :
    (getLoop (restoreTrial l b s) l).lastTrial = nowNs s ∧ (getLoop (restoreTrial l b s) l).restoreNow = false := by
  have start : (getLoop (modLoop l (fun x => { x with lastTrial := nowNs s, restoreNow := false }) s) l).trialNote = (nowNs s, false) := by
    rw [getLoop_modLoop_same _ h]; rfl
  suffices noted : (getLoop (restoreTrial l b s) l).trialNote = (nowNs s, false) from Prod.mk.inj noted
  unfold restoreTrial
  dsimp only
  refine iteInduction (motive := fun t => (getLoop t l).trialNote = _) (fun _ => ?_) (fun _ => ?_)
  · rw [getLoop_logAlert, getLoop_clearAlert, getLoop_clearFault, getLoop_modLoop_keeps LoopState.trialNote (by exact fun _ => rfl),
      burst_keeps LoopState.trialNote (fun _ _ => rfl), getLoop_modLoop_keeps LoopState.trialNote (by exact fun _ => rfl), getLoop_bothMeridian, start]
  · rw [getLoop_bothMeridian, getLoop_bothMeridian, start]

/-! ## Failed cells (10 R268, R269) -/

/-- With room for it, a record of the fault is active. -/
theorem addFault_recorded {s : State} {k : Nat} (h : faultRoom s.chain.faults k = true) (x : BitVec 64) (d : Nat) (suppressed double : Bool) :
    ∃ f ∈ (addFault x k d suppressed double s).chain.faults, f.target = x ∧ f.kind = k ∧ f.active = true := by
  unfold addFault
  dsimp only
  split
  case h_1 f hf =>
    have isFor := List.find?_some hf
    refine ⟨{ f with active := true, count := inc16 f.count, lastSeen := nowSeconds s, double := double, suppressed := suppressed },
      ?_, ?_, ?_, rfl⟩
    · have again := List.mem_map_of_mem (f := fun g : FaultRec => if g.isFor x k d then
        { g with active := true, count := inc16 g.count, lastSeen := nowSeconds s, double := double, suppressed := suppressed } else g)
        (List.mem_of_find?_eq_some hf)
      rw [if_pos isFor] at again
      split
      · exact again
      · rwa [raiseAlert_chain]
    · simp [FaultRec.isFor] at isFor; exact isFor.1.1
    · simp [FaultRec.isFor] at isFor; exact isFor.1.2
  case h_2 =>
    rw [if_pos h, raiseAlert_chain]
    exact ⟨_, List.mem_append_right _ (List.mem_singleton_self _), rfl, rfl, rfl⟩

theorem failCell_cell {s : State} {l c : Nat} (h : l < s.chain.loops.length) {x : CellRec} (hx : (getLoop s l).cells[c]? = some x) :
    (getLoop (failCell l c s) l).cells[c]? = some { x with failed := true } := by
  unfold failCell
  dsimp only
  rw [getLoop_logAlert, getLoop_addFault, getLoop_commandTo, getLoop_commandTo, getLoop_modLoop_same _ h]
  simp [LoopState.modCell, modAt, hx]

theorem failCell_recorded {s : State} (h : faultRoom s.chain.faults 4 = true) (l c : Nat) :
    ∃ f ∈ (failCell l c s).chain.faults, f.target = cellTarget s l c ∧ f.kind = 4 ∧ f.active = true := by
  unfold failCell
  dsimp only
  rw [logAlert_chain]
  refine addFault_recorded ?_ ..
  rwa [(commandTo_chain ..).2, (commandTo_chain ..).2]

/-! ## The statement -/

/-- Settles O41: each row in each of its cases, by the loop and the port that it leaves. -/
theorem healingRows : Obligations.HealingRows := by
  unfold Obligations.HealingRows
  refine ⟨fun p s shaped => ?localisation, fun l s shaped => ?move, fun l s shaped => ?trial⟩
  case localisation =>
    have found : portLoop p < (searched p s).chain.loops.length := portLoop_lt shaped p
    refine ⟨noEffect_of_guard rfl, fun h hm hj => ?_, fun h hm hj hh => ?_, fun h hm hj hh ht => ?_⟩
    · refine effect_of_guard rfl h ?_
      rw [localise_allAnswer hm hj]
      exact ⟨by rw [searched, getPort_modPort_same _ (shaped.port p)], rfl⟩
    · refine effect_of_guard rfl h ?_
      rw [localise_firstBreak hm hj hh]
      exact ⟨_, beginMove_move (by simpa [modLoop] using found) .., rfl, rfl, rfl, rfl⟩
    · refine effect_of_guard rfl h ?_
      rw [localise_secondBreak hm hj hh ht]
      exact doubleFault_loop found (foundBreak p s)
  case move =>
    refine ⟨takeover_none, fun mv h hs => ?_, fun mv h hs => ⟨?_, effect_of_exec (exec_takeoverBurst_unsent h hs) (takeover_loop (shaped.loop l) mv)⟩,
      fun mv h hs hf => effect_of_exec (exec_takeoverCheck_answered h hs hf) (completeMove_loop (shaped.loop l) mv),
      fun mv h hs hf => effect_of_exec (exec_takeoverCheck_silent h hs hf) ?_⟩
    · rw [NoEffect, exec_takeoverBurst_some h, hs]; rfl
    · rw [NoEffect, exec_takeoverCheck_some h, hs]; rfl
    · rw [getPort_modPort_same _ (portOf_lt shaped l mv.gaining)]
  case trial =>
    refine ⟨restoreTrial_notDue, fun b h hd => effect_of_guard (exec_restoreTrial_some h) hd (restoreTrial_loop (shaped.loop l) b),
      fun c h => ?_, fun c x h => noEffect_of_guard (exec_cellFailed_some h),
      fun c x h hf room => effect_of_guard (exec_cellFailed_some h) hf ⟨⟨_, failCell_cell (shaped.loop l) h, rfl⟩, failCell_recorded room l c⟩⟩
    show execCellFailed l c s = _
    rw [execCellFailed, h]

end Sys2Proof.Machine
end

section
/-! PROOF. Diodes, sensors, zones, throttle factors and the thermal shutdown (11 R274 to R285; 19 R433): what a report of the thermal state
leaves of the readings, and what each row makes of the reading, the sensor, the voltage or the factor that it names. -/

namespace Sys2Proof.Machine

/-! ## What leaves the thermal model as it is -/

theorem ReplyFrame.therm {s t : State} (h : ReplyFrame s t) : t.therm = s.therm := by rw [h]

@[simp] theorem raiseAlert_therm (c e : Nat) (x : BitVec 64) (st d : Nat) (n : Bool) (s : State) :
    (raiseAlert c e x st d n s).therm = s.therm := (raiseAlert_frame ..).therm

@[simp] theorem logAlert_therm (c e : Nat) (x : BitVec 64) (st d : Nat) (s : State) : (logAlert c e x st d s).therm = s.therm :=
  (logAlert_frame ..).therm

@[simp] theorem clearAlert_therm (c e : Nat) (x : BitVec 64) (s : State) : (clearAlert c e x s).therm = s.therm := rfl

@[simp] theorem clearAlertDetail_therm (c e d : Nat) (s : State) : (clearAlertDetail c e d s).therm = s.therm := rfl

@[simp] theorem completeOp_therm (src : Source) (tag status : Nat) (results : List Byte) (s : State) :
    (completeOp src tag status results s).therm = s.therm := (completeOp_frame ..).therm

@[simp] theorem withdrawGrants_therm (s : State) : (withdrawGrants s).therm = s.therm := rfl

@[simp] theorem stopCalibration_therm (status : Nat) (s : State) : (stopCalibration status s).therm = s.therm := by
  unfold stopCalibration
  split
  · rw [completeOp_therm]
  · rfl

/-! ## A report of the thermal state (11 R279, R282) -/

/-- A shutdown notes when it begins, and the flash operation under way. -/
theorem enterShutdown_therm (s : State) :
    ∃ at_ grace, (enterShutdown s).therm = { s.therm with shutdownAt := at_, graceFrom := grace } :=
  ⟨_, _, by rw [enterShutdown, assertFault_therm, stopCalibration_therm]; rfl⟩

/-- A report notes the state that it reports, and a shutdown that begins; it keeps what is measured. -/
theorem reportThermal_therm (s : State) : ∃ state at_ grace,
    (reportThermal s).therm = { s.therm with reported := state, shutdownAt := at_, graceFrom := grace } := by
  have entered (c : Prop) [Decidable c] : ∃ at_ grace,
      (if c then enterShutdown s else s).therm = { s.therm with shutdownAt := at_, graceFrom := grace } := by
    split
    · exact enterShutdown_therm s
    · exact ⟨_, _, rfl⟩
  unfold reportThermal
  dsimp only
  obtain ⟨at_, grace, h⟩ := entered ((decide (thermNow s = 3) && s.therm.shutdownAt.isNone) = true)
  split
  · exact ⟨_, at_, grace, h⟩
  · refine ⟨thermNow s, at_, grace, ?_⟩
    split
    · rw [logAlert_therm, clearAlert_therm, h]
    · rw [raiseAlert_therm, clearAlert_therm, h]

theorem updateDie_diodes (s : State) : (updateDie s).therm.diodes = s.therm.diodes := by
  unfold updateDie
  dsimp only
  obtain ⟨_, _, _, h⟩ := reportThermal_therm _
  rw [h]

/-! ## Diodes (11 R274, R275) -/

theorem getD_map_zipIdx {α β : Type} {l : List α} {k : Nat} (f : α × Nat → β) (d : α) (e : β) (h : k < l.length) :
    (l.zipIdx.map f).getD k e = f (l.getD k d, k) := by
  simp [List.getD_eq_getElem?_getD, h]

theorem convertDiodes_reading {rs : List Int} {mw k : Nat} {s : State} (h : k < s.therm.diodes.length) :
    ((convertDiodes rs mw s).therm.diodes.getD k {}).reading =
      clampI (-32768) 32767 (rs.getD k (s.therm.diodes.getD k {}).reading + 32 * s.trim.inForce.diode.getD k 0) := by
  unfold convertDiodes
  dsimp only
  rw [updateDie_diodes]
  dsimp only
  rw [getD_map_zipIdx _ {} _ (by simpa using h), getD_map_zipIdx _ {} _ h]
  rfl

/-- The diode that is set, as the update of the die leaves it. -/
theorem updateDie_setDiode {s t : State} {k : Nat} (f : Diode → Diode) (h : k < s.therm.diodes.length)
    (ht : t.therm = (setDiode k f s).therm) : (updateDie t).therm.diodes.getD k {} = f (s.therm.diodes.getD k {}) := by
  rw [updateDie_diodes, ht, setDiode, getD_modAt _ _ _ _ _ h, if_pos rfl]

theorem Shaped.diode {s : State} (h : Shaped s) (d : Fin 6) : d.val < s.therm.diodes.length := by
  obtain ⟨-, -, -, -, -, -, diodes, -⟩ := h
  omega

/-! ## Sensors (11 R276, R285) -/

theorem getSensor_setSensor {s : State} {k : Nat} (f : Sensor → Sensor) (h : k < s.therm.sensors.length) :
    getSensor (setSensor k f s) k = f (getSensor s k) := (getD_modAt _ _ _ _ _ h).trans (if_pos rfl)

theorem getSensor_congr {s t : State} (h : t.therm = s.therm) (k : Nat) : getSensor t k = getSensor s k := by
  rw [getSensor, h]; rfl

theorem getSensor_breakSensor {s : State} {k : Nat} (st : SensorStatus) (h : k < s.therm.sensors.length) :
    getSensor (breakSensor k st s) k = { getSensor s k with status := st, agreeSince := none } := by
  rw [breakSensor, getSensor_congr (raiseAlert_therm ..), getSensor_setSensor _ h]

/-- A sensor that is alone converts with its input. -/
theorem exec_ntcConversion_single {s : State} {i : Fin 16} {c : SensorCfg} (x : Nat) (hm : meterOn s = true)
    (hs : s.therm.desc.sensors = [c]) (he : c.enable = true) (hi : c.input = i.val) :
    exec (.ntcConversion i x) s = .next (convertSensor 0 x s) := by
  have cfg : sensorCfg s 0 = c := by rw [sensorCfg, hs]; rfl
  refine (exec_of_guard rfl hm).trans (congrArg _ ?_)
  rw [hs]
  exact if_pos (by rw [cfg, he, hi, beq_self_eq_true]; rfl)

theorem convertSensor_open {s : State} {k x : Nat} (h : ratioBroken x = true) (hb : sensorBrokenNow (getSensor s k) = false)
    (hk : k < s.therm.sensors.length) : getSensor (convertSensor k x s) k =
      { getSensor s k with converted := true, ratio := x, status := .brokenElectrically, agreeSince := none } := by
  unfold convertSensor
  dsimp only
  rw [h, hb, Bool.true_or, if_pos rfl, if_neg Bool.false_ne_true, getSensor_breakSensor, getSensor_setSensor _ hk]
  simpa [setSensor] using hk

theorem convertSensor_reads {s : State} {k x : Nat} (h : ratioBroken x = false) (hl : inputLost s (sensorCfg s k).input = false)
    (hk : k < s.therm.sensors.length) : getSensor (convertSensor k x s) k =
      { getSensor s k with converted := true, ratio := x, reading := ntcReading (sensorCfg s k) x } := by
  unfold convertSensor
  dsimp only
  rw [h, hl]
  exact getSensor_setSensor _ hk

theorem sensorBroken_notYet {s : State} {i : Fin 16} (h : (getSensor s i).held < 16) : NoEffect (.sensorBroken i) s :=
  noEffect_of_guard (exec_sensorBroken i s) (by rw [decide_eq_false (Nat.not_le.2 h), Bool.and_false])

theorem sensorReturns_late {s : State} {k at_ : Nat} (hb : sensorBrokenNow (getSensor s k) = true)
    (ha : (getSensor s k).agreeSince = some at_) (ht : at_ + 60000000000 ≤ nowNs s) : sensorReturns s k = true := by
  rw [sensorReturns, hb, ha]
  simpa using ht

theorem sensorReturns_unbroken {s : State} {k : Nat} (hb : sensorBrokenNow (getSensor s k) = false) : sensorReturns s k = false := by
  rw [sensorReturns, hb]; rfl

/-! ## Zones and rail voltages (11 R278; 07 R183, 19 R433) -/

@[simp] theorem clearVolts_therm (mv : List (Option Nat)) (s : State) : (clearVolts mv s).therm = s.therm :=
  foldl_keeps State.therm (fun _ _ => by split <;> rfl) _ _

/-- An update of the model keeps the voltages that it has read. -/
theorem updateModel_volts (mv : List (Option Nat)) (s : State) :
    (updateModel mv s).therm.lastZone = s.time.frame + 1 ∧ (updateModel mv s).therm.volts = (readVolts mv s).therm.volts := by
  have reported (t : State) : (reportThermal t).therm.lastZone = t.therm.lastZone ∧ (reportThermal t).therm.volts = t.therm.volts := by
    obtain ⟨_, _, _, h⟩ := reportThermal_therm t
    rw [h]
    exact ⟨rfl, rfl⟩
  have judged (t : State) : (updateZones (judgeSensors (updateRises t))).therm.lastZone = t.therm.lastZone ∧
      (updateZones (judgeSensors (updateRises t))).therm.volts = t.therm.volts := ⟨rfl, rfl⟩
  have fitted (t : State) : (fitGrid t).therm.lastZone = t.therm.lastZone ∧ (fitGrid t).therm.volts = t.therm.volts := by
    unfold fitGrid
    split <;> exact ⟨rfl, rfl⟩
  rw [updateModel, (reported _).1, (reported _).2, (judged _).1, (judged _).2, (fitted _).1, (fitted _).2]
  dsimp only
  rw [clearVolts_therm]
  exact ⟨rfl, rfl⟩

theorem readVolts_length (mv : List (Option Nat)) (s : State) : (readVolts mv s).therm.volts.length = s.therm.volts.length := by
  simp [readVolts]

theorem readVolts_millivolts {mv : List (Option Nat)} {s : State} {k x : Nat} (h : k < s.therm.volts.length) (hx : mv.getD k none = some x) :
    ((readVolts mv s).therm.volts.getD k {}).millivolts = x := by
  unfold readVolts
  dsimp only
  rw [getD_map_zipIdx _ {} _ h, hx]

theorem zoneUpdateDue_eq_false {s : State} (h : meterOn s = false ∨ s.therm.lastZone = s.time.frame + 1) : zoneUpdateDue s = false := by
  rw [zoneUpdateDue, Bool.and_eq_false_iff]
  exact h.imp_right fun hz => by rw [hz]; exact bne_self_eq_false _

theorem zoneUpdateDue_eq_true {s : State} (hm : meterOn s = true) (h : s.therm.lastZone ≠ s.time.frame + 1) : zoneUpdateDue s = true := by
  rw [zoneUpdateDue, hm, bne_iff_ne.2 h]; rfl

theorem voltageDue_late {s : State} {r since : Nat} (hv : (s.therm.volts.getD r {}).millivolts ≠ 0)
    (hf : (s.therm.volts.getD r {}).failedSince = some since) (ht : (s.therm.volts.getD r {}).goodAt + 1000000000 ≤ nowNs s) :
    voltageDue s r = true := by
  unfold voltageDue
  dsimp only
  rw [hf, bne_iff_ne.2 hv]
  simpa using ht

theorem voltageDue_read {s : State} {r : Nat} (hf : (s.therm.volts.getD r {}).failedSince = none) : voltageDue s r = false := by
  unfold voltageDue
  dsimp only
  rw [hf, Bool.and_false]

/-! ## Throttle factors (11 R281; 01 R28) -/

theorem nextFactors_get {s : State} {r : Nat} (h : r < s.therm.u.length) : (nextFactors s).getD r 0 =
    if railTarget s r < s.therm.u.getD r 0 then max (railTarget s r) (s.therm.u.getD r 0 - s.therm.desc.fall)
    else min (railTarget s r) (s.therm.u.getD r 0 + s.therm.desc.rise) := getD_map_zipIdx _ 0 _ h

/-- Whether a factor falls in a step. -/
def factorFalls (s : State) : Bool := ((nextFactors s).zip s.therm.u).any fun x => x.1 < x.2

theorem factorFalls_iff {s : State} : factorFalls s = true ↔ ∃ r, r < s.therm.u.length ∧ (nextFactors s).getD r 0 < s.therm.u.getD r 0 := by
  have lengths := nextFactors_length s
  simp only [factorFalls, List.any_eq_true, decide_eq_true_eq]
  constructor
  · rintro ⟨x, hx, lt⟩
    obtain ⟨r, hr, rfl⟩ := List.getElem_of_mem hx
    rw [List.length_zip] at hr
    refine ⟨r, by omega, ?_⟩
    rw [List.getD_eq_getElem _ _ (by omega), List.getD_eq_getElem _ _ (by omega)]
    simpa using lt
  · rintro ⟨r, hr, lt⟩
    have hz : r < ((nextFactors s).zip s.therm.u).length := by rw [List.length_zip]; omega
    refine ⟨_, List.getElem_mem hz, ?_⟩
    rw [List.getD_eq_getElem _ _ hr, List.getD_eq_getElem _ _ (by omega)] at lt
    simpa using lt

/-- Below its target no factor falls. -/
theorem factorFalls_none {s : State} (h : ∀ r, r < s.therm.u.length → s.therm.u.getD r 0 ≤ railTarget s r) : factorFalls s = false := by
  refine Bool.eq_false_iff.2 fun falls => ?_
  obtain ⟨r, hr, lt⟩ := factorFalls_iff.1 falls
  have le := h r hr
  rw [nextFactors_get hr, if_neg (Nat.not_lt.2 le)] at lt
  omega

/-- Above its target a factor falls. -/
theorem factorFalls_above {s : State} {r : Nat} (h : r < s.therm.u.length) (above : railTarget s r < s.therm.u.getD r 0)
    (rate : 0 < s.therm.desc.fall) : factorFalls s = true := by
  refine factorFalls_iff.2 ⟨r, h, ?_⟩
  rw [nextFactors_get h, if_pos above]
  omega

/-- The state with the factors stepped. -/
def stepped (s : State) : State := { s with therm := { s.therm with u := nextFactors s, factorsAt := some (nowNs s) } }

theorem stepFactors_eq (s : State) : stepFactors s = if factorFalls s then withdrawGrants (stepped s) else stepped s := rfl

theorem stepFactors_therm (s : State) : (stepFactors s).therm = (stepped s).therm := by
  rw [stepFactors_eq]
  split <;> rfl

theorem stepFactors_withdraws {s : State} (h : factorFalls s = true) : (stepFactors s).ledger.grants = [] := by
  rw [stepFactors_eq, if_pos h]; rfl

theorem stepFactors_keeps {s : State} (h : factorFalls s = false) : stepFactors s = stepped s := by
  rw [stepFactors_eq, h]; rfl

/-! ## The thermal shutdown and the grace window (11 R283, R284) -/

theorem shutdownEnds_iff {s : State} : shutdownEnds s = true ↔
    s.therm.shutdownAt.isSome = true ∧ thermNow s < 3 ∧ railsOff s = true ∧ s.ledger.offAt + 1000000000 ≤ nowNs s := by
  unfold shutdownEnds
  split
  case h_1 h => simp [h, and_assoc]
  case h_2 h => simp [h]

theorem beginFlash_keeps {α : Type} (part : State → α) (h : ∀ (t : State) q, part { t with flash.queue := q } = part t) (s : State) :
    part (beginFlash s) = part s := by
  unfold beginFlash
  split
  · rfl
  · split
    · exact h ..
    · rfl

@[simp] theorem failWrite_therm (w : FlashWrite) (s : State) : (failWrite w s).therm = s.therm := by
  unfold failWrite
  cases w.op with
  | none =>
    dsimp only
    repeat' split
    all_goals rfl
  | some o =>
    dsimp only
    repeat' split
    all_goals simp

@[simp] theorem putEntry_therm (type key : Nat) (data : List Byte) (committed fresh : Bool) (avoid : Option Nat) (s : State) :
    (putEntry type key data committed fresh avoid s).therm = s.therm := by
  unfold putEntry advanceHead
  dsimp only
  split <;> rfl

@[simp] theorem putObject_therm (type key : Nat) (data : List Byte) (committed fresh : Bool) (s : State) :
    (putObject type key data committed fresh s).therm = s.therm := by
  unfold putObject
  dsimp only
  split
  · rw [putEntry_therm, putEntry_therm]
  · exact putEntry_therm ..

@[simp] theorem tearFront_therm (s : State) : (tearFront s).therm = s.therm := by
  unfold tearFront
  split
  · split
    · dsimp only
      rw [putObject_therm]
      split <;> rfl
    · rfl
  · rfl

theorem flashGraceWindowExpiry_none {s : State} (h : s.therm.graceFrom = none) : NoEffect .flashGraceWindowExpiry s := by
  show execFlashGraceWindowExpiry s = _
  rw [execFlashGraceWindowExpiry, h]

/-! ## The statement -/

/-- Settles O40: each row in each of its cases, by what it makes of the reading, the sensor, the voltage or the factor. -/
theorem temperatureRows : Obligations.TemperatureRows := by
  unfold Obligations.TemperatureRows
  refine ⟨fun s => ?diodes, fun i s => ?sensors, fun s => ⟨?noUpdate, ?update, ?fails, ?reads, fun h => noEffect_of_guard rfl h, ?factors⟩,
    fun s => ⟨?ends, ?stands, ?unbegun, ?torn, flashGraceWindowExpiry_none⟩⟩
  case diodes =>
    exact ⟨fun rs mw h => noEffect_of_guard rfl h, fun rs mw h => effect_of_guard rfl h fun k hk => convertDiodes_reading hk,
      fun d h => noEffect_of_guard rfl h,
      fun d h shaped => effect_of_guard rfl h (by rw [updateDie_setDiode _ (shaped.diode d) (raiseAlert_therm ..)]),
      fun d h => noEffect_of_guard rfl h,
      fun d h shaped => effect_of_guard rfl h (by rw [updateDie_setDiode _ (shaped.diode d) (clearAlertDetail_therm ..)])⟩
  case sensors =>
    refine ⟨fun h x => noEffect_of_guard rfl h, fun c x hm hs hl he hi hx hb => effect_of_exec (exec_ntcConversion_single x hm hs he hi) ?_,
      fun c x hm hs hl he hi hx lost => effect_of_exec (exec_ntcConversion_single x hm hs he hi) ?_,
      fun hs hh hi => effect_of_guard (exec_sensorBroken i s) (by rw [hs, decide_eq_true hh]; rfl) (by rw [getSensor_breakSensor _ hi]),
      sensorBroken_notYet, fun at_ hb ha ht hi => effect_of_guard rfl (sensorReturns_late hb ha ht) ?_,
      fun hb => noEffect_of_guard rfl (sensorReturns_unbroken hb)⟩
    · rw [convertSensor_open hx hb (by omega)]
      exact ⟨rfl, rfl⟩
    · have cfg : sensorCfg s 0 = c := by rw [sensorCfg, hs]; rfl
      rw [convertSensor_reads hx (by rw [cfg, lost]) (by omega), cfg]
      exact ⟨rfl, rfl⟩
    · rw [getSensor_congr (clearAlertDetail_therm ..), getSensor_setSensor _ hi]
  case noUpdate => exact fun mv h => noEffect_of_guard rfl (zoneUpdateDue_eq_false h)
  case update =>
    intro mv hm hz
    obtain ⟨zone, volts⟩ := updateModel_volts mv s
    refine effect_of_guard rfl (zoneUpdateDue_eq_true hm hz) ⟨zone, by rw [volts, readVolts_length], fun k x hk hx => ?_⟩
    rw [volts, readVolts_millivolts hk hx]
  case fails =>
    intro r since hv hf ht shaped
    obtain ⟨-, -, -, -, -, -, -, volts, -⟩ := shaped
    refine effect_of_guard rfl (voltageDue_late hv hf ht) ?_
    rw [raiseAlert_therm, getD_modAt _ _ _ _ _ (by omega), if_pos rfl]
  case reads => exact fun r h => noEffect_of_guard rfl (voltageDue_read h)
  case factors =>
    intro due
    refine effect_of_guard rfl due ⟨?_, ?_, fun rise => ?_, fun ⟨r, hr, lt, falls⟩ => ?_, fun r hr => ⟨fun lt => ?_, fun le => ?_⟩⟩
    · rw [stepFactors_therm]; rfl
    · rw [stepFactors_therm]
      exact nextFactors_length s
    · rw [stepFactors_keeps (factorFalls_none rise)]; rfl
    · exact stepFactors_withdraws (factorFalls_above hr lt falls)
    · rw [stepFactors_therm]
      exact (nextFactors_get hr).trans (if_pos lt)
    · rw [stepFactors_therm]
      exact (nextFactors_get hr).trans (if_neg (Nat.not_lt.2 le))
  case ends =>
    intro hs ht hr ho
    refine effect_of_guard rfl (shutdownEnds_iff.2 ⟨hs, ht, hr, ho⟩) ⟨?_, ?_⟩
    · rw [beginFlash_keeps State.therm fun _ _ => rfl]; rfl
    · rw [beginFlash_keeps State.faults fun _ _ => rfl]
      simp [releaseFault]
  case stands =>
    intro h
    refine noEffect_of_guard rfl (Bool.eq_false_iff.2 fun due => ?_)
    obtain ⟨hs, ht, hr, ho⟩ := shutdownEnds_iff.1 due
    obtain h | h | h | h := h
    · simp [h] at hs
    · omega
    · simp [h] at hr
    · omega
  case unbegun =>
    exact fun at_ w rest hg hq ht hb => effect_of_exec (exec_flashGraceWindowExpiry_front hg hq ht) (by rw [hb]; rfl)
  case torn =>
    intro at_ w rest hg hq ht hb
    refine effect_of_exec (exec_flashGraceWindowExpiry_front hg hq ht) ?_
    rw [if_pos hb]
    exact ⟨by rw [failWrite_therm, tearFront_therm], rfl⟩

end Sys2Proof.Machine
end

section
/-! PROOF. Presentation frames, prefetch, uploads, the latch and the transit (08 R199, R204, R209, R214 to R217; 09 R234, R235; 10 R248): what
work on the lanes leaves of the presentation, and what each row makes of it. -/

namespace Sys2Proof.Machine

/-! ## What leaves the presentation as it is -/

@[simp] theorem raiseAlert_pres (c e : Nat) (x : BitVec 64) (st d : Nat) (n : Bool) (s : State) :
    (raiseAlert c e x st d n s).pres = s.pres := (raiseAlert_frame ..).pres

@[simp] theorem clearAlert_pres (c e : Nat) (x : BitVec 64) (s : State) : (clearAlert c e x s).pres = s.pres := rfl

/-! ### Frames and commands on the lanes (09 R225, R232) -/

/-- A frame on a lane reaches the plant alone. -/
theorem portSend_eq (p : Nat) (f : LaneFrame) (s : State) : portSend p f s = { s with plant := (portSend p f s).plant } := by
  unfold portSend
  dsimp only
  split <;> rfl

@[simp] theorem portSend_pres (p : Nat) (f : LaneFrame) (s : State) : (portSend p f s).pres = s.pres := by rw [portSend_eq]

@[simp] theorem portSend_chain (p : Nat) (f : LaneFrame) (s : State) : (portSend p f s).chain = s.chain := by rw [portSend_eq]

@[simp] theorem sendCommand_pres (p : Nat) (c : CellCommand) (s : State) : (sendCommand p c s).pres = s.pres := by
  unfold sendCommand
  split
  · rfl
  · exact portSend_pres ..

@[simp] theorem commandTo_pres (l c op reg : Nat) (ws : List Nat) (s : State) : (commandTo l c op reg ws s).pres = s.pres :=
  sendCommand_pres ..

@[simp] theorem sendWaiting_pres (p : Nat) (s : State) : (sendWaiting p s).pres = s.pres :=
  foldl_keeps State.pres (fun _ _ => portSend_pres ..) _ _

/-! ### Reports of the cells (10 R248, R268) -/

@[simp] theorem reportEffects_pres (l c : Nat) (good : Bool) (w : Nat) (before : CellRec) (s : State) :
    (reportEffects l c good w before s).pres = s.pres := by
  have alerted (c d : Prop) [Decidable c] [Decidable d] (t u : State) (ht : t.pres = s.pres) (hu : u.pres = s.pres) :
      (if c then t else if d then u else s).pres = s.pres := by
    split
    · exact ht
    · split
      · exact hu
      · rfl
  unfold reportEffects
  dsimp only
  split
  · rfl
  · split
    · rw [commandTo_pres]
      exact alerted _ _ _ _ (raiseAlert_pres ..) rfl
    · exact alerted _ _ _ _ (raiseAlert_pres ..) rfl

@[simp] theorem judgeReport_pres (l c w : Nat) (s : State) : (judgeReport l c w s).pres = s.pres := by
  unfold judgeReport
  split
  · rfl
  · exact reportEffects_pres ..

@[simp] theorem judgePort_pres (p : Nat) (s : State) : (judgePort p s).pres = s.pres := by
  unfold judgePort
  dsimp only
  split
  · rfl
  · split
    · rw [sendWaiting_pres]; rfl
    · rw [sendWaiting_pres, modPort_pres, foldl_keeps State.pres fun _ _ => judgeReport_pres ..]; rfl

@[simp] theorem judgePorts_pres (s : State) : (judgePorts s).pres = s.pres :=
  foldl_keeps State.pres (fun _ _ => judgePort_pres ..) _ _

/-! ### Buffers and write-backs (04 R110, R127) -/

@[simp] theorem completeOp_pres (src : Source) (tag status : Nat) (results : List Byte) (s : State) :
    (completeOp src tag status results s).pres = s.pres := (completeOp_frame ..).pres

@[simp] theorem freeBuf_pres (h : Nat) (s : State) : (freeBuf h s).pres = s.pres := by
  unfold freeBuf
  split
  · rfl
  · split <;> rfl

@[simp] theorem retireBuffers_pres (n : Nat) (s : State) : (retireBuffers n s).pres = s.pres :=
  foldl_keeps State.pres (fun _ _ => freeBuf_pres ..) _ _

@[simp] theorem abandonWriteback_pres (w : Writeback) (s : State) : (abandonWriteback w s).pres = s.pres := by
  rw [abandonWriteback, completeOp_pres, freeBuf_pres]

@[simp] theorem dropWritebacks_pres (n : Nat) (s : State) : (dropWritebacks n s).pres = s.pres :=
  foldl_keeps State.pres (fun _ _ => abandonWriteback_pres ..) _ _

/-! ### Sweeps and tests (10 R260) -/

@[simp] theorem sendEntry_pres (who : Requester) (l c : Nat) (n : CellEntry) (draw : Nat → Nat) (s : State) :
    (sendEntry who l c n draw s).pres = s.pres := by
  unfold sendEntry
  dsimp only
  split <;> exact sendCommand_pres ..

@[simp] theorem sweepEntry_pres (x : Nat × Nat × Nat) (s : State) : (sweepEntry x s).pres = s.pres := by
  unfold sweepEntry
  dsimp only
  split
  · rfl
  · split
    · rfl
    · split
      · exact sendCommand_pres ..
      · rfl

@[simp] theorem sendSweep_pres (s : State) : (sendSweep s).pres = s.pres :=
  foldl_keeps State.pres (fun _ _ => sweepEntry_pres ..) _ _

theorem diagRow_pres (x : Nat × Nat × Nat) (a : DiagRun × State) : (diagRow x a).2.pres = a.2.pres := by
  unfold diagRow
  dsimp only
  split
  · rfl
  · rfl
  · split
    · rfl
    · exact sendEntry_pres ..

@[simp] theorem sendDiag_pres (s : State) : (sendDiag s).pres = s.pres :=
  foldl_keeps State.pres (fun _ _ => foldl_acc_keeps (fun a : DiagRun × State => a.2.pres) (fun _ _ => diagRow_pres ..) _ _) _ _

/-! ## Frames that start (08 R209; 07 R191) -/

/-- The overlap of the shutters is judged and alerted. -/
theorem judgeOverlap_parts (s : State) : (∃ o, (judgeOverlap s).pres = { s.pres with overlap := o }) ∧ (judgeOverlap s).ledger = s.ledger := by
  unfold judgeOverlap
  dsimp only
  split
  · exact ⟨⟨true, raiseAlert_pres ..⟩, (raiseAlert_frame ..).ledger⟩
  · split <;> exact ⟨⟨_, rfl⟩, rfl⟩

theorem startFrame_facts (x : SlotAt) (s : State) :
    (startFrame x s).pres.started = true ∧ (startFrame x s).pres.frameStarted = x.frame + x.latency ∧ (startFrame x s).pres.phase = x.phase ∧
      (startFrame x s).pres.phaseKnown = true ∧
      (startFrame x s).ledger.grants = s.ledger.grants.filter fun g => decide (x.frame ≤ windowFrame g.window) := by
  unfold startFrame
  dsimp only
  obtain ⟨⟨o, hp⟩, hl⟩ := judgeOverlap_parts _
  rw [hp, hl]
  exact ⟨rfl, rfl, rfl, rfl, rfl⟩

theorem presentationFrameStart_notDue {s : State} (h : frameStartDue s = false) : NoEffect .presentationFrameStart s := by
  show execPresentationFrameStart s = _
  rw [execPresentationFrameStart, h]
  split <;> rfl

/-! ## Prefetch (08 R214) -/

/-- A port whose FIFO is filled before its upload. -/
def prefetchPort (t : State) (p : Nat) : State :=
  modPort p (fun q => { q with prefetched := true }) { t with pres.fill := setAt t.pres.fill p fifoSize }

theorem prefetchPort_marks {s : State} {a p : Nat} (h : p = a ∧ p < s.chain.ports.length ∨ (getPort s p).prefetched = true) :
    (getPort (prefetchPort s a) p).prefetched = true := by
  by_cases ha : a < s.chain.ports.length
  · rw [prefetchPort, getPort_modPort]
    · split
      · rfl
      · exact h.resolve_left fun ⟨same, _⟩ => by omega
    · exact ha
  · have same : getPort (prefetchPort s a) p = getPort s p := by
      simp only [prefetchPort, getPort, modPort, modAt, List.modify_eq_self (Nat.not_lt.1 ha)]
    rw [same]
    exact h.resolve_left fun ⟨same, hp⟩ => by omega

/-- The ports that are prefetched are marked, and nothing else changes but the FIFOs. -/
theorem prefetch_ports (ps : List Nat) (s : State) :
    let t := ps.foldl prefetchPort s
    t = { s with chain := { s.chain with ports := t.chain.ports }, pres := { s.pres with fill := t.pres.fill } } ∧
      ∀ p, p < s.chain.ports.length → p ∈ ps ∨ (getPort s p).prefetched = true → (getPort t p).prefetched = true := by
  induction ps generalizing s with
  | nil => exact ⟨rfl, fun p _ h => h.resolve_left (List.not_mem_nil)⟩
  | cons a ps ih =>
    obtain ⟨frame, marked⟩ := ih (prefetchPort s a)
    refine ⟨frame, fun p hp h => marked p (by simpa [prefetchPort, modPort] using hp) ?_⟩
    obtain h | h := h
    · exact (List.mem_cons.1 h).symm.imp_right fun same => prefetchPort_marks (.inl ⟨same, hp⟩)
    · exact .inr (prefetchPort_marks (.inr h))

theorem prefetchStart_notDue {s : State} (h : uploadWanted s = false ∨ slotDue s (uploadPeriod (fullestPort s) + 100000) = false) :
    NoEffect .prefetchStart s :=
  noEffect_of_guard (exec_prefetchStart s) (Bool.and_eq_false_iff.2 h)

/-! ## ARM (09 R234) -/

/-- ARM reaches the cells; the registers that wait are loaded with it. -/
theorem sendArm_parts (x : SlotAt) (seqs : List Nat) (hold : Bool) (s : State) :
    (sendArm x seqs hold s).pres = { s.pres with armed := true } ∧ (sendArm x seqs hold s).chain.loadPending = false := by
  have sent := foldl_keeps State.pres (f := fun t p => portSend p (command opArm 0xFF 0 (ArmPayload.words
    { refreshes := (planOf s x.frame).refreshes x.slot
      rowTime := ((planOf s x.frame).slotDur x.slot / ((32 * (planOf s x.frame).refreshes x.slot : Nat) : Rat) / 5).floor.toNat
      dead := ((planOf s x.frame).dead + 4) / 5, load := loadsAt s x, hold := hold, seq := seqs.getD p 0 })).frame t)
    (fun _ _ => portSend_pres ..) (List.range (gradePorts s)) s
  exact ⟨congrArg (fun p : PresState => { p with armed := true }) sent, rfl⟩

theorem armHeld_pres (x : SlotAt) (u : Sent) (s : State) :
    (armHeld x u s).pres = { s.pres with upload := some u, armed := true } := (sendArm_parts ..).1

/-! ## Uploads (08 R199, R204, R205, R215) -/

/-- What the fixing of a frame's magnitudes keeps of the presentation. -/
def PresState.uploads (p : PresState) : Option SlotAt × List Nat × Bool := (p.next, p.late, p.armed)

theorem judgeResidue_uploads (s : State) : (judgeResidue s).pres.uploads = s.pres.uploads := by
  unfold judgeResidue
  dsimp only
  refine iteInduction (motive := fun t : State => t.pres.uploads = _) (fun _ => ?_)
    fun _ => iteInduction (motive := fun t : State => t.pres.uploads = _) (fun _ => rfl) fun _ => rfl
  rw [raiseAlert_pres]; rfl

theorem clearMismatch_pres (s : State) : (clearMismatch s).pres = s.pres :=
  foldl_keeps State.pres (fun _ _ => by split <;> rfl) _ _

theorem fixFrame_uploads (f : FrameSums) (later : List FrameSums) (s : State) : (fixFrame f later s).pres.uploads = s.pres.uploads := by
  rw [fixFrame, judgeResidue_uploads, clearMismatch_pres]; rfl

theorem fixUpTo_uploads (f : Nat) (l : List FrameSums) (s : State) : (fixUpTo f l s).pres.uploads = s.pres.uploads := by
  induction l generalizing s with
  | nil => rfl
  | cons x later ih =>
    rw [fixUpTo]
    split
    · rw [ih, fixFrame_uploads]
    · rfl

theorem ensureFixed_uploads (f : Nat) (s : State) : (ensureFixed f s).pres.uploads = s.pres.uploads := by
  unfold ensureFixed
  dsimp only
  split
  · exact fixUpTo_uploads ..
  · rw [fixFrame_uploads, fixUpTo_uploads]

theorem refixShown_pres (f v : Nat) (img : Option ViewImage) (s : State) : (refixShown f v img s).pres = s.pres := by
  unfold refixShown
  split <;> rfl

theorem uploadPort_pres (x : Fixed) (img : Option ViewImage) (p : Nat) (s : State) : (uploadPort x img p s).pres = s.pres := by
  unfold uploadPort
  dsimp only
  rw [foldl_keeps State.pres fun _ _ => portSend_pres ..]; rfl

theorem uploadAll_pres (x : Fixed) (img : Option ViewImage) (s : State) : (uploadAll x img s).pres = s.pres :=
  foldl_keeps State.pres (fun _ _ => uploadPort_pres ..) _ _

/-- The state in which the upload of a slot begins: its late image is counted. -/
def uploadBase (s : State) : State :=
  { s with pres := { s.pres with
      next := some (targetSlot s)
      late := if (wantedImage s (targetSlot s)).2 then modAt s.pres.late ((planOf s (targetSlot s).frame).view (targetSlot s).slot) inc32 else s.pres.late } }

theorem startUpload_held {s : State} {u : Sent} (h : heldFor s (targetSlot s) (wantedImage s (targetSlot s)).1.1 = some u) :
    startUpload s = armHeld (targetSlot s) u (uploadBase s) := by
  unfold startUpload
  dsimp only
  rw [h]; rfl

/-- An upload sends the wanted image, and no ARM. -/
theorem startUpload_sent {s : State} (h : heldFor s (targetSlot s) (wantedImage s (targetSlot s)).1.1 = none) :
    (startUpload s).pres.uploads = (uploadBase s).pres.uploads ∧ ∃ u, (startUpload s).pres.upload = some u ∧
      u.id = (wantedImage s (targetSlot s)).1.1 ∧ u.image = (wantedImage s (targetSlot s)).1.2 := by
  unfold startUpload
  dsimp only
  rw [h]
  refine ⟨?_, _, rfl, rfl, rfl⟩
  refine (congrArg PresState.uploads (uploadAll_pres ..)).trans ?_
  rw [refixShown_pres, ensureFixed_uploads]; rfl

theorem uploadStart_notDue {s : State} (h : presenting s = false ∨ s.pres.upload.isSome = true ∨ s.pres.armed = true ∨
    slotDue s (uploadPeriod (fullestPort s)) = false) : NoEffect .uploadStart s := by
  refine noEffect_of_guard (exec_uploadStart s) ?_
  rw [Option.isSome_iff_ne_none] at h
  obtain h | h | h | h := h <;> simp [h]

theorem fillRow_parts {s : State} {p : Nat} (h : p < s.chain.ports.length) (row : Nat) (u : Sent) :
    (getPort (fillRow p row u s) p).underran = (getPort s p).underran ++ [row] ∧
      (fillRow p row u s).pres.eclipse = modAt s.pres.eclipse p inc32 := by
  have sent (f : LaneFrame) : getPort (modPort p (fun q => { q with underran := q.underran ++ [row] }) (portSend p f s)) p =
      { getPort s p with underran := (getPort s p).underran ++ [row] } := by
    rw [getPort_modPort_same _ (by rwa [portSend_chain]), getPort, portSend_chain]; rfl
  exact ⟨congrArg ChainPort.underran (sent _), congrArg (fun x : PresState => modAt x.eclipse p inc32) (portSend_pres ..)⟩

theorem fifoUnderrun_filled {p : Fin 48} {row : Fin 32} {s : State} (h : s.pres.upload = none ∨ (getPort s p).uploading = false ∨
    row.val ∈ (getPort s p).underran) : NoEffect (.fifoUnderrun p row) s := by
  show execFifoUnderrun p row s = _
  unfold execFifoUnderrun
  split
  case h_1 u hu =>
    obtain h | h | h := h
    · rw [h] at hu; cases hu
    · rw [h]; rfl
    · simp [h]
  case h_2 => rfl

/-! ## The latch window (10 R248) -/

theorem openWindow_parts (s : State) : (openWindow s).pres.armed = true ∧ (openWindow s).chain.loadPending = false ∧
    (openWindow s).pres.upload = s.pres.upload := by
  unfold openWindow
  dsimp only
  rw [(sendArm_parts ..).1, (sendArm_parts ..).2]
  refine ⟨rfl, rfl, ?_⟩
  show (judgePorts s).pres.upload = _
  rw [judgePorts_pres]

/-! ## The transit (08 R204, R216, R217) -/

/-- What a transit decides of the presentation. -/
def PresState.transit (p : PresState) : Option SlotAt × Option SlotAt × Bool × Option Sent × List Bool × List Bool :=
  (p.position, p.next, p.launched, p.shown, p.frozen, p.blanked)

theorem latchCells_pres (lit : Rat) (s : State) : (latchCells lit s).pres = s.pres :=
  foldl_keeps State.pres (fun _ _ => portSend_pres ..) _ _

theorem present_transit (x : SlotAt) (s : State) : (present x s).pres.transit = s.pres.transit := by
  unfold present
  dsimp only
  repeat' split
  all_goals rfl

/-- The values that wait for a transit, in place of those in force. -/
def merged (now : List Bool) (next : List (Option Bool)) : List Bool := (now.zip next).map fun x => x.2.getD x.1

theorem transitTo_transit (x : SlotAt) (s : State) : (transitTo x s).pres.transit =
    (some x, some (slotAfter s x), false, if s.pres.upload.isSome then s.pres.upload else s.pres.shown,
      merged s.pres.frozen s.pres.freezeNext, merged s.pres.blanked s.pres.blankNext) := by
  have armed (c : Prop) [Decidable c] (y : SlotAt) (u : Sent) (t : State) :
      (if c then t else armHeld y u t).pres.transit = t.pres.transit := by
    split
    · rfl
    · rw [armHeld_pres]; rfl
  have retired (c : Prop) [Decidable c] (n : Nat) (t : State) :
      (if c then dropWritebacks n (retireBuffers n t) else t).pres.transit = t.pres.transit := by
    split
    · rw [dropWritebacks_pres, retireBuffers_pres]
    · rfl
  unfold transitTo
  dsimp only
  split
  · rw [armed, retired, present_transit, takeFreeze]
    simp only [PresState.transit, latchCells_pres, merged]
  · rw [retired, present_transit, takeFreeze]
    simp only [PresState.transit, latchCells_pres, merged]

theorem transitDue_eq_false {s : State} (h : presenting s = false ∨ s.pres.launched = false ∨ slotDue s 0 = false) :
    transitDue s = false := by
  obtain h | h | h := h <;> simp [transitDue, h]

/-! ## The statement -/

/-- Settles O42: each row in each of its cases, by what it makes of the presentation. -/
theorem presentationRows : Obligations.PresentationRows := by
  unfold Obligations.PresentationRows
  refine ⟨fun s shaped => ⟨presentationFrameStart_notDue, fun x h hd => ?start, prefetchStart_notDue, fun hw hd => ?prefetch⟩,
    fun s shaped => ⟨uploadStart_notDue, fun hp hu ha hd => ?upload, fun p row => fifoUnderrun_filled, fun p row u h hp hr => ?underrun⟩,
    fun s => ⟨fun h => noEffect_of_guard rfl h, fun h => effect_of_guard rfl h (openWindow_parts s), ?noLaunch, ?launch, ?noTransit, ?transit⟩⟩
  case start => exact effect_of_guard (exec_presentationFrameStart_some h) hd (startFrame_facts x s)
  case prefetch =>
    obtain ⟨frame, marked⟩ := prefetch_ports (activePorts s) s
    obtain ⟨-, -, -, ports, -⟩ := shaped
    exact effect_of_guard (exec_prefetchStart s) (by rw [hw, hd]; rfl) ⟨fun p hp lt => marked p (by omega) (.inl hp), frame⟩
  case upload =>
    refine effect_of_guard (exec_uploadStart s) (by rw [hp, hu, ha, hd]; rfl) ?_
    cases h : heldFor s (targetSlot s) (wantedImage s (targetSlot s)).1.1 with
    | none =>
      obtain ⟨counted, u, sent, id, image⟩ := startUpload_sent h
      simp only [PresState.uploads, Prod.mk.injEq] at counted
      obtain ⟨next, late, armed⟩ := counted
      exact ⟨next, late, fun _ => ⟨u, sent, armed.trans ha, id, image⟩, nofun⟩
    | some u =>
      rw [startUpload_held h, armHeld_pres]
      exact ⟨rfl, rfl, nofun, fun v hv => ⟨hv, rfl⟩⟩
  case underrun =>
    refine effect_of_guard (exec_fifoUnderrun_some h) (by simp [hp, hr]) ?_
    obtain ⟨-, -, -, ports, -⟩ := shaped
    exact fillRow_parts (by omega) row u
  case noLaunch =>
    intro h
    refine noEffect_of_guard (exec_latchLaunch s) ?_
    obtain h | h | h | h := h <;> simp [h]
  case launch => exact fun hp ha hl hd => effect_of_guard (exec_latchLaunch s) (by rw [hp, ha, hl, hd]; rfl) rfl
  case noTransit => exact fun h => noEffect_of_guard rfl (transitDue_eq_false h)
  case transit =>
    intro hp hl hd
    have facts := transitTo_transit (targetSlot s) s
    simp only [PresState.transit, Prod.mk.injEq] at facts
    refine effect_of_guard rfl (by rw [transitDue, hp, hl, hd]; rfl) ?_
    rw [sendDiag_pres, sendSweep_pres]
    obtain ⟨position, next, launched, shown, frozen, blanked⟩ := facts
    exact ⟨position, next, launched, fun h => shown.trans (if_pos h), fun h => shown.trans (by rw [h]; rfl), frozen, blanked⟩

end Sys2Proof.Machine
end

section
/-! PROOF. Sweeps and readings, and the Almanac's loads, samples, recasts and swaps (10 R260 to R266; 06 R161 to R173; 19 R435): what
each row makes of its part of the state. -/

namespace Sys2Proof.Machine

/-! ## Placed cells (09 R240) -/

/-- The placed cell at a position of a loop. -/
def placedAt (s : State) (l c : Nat) : Option Placed :=
  (((getLoop s l).configOf c).bind (·.place)).map fun p => ⟨l, c, p.1, p.2.1, p.2.2⟩

theorem placedAt_of_mem {s : State} {q : Placed} (h : q ∈ placedCells s) : placedAt s q.loop q.cell = some q := by
  simp only [placedCells, List.mem_flatMap, List.mem_filterMap] at h
  obtain ⟨l, -, c, -, hq⟩ := h
  obtain ⟨p, -, rfl⟩ := Option.map_eq_some_iff.1 hq
  exact hq

/-- A placed cell is the one that its loop and position find. -/
theorem find_placedCells {s : State} {q : Placed} (h : q ∈ placedCells s) :
    ((placedCells s).find? fun x => x.loop == q.loop && x.cell == q.cell) = some q := by
  obtain ⟨x, hx⟩ := Option.isSome_iff_exists.1 (List.find?_isSome.2 ⟨q, h, by simp⟩ :
    ((placedCells s).find? fun x => x.loop == q.loop && x.cell == q.cell).isSome = true)
  have same := List.find?_some hx
  simp only [Bool.and_eq_true, beq_iff_eq] at same
  have at_x := placedAt_of_mem (List.mem_of_find?_eq_some hx)
  rw [same.1, same.2, placedAt_of_mem h] at at_x
  rw [hx, at_x]

theorem placedCells_congr {s t : State} (hf : t.fuse = s.fuse) (hl : t.chain.loops = s.chain.loops) : placedCells t = placedCells s := by
  simp only [placedCells, gradeLoops, loopCells, hf, hl, getLoop_congr hl]

theorem agingCells_placed {s : State} {x : Placed × Bool} (h : x ∈ agingCells s) : x.1 ∈ placedCells s := by
  obtain ⟨q, hq, hx⟩ := List.mem_filterMap.1 h
  split at hx
  · split at hx
    · cases hx
    · cases hx
      exact hq
  · cases hx

/-! ## Twinkle (10 R265) -/

/-- The emitter that a channel of a row of a placed cell drives. -/
def channelEmitter (s : State) (q : Placed) (row ch : Nat) : Nat :=
  emitterIndex s (q.at (16 * row + ch / 3)).1 (q.at (16 * row + ch / 3)).2 (ch % 3)

/-- Whether Twinkle takes the emitter of a channel: the sweep selected it, and it is not suppressed (10 R262). -/
def channelTaken (s : State) (q : Placed) (row ch : Nat) : Bool :=
  s.chain.selected.contains (channelEmitter s q row ch) && !suppressedAt s q.loop q.cell (16 * row + ch / 3) (ch % 3)

/-- The mask of the first channels of a row, and its emitters in order. -/
theorem foldl_mask {P : Nat → Bool} {E : Nat → Nat} (n : Nat) :
    let m := (List.range n).foldl (fun (a : Nat × List Nat) ch => if P ch then (a.1 + 2 ^ ch, a.2 ++ [E ch]) else a) (0, [])
    m.1 < 2 ^ n ∧ (∀ ch, m.1.testBit ch = (decide (ch < n) && P ch)) ∧ m.2 = ((List.range n).filter P).map E := by
  induction n with
  | zero => simp
  | succ n ih =>
    rw [List.range_succ, List.foldl_append]
    obtain ⟨small, bits, emitters⟩ := ih
    rw [List.foldl_cons, List.foldl_nil]
    generalize (List.range n).foldl (fun (a : Nat × List Nat) ch => if P ch then (a.1 + 2 ^ ch, a.2 ++ [E ch]) else a) (0, []) = m
      at small bits emitters
    dsimp only
    cases hP : P n with
    | false =>
      refine ⟨small.trans (Nat.pow_lt_pow_right (by omega) (by omega)), fun ch => ?_, by simp [hP, emitters]⟩
      rw [if_neg Bool.false_ne_true, bits]
      by_cases he : ch = n
      · simp [he, hP]
      · simp [show ch < n + 1 ↔ ch < n by omega]
    | true =>
      have joined : m.1 + 2 ^ n = 2 ^ n ||| m.1 := by
        simpa [Nat.add_comm] using Nat.two_pow_add_eq_or_of_lt small 1
      refine ⟨?_, fun ch => ?_, by simp [hP, emitters]⟩
      · simp only [if_true, Nat.pow_succ]
        omega
      · rw [if_pos rfl, joined, Nat.testBit_or, Nat.testBit_two_pow, bits]
        by_cases he : ch = n
        · simp [he, hP]
        · simp [show ch < n + 1 ↔ ch < n by omega, Ne.symm he]

theorem rowMask_eq (s : State) (q : Placed) (row : Nat) : rowMask s q row = (List.range 48).foldl (fun (a : Nat × List Nat) ch =>
    if channelTaken s q row ch then (a.1 + 2 ^ ch, a.2 ++ [channelEmitter s q row ch]) else a) (0, []) := rfl

theorem testBit_rowMask (s : State) (q : Placed) (row ch : Nat) :
    (rowMask s q row).1.testBit ch = (decide (ch < 48) && channelTaken s q row ch) := by
  rw [rowMask_eq]
  obtain ⟨-, bits, -⟩ := foldl_mask (P := channelTaken s q row) (E := channelEmitter s q row) 48
  exact bits ch

theorem rowMask_emitters (s : State) (q : Placed) (row : Nat) :
    (rowMask s q row).2 = ((List.range 48).filter (channelTaken s q row)).map (channelEmitter s q row) := by
  rw [rowMask_eq]
  obtain ⟨-, -, emitters⟩ := foldl_mask (P := channelTaken s q row) (E := channelEmitter s q row) 48
  exact emitters

theorem rowMask_selected {s : State} {q : Placed} {row e : Nat} (h : e ∈ (rowMask s q row).2) : e ∈ s.chain.selected := by
  rw [rowMask_emitters] at h
  obtain ⟨ch, hch, rfl⟩ := List.mem_map.1 h
  obtain ⟨-, taken⟩ := List.mem_filter.1 hch
  exact List.contains_iff_mem.1 (Bool.and_eq_true_iff.1 taken).1

theorem emitterOf_channel {s : State} {q : Placed} (h : q ∈ placedCells s) (row : Nat) {ch : Nat} (lt : ch < 48) :
    emitterOf s q.loop q.cell (48 * row + ch) = some (channelEmitter s q row ch) := by
  unfold emitterOf
  rw [find_placedCells h, show (48 * row + ch) / 48 = row by omega, show (48 * row + ch) % 48 = ch by omega]
  rfl

/-- The entry that a row's mask sends pulses the emitters that the row took. -/
theorem maskEmitters_rowMask {s : State} {q : Placed} (h : q ∈ placedCells s) (row : Nat) :
    maskEmitters s q.loop q.cell row (rowMask s q row).1 = (rowMask s q row).2 := by
  have channels : (List.range 48).filter ((rowMask s q row).1.testBit ·) = (List.range 48).filter (channelTaken s q row) :=
    List.filter_congr fun ch hch => by rw [testBit_rowMask]; simp [List.mem_range.1 hch]
  rw [maskEmitters, channels, rowMask_emitters, ← List.filterMap_eq_map]
  refine List.filterMap_congr fun ch hch => ?_
  obtain ⟨lt, -⟩ := List.mem_filter.1 hch
  exact emitterOf_channel h row (List.mem_range.1 lt)

/-- What a command sent to a cell keeps of the placed cells and of the selection. -/
theorem sendCommand_keepsTwinkle (p : Nat) (c : CellCommand) (s : State) : (sendCommand p c s).fuse = s.fuse ∧
    (sendCommand p c s).chain.loops = s.chain.loops ∧ (sendCommand p c s).chain.selected = s.chain.selected ∧
    (sendCommand p c s).chain.pulsed = s.chain.pulsed := by
  unfold sendCommand
  split
  · exact ⟨rfl, rfl, rfl, rfl⟩
  · rw [portSend_eq]
    exact ⟨rfl, rfl, rfl, rfl⟩

/-- From a state to one that Twinkle reaches: the cells stay placed, pulses are added for selected emitters only, and an emitter
leaves the selection only by its pulse. -/
structure Twinkles (s t : State) : Prop where
  placed : placedCells t = placedCells s
  fired : ∀ x ∈ t.chain.pulsed, x ∈ s.chain.pulsed ∨ x.1 ∈ s.chain.selected
  kept : ∀ x ∈ s.chain.pulsed, x ∈ t.chain.pulsed
  selected : ∀ e ∈ t.chain.selected, e ∈ s.chain.selected
  taken : ∀ e ∈ s.chain.selected, e ∈ t.chain.selected ∨ ∃ at_, (e, at_) ∈ t.chain.pulsed

theorem Twinkles.refl (s : State) : Twinkles s s := ⟨rfl, fun _ => .inl, fun _ => id, fun _ => id, fun _ => .inl⟩

theorem Twinkles.trans {s t u : State} (h : Twinkles s t) (k : Twinkles t u) : Twinkles s u where
  placed := k.placed.trans h.placed
  fired x hx := (k.fired x hx).elim (h.fired x) fun he => .inr (h.selected _ he)
  kept x hx := k.kept x (h.kept x hx)
  selected e he := h.selected e (k.selected e he)
  taken e he := (h.taken e he).elim (k.taken e) fun ⟨at_, hp⟩ => .inr ⟨at_, k.kept _ hp⟩

theorem foldl_twinkles {α : Type} {f : State → α → State} (s : State) (l : List α)
    (step : ∀ t, placedCells t = placedCells s → ∀ a ∈ l, Twinkles t (f t a)) : Twinkles s (l.foldl f s) := by
  suffices ∀ t, Twinkles s t → Twinkles s (l.foldl f t) from this s (.refl s)
  induction l with
  | nil => exact fun t h => h
  | cons a l ih =>
    exact fun t h => ih (fun t ht b hb => step t ht b (.tail _ hb)) (f t a) (h.trans (step t h.placed a (.head _)))

/-- Emitters that have been pulsed leave the selection. -/
theorem twinkles_of_pulse {s t : State} (es : List Nat) (at_ : Nat) (sel : ∀ e ∈ es, e ∈ s.chain.selected)
    (placed : placedCells t = placedCells s) (pulsed : t.chain.pulsed = s.chain.pulsed ++ es.map fun e => (e, at_))
    (selected : t.chain.selected = s.chain.selected.filter fun e => !es.contains e) : Twinkles s t where
  placed := placed
  fired x hx := by
    rw [pulsed] at hx
    refine (List.mem_append.1 hx).imp_right fun h => ?_
    obtain ⟨e, he, rfl⟩ := List.mem_map.1 h
    exact sel e he
  kept x hx := by
    rw [pulsed]
    exact List.mem_append_left _ hx
  selected e he := by
    rw [selected] at he
    exact (List.mem_filter.1 he).1
  taken e he := by
    rw [selected, pulsed]
    by_cases h : e ∈ es
    · exact .inr ⟨at_, List.mem_append_right _ (List.mem_map.2 ⟨e, h, rfl⟩)⟩
    · exact .inl (List.mem_filter.2 ⟨he, by simpa using h⟩)

theorem twinkleRow_twinkles {s : State} {q : Placed} (h : q ∈ placedCells s) (row : Nat) : Twinkles s (twinkleRow q row s) := by
  unfold twinkleRow
  dsimp only
  split
  · exact .refl s
  · split
    next k _ _ =>
      obtain ⟨fuse, loops, selected, pulsed⟩ := sendCommand_keepsTwinkle (portOf q.loop ((getLoop s q.loop).reach q.cell).1)
        (CellEntry.command ((getLoop s q.loop).reach q.cell).2 ⟨0, k, row, (rowMask s q row).1⟩)
        (grantPulses .twinkle (windowOf s k row) (maskDraw s q.loop q.cell (rowMask s q row).1) s)
      refine twinkles_of_pulse (rowMask s q row).2 (pulseTime s k row) (fun e => rowMask_selected) ?_ ?_ ?_
      · exact placedCells_congr fuse loops
      · rw [← maskEmitters_rowMask h row]
        exact congrArg (· ++ _) pulsed
      · exact congrArg (List.filter _) selected
    next => exact .refl s

theorem twinkleDispatch_twinkles (s : State) :
    Twinkles s ((agingCells s).foldl (fun t x => (List.range 32).foldl (fun u row => twinkleRow x.1 row u) t) s) :=
  foldl_twinkles s _ fun t ht x hx => foldl_twinkles t _ fun u hu row _ =>
    twinkleRow_twinkles (by rw [hu, ht]; exact agingCells_placed hx) row

/-! ## Age sweeps (10 R263, R266) -/

theorem reportOverdue_chain (n : Nat) (s : State) : (reportOverdue n s).chain = s.chain := by
  unfold reportOverdue
  dsimp only
  split
  · rfl
  · exact raiseAlert_chain ..

theorem sweepEmitter_chain (n : Nat) (q : Placed) (complete : Bool) (e p c : Nat) (s : State) :
    (sweepEmitter n q complete e p c s).chain = s.chain := by
  unfold sweepEmitter
  split <;> rfl

theorem sweepAges_off {s : State} (h : railsOn s = false) : sweepAges s = { s with chain.lastAgeSweep := nowNs s } :=
  if_pos (by rw [h]; rfl)

theorem sweepAges_on {s : State} (h : railsOn s = true) :
    (sweepAges s).chain.lastAgeSweep = s.chain.lastAgeSweep + 10000000 * ((nowNs s - s.chain.lastAgeSweep) / 10000000) ∧
      (sweepAges s).chain.pulsed = s.chain.pulsed.filter fun x => decide (nowNs s < x.2) := by
  unfold sweepAges
  rw [if_neg (by rw [h]; exact Bool.false_ne_true)]
  dsimp only
  rw [reportOverdue_chain]
  refine ⟨?_, rfl⟩
  dsimp only
  rw [foldl_keeps State.chain fun t x => sweepEmitter_chain ..]

/-! ## DIAG_MAP reads (10 R261) -/

/-- The records of an emitter's sensed faults, cleared. -/
def clearSensed (t : BitVec 64) (s : State) : State :=
  [1, 2, 3].foldl (fun u k => clearFault t k 0
    (u.chain.faults.foldl (fun w f => if f.target == t && f.kind == k then clearFault t k f.detail w else w) u)) s

theorem getLoop_clearSensed (t : BitVec 64) (s : State) (j : Nat) : getLoop (clearSensed t s) j = getLoop s j := by
  refine foldl_keeps (getLoop · j) (fun u k => ?_) _ s
  rw [getLoop_clearFault]
  refine foldl_keeps (getLoop · j) (fun w f => ?_) _ u
  split
  · exact getLoop_clearFault ..
  · rfl

/-- One emitter's code leaves the records of the loops. -/
theorem getLoop_senseRead (l c : Nat) (codes : List (Nat × Nat)) (since : Option Nat) (x : Sensed) (s : State) (j : Nat) :
    getLoop (senseRead l c codes since x s) j = getLoop s j := by
  refine iteInduction (motive := fun t : State => getLoop t j = getLoop s j) (fun _ => ?_) fun _ => ?_
  · exact iteInduction (motive := fun t : State => getLoop t j = getLoop s j) (fun _ => getLoop_addFault ..) fun _ => rfl
  · exact iteInduction (motive := fun t : State => getLoop t j = getLoop s j) (fun _ => getLoop_clearSensed ..) fun _ => rfl

theorem readDiagMap_silent {s : State} {l c : Nat} (h : readCodes (fireCells l s) l c = none) : readDiagMap l c s = fireCells l s := by
  unfold readDiagMap
  dsimp only
  rw [h]

theorem readDiagMap_noted {s : State} {l c : Nat} {codes : List (Nat × Nat)} {x : CellRec} (hl : l < s.chain.loops.length)
    (hx : (getLoop s l).cells[c]? = some x) (h : readCodes (fireCells l s) l c = some codes) :
    (getLoop (readDiagMap l c s) l).cells[c]? = some { x with diagReadAt := some (nowNs s), faultBits := false } := by
  unfold readDiagMap
  dsimp only
  rw [h]
  dsimp only
  have loops (xs : List Sensed) (since : Option Nat) : getLoop (xs.foldl (fun t y => senseRead l c codes since y t) (fireCells l s)) l =
      getLoop s l := foldl_keeps (getLoop · l) (fun t y => getLoop_senseRead ..) xs (fireCells l s)
  have count (xs : List Sensed) (since : Option Nat) :
      (xs.foldl (fun t y => senseRead l c codes since y t) (fireCells l s)).chain.loops.length = s.chain.loops.length :=
    foldl_keeps (fun t => t.chain.loops.length) (fun t y => by simp) xs (fireCells l s)
  rw [getLoop_modLoop_same _ (by rw [count]; exact hl), loops]
  exact (List.getElem?_modify_eq ..).trans (by rw [hx]; rfl)

theorem diagReadDue_cell {s : State} {l c : Nat} (h : diagReadDue s l c = true) : ∃ x, (getLoop s l).cells[c]? = some x := by
  unfold diagReadDue at h
  split at h
  next x hx => exact ⟨x, hx⟩
  next => cases h

theorem exec_diagMapRead (l : Fin 24) (c : Fin 100) (s : State) :
    exec (.diagMapRead l c) s = .next (if diagReadDue s l.val c.val then readDiagMap l.val c.val s else s) := rfl

/-! ## Loads (06 R161) -/

theorem takeFile_stuck {o : LongOp} (f : List Byte) {s : State} (hm : prm o.req 0 1 = 1) (hs : s.i2c.stuck = true) :
    takeFile o f s = completeOp o.req.src o.req.tag St.badParam [] s := if_pos (by rw [hm, hs]; rfl)

theorem startLoad_loading (o : LongOp) (f : List Byte) (s : State) :
    (startLoad o f s).almanac.loading = some ⟨o.req.src, o.req.tag, inactiveBank s, f, false⟩ := by
  unfold startLoad
  rw [enqueueFlash_almanac]
  rfl

theorem almanacFileReceived_noEffect {s : State} (h : loadReady s = none) : NoEffect .almanacFileReceived s := by
  show execAlmanacFileReceived s = _
  rw [execAlmanacFileReceived, h]

/-! ## Stress samples (06 R170) -/

theorem stressSample_noEffect {s : State} (h : sampleDue s = none) : NoEffect .stressSample s := by
  show execStressSample s = _
  rw [execStressSample, h]

theorem takeSample_noted (f : FrameSums) (s : State) :
    (takeSample f s).almanac.lastSample = nowNs s / 1000000000 ∧ (takeSample f s).almanac.sampleFrame = none := ⟨rfl, rfl⟩

/-! ## Recasts (06 R173) -/

theorem recastDue_noEffect {s : State} (h : recastReady s = none) : NoEffect .recastDue s := by
  show execRecastDue s = _
  rw [execRecastDue, h]

theorem countWorn_nextRecast (s : State) : (countWorn s).almanac.nextRecast = s.almanac.nextRecast := by
  unfold countWorn
  dsimp only
  split
  · rfl
  · rw [(logAlert_frame ..).almanac]

theorem dramWrite_almanac (a : Nat) (bs : List Byte) (s : State) : (dramWrite a bs s).almanac = s.almanac := rfl

theorem writeRowChecks_almanac (k : Nat) (s : State) : (writeRowChecks k s).almanac = s.almanac := by
  unfold writeRowChecks
  exact foldl_keeps State.almanac (fun t y => dramWrite_almanac ..) _ s

theorem buildCell_almanac (k width : Nat) (rule : Option GainRule) (aging : Nat → List (Int × Int)) (matrices : List Byte) (q : Placed)
    (x : State × Memory) : (buildCell k width rule aging matrices q x).1.almanac = x.1.almanac := by
  unfold buildCell
  refine foldl_acc_keeps (fun y : State × Memory => y.1.almanac) (fun y p => ?_) _ x
  exact dramWrite_almanac ..

/-- Building a bank leaves the schedule of the recasts. -/
theorem buildFull_nextRecast (k : Nat) (f : List Byte) (rule : GainRule) (content : Nat) (s : State) :
    (buildFull k f rule content s).1.almanac.nextRecast = s.almanac.nextRecast := by
  unfold buildFull
  dsimp only
  rw [writeRowChecks_almanac]
  refine (congrArg AlmanacState.nextRecast
    (foldl_acc_keeps (fun x : State × Memory => x.1.almanac) (fun x q => buildCell_almanac ..) _ _)).trans ?_
  dsimp only
  rw [foldl_keeps State.almanac fun t c => dramWrite_almanac ..]
  rfl

theorem startRecast_nextRecast (op : Option (Source × Nat)) (f : List Byte) (s : State) :
    (startRecast op f s).almanac.nextRecast = s.almanac.nextRecast := by
  unfold startRecast
  dsimp only
  rw [enqueueFlash_almanac]
  dsimp only
  rw [buildFull_nextRecast, countWorn_nextRecast]

/-! ## The swap of a recast bank (06 R173) -/

theorem recastSwap_noEffect {s : State} (h : boundaryDue s = false ∨ s.fw.running = false ∨ s.almanac.swapDue = none) :
    NoEffect .recastSwap s := by
  cases hb : boundaryDue s with
  | false => exact noEffect_of_guard rfl hb
  | true =>
    cases hf : s.fw.running with
    | false => exact (exec_of_guard rfl hb).trans (congrArg _ (if_neg (by rw [hf]; exact Bool.false_ne_true)))
    | true =>
      obtain h | h | h := h
      · exact absurd (hb.symm.trans h) nofun
      · exact absurd (hf.symm.trans h) nofun
      · refine (exec_recastSwap_due hb hf).trans ?_
        rw [recastSwapEffect, h]

theorem resetCellStress_almanac (l c : Nat) (s : State) : (resetCellStress l c s).almanac = s.almanac := by
  unfold resetCellStress
  split
  · exact foldl_keeps State.almanac (fun t e => dramWrite_almanac ..) _ s
  · rfl

theorem resetCells_almanac (cells : List (Nat × Nat)) (s : State) :
    (cells.foldl (fun t c => resetCellStress c.1 c.2 t) s).almanac = s.almanac :=
  foldl_keeps State.almanac (fun t c => resetCellStress_almanac c.1 c.2 t) cells s

theorem bringBank_other {k : Nat} (h : k ≠ 2) (s : State) :
    bringBank k s = { s with almanac.inForce := some k, almanac.last := some k, almanac.used := some k } := if_neg h

/-- A bank other than the identity bank comes into force; the swap that is due, if any, stays due. -/
theorem takeBank_inForce {k : Nat} (h : k ≠ 2) (s : State) :
    (takeBank k s).almanac.inForce = some k ∧ (takeBank k s).almanac.swapDue = s.almanac.swapDue := by
  unfold takeBank
  split
  next same => exact ⟨same, rfl⟩
  next =>
    dsimp only
    rw [bringBank_other h]
    have kept := congrArg AlmanacState.swapDue (resetCells_almanac (getBank s k).resetCells s)
    exact ⟨rfl, kept⟩

theorem recastSwapOk_bank {s : State} {k : Nat} (h : recastSwapOk s k = true) : k ≠ 2 := by
  simp only [recastSwapOk, bankValid, Bool.and_eq_true, decide_eq_true_eq] at h
  omega

/-- The swap that waits is taken or given up, once: the bank comes into force where it still stands in the space in force. -/
theorem recastSwapEffect_taken {s : State} {k : Nat} (h : s.almanac.swapDue = some k) :
    (recastSwapEffect s).almanac.swapDue = none ∧
      (recastSwapOk s k = true → (recastSwapEffect s).almanac.inForce = some k) ∧
      (recastSwapOk s k = false → (recastSwapEffect s).almanac.inForce = s.almanac.inForce) := by
  unfold recastSwapEffect
  rw [h]
  dsimp only
  cases ok : recastSwapOk s k with
  | true =>
    obtain ⟨inForce, swapDue⟩ := takeBank_inForce (recastSwapOk_bank ok) { s with almanac.swapDue := none }
    exact ⟨swapDue, fun _ => inForce, nofun⟩
  | false => exact ⟨rfl, nofun, fun _ => rfl⟩

/-! ## The statement -/

/-- Settles O44: each row in each of its cases. A Twinkle entry's mask names the emitters that its row took, since a placed cell is
the only one at its position. -/
theorem diagnosisAndAlmanacRows : Obligations.DiagnosisAndAlmanacRows := by
  unfold Obligations.DiagnosisAndAlmanacRows
  refine ⟨fun s => ⟨noEffect_of_guard rfl, fun h => effect_of_guard rfl h rfl, fun l c => noEffect_of_guard (exec_diagMapRead l c s),
      ?read, fun l c hd h => effect_of_guard (exec_diagMapRead l c s) hd (readDiagMap_silent h), ?ageIdle, ?age, ?twinkleIdle, ?twinkle⟩,
    fun s => ⟨almanacFileReceived_noEffect, fun o f h hm hs => effect_of_exec (exec_almanacFileReceived_some h) (takeFile_stuck f hm hs),
      ?crc, ?sections, ?loads, stressSample_noEffect, fun f h => effect_of_exec (exec_stressSample_some h) (takeSample_noted f s),
      recastDue_noEffect, ?recast, recastSwap_noEffect,
      fun k hb hf h => effect_of_exec (exec_recastSwap_due hb hf) (recastSwapEffect_taken h)⟩⟩
  case read =>
    intro l c codes hd h shaped
    obtain ⟨x, hx⟩ := diagReadDue_cell hd
    exact effect_of_guard (exec_diagMapRead l c s) hd ⟨_, readDiagMap_noted (shaped.loop l) hx h, rfl, rfl⟩
  case ageIdle =>
    intro h
    refine noEffect_of_guard (exec_ageSweep s) ?_
    obtain h | h := h
    · simp [Nat.not_le.2 h]
    · simp [h]
  case age =>
    exact fun ht hd => effect_of_guard (exec_ageSweep s) (by simp [ht, hd]) ⟨sweepAges_off, sweepAges_on⟩
  case twinkleIdle =>
    intro h
    refine noEffect_of_guard (exec_twinkleDispatch s) ?_
    obtain h | h | h := h <;> simp [h]
  case twinkle =>
    intro hp he hr
    obtain ⟨-, fired, -, selected, taken⟩ := twinkleDispatch_twinkles s
    exact effect_of_guard (exec_twinkleDispatch s) (by rw [hp, he, hr]; rfl) ⟨fired, selected, taken⟩
  case crc =>
    exact fun o f h hn hc => effect_of_exec (exec_almanacFileReceived_some h) ((takeFile_received f hn).trans (if_pos (by rw [hc]; rfl)))
  case sections =>
    exact fun o f h hn hc hm => effect_of_exec (exec_almanacFileReceived_some h)
      ((takeFile_received f hn).trans ((if_neg (by rw [hc]; exact Bool.false_ne_true)).trans (if_pos (by rw [hm]; rfl))))
  case loads =>
    intro o f h hn hc hm
    refine effect_of_exec (exec_almanacFileReceived_some h) ?_
    rw [takeFile_received f hn, hc, hm]
    exact startLoad_loading o f s
  case recast =>
    exact fun f h => effect_of_exec (exec_recastDue_some h) ⟨startRecast_recast .., startRecast_nextRecast ..⟩

end Sys2Proof.Machine
end
